-- ==== Sys2Proof/Word.lean ====
section
/-! DEFINITION. The word types of the piece: bytes, register words, and the time unit of the Mint scale. -/

namespace Sys2Proof

/-- One byte of a register, a command body or a memory. -/
abbrev Byte := BitVec 8

/-- One 32-bit register (R7). -/
abbrev Word := BitVec 32

/-- A value of 64 bits held as two words (R6, R635). -/
abbrev Word64 := BitVec 64

/-- A string of bytes, first byte at the lowest address (R6). -/
abbrev Bytes := List Byte

/-- A moment on the Mint scale in units of 1/65,536 tick (5.96 fs), the resolution in which the fabric
carries a stamp's fraction (R236, R350). -/
abbrev T16 := Int

/-- The whole tick at or before a moment. -/
def T16.tick (t : T16) : Int := t / 65536

/-- The moment of a whole tick. -/
def T16.ofTick (m : Nat) : T16 := (m : Int) * 65536

/-- A register bank number in sixteen bits or fewer is a plain number. -/
abbrev Index := Nat

end Sys2Proof
end

