-- ==== Sys2Proof/Syntax.lean ====
section
/-! DEFINITION. The commands of the piece: one constructor of `Instr` for each row of spec/opcode_table.json, with the
operands the row carries from outside (a register access, a command body, the level of a pin, the data of a frame). -/

namespace Sys2Proof

/-- The requesters of registers and locks, with their numbers under R414, R415, R429 and R636. -/
inductive Requester where
  /-- Host function 0, requester 0x01. -/
  | host0
  /-- Host function 1, requester 0x02. -/
  | host1
  /-- The management port, requester 0x03. -/
  | mgmt
  /-- The steward, requester 0x10. -/
  | steward
  /-- The Net-remote steward, requester 0x40. -/
  | netRemote
  deriving DecidableEq, Repr, Inhabited

/-- The number of a requester (R429, R636). -/
def Requester.number : Requester → Nat
  | .host0 => 0x01
  | .host1 => 0x02
  | .mgmt => 0x03
  | .steward => 0x10
  | .netRemote => 0x40

/-- Where a register lies: at a fixed offset of function 0 (R634) or of function 1 (R642), or at an offset inside the
window of a panel instance, whose base the Pricking gives (R405; log entry 18). -/
inductive RegLoc where
  | fixed0 (offset : Nat)
  | fixed1 (offset : Nat)
  | window (type instance_ offset : Nat)
  deriving DecidableEq, Repr, Inhabited

/-- The answer to a read that the piece makes in host memory (R375): data, no completion within 10 ms, or a completion
with an error status. Reads of device addresses are served from the state instead. -/
inductive Answer where
  | data (bytes : Bytes)
  | timeout
  | error
  deriving DecidableEq, Repr, Inhabited

/-- A command block as the steward sees it (R433) with the channel it came on: 0 to 15 the non-secure channels of
function 0, 16 to 19 the secure channels (R414). `read` is the host's answer to the one table the command reads from
host memory, if it reads one (R455). -/
structure Cmd where
  channel : Fin 20
  session : Nat
  tag : Nat
  completeIrq : Bool := false
  fenceBefore : Bool := false
  isSealed : Bool := false
  body : Bytes
  read : Answer := .data []
  deriving DecidableEq, Repr, Inhabited

/-- The time source of the Ledger, as REF_SELECT names it (R37). -/
inductive Machine.TimeSource where
  | none | ppsin | net
  deriving DecidableEq, Repr, Inhabited

/-- Results of a full calibration, as the hardware measured them (R317). -/
structure CalOutcome where
  /-- Trims of each input, for A, for B, for S in the place of A and for S in the place of B (R77): (offset in 1/256 LSB, gain in
  10⁻⁶, skew in fs), set 4i + j. -/
  slices : List (Int × Int × Int)
  /-- Elements whose test failed: slice 3i + j. -/
  sliceFails : List Nat
  /-- Elements whose test failed: interpolator 5k + n, the spare as n = 4. -/
  interpFails : List Nat
  /-- Elements whose test failed: comparator 4 × source + c. -/
  compFails : List Nat
  /-- Edge jitter in fs and threshold offset after trim in µV of each comparator: 4 × source + c (R231). -/
  comps : List (Nat × Int)
  deriving DecidableEq, Repr, Inhabited

/-- What a slice of the converter is trimmed by (R77), or how far a shadowing slice stands from the one it shadows (R78). -/
structure SliceTrim where
  /-- Offset in 1/256 LSB. -/
  offset : Int
  /-- Gain in 10⁻⁶. -/
  gain : Int
  /-- Skew in fs. -/
  skew : Int
  deriving DecidableEq, Repr, Inhabited

/-- A frame of TCODE_IN as it arrives (R65): the moment of the leading edge of its on-time reference marker, and the width in µs
of each pulse from the reference marker on. -/
structure TimecodeFrame where
  marker : T16
  widths : List Nat
  deriving DecidableEq, Repr, Inhabited

/-- An edge at a stamp ball that the comparator passed (R236): its direction, the tap positions that the four delay lines froze,
whether the DLL of the interpolator reports loss of lock (R237), and how an edge between 790 ps and 810 ps after the last one falls
(R239). -/
structure StampEdge where
  rising : Bool
  tap0 : Fin 65
  tap1 : Fin 65
  tap2 : Fin 65
  tap3 : Fin 65
  dllLost : Bool
  greyCaptured : Bool
  deriving DecidableEq, Repr, Inhabited

/-- What the comparison at the end of a role of the spare interpolator measured (R245, R246): mean difference and RMS of the
differences in fs. -/
structure RoleResult where
  mean : Int
  rms : Nat
  deriving DecidableEq, Repr, Inhabited

/-- The identity a Yarrath peer gives at linking (R554). -/
structure NetPeer where
  node : Fin 65536
  joined : Bool
  detached : Bool
  deriving DecidableEq, Repr, Inhabited

/-- The root's answer to a join request (R556): accepted, the NODE_ID already present, or the horizon exceeded. -/
inductive JoinResponse where
  | accepted
  | duplicate
  | horizon
  deriving DecidableEq, Repr, Inhabited

/-- An element that a targeted self-test tests (R600): test code, panel type, instance, element. -/
structure Element where
  test : Nat
  panel : Nat
  inst : Nat
  element : Nat
  deriving DecidableEq, Repr, Inhabited

/-- The commands of the piece, in the order of the table. -/
inductive Instr where
  /-- POWER_ON (R616). -/
  | powerOn
  /-- SYS_RESET_ASSERT (R616). -/
  | sysResetAssert (widthNs : Nat)
  /-- SYS_RESET_RELEASE (R618). -/
  | sysResetRelease
  /-- PERST_N (R384). -/
  | perstN
  /-- FUNCTION_LEVEL_RESET (R378). -/
  | functionLevelReset (function : Fin 2)
  /-- HOST_LINK_REMOVAL (R384). -/
  | hostLinkRemoval
  /-- HOST_LINK_UP (R415). -/
  | hostLinkUp (rate : Fin 8) (width : Fin 32) (cxl : Bool) (cache : Bool)
  /-- LINK_RETRAIN (R374). -/
  | linkRetrain (rate : Fin 8) (width : Fin 32)
  /-- HOST_REQUEST_TIMEOUT (R375). -/
  | hostRequestTimeout (request : Nat)
  /-- HOST_READ_COMPLETION (R375). -/
  | hostReadCompletion (request : Nat) (answer : Answer)
  /-- BAR2_ACCESS (R377). -/
  | bar2Access (write : Bool) (address : Nat) (length : Nat) (bytes : Bytes)
  /-- HDM_ACCESS (R382). -/
  | hdmAccess (write : Bool) (hostAddress : Nat) (length : Nat) (bytes : Bytes)
  /-- HDM_DECODER_COMMIT (R382). -/
  | hdmDecoderCommit (base : Nat) (size : Nat) (ways : Nat)
  /-- DOORBELL (R418). -/
  | doorbell (requester : Requester) (channel : Fin 20) (word : Word)
  /-- MBX_IN_TAKE (R421). -/
  | mbxInTake (requester : Requester) (channel : Fin 20) (wide : Bool)
  /-- MBX_STATUS_CLEAR (R428). -/
  | mbxStatusClear (requester : Requester) (channel : Fin 20) (value : Word)
  /-- MBX_TIMEOUT_EXPIRY (R424). -/
  | mbxTimeoutExpiry (channel : Fin 20) (outbound : Bool) (index : Nat)
  /-- NOTICE_TAKE_BY_STEWARD (R420). -/
  | noticeTakeBySteward
  /-- COMMAND_FETCH_DONE (R443). -/
  | commandFetchDone (channel : Fin 20) (answer : Answer)
  /-- COMMAND_FETCH_FAIL (R435). -/
  | commandFetchFail (channel : Fin 20)
  /-- COMPLETION_RING_RETRY (R450). -/
  | completionRingRetry (session : Nat) (channel : Fin 20) (consumer : Answer)
  /-- STEWARD_NOTICE_POST (R423). -/
  | stewardNoticePost (channel : Fin 20)
  /-- LOCK_ACQUIRE_READ (R430). -/
  | lockAcquireRead (requester : Requester) (lock : Fin 64) (wide : Bool) (node : Fin 65536)
  /-- LOCK_RELEASE_WRITE (R430). -/
  | lockReleaseWrite (requester : Requester) (lock : Fin 64) (value : Word) (wide : Bool)
  /-- RSC_LOW_READ (R635). -/
  | rscLowRead (requester : Requester) (loc : RegLoc) (wide : Bool)
  /-- SHADOW_READ (R635). -/
  | shadowRead (requester : Requester) (loc : RegLoc)
  /-- PIECE_PANEL_RESET_WRITE (R617). -/
  | piecePanelResetWrite (value : Word)
  /-- PANEL_RESET (R617). -/
  | panelReset
  /-- MSIX_CTRL_WRITE (R638). -/
  | msixCtrlWrite (function : Fin 2) (vector : Fin 64) (value : Word)
  /-- ALARM_ENTRY_CLEAR (R641). -/
  | alarmEntryClear (requester : Requester) (code : Nat) (value : Word)
  /-- SAFE_GROUP_CLEAR (R641). -/
  | safeGroupClear (requester : Requester) (value : Word)
  /-- REGISTER_WRITE (R10); `wide`: an access of 64 bits (R7). -/
  | registerWrite (requester : Requester) (loc : RegLoc) (value : BitVec 64) (wide : Bool := false)
  /-- MGMT_READ_WORD (R643). -/
  | mgmtReadWord (offset : Nat) (count : Nat) (pecOk : Bool)
  /-- MGMT_WRITE_WORD (R643). -/
  | mgmtWriteWord (offset : Nat) (count : Nat) (value : Word) (pecOk : Bool)
  /-- MGMT_UNKNOWN_COMMAND (R644). -/
  | mgmtUnknownCommand (code : Byte)
  /-- JOURNAL_INCIDENT_END (R607). -/
  | journalIncidentEnd
  /-- REF_LOSS (R40): the REFIN cycles measured up to the loss, in runs of equal ones: their number and their period in ps; no
  period: no edge within 1.25 nominal periods. -/
  | refLoss (cycles : List (Nat × Option Nat) := [])
  /-- REFIN_PRESENT (R40): the cycles measured up to the declaration, as for REF_LOSS. -/
  | refinPresent (cycles : List (Nat × Option Nat))
  /-- PPSIN_PULSE (R41). -/
  | ppsinPulse (fraction : Fin 65536)
  /-- PPS_WINDOW_CLOSE (R41). -/
  | ppsWindowClose
  /-- PPS_LOSS (R41). -/
  | ppsLoss
  /-- PPSIN_PRESENT (R41). -/
  | ppsinPresent
  /-- SYNTH_LOCK_DECLARE (R45). -/
  | synthLockDeclare
  /-- SYNTH_UNLOCK (R46). -/
  | synthUnlock (count : Nat)
  /-- SYNTH_RELOCK (R46): the windows of 1 µs counted up to it, in runs of equal ones: their number and their count of ticks. -/
  | synthRelock (windows : List (Nat × Nat) := [])
  /-- MAPPING_CHANGE_APPLY (R54). -/
  | mappingChangeApply
  /-- SLEW_END (R55). -/
  | slewEnd
  /-- HOLDOVER_EVAL (R61). -/
  | holdoverEval
  /-- TIME_SOURCE_LOST (R60). -/
  | timeSourceLost
  /-- TIME_SOURCE_PRESENT (R62): the source declared present again. -/
  | timeSourcePresent (source : Machine.TimeSource)
  /-- LEDGER_EPOCH_STEP (R58). -/
  | ledgerEpochStep
  /-- LEDGER_MISMATCH (R56). -/
  | ledgerMismatch
  /-- TAP_PHASE (R23). -/
  | tapPhase (island : Nat)
  /-- LEDGER_SECOND_BOUNDARY (R51). -/
  | ledgerSecondBoundary
  /-- PPSOUT_PULSE_END (R51). -/
  | ppsoutPulseEnd
  /-- CLKOUT_SETTING_ARRIVE (R50, R51): CLKOUT0 to CLKOUT3, or 4, PPSOUT. -/
  | clkoutSettingArrive (output : Fin 5)
  /-- TIMECODE_FRAME_IN (R65). -/
  | timecodeFrameIn (frame : TimecodeFrame)
  /-- MONITOR_CONVERSION (R92). -/
  | monitorConversion (code : Fin 4096)
  /-- MONITOR_FRAME_START (R90); `empty`: the slots of the frame in which nothing was converted. -/
  | monitorFrameStart (empty : Nat := 0)
  /-- MONITOR_URGENT_REQUEST (R93); `atBoundary`: it comes as a slot begins. -/
  | monitorUrgentRequest (safety : Bool) (channel : Fin 40) (atBoundary : Bool := true)
  /-- RFIN_CONFIGURE (R458). -/
  | rfinConfigure (c : Cmd)
  /-- RFIN_SELECT_SOURCE (R459). -/
  | rfinSelectSource (c : Cmd)
  /-- FRONT_END_CHANGE_APPLY (R72). -/
  | frontEndChangeApply (input : Fin 4)
  /-- SAMPLE_BLOCK (R82). -/
  | sampleBlock (input : Fin 4) (codes : List Int)
  /-- SLICE_HANDOVER (R78): how far the incoming slice stands from the one it shadows, and the trims to which CALMGR has adjusted
  it. -/
  | sliceHandover (input : Fin 4) (residuals : SliceTrim) (trim : SliceTrim := default)
  /-- HANDOVER_ABANDON (R79). -/
  | handoverAbandon (input : Fin 4)
  /-- SLICE_FAULT (R594). -/
  | sliceFault (input : Fin 4) (slice : Fin 3)
  /-- SLICE_TAKEOVER (R80). -/
  | sliceTakeover (input : Fin 4)
  /-- SLICE_ROTATION_START (R321). -/
  | sliceRotationStart (input : Fin 4)
  /-- SLICE_AWAY_END (R321): the trims of the refreshed slice. -/
  | sliceAwayEnd (input : Fin 4) (trim : SliceTrim := default)
  /-- CHAN_CONFIGURE (R460). -/
  | chanConfigure (c : Cmd)
  /-- CHAN_FILTER_LOAD (R461). -/
  | chanFilterLoad (c : Cmd)
  /-- DDC_CHANGE_APPLY (R105). -/
  | ddcChangeApply (chan : Fin 4) (ddc : Fin 8)
  /-- COEFFICIENT_SWAP (R104). -/
  | coefficientSwap (chan : Fin 4) (ddc : Fin 8)
  /-- DDC_BLOCK (R110). -/
  | ddcBlock (chan : Fin 4) (ddc : Fin 8)
  /-- XING_SETTING_APPLY (R113). -/
  | xingSettingApply (chan : Fin 4)
  /-- XFORM_CONFIGURE (R462). -/
  | xformConfigure (c : Cmd)
  /-- XFORM_WINDOW_LOAD (R463). -/
  | xformWindowLoad (c : Cmd)
  /-- DETECTOR_SET (R464). -/
  | detectorSet (c : Cmd)
  /-- XFORM_GRID_RESTART (R125). -/
  | xformGridRestart (engine : Fin 4)
  /-- TRANSFORM_FRAME (R139). -/
  | transformFrame (engine : Fin 4)
  /-- DENSITY_CONFIGURE (R465). -/
  | densityConfigure (c : Cmd)
  /-- DENSITY_SNAPSHOT (R466). -/
  | densitySnapshot (c : Cmd)
  /-- DENSITY_SNAPSHOT_CUT (R153). -/
  | densitySnapshotCut (channel : Fin 4)
  /-- DENSITY_READOUT_DONE (R153). -/
  | densityReadoutDone (channel : Fin 4) (refusedAt : Option Nat)
  /-- DENSITY_ITEM_ACCEPT (R149). -/
  | densityItemAccept (channel : Fin 4)
  /-- SPECTROGRAM_CONFIGURE (R467). -/
  | spectrogramConfigure (c : Cmd)
  /-- TRIG_CELL_SET (R468). -/
  | trigCellSet (c : Cmd)
  /-- TRIG_MASK_LOAD (R175). -/
  | trigMaskLoad (c : Cmd)
  /-- MASK_SWAP (R175). -/
  | maskSwap (channel : Fin 4)
  /-- TRIG_COMBINE_SET (R470). -/
  | trigCombineSet (c : Cmd)
  /-- TRIG_ROUTE_SET (R471). -/
  | trigRouteSet (c : Cmd)
  /-- TRIG_FORCE (R182). -/
  | trigForce (c : Cmd)
  /-- TRIG_SETTING_APPLY (R168). -/
  | trigSettingApply (cell : Fin 16)
  /-- FREQ_MASK_VERDICT (R176). -/
  | freqMaskVerdict (channel : Fin 4)
  /-- STAMP_COINC_ARRIVAL (R178). -/
  | stampCoincArrival
  /-- TRIG_IN_EDGE (R179). -/
  | trigInEdge (pin : Fin 4) (rising : Bool)
  /-- TIME_MATCH_FIRE (R181). -/
  | timeMatchFire (cell : Fin 16)
  /-- MATRIX_EVENT_ARRIVE (R185). -/
  | matrixEventArrive
  /-- TRIGGER_EVENT_ISSUE (R186). -/
  | triggerEventIssue
  /-- TRIG_OUT_PULSE_START (R190). -/
  | trigOutPulseStart (output : Fin 4)
  /-- TRIG_OUT_PULSE_END (R190). -/
  | trigOutPulseEnd (output : Fin 4)
  /-- ACQ_CONFIGURE (R473). -/
  | acqConfigure (c : Cmd)
  /-- ACQ_ARM (R205). -/
  | acqArm (c : Cmd)
  /-- ACQ_ARM_POINT (R205). -/
  | acqArmPoint (acq : Fin 16)
  /-- ACQ_STOP (R219). -/
  | acqStop (c : Cmd)
  /-- ACQ_MASKTEST_LOAD (R216). -/
  | acqMasktestLoad (c : Cmd)
  /-- ACQ_READOUT (R221). -/
  | acqReadout (c : Cmd)
  /-- ACQ_READOUT_DONE (R221). -/
  | acqReadoutDone (acq : Fin 16) (refusedAt : Option Nat)
  /-- ACQ_BLOCK_RECEIVE (R222). -/
  | acqBlockReceive (acq : Fin 16) (drained : Nat)
  /-- ACQ_TRIGGER_ARRIVE (R207). -/
  | acqTriggerArrive (acq : Fin 16)
  /-- SEGMENT_COMPLETE (R208). -/
  | segmentComplete (acq : Fin 16)
  /-- STAMP_INPUT_SET (R228). -/
  | stampInputSet (c : Cmd)
  /-- STAMP_SETTINGS_APPLY (R229). -/
  | stampSettingsApply (source : Fin 24)
  /-- THRESHOLD_BLANK_END (R230). -/
  | thresholdBlankEnd (source : Fin 16)
  /-- STAMP_EDGE_CAPTURE (R236). -/
  | stampEdgeCapture (source : Fin 24) (edge : StampEdge)
  /-- FABRIC_GRANT (R242). -/
  | fabricGrant (source : Fin 24)
  /-- STAMP_FIFO_WAIT_EXPIRY (R241). -/
  | stampFifoWaitExpiry (source : Fin 16)
  /-- STAMP_RAW_STREAM (R253). -/
  | stampRawStream (c : Cmd)
  /-- INTERP_ROUND_START (R322). -/
  | interpRoundStart (motif : Fin 4)
  /-- INTERP_ROLE_END (R245). -/
  | interpRoleEnd (motif : Fin 4) (result : RoleResult)
  /-- INTERP_FAULT (R594). -/
  | interpFault (motif : Fin 4) (interpolator : Fin 5)
  /-- COMP_FAULT (R594). -/
  | compFault (source : Fin 16)
  /-- COUNT_START (R479). -/
  | countStart (c : Cmd)
  /-- COUNT_START_APPLY (R261). -/
  | countStartApply (slot : Fin 32)
  /-- COUNT_STOP (R291). -/
  | countStop (c : Cmd)
  /-- COUNT_READ (R290). -/
  | countRead (c : Cmd)
  /-- TI_WINDOW_SET (R270). -/
  | tiWindowSet (c : Cmd)
  /-- ORDERING_RELEASE (R267). -/
  | orderingRelease (slot : Fin 32)
  /-- GATE_CLOSE (R266). -/
  | gateClose (slot : Fin 32)
  /-- RESULT_ISSUE (R288). -/
  | resultIssue
  /-- FIRMWARE_KERNEL_HALT (R350). -/
  | firmwareKernelHalt
  /-- TALLY_BIND (R306). -/
  | tallyBind (c : Cmd)
  /-- TALLY_SNAPSHOT (R310). -/
  | tallySnapshot (c : Cmd)
  /-- TALLY_SNAPSHOT_CUT (R310). -/
  | tallySnapshotCut (snapshot : Fin 4)
  /-- TALLY_SNAPSHOT_DONE (R311). -/
  | tallySnapshotDone (snapshot : Fin 4) (refusedAt : Option Nat)
  /-- TALLY_CLEAR (R308). -/
  | tallyClear (c : Cmd)
  /-- TALLY_STAMP_UPDATE (R299). -/
  | tallyStampUpdate
  /-- TALLY_XFORM_UPDATE (R304). -/
  | tallyXformUpdate
  /-- TALLY_POST_UPDATE (R309). -/
  | tallyPostUpdate
  /-- TALLY_STORE_CLEAR_DONE (R312). -/
  | tallyStoreClearDone
  /-- CAL_POLICY_SET (R517). -/
  | calPolicySet (c : Cmd)
  /-- CAL_RUN (R518). -/
  | calRun (c : Cmd)
  /-- CAL_STATUS (R518). -/
  | calStatus (c : Cmd)
  /-- FULL_CAL_START (R318). -/
  | fullCalStart
  /-- FULL_CAL_END (R317). -/
  | fullCalEnd (outcome : CalOutcome)
  /-- KERNEL_LOAD (R347). -/
  | kernelLoad (c : Cmd)
  /-- KERNEL_START (R348). -/
  | kernelStart (c : Cmd)
  /-- KERNEL_STOP (R349). -/
  | kernelStop (c : Cmd)
  /-- GYTHEN_BUNDLE (R342). -/
  | gythenBundle (core : Fin 16)
  /-- KERNEL_DONE (R371). -/
  | kernelDone (core : Fin 16)
  /-- POST_QUEUE_DRAIN (R372). -/
  | postQueueDrain (core : Fin 16)
  /-- FETCH_GO (R333). -/
  | fetchGo (core : Fin 16)
  /-- FETCH_COMPLETE (R333). -/
  | fetchComplete (core : Fin 16)
  /-- TIME_LO_READ (R332). -/
  | timeLoRead (core : Fin 16)
  /-- STAMP_POP (R350). -/
  | stampPop (core : Fin 16)
  /-- SYS_HELLO (R490). -/
  | sysHello (c : Cmd)
  /-- SESSION_OPEN (R491). -/
  | sessionOpen (c : Cmd)
  /-- SESSION_CLOSE (R438). -/
  | sessionClose (c : Cmd)
  /-- PANEL_CLAIM (R437). -/
  | panelClaim (c : Cmd)
  /-- PANEL_RELEASE (R437). -/
  | panelRelease (c : Cmd)
  /-- FENCE (R445). -/
  | fence (c : Cmd)
  /-- EVENT_RING_SET (R494). -/
  | eventRingSet (c : Cmd)
  /-- COMPLETION_RING_SET (R494). -/
  | completionRingSet (c : Cmd)
  /-- ABORT_TAG (R447). -/
  | abortTag (c : Cmd)
  /-- REF_SELECT (R498). -/
  | refSelect (c : Cmd)
  /-- SYNTH_BAND_TABLE_LOAD (R43). -/
  | synthBandTableLoad (c : Cmd)
  /-- SYNTH_START (R44). -/
  | synthStart (c : Cmd)
  /-- CLKOUT_SET (R501). -/
  | clkoutSet (c : Cmd)
  /-- LEDGER_SET_EPOCH (R502). -/
  | ledgerSetEpoch (c : Cmd)
  /-- LEDGER_STEER (R503). -/
  | ledgerSteer (c : Cmd)
  /-- LEDGER_JUMP_RESOLVE (R62). -/
  | ledgerJumpResolve (c : Cmd)
  /-- HOLDOVER_MODEL_SET (R505). -/
  | holdoverModelSet (c : Cmd)
  /-- TIMECODE_SET (R506). -/
  | timecodeSet (c : Cmd)
  /-- STREAM_OPEN (R507). -/
  | streamOpen (c : Cmd)
  /-- STREAM_CHAIN_SET (R508). -/
  | streamChainSet (c : Cmd)
  /-- STREAM_RING_SET (R509). -/
  | streamRingSet (c : Cmd)
  /-- STREAM_CLOSE (R510). -/
  | streamClose (c : Cmd)
  /-- CHECK_SCAN (R547). -/
  | checkScan (c : Cmd)
  /-- CHECK_SCAN_PASS_DONE (R548). -/
  | checkScanPassDone (unit : Fin 8) (answer : Answer)
  /-- CHECK_PERIODIC_START (R547). -/
  | checkPeriodicStart (unit : Fin 8)
  /-- CHAIN_EXTEND (R532). -/
  | chainExtend (channel : Fin 64)
  /-- DESCRIPTOR_COMPLETE (R528). -/
  | descriptorComplete (channel : Fin 64) (descriptor : Answer) (data : Answer) (failAt : Option Nat)
  /-- CHAIN_LINK_READ (R532). -/
  | chainLinkRead (channel : Fin 64) (answer : Answer)
  /-- SOURCE_RECORD_ARRIVE (R537); `noRoom`: real-time demand exceeds what the memory or the link sustains (R34, R35). -/
  | sourceRecordArrive (noRoom : Bool := false)
  /-- RING_CONSUMER_REREAD (R536). -/
  | ringConsumerReread (channel : Fin 64) (consumer : Answer)
  /-- EVENT_RECORD_WRITE (R495). -/
  | eventRecordWrite (consumer : Answer)
  /-- EVENT_RING_RETRY (R497). -/
  | eventRingRetry (session : Fin 256) (consumer : Answer)
  /-- NET_PORT_SET (R553). -/
  | netPortSet (c : Cmd)
  /-- NET_JOIN (R556). -/
  | netJoin (c : Cmd)
  /-- NET_LEAVE (R557). -/
  | netLeave (c : Cmd)
  /-- NET_DELAY_TABLE_LOAD (R562). -/
  | netDelayTableLoad (c : Cmd)
  /-- NET_STATUS (R573). -/
  | netStatus (c : Cmd)
  /-- NET_HORIZON_SET (R558). -/
  | netHorizonSet (c : Cmd)
  /-- PORT_LINKED (R554). -/
  | portLinked (port : Fin 4) (peer : NetPeer)
  /-- NET_LINK_LOSS (R554). -/
  | netLinkLoss (port : Fin 4)
  /-- TIME_MESSAGE_SEND (R560). -/
  | timeMessageSend (port : Fin 4) (departure : T16)
  /-- TIME_MESSAGE_RECEIVE (R561). -/
  | timeMessageReceive (port : Fin 4) (arrival : T16) (bytes : Bytes)
  /-- ANNOUNCEMENT_SEND (R559). -/
  | announcementSend
  /-- ANNOUNCEMENT_RECEIVE (R559). -/
  | announcementReceive (port : Fin 4) (bytes : Bytes)
  /-- CROSS_TRIGGER_RECEIVE (R566). -/
  | crossTriggerReceive (port : Fin 4) (bytes : Bytes)
  /-- CROSS_TRIGGER_SEND (R566). -/
  | crossTriggerSend (port : Fin 4)
  /-- ALARM_SUMMARY_SEND (R569). -/
  | alarmSummarySend
  /-- ALARM_SUMMARY_RECEIVE (R569). -/
  | alarmSummaryReceive (port : Fin 4) (bytes : Bytes)
  /-- JOIN_REQUEST_RECEIVE (R556). -/
  | joinRequestReceive (port : Fin 4) (node : Fin 65536) (path : Nat)
  /-- JOIN_RESPONSE_RECEIVE (R556). -/
  | joinResponseReceive (response : JoinResponse)
  /-- JOIN_TIMEOUT (R556). -/
  | joinTimeout
  /-- LEAVE_NOTICE_RECEIVE (R557). -/
  | leaveNoticeReceive (port : Fin 4)
  /-- LEAVE_REQUEST_RECEIVE (R557). -/
  | leaveRequestReceive (port : Fin 4) (node : Fin 65536)
  /-- LEAVE_CONFIRM (R557). -/
  | leaveConfirm (reparented : Nat)
  /-- EPOCH_MESSAGE_RECEIVE (R564). -/
  | epochMessageReceive (delta : Int) (epoch : Fin 256)
  /-- REPARENT_REQUEST_RECEIVE (R570). -/
  | reparentRequestReceive (port : Fin 4) (node : Fin 65536) (path : Nat)
  /-- REPARENT_CONFIRM_RECEIVE (R570). -/
  | reparentConfirmReceive (exceeded : Bool)
  /-- REPARENT_TIMEOUT (R571). -/
  | reparentTimeout
  /-- SCAN_MODE_SET (R514). -/
  | scanModeSet (c : Cmd)
  /-- SCAN_LAYER_SET (R515). -/
  | scanLayerSet (c : Cmd)
  /-- SCAN_COMMIT (R516). -/
  | scanCommit (c : Cmd)
  /-- DP_TRAINING_DONE (R577). -/
  | dpTrainingDone (ok : Bool)
  /-- SCAN_LATCH (R586). -/
  | scanLatch
  /-- SCAN_FRAME_START (R587). -/
  | scanFrameStart
  /-- SCAN_MODE_APPLY (R579). -/
  | scanModeApply
  /-- HPD_LOSS (R580). -/
  | hpdLoss (port : Fin 2)
  /-- IRQ_HPD (R580). -/
  | irqHpd (port : Fin 2) (linkLost : Bool)
  /-- SAFETY_CONFIGURE (R604). -/
  | safetyConfigure (c : Cmd)
  /-- JOURNAL_READ (R609). -/
  | journalRead (c : Cmd)
  /-- SELFTEST_RUN (R600). -/
  | selftestRun (c : Cmd)
  /-- DUMP_REGION_SET (R519). -/
  | dumpRegionSet (c : Cmd)
  /-- DUMP_READ (R612). -/
  | dumpRead (c : Cmd)
  /-- MONITOR_SEQUENCE_SET (R90). -/
  | monitorSequenceSet (c : Cmd)
  /-- FW_UPDATE_BEGIN (R521). -/
  | fwUpdateBegin (c : Cmd)
  /-- FW_UPDATE_CHUNK (R521). -/
  | fwUpdateChunk (c : Cmd)
  /-- FW_UPDATE_COMMIT (R521). -/
  | fwUpdateCommit (c : Cmd)
  /-- KEY_HASH_QUERY (R521). -/
  | keyHashQuery (c : Cmd)
  /-- RAIL_WINDOW (R594). -/
  | railWindow (channel : Fin 40)
  /-- OVER_TEMP (R594). -/
  | overTemp (sensor : Fin 16)
  /-- OUTPUT_READBACK (R594). -/
  | outputReadback (ball : Fin 4)
  /-- ISLAND_CLOCK (R595). -/
  | islandClock (island : Nat)
  /-- SRAM_UE (R594). -/
  | sramUe (panel : Nat) (instance_ : Nat) (index : Nat)
  /-- SRAM_SCRUB (R594). -/
  | sramScrub
  /-- STEWARD_LOCKSTEP (R594). -/
  | stewardLockstep
  /-- STEWARD_RESTART (R412). -/
  | stewardRestart
  /-- TABLE_CHECK (R594). -/
  | tableCheck (mismatch : Bool)
  /-- TARGETED_SELFTEST_START (R598). -/
  | targetedSelftestStart (element : Element)
  /-- TARGETED_SELFTEST_END (R599). -/
  | targetedSelftestEnd (pass : Bool)
  /-- SPARE_ROW_MARCH (R597). -/
  | spareRowMarch
  /-- DUMP_WRITTEN (R610). -/
  | dumpWritten
  /-- DMC_FREEZE (R395). -/
  | dmcFreeze (commandParity : Bool) (address : Nat)
  /-- DRAM_CORRECTED_ERROR (R394). -/
  | dramCorrectedError (address : Nat)
  /-- PATROL_SCRUB (R394). -/
  | patrolScrub
  /-- REFRESH_DUE (R392). -/
  | refreshDue (busy : Bool)
  /-- NEIGHBOUR_REFRESH (R393). -/
  | neighbourRefresh (bank : Nat) (row : Nat)
  /-- ACT_WINDOW_CLEAR (R393). -/
  | actWindowClear
  /-- BULK_PROMOTION (R389). -/
  | bulkPromotion (port : Fin 5)
  /-- PANIC_RAISE (R391). -/
  | panicRaise (port : Fin 20) (raise : Bool)
  /-- DDR5_TRAINING_DONE (R387). -/
  | ddr5TrainingDone (gib : Nat) (ranks : Nat) (rdimm : Bool) (rate6400 : Fin 16) (rate5600 : Fin 16) (rate4800 : Fin 16)
  /-- DRAM_INIT_DONE (R645). -/
  | dramInitDone
  /-- BOOT_IMAGE_VERIFIED (R618). `verified` is the outcome for the image that the board's flash came with; an image written by
  an update is judged by its bytes. -/
  | bootImageVerified (verified : Bool)
  /-- WAIT_REF_RETRY (R620). -/
  | waitRefRetry (periodPs : Nat)
  /-- READY_ASSERT (R619). -/
  | readyAssert
  /-- POWER_DOWN (R627). -/
  | powerDown
  /-- TRIG_OUT_INACTIVE_END (R190). -/
  | trigOutInactiveEnd (output : Fin 4)
  /-- TCODE_IN_PRESENT_LAPSE (R67). -/
  | tcodeInPresentLapse
  /-- SFP_MODULE_READ (R552). -/
  | sfpModuleRead (port : Fin 4) (present : Bool) (lossOfSignal : Bool) (txFault : Bool)
  deriving DecidableEq, Repr, Inhabited

end Sys2Proof
end

