-- ==== Sys2Proof/Config.lean ====
section
/-! DEFINITION. What an implementation fixes and the spec does not state, and the free values: constants with no body, so
that no proof can see what they are (log entries 7 to 12, 19 and 20). -/

namespace Sys2Proof.Config

/-- A free bit, drawn for the n-th open choice of a run (log entry 8). -/
opaque freeBit : Nat → Bool

/-- A free word of 64 bits, drawn for the n-th open choice of a run (log entry 8). -/
opaque freeWord : Nat → BitVec 64

/-- A free integer, drawn for the n-th open choice of a run (log entry 8). -/
opaque freeInt : Nat → Int

/-- What a byte of a Gythen data memory that nothing has written holds after reset (R331: undefined; log entry 7). -/
opaque dataMemory : (core : Nat) → (address : Nat) → Byte

/-- What a bundle of a Gythen instruction memory that no image has filled holds after reset (R331: undefined; log entry 7). -/
opaque instructionMemory : (core : Nat) → (bundle : Nat) → BitVec 64

/-- What a cell of the histogram store holds until DENSITY_CONFIGURE clears it (R165: undefined; log entry 7). -/
opaque densityCell : (channel : Nat) → (cell : Nat) → BitVec 16

/-- The 16 bits in which a pair holds a MAG above 32,767 (R170, R214 state none; log entry 30). -/
opaque pairMagnitude : (value : Int) → BitVec 16

/-- The calibrated input-path delay of a TRIG_IN ball in ticks (R179; log entry 13). -/
opaque trigInDelay : (pin : Nat) → Nat

/-- The calibrated input-path delay of the REFIN ball (source 20) or the PPSIN ball (source 21) in 2^-16 tick (R22;
log entry 13). -/
opaque rootDelay : (source : Nat) → Nat

/-- The format that the TCODE_IN decoder works out from the 0 and 1 elements of a frame, taken as a number (R65 does not say
how; log entry 59). -/
opaque irigFormat : (contents : Nat) → Fin 8

/-- By how many µs a pulse of TCODE_IN may differ from its nominal width (R65 gives none; log entry 59). -/
opaque irigTolerance : Nat

/-- Deviation of a bin's power in centibels from its exact value; used only after a clamp to -1, 0 or 1
(R130: accurate to 1 cB; log entry 10). -/
opaque powerDeviation : (frame : Nat) → (bin : Nat) → Int

/-- Deviation of a component of a transform from its exact value in 2^-81, made by the rounding of the stages that shift (R128 gives
no bound; log entry 10). -/
opaque mantissaDeviation : (frame : Nat) → (part : Nat) → Int

/-- The bank and the row in its subchannel of a 64-byte line of device DRAM (R388 gives channel and subchannel only; log entry 61). -/
opaque dramBank : (line : Nat) → Nat
opaque dramRow : (line : Nat) → Nat

/-- Which samples in the working buffers of an engine a row of the store holds (R143 gives no layout; log entry 10). -/
opaque rowHolds : (draw : Nat) → (row : Nat) → (sample : Nat) → Bool

/-- Coefficients of the fixed half-band stages at distances 1, 3, 5 to 13 from the middle, weight 2^-17; that at distance 15 follows
from unity DC gain (R101 gives no values; log entry 11). -/
opaque halfBand : (tap : Nat) → Int

/-- The first 63 coefficients of the default set of 64 taps; the last one follows from unity DC gain (R105 gives no values; log
entry 11). -/
opaque defaultSet : (tap : Nat) → Int

/-- The factory band table, (F_LOW, F_HIGH, TEMP_SLOPE) for each of 64 entries (R620: not published; log entry 19). -/
opaque factoryBand : (entry : Nat) → Nat × Nat × Int

/-- STEWARD_FW_VERSION of the image in a slot of the flash (R413 gives the format only; log entry 20). -/
opaque firmwareVersion : (slot : Nat) → Word

/-- The version word a verified update image carries (log entry 20). -/
opaque imageVersion : Bytes → Word

/-- Whether the signature of an image verifies against the fused key (R521, R618; log entry 20). -/
opaque signatureHolds : Bytes → Bool

/-- The fused SHA-384 hash of the public key, 48 bytes (R521; log entry 20). -/
opaque keyHash : (index : Nat) → Byte

/-- WIN_OFFSET of the Pricking's entries, in the order of R406 (not stated; log entry 18). -/
opaque windowOffset : (entry : Nat) → Nat

/-- WIN_SIZE of the Pricking's entries (not stated; log entry 18). -/
opaque windowSize : (entry : Nat) → Nat

/-- DEPS and GROUPS of the Pricking's entries, 10 bytes each (R405, R408; log entry 18). -/
opaque prickingRefs : (entry : Nat) → (index : Nat) → Byte

/-- The calibrated input-path delay D_path in fs of a stamp input, chosen by source, comparator, prescaler and
interpolator at a calibration epoch (R236; log entry 13). -/
opaque pathDelay : (epoch source comparator prescale interpolator : Nat) → Int

/-- The table of an interpolator, made by a calibration epoch: fine code to fraction in 2^-16 tick (R236;
log entry 13). -/
opaque fineTable : (epoch motif interpolator code : Nat) → Nat

/-- The trace section of a dump (R611: lossy trace; log entry 20). -/
opaque firmwareTrace : (dump : Nat) → Bytes

/-- The version number field of a VDIF header (R540 names version 1.0 and not the field; log entry 28). -/
opaque vdifVersion : Nat

/-- What TALLY_SPEC_RATE shows of a committed rate that its eleven bits cannot hold (R307, R314; log entry 57). -/
opaque specRateField : (rate : Nat) → BitVec 11

/-- The 64-bit words of the contexts of a running counter slot, that show its working sums (R257 gives no layout; log entry 36). -/
opaque slotContext : (sums : List Rat) → (word : Nat) → BitVec 64

end Sys2Proof.Config
end

