-- ==== Sys2Proof/Machine/Bits.lean ====
section
/-! DEFINITION. Bit fields, byte order, saturating and signed numbers, and lists as tables. -/

namespace Sys2Proof.Machine

/-- Bits [lo + w - 1 : lo] of a number. -/
def field (n lo w : Nat) : Nat := (n / 2 ^ lo) % 2 ^ w

/-- Bit i of a number. -/
def bitAt (n i : Nat) : Bool := (n / 2 ^ i) % 2 == 1

/-- A flag as a bit in place i. -/
def flag (b : Bool) (i : Nat) : Nat := if b then 2 ^ i else 0

/-- The number of 1 bits among the low w. -/
def popcount (w n : Nat) : Nat := ((List.range w).filter (bitAt n)).length

/-- The low 32 bits. -/
def low32 (n : Nat) : Nat := n % 2 ^ 32

/-- Bits [63:32]. -/
def high32 (n : Nat) : Nat := (n / 2 ^ 32) % 2 ^ 32

/-- A number of 64 bits from its low and its high word. -/
def join32 (lo hi : Nat) : Nat := lo + 2 ^ 32 * hi

/-- A saturating counter of 32 bits advanced by k. -/
def sat32 (n k : Nat) : Nat := min (n + k) (2 ^ 32 - 1)

/-- A wrapping counter of 32 bits advanced by k. -/
def wrap32 (n k : Nat) : Nat := (n + k) % 2 ^ 32

/-- A saturating counter of w bits advanced by k. -/
def satAdd (w n k : Nat) : Nat := min (n + k) (2 ^ w - 1)

/-- The two's complement of w bits of an integer. -/
def twos (w : Nat) (i : Int) : Nat := (i % (2 ^ w : Nat)).toNat

/-- The signed value of the low w bits. -/
def signed (w n : Nat) : Int :=
  let m := n % 2 ^ w
  if m < 2 ^ (w - 1) then (m : Int) else (m : Int) - (2 ^ w : Nat)

/-- Quotient rounded to the nearest, halves up (toward +∞), for a positive divisor. -/
def roundDiv (a : Int) (b : Nat) : Int := (2 * a + b) / (2 * b : Nat)

/-- A rational rounded to the nearest integer, halves up. -/
def roundRat (q : Rat) : Int := (q + 1 / 2).floor

/-- A rational truncated toward zero. -/
def truncRat (q : Rat) : Int := if 0 ≤ q then q.floor else -(-q).floor

/-- rnd(x, s): x / 2^s rounded half up (R355). -/
def rnd (x : Int) (s : Nat) : Int := if s = 0 then x else (x + 2 ^ (s - 1)) / 2 ^ s

/-- sat_w(x) (R356). -/
def satW (w : Nat) (x : Int) : Int := max (-(2 ^ (w - 1))) (min (2 ^ (w - 1) - 1) x)

/-- The ceiling of a quotient of naturals. -/
def ceilDiv (a b : Nat) : Nat := (a + b - 1) / b

/-- k bytes of a number, little-endian (R6). -/
def leBytes : Nat → Nat → Bytes
  | 0, _ => []
  | k + 1, n => BitVec.ofNat 8 n :: leBytes k (n / 256)

/-- The number that bytes hold, little-endian (R6). -/
def leNat : Bytes → Nat
  | [] => 0
  | b :: bs => b.toNat + 256 * leNat bs

/-- Bytes [off, off + len) of a string, padded with zeros beyond its end. -/
def slice (bs : Bytes) (off len : Nat) : Bytes :=
  let t := (bs.drop off).take len
  t ++ List.replicate (len - t.length) 0

/-- The number in `len` bytes at `off`, little-endian. -/
def u (bs : Bytes) (off len : Nat) : Nat := leNat (slice bs off len)

/-- The signed number in `len` bytes at `off`, little-endian. -/
def sgn (bs : Bytes) (off len : Nat) : Int := signed (8 * len) (u bs off len)

/-- Zeros. -/
def zeros (n : Nat) : Bytes := List.replicate n 0

/-- A string padded with zeros to n bytes and cut to them. -/
def pad (n : Nat) (bs : Bytes) : Bytes := slice bs 0 n

/-- A string padded with zeros to a multiple of n bytes. -/
def padTo (n : Nat) (bs : Bytes) : Bytes := bs ++ zeros ((n - bs.length % n) % n)

/-- A string cut into pieces of n bytes (fuel: its length). -/
def chunks (n : Nat) : Nat → List α → List (List α)
  | 0, _ => []
  | _ + 1, [] => []
  | k + 1, bs => bs.take n :: chunks n k (bs.drop n)

/-- The words of a string, 4 bytes each, little-endian. -/
def words (bs : Bytes) : List Nat := (chunks 4 bs.length bs).map leNat

/-- The entry of a table, its default beyond the end. -/
def nth [Inhabited α] (l : List α) (i : Nat) : α := l.getD i default

/-- A table with one entry changed. -/
def upd (l : List α) (i : Nat) (f : α → α) : List α := l.modify i f

/-- A table with one entry replaced. -/
def put (l : List α) (i : Nat) (a : α) : List α := l.modify i fun _ => a

/-- Looks a key up in a list of pairs. -/
def lookup [BEq κ] (l : List (κ × α)) (k : κ) : Option α := (l.find? fun e => e.1 == k).map (·.2)

/-- Sets a key in a list of pairs. -/
def insert' [BEq κ] (l : List (κ × α)) (k : κ) (a : α) : List (κ × α) := (k, a) :: l.filter fun e => !(e.1 == k)

/-- The last n entries of a list. -/
def lastN (n : Nat) (l : List α) : List α := l.drop (l.length - n)

/-- Whether a number of bytes is zero. -/
def isZero (bs : Bytes) : Bool := bs.all (· == 0)

/-- The indices below n at which a mask has a 1. -/
def maskIndices (n mask : Nat) : List Nat := (List.range n).filter (bitAt mask)

/-- The mask with a 1 at each index below n that satisfies a test. -/
def maskOf (n : Nat) (f : Nat → Bool) : Nat := ((List.range n).map fun i => flag (f i) i).sum

/-- Puts an entry into a list in order, behind those that stand before it or level with it. -/
def insertBy (before : α → α → Bool) (a : α) : List α → List α
  | [] => [a]
  | b :: bs => if before a b then a :: b :: bs else b :: insertBy before a bs

/-- A list in the order of a strict relation; entries that are level keep their order. -/
def sortBy (before : α → α → Bool) (l : List α) : List α := l.foldl (fun r a => insertBy before a r) []

/-- A signed number as the integer nearest to a reference that has the same low w bits. -/
def nearest (w : Nat) (ref n : Int) : Int := ref + signed w ((n - ref) % (2 ^ w : Nat)).toNat

end Sys2Proof.Machine
end

