-- ==== Sys2Proof/Machine/Crc.lean ====
section
/-! DEFINITION. The check algorithms of the piece (R543 to R546) and the CRC-8 of the Net (R565). -/

namespace Sys2Proof.Machine

/-- k shifts of a reflected CRC register with the given reflected polynomial. -/
def crcShift (poly : Nat) : Nat → Nat → Nat
  | 0, r => r
  | k + 1, r => crcShift poly k (if r % 2 == 1 then Nat.xor (r / 2) poly else r / 2)

/-- A reflected CRC register over a string (R543). -/
def crcRun (poly : Nat) : Nat → Bytes → Nat
  | r, [] => r
  | r, b :: bs => crcRun poly (crcShift poly 8 (Nat.xor r b.toNat)) bs

/-- Fletcher-64 over 32-bit words: A, then B (R545). -/
def fletcherRun : Nat → Nat → List Nat → Nat
  | a, b, [] => b * 2 ^ 32 + a
  | a, b, w :: ws =>
    let a' := (a + w) % (2 ^ 32 - 1)
    fletcherRun a' ((b + a') % (2 ^ 32 - 1)) ws

/-- The polynomial of R543, reflected. -/
def crcPoly (alg : Nat) : Nat :=
  match alg with
  | 1 => 0x82F63B78
  | 2 => 0xEDB88320
  | _ => 0xC96C5795D7870F42

/-- The final XOR of R543, which is also the initial register. -/
def crcXor (alg : Nat) : Nat :=
  match alg with
  | 1 => 0xFFFFFFFF
  | 2 => 0xFFFFFFFF
  | _ => 0xFFFFFFFFFFFFFFFF

/-- The check value after a string, continued from a check value (R544): algorithm 1 CRC-32C, 2 CRC-32, 3 CRC-64,
4 Fletcher-64; any other gives 0 (R529). -/
def checkFrom (alg value : Nat) (bs : Bytes) : Nat :=
  match alg with
  | 1 | 2 => Nat.xor (crcRun (crcPoly alg) (Nat.xor (value % 2 ^ 32) (crcXor alg)) bs) (crcXor alg)
  | 3 => Nat.xor (crcRun (crcPoly alg) (Nat.xor (value % 2 ^ 64) (crcXor alg)) bs) (crcXor alg)
  | 4 => fletcherRun (value % 2 ^ 32) (value / 2 ^ 32 % 2 ^ 32) (words bs)
  | _ => 0

/-- CRC-32C from the standard value (R544). -/
def crc32c (bs : Bytes) : Nat := checkFrom 1 0 bs

/-- The hallmark block (R546). -/
def hallmark (address seq stream : Nat) : Bytes := leBytes 8 address ++ leBytes 4 seq ++ leBytes 4 stream

/-- k shifts of the CRC-8 register of polynomial 0x07. -/
def crc8Shift : Nat → Nat → Nat
  | 0, r => r
  | k + 1, r => crc8Shift k (if 128 ≤ r then Nat.xor (2 * r % 256) 0x07 else 2 * r)

/-- CRC-8, polynomial 0x07, initial 0 (R565). -/
def crc8 (bs : Bytes) : Nat := bs.foldl (fun r b => crc8Shift 8 (Nat.xor r b.toNat)) 0

end Sys2Proof.Machine
end

