-- ==== Sys2Proof/Machine/State/Common.lean ====
section
/-! DEFINITION. The records that several panels share: mappings of the Time Ledger, notices, completion records, event
records, rings, journal entries, posts to the host. -/

namespace Sys2Proof.Machine

/-- A mapping of the Ledger (R53). `l0` is L_a, exact, in units of 1/(2^80 × 2,560,000,000) s; `m0` is M_a in ticks; ρ and σ
are in 2⁻⁶⁴. -/
structure Mapping where
  m0 : Nat := 0
  l0 : Int := 0
  rho : Int := 0
  sigma : Int := 0
  deriving DecidableEq, Repr, Inhabited

/-- A notice (R416), with its reserved bits [127:112] kept. -/
structure Notice where
  reserved : Nat := 0
  kind : Nat := 0
  epoch : Nat := 0
  seq : Nat := 0
  length : Nat := 0
  address : Nat := 0
  deriving DecidableEq, Repr, Inhabited

/-- A completion record (R448) without its PHASE, which the ring gives. -/
structure Completion where
  tag : Nat := 0
  session : Nat := 0
  status : Nat := 0
  duplicate : Bool := false
  opcode : Nat := 0
  results : List Nat := []
  deriving DecidableEq, Repr, Inhabited

/-- An event record (R495) without its RING_SEQ and PHASE, which the ring gives. -/
structure EventRecord where
  kind : Nat := 0
  mint : Nat := 0
  /-- Ledger label in 2⁻⁴⁸ s. -/
  label : Nat := 0
  panelType : Nat := 0
  inst : Nat := 0
  body : Bytes := []
  deriving DecidableEq, Repr, Inhabited

/-- A ring of records with a host-memory consumer index (R449, R450, R490). A ring with `entries` zero is disabled. -/
structure Ring where
  base : Nat := 0
  entries : Nat := 0
  /-- Address of the 4-byte consumer index word. -/
  consumerAddr : Nat := 0
  /-- The consumer index as last read (log entry 17). -/
  consumer : Nat := 0
  /-- p: number of the next record since registration, modulo 2³². -/
  next : Nat := 0
  /-- Slot of the next record. -/
  slot : Nat := 0
  phase : Bool := true
  /-- A length that takes effect at the next return to slot 0 (R449, R538). -/
  stagedEntries : Option Nat := none
  deriving DecidableEq, Repr, Inhabited

/-- What the piece has sent outward, or handed to a requester (log entry 4). -/
inductive Output where
  /-- A posted write of HOSTIF into host memory (R375). -/
  | hostWrite (address : Nat) (bytes : Bytes)
  /-- A non-posted read that HOSTIF has issued (R375). -/
  | hostRead (request address length : Nat)
  /-- An MSI-X message of a function's vector (R432, R638). -/
  | msix (function vector : Nat) (address : Nat) (data : Nat)
  /-- The value that a register or lock read returned to a requester. -/
  | readValue (requester : Nat) (words : List Nat)
  /-- The data a BAR2 or HDM read returned; a poisoned answer has no data (R377, R382). -/
  | busData (bytes : Bytes)
  | busPoisoned
  | busAbort
  | busUnsupported
  | busDropped
  /-- An SMBus transaction that was not acknowledged (R644). -/
  | mgmtNoAck
  | mgmtWord (value : Nat)
  /-- A message that left a Yarrath port: time message, announcement, cross-trigger, alarm summary (their bytes). -/
  | netFrame (port : Nat) (bytes : Bytes)
  /-- A management message of the Net, whose format the spec does not give: name and operands. -/
  | netMessage (port : Nat) (name : String) (operands : List Int)
  /-- A frame that the timecode encoder began (R66): format, rendered seconds, whether the leap second 23:59:60 is rendered,
  control bits, and the high time of each 10 ms element in ms. -/
  | timecodeFrame (format : Nat) (rendered : Int) (leap : Bool) (control : Nat) (widths : List Nat)
  /-- A frame of the panel (R578, R583): its count, and the lines of DP0 and of DP1 from the top, each pixel 30 bits RGB. -/
  | scanFrame (frame : Nat) (left right : List (List Nat))
  deriving DecidableEq, Repr, Inhabited

/-- A stamp record on its way or delivered (R227, R242): its source, time in 2⁻¹⁶ tick, sequence number, edge bit and flags. -/
structure Stamp where
  source : Nat := 0
  time : T16 := 0
  seq : Nat := 0
  rising : Bool := true
  flags : Nat := 0
  /-- The Ledger label in 2⁻⁴⁸ s. -/
  label : Nat := 0
  /-- For source 22 the cell (R192); zero else. -/
  tag : Nat := 0
  /-- PRESCALE in force at the stamp (R274, R302). -/
  prescale : Nat := 0
  deriving DecidableEq, Repr, Inhabited

/-- An entry of the fault journal (R606). -/
structure JournalEntry where
  seq : Nat := 0
  code : Nat := 0
  persistent : Bool := false
  summary : Bool := false
  incident : Bool := false
  requester : Nat := 0x10
  mint : Nat := 0
  label : Nat := 0
  panelType : Nat := 0
  inst : Nat := 0
  element : Nat := 0
  verdict : Nat := 0
  transients : Nat := 0
  detail : Bytes := []
  deriving DecidableEq, Repr, Inhabited

/-- An entry of the alarm bank (R602). -/
structure AlarmEntry where
  code : Nat := 0
  latched : Bool := false
  count : Nat := 0
  firstMint : Nat := 0
  firstLabel : Nat := 0
  lastMint : Nat := 0
  lastLabel : Nat := 0
  deriving DecidableEq, Repr, Inhabited

/-- A write that the piece has posted to a ring or a stream of the piece and that waits for a consumer index. -/
structure Shadow where
  requester : Nat
  loc : RegLoc
  value : Nat
  deriving DecidableEq, Repr, Inhabited

end Sys2Proof.Machine
end

