-- ==== Sys2Proof/Machine/State/Cal.lean ====
section
/-! DEFINITION. State of CALMGR (12) and of SCAN (23). -/

namespace Sys2Proof.Machine

/-- CALMGR modes (R315). -/
inductive CalMode where
  | startup | service | test | recovery
  deriving DecidableEq, Repr, Inhabited

/-- CALMGR. -/
structure Cal where
  mode : CalMode := .startup
  unstable : Bool := false
  rerunDue : Bool := false
  running : Bool := false
  /-- The tick at which the run began, and the die temperature code then. -/
  began : Nat := 0
  beganTemp : Nat := 0
  /-- A run is to start (CAL_RUN FULL, start-up, R318). -/
  startDue : Bool := false
  lastFull : Nat := 0
  lastTemp : Nat := 0
  fullCount : Nat := 0
  startupRuns : Nat := 0
  sliceRotations : Nat := 0
  rounds : Nat := 0
  overrun : Nat := 0
  matchFail : Nat := 0
  slicePeriod : Nat := 100
  sliceAway : Nat := 5
  rotInterval : Nat := 2000
  deltaT : Nat := 24
  sliceEn : Nat := 0xF
  interpEn : Nat := 0xF
  /-- Overridden slices, bit 3i + j, and interpolators, bit 5k + n. -/
  sliceOverrides : Nat := 0
  interpOverrides : Nat := 0
  /-- The calibration epochs of converters and stamps. -/
  epoch : Nat := 0
  /-- The tick at which each motif's round began, and whether a round is late. -/
  roundBegan : List (Option Nat) := List.replicate 4 none
  roundLate : List Bool := List.replicate 4 false
  deriving DecidableEq, Repr, Inhabited

/-- STATE of SCANOUT (R588). -/
inductive ScanState where
  | off | training | running | stopping | fault
  deriving DecidableEq, Repr, Inhabited

/-- The timing of one port (R514). -/
structure ScanMode where
  en : Bool := false
  hNegative : Bool := false
  vNegative : Bool := false
  rate : Nat := 0
  hActive : Nat := 0
  vActive : Nat := 0
  hFront : Nat := 0
  hSync : Nat := 0
  hBack : Nat := 0
  vFront : Nat := 0
  vSync : Nat := 0
  vBack : Nat := 0
  pixelKhz : Nat := 0
  deriving DecidableEq, Repr, Inhabited

/-- The settings of a layer (R515). -/
structure Layer where
  en : Bool := false
  opaque_ : Bool := false
  format : Nat := 0
  alpha : Nat := 0
  x : Nat := 0
  y : Nat := 0
  width : Nat := 0
  height : Nat := 0
  stride : Nat := 0
  base : Nat := 0
  deriving DecidableEq, Repr, Inhabited

/-- SCANOUT (R576 to R589). -/
structure Scanout where
  state : ScanState := .off
  mode : ScanMode := {}
  /-- A mode that takes effect at the end of the running frame (R579). -/
  next : Option ScanMode := none
  /-- HPD was lost: the ports stop at the end of the frame (R580). -/
  stopDue : Bool := false
  /-- The ports retrain within a frame after an IRQ_HPD; frames count on (R580). -/
  retraining : Bool := false
  hpd : List Bool := [false, false]
  vblank : Bool := false
  frame : Nat := 0
  flipMint : Nat := 0
  flipLabel : Nat := 0
  flipFrame : Nat := 0
  underruns : Nat := 0
  /-- Tiles skipped in the last frame, and in the frame that runs. -/
  tiles : Nat := 0
  tilesNow : Nat := 0
  held : List Layer := List.replicate 4 {}
  /-- Committed settings with the tick at which their commit arrived (R586). -/
  pending : List (Option (Layer × Nat)) := List.replicate 4 none
  latched : List Layer := List.replicate 4 {}
  deriving DecidableEq, Repr, Inhabited

end Sys2Proof.Machine
end

