-- ==== Sys2Proof/Machine/State/Stamp.lean ====
section
/-! DEFINITION. State of the STAMP motifs and of the stamp fabric (09). -/

namespace Sys2Proof.Machine

/-- SLOPE codes (R457). -/
inductive Slope where
  | rising | falling | both
  deriving DecidableEq, Repr, Inhabited

/-- Settings of a stamp input (R228). -/
structure StampSetting where
  en : Bool := false
  threshold : Nat := 0x800
  slope : Slope := .rising
  prescale : Nat := 0
  cableDelay : Int := 0
  deriving DecidableEq, Repr, Inhabited

/-- A record in a burst FIFO: the stamp without its label and the tick at which it entered (R241). -/
structure FifoRecord where
  stamp : Stamp := {}
  entered : Nat := 0
  /-- The record has its label and flags already: a reset of CLOCKS does not change them (R68). -/
  labelled : Bool := false
  deriving DecidableEq, Repr, Inhabited

/-- A stamp input. -/
structure StampInput where
  setting : StampSetting := {}
  /-- New settings and the tick from which they apply, oldest first (R229). -/
  pending : List (StampSetting × Nat) := []
  faultActive : Bool := false
  compSel : Nat := 0
  /-- Comparators retired, and comparators that a transient fault keeps out until the next full calibration (R232, R599). -/
  compRetired : Nat := 0
  compHeld : Nat := 0
  interpRetired : Bool := false
  /-- The interpolator's fault is detected and the spare does not cover it yet (R247). -/
  interpFaulted : Bool := false
  /-- Edges counted by the prescaler since its clearing. -/
  prescaled : Nat := 0
  blankUntil : Option Nat := none
  lastCapture : Option T16 := none
  seq : Nat := 0
  lostDt : Nat := 0
  overflow : Nat := 0
  lostFault : Nat := 0
  fifo : List FifoRecord := []
  fifoHigh : Nat := 0
  captured : Nat := 0
  crowdDue : Bool := false
  calDue : Bool := false
  /-- Flags of discarded records that the next delivered one carries (R250). -/
  passed : Nat := 0
  spareActive : Bool := false
  /-- Calibration epoch of the constants in use (R250). -/
  epoch : Nat := 0
  /-- Epoch of the input's own interpolator table, and of the calibrated path delays (R236, R317). -/
  interpEpoch : Nat := 0
  pathEpoch : Nat := 0
  /-- An override table of 256 fractions (R517). -/
  table : Option (List Nat) := none
  deriving DecidableEq, Repr, Inhabited

/-- SPARE_ROLE (R254). -/
inductive SpareRole where
  | idle | selfCal | overlap | standingIn | handback | faultCover
  deriving DecidableEq, Repr, Inhabited

/-- A motif: four inputs and the spare interpolator. -/
structure Motif where
  inputs : List StampInput := List.replicate 4 {}
  spareLost : Bool := false
  /-- The spare's fault is detected and its test has not ended. -/
  spareFaulted : Bool := false
  spareRetired : Bool := false
  rotationEn : Bool := false
  role : SpareRole := .idle
  /-- Input the spare serves in roles 2 to 5, or visits next in role 1. -/
  spareInput : Nat := 0
  /-- Edges captured in OVERLAP or HANDBACK, and the tick at which the role began. -/
  roleEdges : Nat := 0
  roleBegan : Nat := 0
  /-- A round of rotation runs (R322). -/
  inRound : Bool := false
  handoverCount : Nat := 0
  unverified : Nat := 0
  spareEpoch : Nat := 0
  spareTable : Option (List Nat) := none
  deriving DecidableEq, Repr, Inhabited

/-- A source 16 to 23 (R252): its enable and prescaler (sources 20 and 21), its next SEQ, and its records that wait for the
fabric. -/
structure AuxSource where
  en : Bool := false
  prescale : Nat := 0
  pending : List (StampSetting × Nat) := []
  prescaled : Nat := 0
  seq : Nat := 0
  waiting : List FifoRecord := []
  crowdDue : Bool := false
  calDue : Bool := false
  deriving DecidableEq, Repr, Inhabited

/-- The stamp fabric (R242, R250, R253). -/
structure Fabric where
  /-- Sources 16 to 23. -/
  aux : List AuxSource := List.replicate 8 {}
  /-- Permit times of the 24 sources in units of 1/8,192,000 tick, of which 1.6 ns is 2²⁵. -/
  permits : List Int := List.replicate 24 0
  /-- The source served last. -/
  pointer : Nat := 23
  /-- Sources whose next labelled record carries POSTJUMP (R58). -/
  postJump : List Bool := List.replicate 24 false
  rawMask : Nat := 0
  rawChannel : Nat := 0
  /-- A new mask and channel and the tick from which they apply (R478). -/
  rawNext : Option (Nat × Nat × Nat) := none
  /-- Records of the raw log that wait 16 µs for OUTWIN, with the tick of their merge and their channel (R273). -/
  rawHeld : List (Stamp × Nat × Nat) := []
  /-- The tally-island cycle of the latest grants and their number in it (R242). -/
  granted : Nat × Nat := (0, 0)
  deriving DecidableEq, Repr, Inhabited

end Sys2Proof.Machine
end

