-- ==== Sys2Proof/Machine/State/Gythen.lean ====
section
/-! DEFINITION. State of the Gythen cores (13, 14). -/

namespace Sys2Proof.Machine

/-- STATE of a core (R351). -/
inductive CoreState where
  | idle | loaded | running | done | stopped | fault
  deriving DecidableEq, Repr, Inhabited

/-- The sandbox and entry of a loaded image (R344, R346). -/
structure Image where
  entry : Nat := 0
  codeLen : Nat := 0
  postFirst : Nat := 0
  postCount : Nat := 0
  fetchFirst : Nat := 0
  fetchCount : Nat := 0
  streamCh : Nat := 0xFF
  crc : Nat := 0
  deriving DecidableEq, Repr, Inhabited

/-- A register as a bundle reads or writes it. -/
inductive Reg where
  | s (n : Nat) | v (n : Nat) | acc (n : Nat) | a (n : Nat) | o (n : Nat) | b (n : Nat) | l (n : Nat) | lc (n : Nat) | sr
  deriving DecidableEq, Repr, Inhabited

/-- A write that address generation and loop ends see from the second bundle on (R343). -/
structure LateWrite where
  reg : Reg
  value : Nat
  /-- The next bundle has still to see the old value. -/
  waits : Bool := true
  deriving DecidableEq, Repr, Inhabited

/-- An open block repeat: first and last bundle of the body (R340). -/
structure LoopLevel where
  start : Nat
  stop : Nat
  deriving DecidableEq, Repr, Inhabited

/-- An entry of the post queue (R372). -/
inductive PostEntry where
  | tally (context : Nat) (value : Nat)
  | stream (channel : Nat) (data : Bytes)
  deriving DecidableEq, Repr, Inhabited

/-- An outstanding fetch with the contexts as they stood at its cut (R333). -/
structure Fetch where
  dest : Nat
  data : Bytes
  deriving DecidableEq, Repr, Inhabited

/-- When a result is ready (R342): the cycle for any use, and for a further accumulation. -/
structure Ready where
  reg : Reg
  cycle : Nat
  chain : Nat
  deriving DecidableEq, Repr, Inhabited

/-- A core. Scalars, address, base and length registers are 32-bit numbers, vectors 512-bit numbers, accumulators lists of
lanes. -/
structure Core where
  state : CoreState := .idle
  cause : Nat := 0
  faultAddr : Nat := 0
  /-- PC at the last halt, stop or fault. -/
  lastPc : Nat := 0
  exit : Nat := 0
  firmware : Bool := false
  image : Option Image := none
  pc : Nat := 0
  s : List Nat := List.replicate 32 0
  v : List Nat := List.replicate 16 0
  acc : List (List Int) := List.replicate 4 (List.replicate 32 0)
  /-- Width tags, bit i for ACCi (R357). -/
  wide : Nat := 0
  /-- SR [6:0]. -/
  flags : Nat := 0
  a : List Nat := List.replicate 8 0
  o : List Nat := List.replicate 8 0
  b : List Nat := List.replicate 8 0
  l : List Nat := List.replicate 8 0
  /-- Staged lengths (R339). -/
  staged : List (Option Nat) := List.replicate 8 none
  lc : List Nat := List.replicate 4 0
  levels : List LoopLevel := []
  late : List LateWrite := []
  /-- Bytes of data memory that were written; the rest are undefined (R331; log entry 7). -/
  dmem : List (Nat × Byte) := []
  /-- Bundles of instruction memory that were loaded, by index. -/
  imem : List (Nat × Nat) := []
  timeHi : Option Nat := none
  fetchCtx : Nat := 0
  fetchCount : Nat := 0
  fetchDest : Nat := 0
  fetches : List Fetch := []
  fetchDone : Nat := 0
  queue : List PostEntry := []
  /-- HALT has issued and the queue drains (R371). -/
  halted : Bool := false
  /-- KERNEL_START takes effect at this tick (R348). -/
  startAt : Nat := 0
  /-- An uncorrectable error stands in its memories (R331). -/
  memErr : Bool := false
  cycles : Nat := 0
  ready : List Ready := []
  posts : Nat := 0
  denied : Nat := 0
  refused : Nat := 0
  /-- Stamps that STAMP_POP returns, and the words already read of the first (R350). -/
  stamps : List Stamp := []
  popped : Nat := 0
  deriving DecidableEq, Repr, Inhabited

/-- GYTHEN: the sixteen cores. -/
structure Gythen where
  cores : List Core := List.replicate 16 {}
  /-- The tick at which the last counter slot stopped (R350). -/
  idleSince : Option Nat := none
  deriving DecidableEq, Repr, Inhabited

end Sys2Proof.Machine
end

