-- ==== Sys2Proof/Machine/State/Host.lean ====
section
/-! DEFINITION. State of HOSTIF and DMC (15), of device DRAM, of STREAM and CHECK (21). -/

namespace Sys2Proof.Machine

/-- Why a host read was issued (R375). -/
inductive ReadUse where
  | commandFetch (channel : Nat)
  | table
  | descriptor (channel : Nat)
  | consumer
  | scan (unit : Nat)
  deriving DecidableEq, Repr, Inhabited

/-- A non-posted request of HOSTIF in flight (R373, R375). -/
structure HostRequest where
  id : Nat
  use : ReadUse
  address : Nat
  length : Nat
  deriving DecidableEq, Repr, Inhabited

/-- HOSTIF (R397) with its requests and the HDM decoder (R382). -/
structure Hostif where
  linkUp : Bool := false
  rate : Nat := 0
  width : Nat := 0
  cxl : Bool := false
  cacheEn : Bool := false
  linkDownCount : Nat := 0
  voidedCompletions : Nat := 0
  droppedWrites : Nat := 0
  droppedReads : Nat := 0
  bar2Refused : Nat := 0
  hdmCommitted : Bool := false
  hdmBase : Nat := 0
  hdmError : Bool := false
  requests : List HostRequest := []
  nextRequest : Nat := 0
  /-- Answers that have come back and that their users have not taken: request and answer. -/
  answers : List (HostRequest × Answer) := []
  deriving DecidableEq, Repr, Inhabited

/-- An entry of an activate-count table (R393). -/
structure ActEntry where
  bank : Nat
  row : Nat
  count : Nat
  deriving DecidableEq, Repr, Inhabited

/-- A line that a write of the piece sends to a bank: the bank and the row in its subchannel (R388, R390). -/
structure DramRequest where
  bank : Nat := 0
  row : Nat := 0
  deriving DecidableEq, Repr, Inhabited

/-- The scheduler of a subchannel (R390): requests in bank queues, oldest first, at most 16 of a bank; those that wait for a place;
the bank that the pointer stands at; and the open row that it serves with the column accesses made to it. -/
structure Subchannel where
  queued : List DramRequest := []
  waiting : List DramRequest := []
  pointer : Nat := 0
  serving : Option (Nat × Nat × Nat) := none
  deriving DecidableEq, Repr, Inhabited

/-- DMC (R398). -/
structure Dmc where
  frozen : Bool := false
  selfRefresh : Bool := false
  /-- FREEZE_CAUSE: 0 NONE, 1 DATA, 2 COMMAND. -/
  freezeCause : Nat := 0
  /-- CH_UP, one bit per channel. -/
  chUp : Nat := 0
  /-- 0: 4,800, 1: 5,600, 2: 6,400 MT/s. -/
  speed : Nat := 0
  gibPerChannel : Nat := 0
  rdimm : Bool := false
  ranks : Nat := 0
  ceCount : Nat := 0
  ueCount : Nat := 0
  freezeAddr : Nat := 0
  lastCeAddr : Nat := 0
  panicCount : Nat := 0
  panicActive : Nat := 0
  refreshForced : Nat := 0
  neighbourRefresh : Nat := 0
  actThreshold : Nat := 0x800
  hostRefused : Nat := 0
  /-- The channels are being trained (R387, R399). -/
  training : Bool := false
  /-- Initialisation under R645 has ended. -/
  initDone : Bool := false
  /-- Activate-count tables: at most 16 entries a bank. -/
  act : List ActEntry := []
  /-- The schedulers of the eight subchannels: channel c and subchannel s at 2 c + s (R388, R390). -/
  subs : List Subchannel := List.replicate 8 {}
  /-- Refresh intervals of debt (R392). -/
  refreshDebt : Nat := 0
  /-- Bulk requests promoted (R389), by port. -/
  promoted : List Nat := []
  /-- Device DRAM: canonical list of (address, byte); an unlisted byte reads zero (R645; log entry 5). -/
  dram : List Host.Cell := []
  deriving DecidableEq, Repr, Inhabited

/-- State of a stream channel (R522). -/
inductive ChannelState where
  | closed | idle | running | parked | halted | stopped
  deriving DecidableEq, Repr, Inhabited

/-- What a producer sends to a SOURCE channel (R523): a raw stamp record (`kind` 0) or a framed record; for sample blocks
also the samples, for VDIF channels. -/
structure StreamItem where
  channel : Nat := 0
  kind : Nat := 0
  /-- It belongs to the raw stamp log, which yields first to other demand on the memory (R34). -/
  rawLog : Bool := false
  panelType : Nat := 0
  inst : Nat := 0
  /-- Distinguishes the streams of one panel: DDC n, 8 for RAW. -/
  sub : Nat := 0
  record : Bytes := []
  /-- Samples in order, I before Q for a DDC stream. -/
  samples : List Int := []
  complex : Bool := false
  /-- Time of the first sample and sample period, 2⁻¹⁶ tick. -/
  time : T16 := 0
  period : Nat := 0
  /-- The marked span of the block: invalid from `invalidFrom` up to `firstValid` (R86, R109). -/
  invalidFrom : Nat := 0
  firstValid : Nat := 0
  deriving DecidableEq, Repr, Inhabited

/-- Progress of a VDIF channel (R541). -/
structure Vdif where
  panelType : Nat
  inst : Nat
  sub : Nat
  /-- The first frame has begun. -/
  started : Bool := false
  /-- Reference epoch and seconds of the first frame, and frames begun since. -/
  refEpoch : Nat := 0
  seconds : Nat := 0
  frames : Nat := 0
  framesPerSecond : Nat := 0
  complex : Bool := false
  /-- Sample codes of the frame in the making, and whether one of them is invalid. -/
  codes : List Nat := []
  invalid : Bool := false
  deriving DecidableEq, Repr, Inhabited

/-- The ring of a SOURCE channel (R535, R536, R538); `length` in 64-byte lines, 0 disabled. -/
structure StreamRing where
  base : Nat := 0
  length : Nat := 0
  consumerAddr : Nat := 0
  /-- CONSUMED as last read: pass and byte offset. -/
  consumedPass : Nat := 0
  consumedOff : Nat := 0
  pass : Nat := 0
  off : Nat := 0
  lastEnd : Nat := 0
  check : Nat := 0
  /-- A length that takes effect at the next wrap to offset 0 (R538). -/
  staged : Option Nat := none
  deriving DecidableEq, Repr, Inhabited

/-- A stream channel (R522 to R549). -/
structure StreamChannel where
  state : ChannelState := .closed
  source : Bool := false
  vdifMode : Bool := false
  hallmark : Bool := false
  alg : Nat := 0
  /-- 0 NONE, 1 ERR_READ, 2 ERR_WRITE, 3 ERR_DESC. -/
  err : Nat := 0
  owner : Nat := 0
  streamId : Nat := 0
  seed : Nat := 0
  /-- Address of the current or failed descriptor. -/
  desc : Nat := 0
  dropped : Nat := 0
  refused : Nat := 0
  bytes : Nat := 0
  extendPending : Bool := false
  /-- The engine has completed `desc` and follows its link word (R532). -/
  atLink : Bool := false
  /-- A read of that link word is in flight. -/
  linkIssued : Bool := false
  /-- The next descriptor is the first of its chain (R529). -/
  first : Bool := true
  /-- Running check value of the chain. -/
  running : Nat := 0
  ring : StreamRing := {}
  entrySeq : Nat := 0
  /-- Drops since the last GAP and MINT of the first (R537). -/
  lost : Nat := 0
  lostMint : Nat := 0
  /-- Entries in the staging store that wait for room, oldest first (R524): records, or whole VDIF frames as kind 256. -/
  staging : List StreamItem := []
  vdif : Option Vdif := none
  deriving DecidableEq, Repr, Inhabited

/-- STREAM. -/
structure Stream where
  channels : List StreamChannel := List.replicate 64 {}
  /-- Records on their way from the producers, in order of arrival (R523). -/
  arrivals : List StreamItem := []
  /-- The memory or the host link had no capacity left for the record that arrived last (R34, R35). -/
  pathFull : Bool := false
  deriving DecidableEq, Repr, Inhabited

/-- Parameters of a scan (R511). -/
structure Scan where
  alg : Nat := 0
  compare : Bool := false
  hallmark : Bool := false
  periodic : Bool := false
  period : Nat := 0
  start : Nat := 0
  length : Nat := 0
  expected : Nat := 0
  seed : Nat := 0
  session : Nat := 0
  deriving DecidableEq, Repr, Inhabited

/-- A check unit (R547, R550). -/
structure CheckUnit where
  /-- A pass runs. -/
  scanning : Bool := false
  /-- The scan in force; none: IDLE. -/
  scan : Option Scan := none
  /-- A scan that replaces the periodic one when its pass ends (R547). -/
  replacing : Option Scan := none
  alg : Nat := 0
  compare : Bool := false
  hallmark : Bool := false
  firmware : Bool := false
  value : Nat := 0
  mismatch : Nat := 0
  passes : Nat := 0
  /-- The tick at which the next periodic pass is due. -/
  due : Nat := 0
  deriving DecidableEq, Repr, Inhabited

/-- CHECK: eight units, unit 7 reserved to steward firmware (R547). -/
structure Check where
  units : List CheckUnit := List.replicate 7 ({} : CheckUnit) ++ [{ firmware := true }]
  deriving DecidableEq, Repr, Inhabited

end Sys2Proof.Machine
end

