-- ==== Sys2Proof/Machine/State/Net.lean ====
section
/-! DEFINITION. State of NET (22). -/

namespace Sys2Proof.Machine

/-- A delay-table entry (R562). -/
structure DelayEntry where
  peer : Nat := 0
  anyPeer : Bool := false
  dTx : Int := 0
  dRx : Int := 0
  asymFixed : Int := 0
  asymRatio : Int := 0
  deriving DecidableEq, Repr, Inhabited

/-- ROLE of a port (R553). -/
inductive PortRole where
  | disabled | up | down | standby
  deriving DecidableEq, Repr, Inhabited

/-- STATE of a port (R554). -/
inductive PortState where
  | off | noSignal | training | linked | active | blocked | fault
  deriving DecidableEq, Repr, Inhabited

/-- A Yarrath port. Times are Ledger labels in 2⁻⁴⁸ s; R in fs. -/
structure NetPort where
  role : PortRole := .disabled
  state : PortState := .off
  calibrated : Bool := false
  peerNode : Nat := 0
  peerJoined : Bool := false
  peerDetached : Bool := false
  theta : Int := 0
  r : Int := 0
  bad : Nat := 0
  good : Nat := 0
  table : List DelayEntry := []
  /-- SEQ of the next message sent; departures of the latest messages: SEQ, label at the ball in 2⁻⁴⁸ s, moment. -/
  txSeq : Nat := 0
  departures : List (Nat × Rat × T16) := []
  /-- The latest message received: SEQ and its arrival label at the ball. -/
  rxSeq : Option Nat := none
  rxLabel : Rat := 0
  /-- R of the latest good exchanges in 2⁻⁴⁸ s, newest first, at most 16. -/
  goodR : List Rat := []
  goodRun : Nat := 0
  badRun : Nat := 0
  /-- Queue of cross-triggers that wait for the frame (R566), oldest first, at most 16. -/
  queue : List Bytes := []
  /-- The node is a joined child of this piece. -/
  childJoined : Bool := false
  modulePresent : Bool := false
  lossOfSignal : Bool := false
  txFault : Bool := false
  deriving DecidableEq, Repr, Inhabited

/-- Pending alarm summary of an origin (R569). -/
structure Summary where
  origin : Nat := 0
  groups : Nat := 0
  fresh : Nat := 0
  seq : Nat := 0
  lastSent : Option Nat := none
  due : Bool := false
  deriving DecidableEq, Repr, Inhabited

/-- A joined node of the Net, kept by the root and by the pieces on its path: node, the port it lies behind, its PATH in ns. -/
structure NetNode where
  node : Nat
  port : Nat
  path : Nat
  deriving DecidableEq, Repr, Inhabited

/-- NET. -/
structure Net where
  nodeId : Nat := 0
  epoch : Nat := 0
  horizonExceeded : Bool := false
  sourcePresent : Bool := false
  detached : Bool := false
  root : Bool := false
  joined : Bool := false
  parent : Nat := 0xFFFF
  rootNode : Nat := 0
  horizon : Nat := 200
  /-- The horizon stored for use as a root (R558). -/
  storedHorizon : Option Nat := none
  /-- PATH in ns. -/
  path : Nat := 0
  nodes : Nat := 0
  xtrigSent : Nat := 0
  xtrigLate : Nat := 0
  xtrigCrc : Nat := 0
  xtrigDropped : Nat := 0
  /-- SEQ of the piece's own cross-triggers and summaries, wrapping. -/
  xtrigSeq : Nat := 0
  summarySeq : Nat := 0
  summaries : Nat := 0
  /-- ROOT_TIME_VALID of the latest announcement (R591). -/
  rootTimeValid : Bool := false
  ports : List NetPort := List.replicate 4 {}
  table : List Summary := []
  /-- The 16 latest summaries received, oldest first. -/
  latest : List Bytes := []
  /-- Joined nodes in the subtree of this piece; on the root, of the whole Net. -/
  members : List NetNode := []
  /-- The horizon is running for a join, a leave or a re-parent request since this tick. -/
  joinSince : Option Nat := none
  joinNode : Nat := 0
  leaveSince : Option Nat := none
  reparentSince : Option Nat := none
  /-- Requests forwarded to the root that await its answer, oldest first: joins, re-parents. -/
  joins : List NetNode := []
  reparents : List NetNode := []
  /-- The tick at which the latest epoch message arrived (R564): exchanges that span it are discarded. -/
  epochTick : Option Nat := none
  deriving DecidableEq, Repr, Inhabited

end Sys2Proof.Machine
end

