-- ==== Sys2Proof/Machine/State/Rf.lean ====
section
/-! DEFINITION. State of the RF path: RFIN (03), CHAN (04), XFORM (05) and DENSITY (06). -/

namespace Sys2Proof.Machine

/-- The front-end parameters of an input (R69). -/
structure FrontEnd where
  /-- dB. -/
  att : Nat := 30
  high : Bool := false
  tone : Bool := false
  toneN : Nat := 1
  deriving DecidableEq, Repr, Inhabited

/-- A front-end change on its way and the BLOCK_SEQ at which it takes effect (R72). -/
structure FrontChange where
  front : FrontEnd
  paired : Bool
  seq : Nat
  deriving DecidableEq, Repr, Inhabited

/-- A span of invalid samples (R85); without an end while it lasts. -/
structure Span where
  start : T16
  stop : Option T16
  reason : Nat
  deriving DecidableEq, Repr, Inhabited

/-- A slice rotation or the return of a slice (R78, R321): the slice that is matched or away, the step, and when the step
began. Step 1: S shadows the slice; 2: the slice is away; 3: the slice shadows S. -/
structure Rotation where
  slice : Nat
  step : Nat
  began : Nat
  /-- Blocks for which the incoming slice has shadowed. -/
  blocks : Nat := 0
  /-- The slice returns after a transient fault; it is no rotation (R599). -/
  returns : Bool := false
  deriving DecidableEq, Repr, Inhabited

/-- CONV_STATE (R87). -/
inductive ConvState where
  | idle | starting | running | failed
  deriving DecidableEq, Repr, Inhabited

/-- RFIN (R69 to R88). Slices are 0 A, 1 B, 2 S. -/
structure Rfin where
  conv : ConvState := .idle
  front : FrontEnd := {}
  paired : Bool := false
  /-- The unsampled partner of a pair. -/
  partner : Bool := false
  changes : List FrontChange := []
  /-- BLOCK_SEQ and start of the block that is being sampled. -/
  seq : Nat := 0
  start : T16 := 0
  /-- BLOCK_SEQ of the last completed block. -/
  lastSeq : Nat := 0
  overBlocks : Nat := 0
  handovers : Nat := 0
  matchFail : Nat := 0
  /-- The slices in the phases of A and of B. -/
  map : List Nat := [0, 1]
  /-- Bit j: slice j is retired. -/
  retired : Nat := 0
  /-- FAULT_ACTIVE (R81). -/
  unusable : Bool := false
  spans : List Span := []
  handoverDue : Bool := false
  calDue : Bool := false
  postJump : Bool := false
  rotation : Option Rotation := none
  /-- The slice that goes out next, and when the last rotation started. -/
  nextOut : Nat := 0
  rotated : Option Nat := none
  /-- Active slices with a detected fault, and the tick of each detection (R80). -/
  faulted : List (Nat × Nat) := []
  /-- BLOCK_SEQ of the block in which the latest front-end change took effect (R79). -/
  frontSeq : Option Nat := none
  /-- Trims of A, of B, of S in the place of A and of S in the place of B (R77). -/
  trims : List SliceTrim := List.replicate 4 { offset := 0, gain := 0, skew := 0 }
  /-- The front end before a full calibration switched to the tone (R317). -/
  saved : Option FrontEnd := none
  deriving DecidableEq, Repr, Inhabited

/-- A mixed input sample or stage output of a DDC with what it carries (R107, R109): `reason` non-zero where it is invalid, and then
the moment at which the span of that reason ends, where it is known. -/
structure Tap where
  re : Int := 0
  im : Int := 0
  reason : Nat := 0
  ends : Option T16 := none
  hand : Bool := false
  cal : Bool := false
  deriving DecidableEq, Repr, Inhabited

/-- The settings of a DDC (R96 to R101). -/
structure DdcSetting where
  invert : Bool := false
  /-- Bit 0 ACQ, bit 1 STREAM, bit 2 TRIGGER. -/
  route : Nat := 0
  k : Nat := 0
  ftw : Nat := 0
  phase : Nat := 0
  startMint : Nat := 0
  deriving DecidableEq, Repr, Inhabited

/-- What a DDC waits to do (R99, R100, R105). -/
inductive DdcChange where
  /-- Start at the input block boundary at this tick. -/
  | enable (s : DdcSetting) (tick : Nat)
  /-- A new FTW at the input block boundary at this tick. -/
  | tune (ftw tick : Nat)
  /-- New K, INVERT and routes at the start of this output block. -/
  | shape (s : DdcSetting) (seq : Nat)
  /-- Stop at the start of this output block. -/
  | disable (seq : Nat)
  deriving DecidableEq, Repr, Inhabited

/-- A DDC (R98 to R110). A bank of `none` is the default set (R105). -/
structure Ddc where
  en : Bool := false
  setting : DdcSetting := {}
  changes : List DdcChange := []
  /-- φ of the next input sample (R99). -/
  acc : Nat := 0
  banks : List (Option (List Int)) := [none, some []]
  bank : Nat := 0
  /-- A loaded bank awaits its swap at the start of this block (R104). -/
  swapAt : Option Nat := none
  /-- BLOCK_SEQ of the output block in the making, and of the last completed one. -/
  seq : Nat := 0
  lastSeq : Nat := 0
  /-- Time of the first sample in `fifo`. -/
  head : T16 := 0
  fifo : List Tap := []
  /-- Delay lines of the half-band stages and of the programmable stage, newest first. -/
  stages : List (List Tap) := []
  final : List Tap := []
  /-- Spans of CHAN's own in output samples left, with reasons (R108). -/
  spans : List (Nat × Nat) := []
  swapDue : Bool := false
  postJump : Bool := false
  deriving DecidableEq, Repr, Inhabited

/-- Settings of a crossing source (R111). -/
structure Xing where
  en : Bool := false
  /-- 0 RISING, 1 FALLING, 2 BOTH. -/
  slope : Nat := 0
  ddc : Nat := 0
  hyst : Nat := 0
  deriving DecidableEq, Repr, Inhabited

/-- The sample before, for crossings (R111). -/
structure XingSample where
  y : Int
  invalid : Bool
  sat : Bool
  time : T16
  deriving DecidableEq, Repr, Inhabited

/-- CHAN (R96 to R116). -/
structure Chan where
  rawRoute : Nat := 0
  xformSrc : Nat := 8
  /-- New routes in the order of their commands, each with the tick of the block boundary at which it applies (R460). -/
  routes : List (Nat × Nat × Nat) := []
  ddcs : List Ddc := List.replicate 8 {}
  xing : Xing := {}
  /-- New settings in the order of their commands, each with the first block of its DDC under it (R113). -/
  xingNext : List (Xing × Nat) := []
  riseArmed : Bool := false
  fallArmed : Bool := false
  last : Option XingSample := none
  lastCrossing : Option T16 := none
  crowdDue : Bool := false
  xingCount : Nat := 0
  suppressed : Nat := 0
  crowded : Nat := 0
  satBlocks : Nat := 0
  deriving DecidableEq, Repr, Inhabited

/-- A sample as a transform engine holds it (R131, R133); `post`: the first sample of a POSTJUMP block; `mem`: an uncorrectable error
of the working buffers touched it (R143). -/
structure XSample where
  re : Int := 0
  im : Int := 0
  bad : Bool := false
  hand : Bool := false
  cal : Bool := false
  sat : Bool := false
  post : Bool := false
  mem : Bool := false
  deriving DecidableEq, Repr, Inhabited

/-- Which stream an engine takes: 0 to 7 DDC n, 8 RAW; its sample period in 2⁻¹⁶ tick. -/
structure XInput where
  src : Nat := 8
  paired : Bool := false
  period : Nat := 16384
  deriving DecidableEq, Repr, Inhabited

/-- Settings of an engine (R144, R462). -/
structure XformSetting where
  len : Nat := 10
  window : Nat := 1
  kaiser : Nat := 0
  overlap : Nat := 0
  maskSrc : Nat := 0
  complexKind : Bool := false
  /-- Bit 0 DENSITY, bit 1 TALLY, bit 2 STREAM. -/
  route : Nat := 0
  streamCh : Nat := 0xFF
  startMint : Nat := 0
  every : Nat := 0
  binFirst : Nat := 0
  binCount : Nat := 0
  deriving DecidableEq, Repr, Inhabited

/-- The flags of a frame (R133). -/
structure FrameFlags where
  zero : Bool := false
  cfgChange : Bool := false
  hand : Bool := false
  coast : Bool := false
  post : Bool := false
  cal : Bool := false
  sat : Bool := false
  tainted : Bool := false
  part : Bool := false
  memErr : Bool := false
  deriving DecidableEq, Repr, Inhabited

/-- Settings of a detector slot (R134). -/
structure DetectorSetting where
  en : Bool := false
  type : Nat := 0
  alpha : Nat := 0
  route : Nat := 0
  count : Nat := 1
  deriving DecidableEq, Repr, Inhabited

/-- An open group of a detector slot (R134, R135): first frame, frames counted, untainted frames used, and per bin the sums of
p, p² and P, the greatest, least and last P. -/
structure Group where
  firstSeq : Nat := 0
  firstTime : T16 := 0
  label : Nat := 0
  coast : Bool := false
  count : Nat := 0
  used : Nat := 0
  flags : FrameFlags := {}
  sumP : List Rat := []
  sumP2 : List Rat := []
  sumLog : List Int := []
  greatest : List Int := []
  least : List Int := []
  last : List Int := []
  deriving DecidableEq, Repr, Inhabited

/-- A detector slot. -/
structure Detector where
  setting : DetectorSetting := {}
  /-- New settings in the order of their commands, each with the tick from which a frame's last sample opens it (R464). -/
  next : List (DetectorSetting × Nat) := []
  seq : Nat := 0
  lastSeq : Nat := 0
  group : Group := {}
  /-- q of RMS, MAX_HOLD and MIN_HOLD per bin since the slot was set. -/
  rms : List Rat := []
  maxHold : List Int := []
  minHold : List Int := []
  deriving DecidableEq, Repr, Inhabited

/-- A grid that is to follow the grid in the making once that has ended (R124, R145): its settings, its restarts to come, the time
from which on it begins, whether it begins with a block, whether it continues FRAME_SEQ with CFG_CHANGE, and the tick at which it
is disabled. -/
structure NextGrid where
  setting : XformSetting := {}
  next : List (XformSetting × Nat) := []
  from_ : T16 := 0
  fromBlock : Bool := true
  continues : Bool := false
  ending : Option Nat := none
  deriving DecidableEq, Repr, Inhabited

/-- XFORM (R117 to R145). -/
structure Xform where
  en : Bool := false
  setting : XformSetting := {}
  /-- New settings in the order of their commands, each with the tick of its restart sample (R125). -/
  next : List (XformSetting × Nat) := []
  input : XInput := {}
  /-- Samples from the first of the next frame on, and the time of the first. -/
  buffer : List XSample := []
  head : T16 := 0
  /-- The grid has not begun: its first sample is the first at or after this time, or begins the first block that does (R124). -/
  from_ : Option T16 := none
  fromBlock : Bool := false
  /-- The grids that are to follow, and the blocks that have come since the first of them was noted. -/
  after : List NextGrid := []
  backlog : List (XInput × T16 × List XSample) := []
  /-- Settings stored by EN = 0 while the last frame is in the making (R126, R462). -/
  parked : Option XformSetting := none
  /-- Number of the grid in the making, which its commands wait on. -/
  gridId : Nat := 0
  /-- A new input and its samples that wait for the restart (R125). -/
  incoming : Option (XInput × T16 × List XSample) := none
  /-- A disable took effect at this tick (R126). -/
  ending : Option Nat := none
  cfgChange : Bool := false
  /-- A POSTJUMP sample was dropped before a frame began at or after it (R133). -/
  postDue : Bool := false
  frameSeq : Nat := 0
  lastSeq : Nat := 0
  lastMint : Nat := 0
  lastExp : Int := 0
  tainted : Nat := 0
  overFrames : Nat := 0
  memErrors : Nat := 0
  /-- The custom table (R122). -/
  custom : Option (List Nat) := none
  detectors : List Detector := List.replicate 4 {}
  deriving DecidableEq, Repr, Inhabited

/-- What an engine hands to DENSITY, TALLY and TRIGGER: source 0 FRAME, 1 to 4 DET0 to DET3 (R146). -/
structure SpectrumItem where
  src : Nat := 0
  seq : Nat := 0
  mint : Nat := 0
  label : Nat := 0
  flags : FrameFlags := {}
  values : List Int := []
  deriving DecidableEq, Repr, Inhabited

/-- A readout of a histogram (R153 to R158). -/
structure DensityReadout where
  dest : Nat := 0
  decay : Nat := 0
  clear : Bool := false
  /-- The cut has been made. -/
  cut : Bool := false
  snapSeq : Nat := 0
  items : Nat := 0
  missed : Nat := 0
  firstMint : Nat := 0
  lastMint : Nat := 0
  /-- FLAGS of R157 at the cut but ABORTED. -/
  flags : Nat := 0
  bank : Nat := 0
  deriving DecidableEq, Repr, Inhabited

/-- A channel of DENSITY (R146 to R165). -/
structure DensityChannel where
  en : Bool := false
  pingpong : Bool := false
  src : Nat := 0
  colShift : Int := 0
  step : Nat := 10
  top : Int := 0
  binLo : Nat := 0
  /-- DENSITY_CONFIGURE has cleared the cells since reset (R151, R165). -/
  cleared : Bool := false
  /-- Cells with a count: (bank, row × 4096 + column, count). -/
  cells : List ((Nat × Nat) × Nat) := []
  bank : Nat := 0
  sat : Bool := false
  geomFault : Bool := false
  cfgChange : Bool := false
  memErr : Bool := false
  items : Nat := 0
  missed : Nat := 0
  missedTotal : Nat := 0
  rejected : Nat := 0
  firstMint : Nat := 0
  lastMint : Nat := 0
  snapSeq : Nat := 0
  readout : Option DensityReadout := none
  /-- Spectrogram ring (R160): rows 0 disabled. -/
  ringBase : Nat := 0
  ringRows : Nat := 0
  every : Nat := 1
  rowsPending : Option Nat := none
  accepted : Nat := 0
  rowSeq : Nat := 0
  rowsDropped : Nat := 0
  arrivals : List SpectrumItem := []
  deriving DecidableEq, Repr, Inhabited

/-- DENSITY. -/
structure Density where
  channels : List DensityChannel := List.replicate 4 {}
  memErrors : Nat := 0
  deriving DecidableEq, Repr, Inhabited

end Sys2Proof.Machine
end

