-- ==== Sys2Proof/Machine/State/Safety.lean ====
section
/-! DEFINITION. State of SAFETY: alarm bank, fault journal, strongroom, self-tests (24); of bring-up and firmware (25, 20). -/

namespace Sys2Proof.Machine

/-- The alarm codes of R605 in ascending order. -/
def alarmCatalogue : List Nat :=
  [0x0000, 0x0001, 0x0002, 0x0003, 0x0100, 0x0101, 0x0102, 0x0200, 0x0201, 0x0202, 0x0300,
   0x0400, 0x0401, 0x0402, 0x0403, 0x0404, 0x0405, 0x0500, 0x0501, 0x0502, 0x0600, 0x0601,
   0x0700, 0x0701, 0x0800, 0x0801, 0x0802, 0x0900, 0x0A00, 0x0A01]

/-- A per-code counter of dropped journal entries in an incident (R607). -/
structure DropCount where
  code : Nat
  count : Nat
  firstMint : Nat
  lastMint : Nat
  deriving DecidableEq, Repr, Inhabited

/-- A journal incident in progress (R607): the frozen entries, when it began, and the counters of dropped entries. -/
structure Incident where
  frozen : List JournalEntry := []
  began : Nat := 0
  drops : List DropCount := []
  deriving DecidableEq, Repr, Inhabited

/-- What was read into the strongroom (R610, R611). -/
structure Dump where
  cause : Nat := 0
  mint : Nat := 0
  label : Nat := 0
  code : Nat := 0
  bytes : Bytes := []
  deriving DecidableEq, Repr, Inhabited

/-- A dump that the steward is writing (R610). -/
structure DumpPending where
  cause : Nat
  mint : Nat
  label : Nat
  code : Nat
  deriving DecidableEq, Repr, Inhabited

/-- A fault of an element, for the rule of the fourth transient within 10 s (R599). -/
structure ElementFault where
  element : Element
  mint : Nat
  deriving DecidableEq, Repr, Inhabited

/-- A targeted self-test: its element, whether it is running, whether a new error already failed it, whether the host ran
it (R598 to R600). -/
structure SelfTest where
  element : Element
  running : Bool := false
  failed : Bool := false
  hostRun : Bool := false
  deriving DecidableEq, Repr, Inhabited

/-- SAFETY (24). -/
structure Safety where
  alarms : List AlarmEntry := alarmCatalogue.map fun c => { code := c }
  /-- SAFE_ALARM_FIRSTS, wrapping (R639). -/
  firsts : Nat := 0
  safeState : Bool := false
  faultMask : Nat := 0x00AF
  /-- Rolling entries of the journal, oldest first (R606, R607). -/
  journal : List JournalEntry := []
  journalNext : Nat := 0
  incident : Option Incident := none
  /-- Mint counts of the latest 64 entries, newest first. -/
  recent : List Nat := []
  journalDropped : Nat := 0
  persistent : List JournalEntry := []
  transients : Nat := 0
  retired : Nat := 0
  retirements : List Element := []
  selftests : Nat := 0
  /-- Tests that wait for their start or run, oldest first. -/
  tests : List SelfTest := []
  /-- Rows that spare rows serve, two to an array of 1,024 rows (R596). -/
  mappedRows : List Element := []
  /-- Transient verdicts of the last 10 s, and lockstep errors (R599, R601). -/
  transientLog : List ElementFault := []
  lockstepLog : List Nat := []
  /-- Islands with an island clock fault (R595). -/
  deadIslands : List Nat := []
  /-- The last tick until which a tap's error counts under R591 (1 ms after it). -/
  tapBadUntil : Nat := 0
  dump : Option Dump := none
  /-- A dump that a reset of the piece found in the strongroom and that firmware has not yet looked at (R612). -/
  strongroom : Option Dump := none
  /-- VDD_SRAM has left its window since power-up or the last reset (R612, R628). -/
  sramLost : Bool := false
  dumpPending : Option DumpPending := none
  dumpSeq : Nat := 0
  dumpsSuppressed : Nat := 0
  /-- The host region for dump copies (R519): address and length, 0 disabled. -/
  regionAddr : Nat := 0
  regionLen : Nat := 0
  releaseArmed : Bool := false
  deriving DecidableEq, Repr, Inhabited

/-- Bring-up phases with the codes of R619. -/
inductive Phase where
  | boot | memory | waitRef | synth | calibrate | ready | halted
  deriving DecidableEq, Repr, Inhabited

/-- Bring-up and firmware update (R618 to R622, R521). -/
structure Boot where
  /-- SYS_RESET_N is high and the steward island has left reset (R618). -/
  released : Bool := false
  phase : Phase := .boot
  ready : Bool := false
  /-- The Pricking is complete (R402). -/
  pricking : Bool := false
  /-- The slot that the boot ROM loads, and whether it is the second try (R618). -/
  slot : Nat := 0
  secondTry : Bool := false
  /-- The slot selector of the flash (0x00FF_F000). -/
  selector : Nat := 0
  /-- The image bytes that updates have written into the two slots; a slot never written holds the factory image. -/
  images : List (Option Bytes) := [none, none]
  /-- An open update: its length, the bytes written so far by offset, in order. -/
  updateOpen : Bool := false
  updateLen : Nat := 0
  updateBytes : List Host.Cell := []
  /-- The tick from which WAIT_REF may retry (R620). -/
  retryAt : Option Nat := none
  deriving DecidableEq, Repr, Inhabited

end Sys2Proof.Machine
end

