-- ==== Sys2Proof/Machine/State/Tally.lean ====
section
/-! DEFINITION. State of TALLY (11) and of its counter slots (10). -/

namespace Sys2Proof.Machine

/-- CLASS of a context (R298). -/
inductive TallyClass where
  | sum | regr | hist | pair | spec | ext
  deriving DecidableEq, Repr, Inhabited

/-- The data fields of a context (R300 to R304): those that its class names are in use. Binary64 sums are kept as their bit
patterns. -/
structure TallyData where
  count : Nat := 0
  sum : Int := 0
  sumSq : Nat := 0
  least : Int := 0
  greatest : Int := 0
  base : Int := 0
  under : Nat := 0
  above : Nat := 0
  buckets : List Nat := List.replicate 8 0
  /-- REGR: SEQ0 and T0 once the first stamp is taken, the extended SEQ of the last. -/
  seq0 : Nat := 0
  t0 : T16 := 0
  began : Bool := false
  prescale : Nat := 0
  lastSeq : Nat := 0
  period : Nat := 0
  sumX : Nat := 0
  sumXX : Nat := 0
  sumXD : Int := 0
  sumDD : Nat := 0
  /-- PAIR: the start held. -/
  start : Option T16 := none
  noStop : Nat := 0
  noStart : Nat := 0
  /-- SPEC. -/
  s1 : Nat := 0
  s2 : Nat := 0
  firstMint : Nat := 0
  lastMint : Nat := 0
  firstSeq : Nat := 0
  deriving DecidableEq, Repr, Inhabited

/-- A context that is not FREE (R298). -/
structure Context where
  index : Nat := 0
  cls : TallyClass := .sum
  sticky : Nat := 0
  binding : Nat := 0
  param : Nat := 0
  data : TallyData := {}
  /-- The previous stamp that the context took: SEQ and time (R299). -/
  ref : Option (Nat × T16) := none
  /-- The tick from which updates count (R306). -/
  from_ : Nat := 0
  deriving DecidableEq, Repr, Inhabited

/-- A snapshot in progress (R310, R311): the frozen contexts once the cut is made; `marks` holds the bindings that have
delivered an update at or after the cut. -/
structure TallySnap where
  seq : Nat := 0
  first : Nat := 0
  count : Nat := 0
  clear : Bool := false
  share : Bool := false
  dest : Nat := 0
  cutMint : Nat := 0
  cut : Bool := false
  /-- The cut as applied. -/
  cutAt : Nat := 0
  label : Nat := 0
  /-- Contexts as they stand before a cut that lies ahead, while updates after it run on. -/
  frozen : List Context := []
  /-- The working sums of the running counter slots as the cut found them (R257). -/
  sums : List (Option (List Rat)) := []
  /-- Bindings that have delivered an update at or after the cut. -/
  marks : List Nat := []
  /-- REGR contexts whose shared stamp has come (R311). -/
  shared : List Nat := []
  deriving DecidableEq, Repr, Inhabited

/-- A post on its way (R309): core, context, value, tick of arrival. -/
structure TallyPost where
  core : Nat := 0
  context : Nat := 0
  value : Int := 0
  at_ : Nat := 0
  deriving DecidableEq, Repr, Inhabited

/-- A SPEC item on its way with its XFORM instance. -/
structure TallyItem where
  inst : Nat := 0
  item : SpectrumItem := {}
  deriving DecidableEq, Repr, Inhabited

/-- The window of a slot in fs (R270). -/
structure CountWindow where
  armSrc : Nat := 0xFF
  armEdge : Bool := false
  openDelay : Nat := 0
  width : Nat := 10 ^ 15
  winMin : Int := -(10 ^ 10)
  winMax : Int := 10 ^ 18
  deriving DecidableEq, Repr, Inhabited

/-- The parameters of COUNT_START (R259, R479). -/
structure CountSetting where
  function : Nat := 0
  src : Nat := 0
  stopSrc : Nat := 0xFF
  startEdge : Bool := false
  stopEdge : Bool := false
  gateEdge : Bool := false
  negative : Bool := false
  signed : Bool := false
  align : Bool := false
  continuous : Bool := false
  mode : Nat := 0
  gateSrc : Nat := 0xFF
  gate : Nat := 0
  startMint : Nat := 0
  gates : Nat := 0
  statsN : Nat := 0
  eventRing : Bool := false
  stream : Bool := false
  streamCh : Nat := 0
  /-- NOMINAL as its binary64 bits. -/
  nominal : Nat := 0
  deriving DecidableEq, Repr, Inhabited

/-- A moment of a gate as it was passed: its time, its Ledger label, ∫(ρ + σ) dM up to it, Ledger steps before it and up to
it, and whether the Ledger was coasting (R282 to R284). -/
structure GateMark where
  time : T16 := 0
  label : Nat := 0
  rate : Int := 0
  steps : Nat := 0
  epoch : Nat := 0
  coast : Bool := false
  deriving DecidableEq, Repr, Inhabited

/-- A gate in progress or waiting for its end (R262 to R266). -/
structure Gate where
  seq : Nat := 0
  /-- B_g, and B_{g+1} and B_{g+2} once they are known. -/
  b0 : T16 := 0
  b1 : Option T16 := none
  b2 : Option T16 := none
  /-- Single-source functions: the stamps taken in order of time, and whether the last is the end stamp. -/
  stamps : List Stamp := []
  endTaken : Bool := false
  /-- Start and end of the gate as passed (R286). -/
  first : Option GateMark := none
  last : Option GateMark := none
  /-- Item functions: the items in order. -/
  items : List Rat := []
  noStop : Nat := 0
  noStart : Nat := 0
  rejected : Nat := 0
  outwin : Nat := 0
  /-- Records with CROWD, missing SEQ numbers, and the union of the flags of the records taken or passed over. -/
  crowd : Nat := 0
  gap : Nat := 0
  flags : Nat := 0
  merged : Bool := false
  deriving DecidableEq, Repr, Inhabited

/-- An opening of the acceptance window (R271) with the first start and stop seen in it; its bounds in fs / 65,536. -/
structure Opening where
  start : Int
  stop : Int
  first : Option Stamp := none
  second : Option Stamp := none
  seenStop : Bool := false
  /-- Its item has been formed or rejected, or its counts are decided. -/
  done : Bool := false
  deriving DecidableEq, Repr, Inhabited

/-- Something that happened to a slot's sources, or to FREQ_VALID, over a span of ticks, with its INVALID_CAUSE (R279). -/
structure SlotMark where
  start : Nat
  stop : Option Nat
  cause : Nat
  deriving DecidableEq, Repr, Inhabited

/-- A result for statistics (R287): the record's fields that the block needs. -/
structure CountResult where
  gateSeq : Nat := 0
  flags : Nat := 0
  cause : Nat := 0
  startMint : Nat := 0
  startLabel : Nat := 0
  endMint : Nat := 0
  epoch : Nat := 0
  length : Rat := 0
  value : Rat := 0
  aux : Rat := 0
  rate : Rat := 0
  crowd : Nat := 0
  gap : Nat := 0
  noStop : Nat := 0
  noStart : Nat := 0
  rejected : Nat := 0
  outwin : Nat := 0
  deriving DecidableEq, Repr, Inhabited

/-- STATE and STOP_CAUSE of a slot (R294). -/
inductive SlotState where
  | idle | running | stopped
  deriving DecidableEq, Repr, Inhabited

/-- A counter slot (R256 to R295). -/
structure CountSlot where
  setting : CountSetting := {}
  window : CountWindow := {}
  state : SlotState := .idle
  cause : Nat := 0
  /-- COUNT_START takes effect at this tick (R261); none once it has. -/
  startAt : Option Nat := none
  effectAt : Nat := 0
  /-- Stamps in the ordering stage, in order of time (R267). -/
  ordering : List Stamp := []
  gates : List Gate := []
  gateSeq : Nat := 0
  /-- EVENTS: the SEQ of the latest accepted stamp, the stamps since SEQ₀ by their SEQ, and the multiple of GATE that the next
  boundary needs. -/
  eventSeq : Option Nat := none
  eventCount : Nat := 0
  multiple : Nat := 0
  /-- The latest SEQ of each measured source. -/
  lastSeqs : List (Nat × Nat) := []
  /-- Missing SEQ numbers and records with CROWD passed over since the last stamp taken (R286). -/
  passedGap : Nat := 0
  passedCrowd : Nat := 0
  /-- Pairing state (R275 to R277). -/
  held : List Stamp := []
  heldB : Option Stamp := none
  openings : List Opening := []
  /-- The stop tick of a COUNT_STOP, and of a loss with its cause. -/
  stopAt : Option Nat := none
  lossAt : Option (Nat × Nat) := none
  marks : List SlotMark := []
  /-- Results collected for the next statistics record. -/
  block : List CountResult := []
  merged : Nat := 0
  invalid : Nat := 0
  lost : Nat := 0
  lostSince : Nat := 0
  /-- A record has been issued since the last COUNT_START (R290). -/
  issued : Bool := false
  last : Option Bytes := none
  lastStats : Option Bytes := none
  lastFlags : Nat := 0
  lastCause : Nat := 0
  deriving DecidableEq, Repr, Inhabited

/-- A record that waits for its issue (R288): slot, the tick of its gate's close, the record, whether it is a statistics
record. -/
structure CountRecord where
  slot : Nat
  closed : Nat
  record : Bytes
  stats : Bool
  deriving DecidableEq, Repr, Inhabited

/-- TALLY. -/
structure Tally where
  clearing : Bool := true
  contexts : List Context := []
  watch : List (Nat × Nat) := []
  memErrors : Nat := 0
  specDropped : Nat := 0
  postRejected : Nat := 0
  snapSeq : Nat := 0
  snaps : List (Option TallySnap) := List.replicate 4 none
  /-- Updates on their way (R296). -/
  stamps : List Stamp := []
  /-- Stamps of PAIR contexts in the ordering stage, in order of time (R303). -/
  pairStamps : List Stamp := []
  items : List TallyItem := []
  posts : List TallyPost := []
  slots : List CountSlot := List.replicate 32 {}
  results : List CountRecord := []
  /-- The tick of the last record issued (R288). -/
  issuedAt : Option Nat := none
  resultsLost : Nat := 0
  deriving DecidableEq, Repr, Inhabited

end Sys2Proof.Machine
end

