-- ==== Sys2Proof/Machine/State/Time.lean ====
section
/-! DEFINITION. State of CLOCKS and LEDGER (02), and of MONITOR (03 R89 to R95). -/

namespace Sys2Proof.Machine

/-- SYNTH_STATE (R67). -/
inductive SynthState where
  | off | wait | locked | failed
  deriving DecidableEq, Repr, Inhabited

/-- STATE of LEDGER_STATUS (R67). -/
inductive LedgerState where
  | unset | free | locked | slewing | coast | jumpPending
  deriving DecidableEq, Repr, Inhabited

/-- An entry of the synthesizer's band table (R43). -/
structure Band where
  valid : Bool := false
  fLow : Nat := 0
  fHigh : Nat := 0
  capCode : Nat := 0
  biasCode : Nat := 0
  tempSlope : Int := 0
  deriving DecidableEq, Repr, Inhabited

/-- The settings of a clock output (R49). DESIGN CHOICE: the spec gives no DIVIDER at reset; 2 is the least a MINT_DIV output can
have (log entry 6). -/
structure ClkSetting where
  en : Bool := false
  refCopy : Bool := false
  divider : Nat := 2
  phase : Nat := 0
  skew : Nat := 0
  deriving DecidableEq, Repr, Inhabited

/-- A clock output (R49, R50): the setting that runs or is armed, the moments at which it started and stops, and a setting on
its way to the time root. -/
structure Clkout where
  setting : ClkSetting := {}
  /-- The rising-edge tick from which the output runs. -/
  startsAt : Option Nat := none
  /-- The tick from which it stays low again. -/
  stopsAt : Option Nat := none
  /-- What replaces it after the stop. -/
  next : Option ClkSetting := none
  pending : Option ClkSetting := none
  /-- A REF_COPY output that starts at the next rising-edge position of REFIN divided by DIVIDER. -/
  armed : Bool := false
  /-- The level of a REF_COPY output. -/
  high : Bool := false
  deriving DecidableEq, Repr, Inhabited

/-- PPSOUT (R51). -/
structure Ppsout where
  en : Bool := false
  widthUs : Nat := 20
  /-- EN and PPS_WIDTH on their way to the time root. -/
  pending : Option (Bool × Nat) := none
  /-- From the first second boundary with EN to the end of the last pulse (R67). -/
  running : Bool := false
  /-- The fine delay of the latest rising edge behind its tick, in steps of 6.1 ps. -/
  fine : Nat := 0
  level : Bool := false
  lastRise : Option Nat := none
  deriving DecidableEq, Repr, Inhabited

/-- TCODE_OUT (R66) and TCODE_IN (R65). -/
structure Timecode where
  outEn : Bool := false
  format : Nat := 0
  control : Nat := 0
  utcOffset : Int := 0
  /-- A new offset and the Ledger second from which it applies. -/
  pendingOffset : Option (Int × Nat) := none
  /-- A TIMECODE_SET has given an offset since reset (R541). -/
  offsetSet : Bool := false
  running : Bool := false
  /-- The frame that the encoder sends: the tick of its on-time edge, and the high time of each 10 ms element in ms. -/
  frameStart : Nat := 0
  frame : List Nat := []
  /-- The tick of the last valid TCODE_IN frame while it lies within 2 s. -/
  lastIn : Option Nat := none
  deriving DecidableEq, Repr, Inhabited

/-- CLOCKS. `mint` is the Mint count (R45). -/
structure Clocks where
  mint : Nat := 0
  mintRun : Bool := false
  vcxo : Bool := false
  /-- 0: 5 MHz, 1: 10 MHz, 2: 100 MHz (R498). DESIGN CHOICE: the spec gives none at reset; 10 MHz (log entry 6). -/
  refinFreq : Nat := 1
  square : Bool := false
  ppsWindowNs : Nat := 1000
  refinPresent : Bool := false
  /-- Consecutive good and bad REFIN cycles (R40). -/
  refinGood : Nat := 0
  refinBad : Nat := 0
  /-- Rising edges of REFIN since reset, from which REF_COPY outputs count (R50). -/
  refinEdges : Nat := 0
  ppsPresent : Bool := false
  ppsAnchor : Option T16 := none
  /-- ∫(ρ + σ) dM at the anchor (R41; log entry 58). -/
  ppsAnchorRate : Int := 0
  ppsGood : Nat := 0
  ppsBad : Nat := 0
  /-- The number of windows after the anchor that have yielded their verdict. -/
  ppsWindows : Nat := 0
  synth : SynthState := .off
  /-- Consecutive windows within tolerance since the unlock (R46). -/
  relockWindows : Nat := 0
  lockWait : Nat := 0x7D0
  /-- The temperature code of the latest band choice (R500). -/
  bandTemp : Nat := 0
  band : Nat := 0
  bands : List Band := List.replicate 64 {}
  refinLossCount : Nat := 0
  ppsinLossCount : Nat := 0
  tcodeErrors : Nat := 0
  unlockCount : Nat := 0
  clkouts : List Clkout := List.replicate 4 {}
  ppsout : Ppsout := {}
  timecode : Timecode := {}
  /-- The accumulator of the sigma-delta modulator and the bit on the VCXO_TUNE ball (R52). -/
  tuneAcc : Nat := 0
  tuneBit : Bool := false
  deriving DecidableEq, Repr, Inhabited

/-- A running slew (R55): the amount in units of 1/(2^80 × 2,560,000,000) s still to be corrected at `start`, and the tick of
its end. -/
structure Slew where
  start : Nat
  stop : Nat
  delta : Int
  deriving DecidableEq, Repr, Inhabited

/-- A change of ρ or σ that waits for its 64 µs (R54). -/
structure HeldChange where
  /-- Added to ρ (LEDGER_STEER) or the new ρ (the loop). -/
  rhoAdd : Int := 0
  rhoSet : Option Int := none
  /-- A phase correction in 2⁻⁴⁸ s to be run as a slew, and whether it may run. -/
  slew : Option Int := none
  /-- The loop asked for a ρ outside its range and takes the end of the range (R57). -/
  limited : Bool := false
  /-- Whether it belongs to a LEDGER_STEER, whose command completes with the anchor tick. -/
  command : Bool := false
  deriving DecidableEq, Repr, Inhabited

/-- A LEDGER_SET_EPOCH or STEP that waits (R58, R62, R502): the tick, or the next good pulse. -/
structure EpochWait where
  atMint : Option Nat := none
  /-- The new L in 2⁻⁴⁸ s. -/
  label : Int := 0
  deriving DecidableEq, Repr, Inhabited

/-- The holdover model (R60). -/
structure Holdover where
  u0 : Nat := 1000
  y : Nat := 10000
  d : Nat := 0
  ct : Nat := 0
  vcxoGain : Int := 19073
  timeLimit : Nat := 100000
  deriving DecidableEq, Repr, Inhabited

/-- A holdover estimate (R60): the Mint count at which t is 0, and u(0), T₀ and the integral since then. -/
structure Estimate where
  start : Nat := 0
  /-- u(0) in ps. -/
  u0 : Nat := 1000
  startTemp : Int := 0
  /-- The integral of |T − T₀| in 1/16 °C × ticks, and the tick up to which it is taken. -/
  tempIntegral : Nat := 0
  upTo : Nat := 0
  deriving DecidableEq, Repr, Inhabited

/-- LEDGER (02). -/
structure Ledger where
  current : Mapping := {}
  previous : Mapping := {}
  /-- The mappings before, latest first: a label of any past moment is by the mapping then in force (R54). -/
  older : List Mapping := []
  /-- The tick of the latest mapping change, for the spacing of R54. -/
  changedAt : Option Nat := none
  heldChanges : List HeldChange := []
  slew : Option Slew := none
  state : LedgerState := .unset
  source : TimeSource := .none
  sourcePresent : Bool := false
  refInvalid : Bool := false
  refJump : Bool := false
  rateLimit : Bool := false
  epochCount : Nat := 0
  lastDelta : Int := 0
  /-- u in ps, saturating at 32 bits. -/
  uncert : Nat := 0xFFFFFFFF
  /-- The latest evaluation lies below TIME_LIMIT (R61). -/
  withinLimit : Bool := false
  coastStart : Option Nat := none
  /-- The holdover estimate of FREE, from the latest LEDGER_SET_EPOCH or LEDGER_STEER (R59). -/
  freeEstimate : Estimate := {}
  /-- The holdover estimate of a coast, from its start (R60). -/
  coastEstimate : Estimate := {}
  tuneCode : Nat := 0x80000
  integ : Rat := 0
  lastMeasure : Option T16 := none
  loopTau : Nat := 100
  /-- ps/s. -/
  slewMax : Nat := 1000
  /-- ps. -/
  capture : Nat := 2000
  holdover : Holdover := {}
  epochWait : Option EpochWait := none
  mismatch : Bool := false
  /-- The time source was lost and is not yet regained (R64). -/
  lost : Bool := false
  /-- The latest evaluation reached TIME_LIMIT, so that HOLDOVER_LIMIT is latched for it (R61). -/
  limitReached : Bool := false
  /-- The tick of the latest step (R58). -/
  stepTick : Option Nat := none
  /-- ∫(ρ + σ) dM up to the anchor of the current mapping, dM in 2⁻¹⁶ tick (R283). -/
  rateSum : Int := 0
  /-- Start and end of the latest coast that has ended (R284). -/
  lastCoast : Nat × Nat := (0, 0)
  /-- A REF_SELECT that waits for the Mint to count (R39) keeps its body here. -/
  refSelect : Option Bytes := none
  deriving DecidableEq, Repr, Inhabited

/-- A running or waiting monitor conversion (R91 to R94). -/
structure Conversion where
  channel : Nat
  urgent : Bool := false
  /-- SAFETY requested it. -/
  safety : Bool := false
  deriving DecidableEq, Repr, Inhabited

/-- A MONITOR_RESULT (R95). -/
structure MonitorResult where
  seq : Nat := 0
  urgent : Bool := false
  code : Nat := 0
  /-- The Mint count of the sampling instant, the start of the slot. -/
  mint : Nat := 0
  deriving DecidableEq, Repr, Inhabited

/-- MONITOR (03). -/
structure Monitor where
  running : Bool := true
  sequence : List Nat := List.range 32
  idle : Nat := 0
  tc80 : Bool := false
  /-- A sequence, mode and idle that take effect at the next frame start (R90). -/
  pending : Option (List Nat × Nat × Bool) := none
  slot : Nat := 0
  /-- The tick at which the slot began. -/
  slotBegan : Nat := 0
  /-- An urgent conversion that holds the slot; none: the slot's scheduled conversion. -/
  conversion : Option Conversion := none
  /-- The latest urgent result: SAFETY asked, channel, code (R92). -/
  urgentResult : Option (Bool × Nat × Nat) := none
  waiting : List Conversion := []
  /-- Slots by which TC80 conversions have shifted the running frame (R94). -/
  shift : Nat := 0
  frameCount : Nat := 0
  urgentDropped : Nat := 0
  schedSkipped : Nat := 0
  urgentDelayed : Nat := 0
  results : List MonitorResult := List.replicate 40 {}
  deriving DecidableEq, Repr, Inhabited

end Sys2Proof.Machine
end

