-- ==== Sys2Proof/Machine/State/Transport.lean ====
section
/-! DEFINITION. State of the steward, the mailboxes, the lock bank, sessions, claims and commands in flight (17, 18), of the
registers' shadows and MSI-X (27). -/

namespace Sys2Proof.Machine

/-- A notice in a queue (R418, R424): who sent it, when it entered, and its timer (0: never). -/
structure Queued where
  notice : Notice := {}
  sender : Requester := .host0
  entered : Nat := 0
  timeout : Nat := 0
  expired : Bool := false
  stale : Bool := false
  deriving DecidableEq, Repr, Inhabited

/-- The words [127:32] that a take left for a requester (R421); `high` alone is left after a 64-bit read. -/
structure Capture where
  requester : Nat
  words : List Nat
  deriving DecidableEq, Repr, Inhabited

/-- A mailbox channel (R414, R428). -/
structure Channel where
  /-- Staged notice words 0x00 to 0x0C. -/
  staging : List Nat := [0, 0, 0, 0]
  outq : List Queued := []
  inq : List Queued := []
  /-- Notices the steward holds for a full inbound queue (R423). -/
  held : List Notice := []
  rejectedBit : Bool := false
  fullRefused : Bool := false
  voided : Bool := false
  timeout : Bool := false
  peerResetSeen : Bool := false
  /-- STALE_COUNT (R427). -/
  staleCount : Nat := 0
  timeoutTx : Nat := 0
  timeoutRx : Nat := 0
  voidCount : Nat := 0
  timeoutCount : Nat := 0
  fullCount : Nat := 0
  rejected : Nat := 0
  captures : List Capture := []
  /-- Notices the steward has taken and whose command block it has not yet received (R420, R434). -/
  fetching : List Notice := []
  /-- The default completion ring (R449). -/
  ring : Ring := {}
  /-- SEQ of the next notice the steward posts (log entry 22). -/
  noticeSeq : Nat := 0
  deriving DecidableEq, Repr, Inhabited

/-- What a started command waits for; the index names the input, cell, slot, channel or unit. -/
inductive WaitKind where
  | refSelect | synthLock | clkout | epochStep | steer
  | frontEnd | chanChange | xformGrid | xformEnd | detector | trigSetting
  | densityReadout | acqReadout | countStart | stampSetting | tallySnapshot
  | calRun | streamClose | checkScan | netJoin | netLeave | scanMode | scanCommit
  | monitorSequence | selfTest | fence | sessionClose | countStop
  deriving DecidableEq, Repr, Inhabited

/-- The progress of a command in flight (R439, R443 to R450). -/
inductive Progress where
  /-- Fetched and checked, not started. -/
  | notStarted
  /-- Started and waiting on a panel, with the result words known so far. -/
  | waiting (kind : WaitKind) (index : Nat) (results : List Nat)
  /-- Complete, its record held for a full ring (R450). -/
  | held (record : Completion)
  deriving DecidableEq, Repr, Inhabited

/-- A command in flight (R439). `order` counts the commands in queue order (R445). -/
structure Flight where
  order : Nat := 0
  opcode : Nat := 0
  channel : Nat := 0
  session : Nat := 0
  tag : Nat := 0
  irq : Bool := false
  fenceBefore : Bool := false
  isSealed : Bool := false
  body : Bytes := []
  progress : Progress := .notStarted
  deriving DecidableEq, Repr, Inhabited

/-- A session (R436): its channel and rings; `closing` while SESSION_CLOSE waits for started commands (R491). -/
structure Session where
  id : Nat := 0
  channel : Nat := 0
  /-- The completion ring of its own, once registered (R449); disabled while its `entries` is 0. -/
  ring : Option Ring := none
  eventRing : Option Ring := none
  /-- Event records dropped for a full ring since the last GAP record, and MINT of the first (R497). -/
  lost : Nat := 0
  lostMint : Nat := 0
  closing : Bool := false
  deriving DecidableEq, Repr, Inhabited

/-- A claim (R437). -/
structure Claim where
  panelType : Nat
  inst : Nat
  session : Nat
  deriving DecidableEq, Repr, Inhabited

/-- STEWARD STATE (R413). -/
inductive StewardState where
  | boot | running | restarting | halted
  deriving DecidableEq, Repr, Inhabited

/-- The steward and its transport (17, 18). -/
structure Transport where
  state : StewardState := .boot
  fwVersion : Nat := 0
  heartbeat : Nat := 0
  restarts : Nat := 0
  cmdsDone : Nat := 0
  channels : List Channel := List.replicate 20 {}
  /-- Epochs of host function 0, host function 1, the management port and the steward (R425). -/
  epochs : List Nat := [1, 1, 1, 1]
  /-- The channel served last (R420). -/
  lastServed : Nat := 19
  sessions : List Session := []
  claims : List Claim := []
  flights : List Flight := []
  nextOrder : Nat := 0
  /-- The Mint count at which the latest change of each session took effect (R445), for FENCE. -/
  lastEffect : List (Nat × Nat) := []
  /-- Owners of the 64 locks, 0 when free (R429). -/
  locks : List Nat := List.replicate 64 0
  /-- For a lock held by 0x40, the node that acquired it (R572). -/
  lockNodes : List (Nat × Nat) := []
  badRelease : Nat := 0
  forcedRelease : Nat := 0
  /-- Event records raised and not yet written to a ring (R495). -/
  raised : List EventRecord := []
  deriving DecidableEq, Repr, Inhabited

/-- One MSI-X table entry and its pending bit (R638). -/
structure MsixEntry where
  addrLo : Nat := 0
  addrHi : Nat := 0
  data : Nat := 0
  mask : Bool := true
  pending : Bool := false
  deriving DecidableEq, Repr, Inhabited

/-- Directly addressed registers that hold state of their own (27): MSI-X, shadows, PIECE_PANEL_RESET. -/
structure Regs where
  msix0 : List MsixEntry := List.replicate 64 {}
  msix1 : List MsixEntry := List.replicate 64 {}
  /-- Words captured by RSC reads, per requester (R635, R636). -/
  shadows : List Shadow := []
  resetBusy : Bool := false
  resetStatus : Nat := 0
  resetSession : Nat := 0
  resetInst : Nat := 0
  resetType : Nat := 0
  deriving DecidableEq, Repr, Inhabited

end Sys2Proof.Machine
end

