-- ==== Sys2Proof/Machine/State/Trigger.lean ====
section
/-! DEFINITION. State of TRIGGER (07) and of ACQ (08). -/

namespace Sys2Proof.Machine

/-- A condition event (R166): its cell and source type, its time, the tally cycle in which it was issued or arrived, what it
carries, and for NET and TIME_MATCH events the label they bring (R180, R181). -/
structure CondEvent where
  cell : Nat := 0
  source : Nat := 0
  time : T16 := 0
  cycle : Nat := 0
  tainted : Bool := false
  late : Bool := false
  forced : Bool := false
  post : Bool := false
  net : Bool := false
  node : Nat := 0
  label : Option Nat := none
  detail : Nat := 0
  deriving DecidableEq, Repr, Inhabited

/-- The settings of a source stage: `params` holds bytes 8 to 47 of the TRIG_CELL_SET body (R468). -/
structure CellSetting where
  en : Bool := false
  express : Bool := false
  useTainted : Bool := false
  source : Nat := 0
  params : Bytes := []
  deriving DecidableEq, Repr, Inhabited

/-- The state of a time-domain detector (R171, R172): the sample before, hysteresis, the open run. -/
structure RfDetector where
  last : Option Int := none
  riseArmed : Bool := false
  fallArmed : Bool := false
  run : Nat := 0
  runTainted : Bool := false
  deriving DecidableEq, Repr, Inhabited

/-- The settings of a combination stage, times in ps (R470). -/
structure Combine where
  mode : Nat := 0
  mask : Nat := 0
  aMask : Nat := 0
  bMask : Nat := 0
  window : Nat := 0
  holdoff : Nat := 0
  timeout : Nat := 0
  deriving DecidableEq, Repr, Inhabited

/-- The routes of a cell (R189); `acq` holds (TP_OFFSET, ACQ_TAG) per acquisition. -/
structure Routes where
  out : Nat := 0
  net : Bool := false
  mark : Bool := false
  ring : Bool := false
  netCode : Nat := 0
  acqMask : Nat := 0
  acq : List (Int × Nat) := List.replicate 16 (0, 0)
  deriving DecidableEq, Repr, Inhabited

/-- A trigger cell (R166). -/
structure Cell where
  setting : CellSetting := {}
  /-- New settings in the order of their commands, each with the tick from which the stream's next block boundary takes it (R168). -/
  next : List (CellSetting × Nat) := []
  /-- The tally-island cycle in which the settings took effect: events issued until then complete (R168). -/
  since : Nat := 0
  detector : RfDetector := {}
  /-- FREQ_MASK: run count, whether the run holds a tainted verdict, whether it has issued (R176). -/
  run : Nat := 0
  runTainted : Bool := false
  issued : Bool := false
  /-- STAMP_COINC: retained stamps, in order of time. -/
  stamps : List Stamp := []
  /-- TIME_MATCH: the next target in 2⁻⁴⁸ s; whether a first look finds it LATE, and whether a step has passed it. -/
  target : Option Nat := none
  firstLook : Bool := false
  stepped : Bool := false
  combine : Combine := {}
  /-- Condition events that the combination stage retains. -/
  retained : List CondEvent := []
  routes : Routes := {}
  fired : Nat := 0
  dropped : Nat := 0
  deriving DecidableEq, Repr, Inhabited

/-- The mask of a channel (R174, R175): per bank, bins with limits other than the reset limits, as (bin, lower, upper). -/
structure MaskChannel where
  active : Nat := 0
  banks : List (List (Nat × Int × Int)) := [[], []]
  armed : Bool := false
  version : Nat := 0
  deriving DecidableEq, Repr, Inhabited

/-- A mask verdict on its way to TRIGGER (R138). -/
structure MaskVerdict where
  channel : Nat := 0
  frameSeq : Nat := 0
  time : T16 := 0
  upper : Nat := 0
  lower : Nat := 0
  lowest : Nat := 0xFFFFFFFF
  tainted : Bool := false
  cfgChange : Bool := false
  deriving DecidableEq, Repr, Inhabited

/-- An output event of a cell that waits for its issue (R185, R186). -/
structure OutEvent where
  cell : Nat := 0
  time : T16 := 0
  cycle : Nat := 0
  used : List CondEvent := []
  completing : CondEvent := {}
  /-- It found the queue empty and leads its cycle: it issues at once and is not held (R186). -/
  direct : Bool := false
  deriving DecidableEq, Repr, Inhabited

/-- A TRIG_OUT ball (R190). -/
structure TrigOut where
  polarity : Bool := false
  width : Nat := 64
  /-- The polarity and the end of the pulse in progress. -/
  pulse : Option (Bool × Nat) := none
  /-- Ends of the 4 inactive cycles after a pulse, and a start that waits for it. -/
  quiet : Option Nat := none
  startDue : Bool := false
  merged : Nat := 0
  /-- Trigger events on their way to the output register. -/
  arrivals : Nat := 0
  /-- The inactive level. -/
  idleHigh : Bool := false
  deriving DecidableEq, Repr, Inhabited

/-- The express unit of a stamp island (R194, R195): the cell that holds it, its aligned edges as (input, cycle), and the captured edges
whose aligned cycle it has not evaluated. -/
structure Express where
  cell : Option Nat := none
  edges : List (Nat × Nat) := []
  pending : List (Nat × Nat) := []
  deriving DecidableEq, Repr, Inhabited

/-- TRIGGER. -/
structure Trigger where
  cells : List Cell := List.replicate 16 {}
  masks : List MaskChannel := List.replicate 4 {}
  /-- Condition events on their way to the matrix, oldest first (R185). -/
  matrix : List CondEvent := []
  /-- Output events of the cycle that the combination stages work on, and those that wait for their issue, at most one of a cell held
(R186). -/
  fresh : List OutEvent := []
  queue : List OutEvent := []
  /-- The cycle of the last issue. -/
  issuedAt : Option Nat := none
  eventSeq : Nat := 0
  ringDropped : Nat := 0
  marksCrowded : Nat := 0
  crowdDue : Bool := false
  postJump : Bool := false
  outs : List TrigOut := List.replicate 4 {}
  express : List Express := List.replicate 4 {}
  /-- Verdicts and stamps on their way to the panel. -/
  verdicts : List MaskVerdict := []
  stamps : List Stamp := []
  deriving DecidableEq, Repr, Inhabited

/-- The settings of an acquisition (R199). -/
structure AcqSetting where
  inst : Nat := 0
  stream : Nat := 8
  component : Nat := 0
  gapless : Bool := false
  segments : Nat := 1
  pre : Nat := 0
  post : Nat := 0
  m : Nat := 0
  armFull : Bool := false
  stopViol : Bool := false
  violPost : Nat := 0
  ringBase : Nat := 0
  dirBase : Nat := 0
  slotBlocks : Nat := 0
  deriving DecidableEq, Repr, Inhabited

/-- A block of a stream as ACQ receives it (R202, R213). -/
structure AcqBlock where
  header : Bytes := []
  data : Bytes := []
  seq : Nat := 0
  /-- I and Q, or the converter code and 0. -/
  samples : List (Int × Int) := []
  start : T16 := 0
  period : Nat := 0
  invalidFrom : Nat := 0
  firstValid : Nat := 0
  /-- HANDOVER, COAST, POSTJUMP, CAL in bits 0 to 3 of the flags of R211; OVER in bit 8. -/
  flags : Nat := 0
  deriving DecidableEq, Repr, Inhabited

/-- A block the ring holds: its number since the arm point and its place in the ring. -/
structure HeldBlock where
  num : Nat := 0
  ring : Nat := 0
  block : AcqBlock := {}
  deriving DecidableEq, Repr, Inhabited

/-- A segment (R206 to R211). Sample numbers count from the arm point. -/
structure Segment where
  index : Nat := 0
  t : Nat := 0
  pre : Nat := 0
  eventSeq : Nat := 0
  tag : Nat := 0
  tainted : Bool := false
  preShort : Bool := false
  violCount : Nat := 0
  /-- The sample after its last where a violation ends it early (R218). -/
  cut : Option Nat := none
  deriving DecidableEq, Repr, Inhabited

/-- A finished segment: its header, the ring blocks it touches in order of time, and for pairs their place as runs of
(ring block, first pair, number of pairs), in GAPLESS mode the range of its pairs in the record. -/
structure DoneSegment where
  header : Bytes := []
  blocks : List Nat := []
  runs : List (Nat × Nat × Nat) := []
  pairs : Nat × Nat := (0, 0)
  deriving DecidableEq, Repr, Inhabited

/-- A trigger event on its way to an acquisition (R189). -/
structure AcqTrigger where
  time : T16 := 0
  seq : Nat := 0
  tag : Nat := 0
  tpOffset : Int := 0
  tainted : Bool := false
  deriving DecidableEq, Repr, Inhabited

/-- STATE of an acquisition (R224). -/
inductive AcqState where
  | idle | armed | triggered | done | fault
  deriving DecidableEq, Repr, Inhabited

/-- A pair with the first sample of its interval and the flags of its samples; `valid`: its interval holds a valid sample (R214). -/
structure Pair where
  first : Nat := 0
  last : Nat := 0
  valid : Bool := false
  greatest : Int := -32768
  least : Int := 32767
  flags : Nat := 0
  deriving DecidableEq, Repr, Inhabited

/-- A ring block in a capture FIFO, on its way to DRAM: its place in the ring, its header and its data (R204, R222). -/
structure CaptureWrite where
  ring : Nat := 0
  header : Bytes := []
  data : Bytes := []
  deriving DecidableEq, Repr, Inhabited

/-- An acquisition. -/
structure Acq where
  setting : AcqSetting := {}
  state : AcqState := .idle
  cause : Nat := 0
  /-- The tick from which the arm point is sought; none once it is found (R205). -/
  armAt : Option Nat := none
  /-- Time of the arm point, sample period, BLOCK_SEQ of its block. -/
  origin : T16 := 0
  period : Nat := 0
  firstSeq : Nat := 0
  /-- Blocks at which the sample times depart from the arm point's grid, oldest first: number, time, sample period (R105, R206). -/
  anchors : List (Nat × T16 × Nat) := []
  /-- The capture FIFO, and the runs of samples that a full FIFO has lost, each to the sample after its last (R204, R222). -/
  fifo : List CaptureWrite := []
  lostRanges : List (Nat × Nat) := []
  /-- Stream blocks taken since the arm point. -/
  taken : Nat := 0
  arrivals : List AcqBlock := []
  triggers : List AcqTrigger := []
  held : List HeldBlock := []
  slot : Nat := 0
  /-- Next block to write within the slot or region. -/
  pos : Nat := 0
  /-- The segments in progress and those accepted that wait for their slot, oldest first. -/
  open_ : List Segment := []
  accepted : Nat := 0
  finished : List DoneSegment := []
  /-- The sample after the last finished segment, and the first block number of the current slot. -/
  lastEnd : Nat := 0
  slotFirst : Nat := 0
  /-- The first sample stored of the segment accepted last, and its trigger point. -/
  lastFirst : Nat := 0
  lastT : Option Nat := none
  /-- GAPLESS: the record's first block number and its ring block (R209). -/
  record : Option (Nat × Nat) := none
  ignored : Nat := 0
  late : Nat := 0
  lost : Nat := 0
  violCount : Nat := 0
  armCount : Nat := 0
  gapDue : Bool := false
  pairGapDue : Bool := false
  /-- Pairs: sample number at which the next interval begins; the pairs of the block in the making; pair blocks formed since
  the segment or record began; of those, the written ones as (number, ring block, pairs); PAIR_SEQ of the next block. -/
  pairNext : Option Nat := none
  pairs : List Pair := []
  pairTotal : Nat := 0
  pairLog : List (Nat × Nat × Nat) := []
  pairSeq : Nat := 0
  /-- Mask entries loaded: (position, lower, upper). -/
  mask : List (Nat × Int × Int) := []
  maskLoaded : Bool := false
  violation : Option Bytes := none
  deriving DecidableEq, Repr, Inhabited

/-- ACQ. -/
structure AcqPanel where
  acqs : List Acq := List.replicate 16 {}
  /-- ACQ_PANIC_COUNT: panics that the capture ports raised (R391). -/
  panics : Nat := 0
  deriving DecidableEq, Repr, Inhabited

end Sys2Proof.Machine
end

