-- ==== Sys2Proof/Machine/State.lean ====
section
/-! DEFINITION. The state of the piece: its panels, and the queue of the commands that are waiting; the reasons a step can
stop; the state after reset. -/

namespace Sys2Proof.Machine

/-- Everything the spec gives the piece: its panels and the directly addressed registers. -/
structure Piece where
  transport : Transport := {}
  regs : Regs := {}
  safety : Safety := {}
  boot : Boot := {}
  clocks : Clocks := {}
  ledger : Ledger := {}
  monitor : Monitor := {}
  hostif : Hostif := {}
  dmc : Dmc := {}
  stream : Stream := {}
  check : Check := {}
  net : Net := {}
  stamp : List Motif := List.replicate 4 {}
  fabric : Fabric := {}
  rfin : List Rfin := List.replicate 4 {}
  chan : List Chan := List.replicate 4 {}
  xform : List Xform := List.replicate 4 {}
  density : Density := {}
  trigger : Trigger := {}
  acq : AcqPanel := {}
  gythen : Gythen := {}
  tally : Tally := {}
  cal : Cal := {}
  scan : Scanout := {}
  /-- The model's own: how many free values have been drawn (log entry 8). -/
  free : Nat := 0
  /-- The model's own: what the piece has sent, oldest first (log entry 4). -/
  out : List Output := []
  deriving DecidableEq, Repr, Inhabited

/-- The state: the piece and the commands that wait, first in, first out. -/
structure State where
  piece : Piece := {}
  pending : List Instr := []
  deriving DecidableEq, Repr, Inhabited

/-- The machine right after reset: every panel at the reset values of its chapter, nothing waiting. -/
def State.reset : State := {}

/-- Why the machine stops with a fault: no command of the table does. -/
inductive Fault where
  /-- Raised by nothing: the spec gives every command of the table an effect or leaves the state as it is. Safe. -/
  | none
  deriving DecidableEq, Repr, Inhabited

/-- Why a command has no meaning. -/
inductive Refusal where
  /-- The command has no meaning in the model yet: raised by an arm of `exec`. Safe: the machine stops. -/
  | notModelled (mnemonic : String)
  /-- The operands are none that the row can carry (`Instr.wellFormed` is false): raised by a meaning. Safe: the machine
  stops. -/
  | illFormed
  deriving DecidableEq, Repr, Inhabited

end Sys2Proof.Machine
end

