-- ==== Sys2Proof/Machine/Ops.lean ====
section
/-! DEFINITION. The named operations the meanings share: the effect of a command on the piece, Ledger time, device DRAM and
piece addresses, vectors, the journal, the alarm bank, event records, notices, rings and completions. -/

namespace Sys2Proof.Machine

/-- What a command answers. -/
abbrev Out := Host.Outcome State Fault Refusal

/-- A command's effect on the piece; the queue stays as it is. -/
def effect (f : Piece → Piece) (s : State) : Out := .next { s with piece := f s.piece }

/-- The same for a command whose operands must satisfy a test. -/
def effectIf (ok : Bool) (f : Piece → Piece) (s : State) : Out :=
  if ok then effect f s else .refused .illFormed

/-- An effect that comes about only where its condition stands; else the piece stays as it is (log entry 3). -/
def when (c : Bool) (f : Piece → Piece) (p : Piece) : Piece := if c then f p else p

/-- An island's clock has failed (R595). -/
def islandDead (p : Piece) (island : Nat) : Bool := p.safety.deadIslands.contains island

/-- What an island's clock drives comes about only while that clock runs (R595). -/
def inIsland (island : Nat) (f : Piece → Piece) : State → Out := effect fun p => when (!islandDead p island) f p

/-- The same for a command whose operands must satisfy a test. -/
def inIslandIf (ok : Bool) (island : Nat) (f : Piece → Piece) : State → Out :=
  effectIf ok fun p => when (!islandDead p island) f p

/-! ### Time -/

/-- The Mint count. -/
abbrev Piece.now (p : Piece) : Nat := p.clocks.mint

/-- Mint ticks in a second (R53). -/
def ticksPerSecond : Nat := 2560000000

/-- Mint ticks in a millisecond. -/
def ticksPerMs : Nat := 2560000

/-- Mint ticks in a microsecond. -/
def ticksPerUs : Nat := 2560

/-- The units in which L is held exactly, to one 2⁻⁴⁸ s. -/
def labelUnits : Nat := 2 ^ 32 * 2560000000

/-- The same to one second. -/
def secondUnits : Nat := 2 ^ 48 * labelUnits

/-- L(M) under a mapping, exact (R53). -/
def Mapping.exact (m : Mapping) (t : T16) : Int :=
  m.l0 + (t - T16.ofTick m.m0) * (2 ^ 64 + m.rho + m.sigma)

/-- L rounded to the nearest 2⁻⁴⁸ s, ties up (R53). -/
def roundLabel (x : Int) : Int := roundDiv x labelUnits

/-- The mapping in force at a moment (R54). -/
def mappingAt (l : Ledger) (t : T16) : Mapping :=
  if T16.ofTick l.current.m0 ≤ t then l.current
  else (l.older.find? fun m => decide (T16.ofTick l.previous.m0 > t) && decide (T16.ofTick m.m0 ≤ t)).getD l.previous

/-- The Ledger label of a moment, in 2⁻⁴⁸ s, seconds wrapping at 2³² (R54, R58). -/
def labelAt (p : Piece) (t : T16) : Nat :=
  (roundLabel ((mappingAt p.ledger t).exact t) % (2 ^ 80 : Nat)).toNat

/-- The label of the present tick. -/
def Piece.label (p : Piece) : Nat := labelAt p (T16.ofTick p.now)

/-- The moment that a label names, rounded down to 2⁻¹⁶ tick (R181, R188; log entry 13); seconds wrap. -/
def timeOfLabel (p : Piece) (label : Nat) : T16 :=
  let now := roundLabel (p.ledger.current.exact (T16.ofTick p.now))
  let l := nearest 80 now label * labelUnits
  let inv (m : Mapping) : T16 := T16.ofTick m.m0 + (l - m.l0) / (2 ^ 64 + m.rho + m.sigma)
  let t := inv p.ledger.current
  if t < T16.ofTick p.ledger.current.m0 then inv p.ledger.previous else t

/-- The seconds of a label. -/
def labelSeconds (l : Nat) : Nat := l / 2 ^ 48

/-- The fraction of a label. -/
def labelFraction (l : Nat) : Nat := l % 2 ^ 48

/-- A label as it stands in a record: SECONDS, 4 bytes, then FRACTION, 6 bytes. -/
def labelBytes (l : Nat) : Bytes := leBytes 4 (labelSeconds l) ++ leBytes 6 (labelFraction l)

/-- The Ledger is coasting (R60). -/
def coasting (p : Piece) : Bool := p.ledger.state == .coast || p.ledger.state == .jumpPending

/-! ### Safety outputs -/

/-- The level of TIME_VALID (R591). -/
def timeValid (p : Piece) : Bool :=
  p.boot.released && !p.safety.safeState && p.ledger.state != .unset && p.ledger.withinLimit &&
  !p.ledger.mismatch && decide (p.safety.tapBadUntil ≤ p.now) && p.clocks.synth == .locked &&
  (p.ledger.source != .net || p.net.rootTimeValid)

/-- The level of FREQ_VALID (R47, R591). -/
def freqValid (p : Piece) : Bool :=
  p.boot.released && !p.safety.safeState && p.clocks.synth == .locked && p.clocks.refinPresent

/-- The level of SAFE_STATE_N (R590). -/
def safeStateN (p : Piece) : Bool := p.boot.released && !p.safety.safeState

/-- A latched alarm belongs to a group. -/
def groupLatched (p : Piece) (g : Nat) : Bool := p.safety.alarms.any fun a => a.latched && a.code / 256 == g

/-- SAFE_ALARM_GROUPS (R639). -/
def alarmGroups (p : Piece) : Nat := maskOf 16 (groupLatched p)

/-- The level of FAULT_N (R592, R604). -/
def faultN (p : Piece) : Bool :=
  p.boot.released && !p.safety.safeState &&
  !(p.safety.alarms.any fun a => a.latched && bitAt p.safety.faultMask (a.code / 256))

/-! ### Outputs, device DRAM and piece addresses -/

/-- Sends something outward. -/
def emit (o : Output) (p : Piece) : Piece := { p with out := p.out ++ [o] }

/-- A byte of device DRAM: an unlisted byte reads zero (R645). -/
def memByte (m : List Host.Cell) (a : Nat) : Byte := ((m.find? fun c => c.1 == a).map (·.2)).getD 0

/-- Writes one byte, keeping the canonical form. -/
def memPut : List Host.Cell → Nat → Byte → List Host.Cell
  | [], a, b => if b = 0 then [] else [(a, b)]
  | (x, y) :: t, a, b =>
    if a < x then (if b = 0 then (x, y) :: t else (a, b) :: (x, y) :: t)
    else if a = x then (if b = 0 then t else (a, b) :: t)
    else (x, y) :: memPut t a b

/-- Writes a string from an address upwards. -/
def memWrite : List Host.Cell → Nat → Bytes → List Host.Cell
  | m, _, [] => m
  | m, a, b :: bs => memWrite (memPut m a b) (a + 1) bs

/-- Reads a string from an address upwards. -/
def memRead (m : List Host.Cell) (a n : Nat) : Bytes := (List.range n).map fun i => memByte m (a + i)

/-- The canonical form of device DRAM: addresses strictly rising, no byte zero. -/
def Memory.wf : List Host.Cell → Bool
  | [] => true
  | [(_, b)] => b != 0
  | (a, b) :: (a', b') :: t => b != 0 && decide (a < a') && Memory.wf ((a', b') :: t)

/-- The installed capacity in bytes (R387). -/
def capacity (d : Dmc) : Nat := 2 ^ 30 * (4 * d.gibPerChannel)

/-- The DMC refuses requests: frozen, or its channels are untrained (R395, R621). -/
def dmcRefuses (d : Dmc) : Bool := d.frozen || d.chUp != 0xF

/-- A piece address names device DRAM (R379). -/
def isDevice (a : Nat) : Bool := bitAt a 63

/-- The device address of a piece address. -/
def deviceAddr (a : Nat) : Nat := a % 2 ^ 38

/-- A piece address that R379 accepts. -/
def addrOk (d : Dmc) (a : Nat) : Bool :=
  !isDevice a || (field a 38 25 == 0 && decide (deviceAddr a < capacity d))

/-- A range of `n` bytes whose first and last addresses R379 accepts. -/
def rangeOk (d : Dmc) (a n : Nat) : Bool :=
  addrOk d a && (n == 0 || !isDevice a || decide (deviceAddr a + n ≤ capacity d))

/-- The channel of a device address: bits [9:8] (R388). -/
def dramChannel (a : Nat) : Nat := a / 256 % 4

/-- The subchannel of a device address in its channel: bit [6] (R388). -/
def dramSubchannel (a : Nat) : Nat := a / 64 % 2

/-- The queue of a bank takes at most 16 requests (R390). -/
def bankDepth : Nat := 16

/-- A request enters the queue of its bank, or waits for a place behind those of its subchannel that wait (R390). -/
def Subchannel.request (r : DramRequest) (s : Subchannel) : Subchannel :=
  if s.waiting.isEmpty && decide ((s.queued.filter (·.bank == r.bank)).length < bankDepth)
  then { s with queued := s.queued ++ [r] }
  else { s with waiting := s.waiting ++ [r] }

/-- The 64-byte lines that n bytes from an address touch: no line spans two subchannels (R388). -/
def linesOf (a n : Nat) : List Nat := if n == 0 then [] else (List.range ((a + n - 1) / 64 + 1 - a / 64)).map fun k => a / 64 + k

/-- A write sends a request to the bank of every line that it touches (R388, R390; log entry 61). -/
def requestLines (a n : Nat) (subs : List Subchannel) : List Subchannel :=
  (linesOf a n).foldl (fun subs line =>
    upd subs (2 * dramChannel (64 * line) + dramSubchannel (64 * line))
      (Subchannel.request { bank := Config.dramBank line, row := Config.dramRow line })) subs

/-- Changes device DRAM; its one writer. -/
def dramWrite (a : Nat) (bs : Bytes) (p : Piece) : Piece :=
  { p with dmc := { p.dmc with dram := memWrite p.dmc.dram a bs, subs := requestLines a bs.length p.dmc.subs } }

/-- How a transfer of the piece ends. -/
inductive Transfer where
  | ok | gone | refused | timeout
  deriving DecidableEq, Repr, Inhabited

/-- Writes a string at a piece address: a posted write to the host, or a request to the DMC (R375, R385, R395). -/
def pieceWrite (a : Nat) (bs : Bytes) (p : Piece) : Piece × Transfer :=
  if isDevice a then
    if dmcRefuses p.dmc then (p, .refused) else (dramWrite (deviceAddr a) bs p, .ok)
  else if p.hostif.linkUp then (emit (.hostWrite a bs) p, .ok) else (p, .gone)

/-- Reads a string at a piece address; a host address is answered by the host's answer (R375). -/
def pieceRead (p : Piece) (a n : Nat) (host : Answer) : Except Transfer Bytes :=
  if isDevice a then
    if dmcRefuses p.dmc then .error .refused else .ok (memRead p.dmc.dram (deviceAddr a) n)
  else if p.hostif.linkUp then
    match host with
    | .data bs => .ok (slice bs 0 n)
    | .timeout => .error .timeout
    | .error => .error .refused
  else .error .gone

/-! ### Interrupt vectors -/

/-- Raises an MSI-X vector of a function (R432, R638). -/
def raiseVector (fn v : Nat) (p : Piece) : Piece :=
  let table := if fn == 0 then p.regs.msix0 else p.regs.msix1
  let e := nth table v
  if e.mask then
    let table' := upd table v fun e => { e with pending := true }
    { p with regs := if fn == 0 then { p.regs with msix0 := table' } else { p.regs with msix1 := table' } }
  else if p.hostif.linkUp then emit (.msix fn v (join32 e.addrLo e.addrHi) e.data) p
  else p

/-! ### Fault journal -/

/-- Counts a dropped entry of an incident under its code (R607). -/
def countDrop (drops : List DropCount) (e : JournalEntry) : List DropCount :=
  let code := if drops.any (·.code == e.code) || (drops.filter (·.code != 0xFFFF)).length < 64 then e.code else 0xFFFF
  if drops.any (·.code == code) then
    drops.map fun d => if d.code == code then { d with count := d.count + 1, lastMint := e.mint } else d
  else drops ++ [{ code := code, count := 1, firstMint := e.mint, lastMint := e.mint }]

/-- Keeps the rolling entries within their slots while an incident runs, counting what is overwritten (R607). -/
def rollIncident (slots : Nat) (inc : Incident) (entries : List JournalEntry) (dropped : Nat) :
    Incident × List JournalEntry × Nat :=
  if slots < entries.length then
    match entries with
    | e :: rest => ({ inc with drops := countDrop inc.drops e }, rest, sat32 dropped 1)
    | [] => (inc, [], dropped)
  else (inc, entries, dropped)

/-- The journal after one more entry, which has its number and its times; answers whether an incident began and whether the
persistent list was full (R606 to R608). -/
def journalled (now : Nat) (e : JournalEntry) (sf : Safety) : Safety × Bool × Bool :=
  let recent := (now :: sf.recent).take 64
  let full := e.persistent && decide (256 ≤ sf.persistent.length)
  let persistent := if e.persistent && !full then sf.persistent ++ [e] else sf.persistent
  let sf := { sf with journalNext := wrap32 sf.journalNext 1, recent := recent, persistent := persistent }
  match sf.incident with
  | some inc =>
    let freeze := decide (inc.frozen.length < 1024)
    let inc := if freeze then { inc with frozen := inc.frozen ++ [e] } else inc
    let entries := if freeze then sf.journal else sf.journal ++ [e]
    let (inc, entries, dropped) := rollIncident (4096 - inc.frozen.length) inc entries sf.journalDropped
    ({ sf with journal := entries, incident := some inc, journalDropped := dropped }, false, full)
  | none =>
    let entries := lastN 4096 (sf.journal ++ [e])
    let began := recent.length == 64 && decide (now < recent.getLastD 0 + ticksPerMs)
    if began then
      let inc : Incident := { frozen := lastN 64 entries, began := now }
      ({ sf with journal := entries.take (entries.length - 64), incident := some inc }, true, full)
    else ({ sf with journal := entries }, false, full)

/-- An entry with the journal's next number, the present time and whether an incident runs (R606, R607). -/
def stampEntry (e : JournalEntry) (p : Piece) : JournalEntry :=
  { e with seq := p.safety.journalNext, mint := p.now, label := p.label, incident := p.safety.incident.isSome }

/-- Writes one entry into the journal; answers whether an incident began and whether the persistent list was full
(R606 to R608). -/
def pushJournal (e : JournalEntry) (p : Piece) : Piece × Bool × Bool :=
  let (sf, r) := journalled p.now (stampEntry e p) p.safety
  ({ p with safety := sf }, r)

/-! ### Event records and alarms -/

/-- Raises an event record of a panel, timed at the present tick (R495, R496). -/
def raiseEvent (kind panelType inst : Nat) (body : Bytes) (p : Piece) : Piece :=
  { p with transport := { p.transport with raised := p.transport.raised ++
      [{ kind := kind, mint := p.now, label := p.label, panelType := panelType, inst := inst, body := body }] } }

/-- Raises an event record with a time of its own (R496). -/
def raiseEventAt (kind panelType inst : Nat) (t : T16) (body : Bytes) (p : Piece) : Piece :=
  { p with transport := { p.transport with raised := p.transport.raised ++
      [{ kind := kind, mint := (T16.tick t).toNat, label := labelAt p t, panelType := panelType, inst := inst,
         body := body }] } }

/-- Merges a summary into the entry of its origin (R569). -/
def mergeSummary (table : List Summary) (origin groups fresh seq : Nat) : List Summary :=
  if table.any (·.origin == origin) then
    table.map fun e =>
      if e.origin == origin then
        { e with groups := e.groups ||| groups, fresh := min 255 (e.fresh + fresh), seq := seq, due := true }
      else e
  else table ++ [{ origin := origin, groups := groups, fresh := min 255 fresh, seq := seq, due := true }]

/-- Queues the piece's own alarm summary (R568). -/
def queueOwnSummary (p : Piece) : Piece :=
  let n := p.net
  { p with net := { n with table := mergeSummary n.table n.nodeId (alarmGroups p) 1 n.summarySeq,
                           summarySeq := (n.summarySeq + 1) % 256 } }

/-- The bank's part of an occurrence of an alarm; answers whether it is the first since a clear (R602). -/
def latchAlarm (code : Nat) (p : Piece) : Piece × Bool :=
  let first := p.safety.alarms.any fun a => a.code == code && !a.latched
  let step (a : AlarmEntry) : AlarmEntry :=
    if a.code == code then
      let a := if a.latched then a else { a with latched := true, firstMint := p.now, firstLabel := p.label }
      { a with count := satAdd 16 a.count 1, lastMint := p.now, lastLabel := p.label }
    else a
  ({ p with safety := { p.safety with alarms := p.safety.alarms.map step,
                                      firsts := if first then wrap32 p.safety.firsts 1 else p.safety.firsts } }, first)

/-- What the first occurrence of an alarm sends: vector 32 of both functions, the ALARM event record, the summary (R602). -/
def announceAlarm (code : Nat) (p : Piece) : Piece :=
  let count := ((p.safety.alarms.find? (·.code == code)).map (·.count)).getD 0
  queueOwnSummary (raiseEvent 0x08 0x14 0 (leBytes 2 code ++ leBytes 2 count ++ zeros 12)
    (raiseVector 1 32 (raiseVector 0 32 p)))

/-- An occurrence of an alarm that its own journal entry does not chain further (R602, R607, R608). -/
def occurAlarm (code panelType inst : Nat) (p : Piece) : Piece :=
  let (p, first) := latchAlarm code p
  let p := when first (announceAlarm code) p
  (pushJournal { code := code, panelType := panelType, inst := inst } p).1

/-- Writes a journal entry; JOURNAL_INCIDENT and PERSIST_FULL latch where it begins an incident or finds the persistent list
full (R607, R608). -/
def writeJournal (e : JournalEntry) (p : Piece) : Piece :=
  let (p, began, full) := pushJournal e p
  when full (occurAlarm 0x0A01 0x14 0) (when began (occurAlarm 0x0A00 0x14 0) p)

/-- An occurrence of an alarm with the journal entry it writes (R602). -/
def alarmWith (code : Nat) (e : JournalEntry) (p : Piece) : Piece :=
  let (p, first) := latchAlarm code p
  writeJournal { e with code := code } (when first (announceAlarm code) p)

/-- An occurrence of an alarm of a panel (R602). -/
def raiseAlarm (code panelType inst : Nat) (p : Piece) : Piece :=
  alarmWith code { panelType := panelType, inst := inst } p

/-! ### Mailboxes -/

/-- Changes one channel. -/
def onChannel (ch : Nat) (f : Channel → Channel) (p : Piece) : Piece :=
  { p with transport := { p.transport with channels := upd p.transport.channels ch f } }

/-- A channel. -/
def Piece.channel (p : Piece) (ch : Nat) : Channel := nth p.transport.channels ch

/-- The function of a channel (R414). -/
def channelFn (ch : Nat) : Nat := if ch < 16 then 0 else 1

/-- The vector of a channel within its function, from a base (R432). -/
def channelVector (base ch : Nat) : Nat := base + (if ch < 16 then ch else ch - 16)

/-- Sends the attention vector of a channel (R432). -/
def attention (ch : Nat) (p : Piece) : Piece := raiseVector (channelFn ch) (channelVector 16 ch) p

/-- Index of a sender's epoch (R425). -/
def epochIndex : Requester → Nat
  | .host0 => 0
  | .host1 => 1
  | .mgmt => 2
  | _ => 3

/-- A sender's epoch. -/
def Piece.epoch (p : Piece) (r : Requester) : Nat := nth p.transport.epochs (epochIndex r)

/-- Enters a notice of the steward into a channel's inbound queue, which has room (R422, R424). -/
def enterInbound (ch : Nat) (n : Notice) (p : Piece) : Piece :=
  let c := p.channel ch
  let empty := c.inq.isEmpty
  let p := onChannel ch (fun c => { c with inq := c.inq ++
    [{ notice := n, sender := .steward, entered := p.now, timeout := c.timeoutRx }] }) p
  when empty (raiseVector (channelFn ch) (channelVector 0 ch)) p

/-- The steward posts a notice; it holds the notice while the queue is full or earlier ones are held (R423). -/
def postNotice (ch kind address length : Nat) (p : Piece) : Piece :=
  let c := p.channel ch
  let n : Notice := { kind := kind, epoch := p.epoch .steward, seq := c.noticeSeq, length := length, address := address }
  let p := onChannel ch (fun c => { c with noticeSeq := (c.noticeSeq + 1) % 65536 }) p
  if c.inq.length < 64 && c.held.isEmpty then enterInbound ch n p
  else onChannel ch (fun c => { c with held := c.held ++ [n] }) p

/-! ### Rings and completions -/

/-- The consumer index of a ring: read from device DRAM, or as last read from the host (log entry 17). -/
def Ring.index (p : Piece) (r : Ring) : Nat :=
  if isDevice r.consumerAddr then leNat (memRead p.dmc.dram (deviceAddr r.consumerAddr) 4) else r.consumer

/-- The ring is full (R450). -/
def Ring.full (p : Piece) (r : Ring) : Bool := decide (r.entries ≤ (r.next + 2 ^ 32 - r.index p) % 2 ^ 32)

/-- The ring holds records that host software has not consumed. -/
def Ring.holds (p : Piece) (r : Ring) : Bool := r.next != r.index p

/-- The ring after one more record (R450). -/
def Ring.advance (r : Ring) : Ring :=
  let wraps := decide (r.entries ≤ r.slot + 1)
  { r with next := wrap32 r.next 1
           slot := if wraps then 0 else r.slot + 1
           phase := if wraps then !r.phase else r.phase
           entries := if wraps then r.stagedEntries.getD r.entries else r.entries
           stagedEntries := if wraps then none else r.stagedEntries }

/-- A completion record of 32 bytes (R448). -/
def Completion.bytes (c : Completion) (phase : Bool) : Bytes :=
  leBytes 2 c.tag ++ leBytes 2 c.session ++ leBytes 1 c.status ++ leBytes 1 (flag phase 7 + flag c.duplicate 0) ++
  leBytes 2 c.opcode ++ (List.range 6).flatMap fun i => leBytes 4 (nth c.results i)

/-- The session of a number. -/
def Piece.session (p : Piece) (id : Nat) : Option Session := p.transport.sessions.find? (·.id == id)

/-- Changes a session. -/
def onSession (id : Nat) (f : Session → Session) (p : Piece) : Piece :=
  { p with transport := { p.transport with sessions :=
      (p.transport.sessions.map fun s => if s.id == id then f s else s) } }

/-- Whether a completion goes to the default ring of the channel (R449, R491). -/
def usesDefaultRing (p : Piece) (f : Flight) (status : Nat) : Bool :=
  f.opcode == 0x0101 || f.opcode == 0x0102 || f.opcode == 0x0103 || status == 0x04 ||
  match p.session f.session with
  | some s => s.ring.isNone
  | none => true

/-- The ring a completion is due to. -/
def ringFor (p : Piece) (f : Flight) (status : Nat) : Ring :=
  if usesDefaultRing p f status then (p.channel f.channel).ring
  else ((p.session f.session).bind (·.ring)).getD {}

/-- Replaces the ring a completion was due to. -/
def setRingFor (f : Flight) (status : Nat) (r : Ring) (p : Piece) : Piece :=
  if usesDefaultRing p f status then onChannel f.channel (fun c => { c with ring := r }) p
  else onSession f.session (fun s => { s with ring := some r }) p

/-- Counts a voided completion or record (R385, R449). -/
def countVoided (p : Piece) : Piece :=
  { p with hostif := { p.hostif with voidedCompletions := sat32 p.hostif.voidedCompletions 1 } }

/-- Removes a command from flight and counts it (R413). -/
def land (f : Flight) (p : Piece) : Piece :=
  { p with transport := { p.transport with flights := p.transport.flights.filter (·.order != f.order),
                                           cmdsDone := wrap32 p.transport.cmdsDone 1 } }

/-- Writes the completion record of a command whose ring is not full, or voids it, and posts the notice it asked for
(R449 to R451, R385). -/
def writeCompletion (f : Flight) (c : Completion) (p : Piece) : Piece :=
  let r := ringFor p f c.status
  if r.entries == 0 then countVoided (land f p)
  else
    let a := r.base + r.slot * 32
    match pieceWrite a (c.bytes r.phase) p with
    | (p, .ok) =>
      let p := land f (setRingFor f c.status r.advance p)
      when f.irq (postNotice f.channel 0x02 a 1) p
    | (p, _) => countVoided (land f p)

/-- The claims and panels of a command's row in R453 and R488. -/
structure CmdRow where
  opcode : Nat
  size : Nat
  /-- The panel instances the command names, in (type, instance). -/
  panels : Bytes → List (Nat × Nat) := fun _ => []
  /-- It needs their claims. -/
  claims : Bytes → Bool := fun _ => true
  /-- It is secure-only. -/
  secure : Piece → Bytes → Bool := fun _ _ => false

/-- Claim column entry for instance i of a type, named in byte 0 of the body. -/
def byInstance (t : Nat) (bs : Bytes) : List (Nat × Nat) := [(t, u bs 0 1)]

/-- The commands of R453 and R488: body size, panels, claim, secure-only (R487). -/
def cmdRows : List CmdRow :=
  [ { opcode := 0x0301, size := 8, panels := fun b =>
        (0x03, u b 0 1) :: (if u b 3 1 == 1 && u b 0 1 % 2 == 0 then [(0x03, u b 0 1 + 1)] else []) },
    { opcode := 0x0302, size := 8, panels := byInstance 0x03 },
    { opcode := 0x0303, size := 208, panels := byInstance 0x04 },
    { opcode := 0x0304, size := 16, panels := byInstance 0x04 },
    { opcode := 0x0401, size := 32, panels := byInstance 0x05 },
    { opcode := 0x0402, size := 16, panels := byInstance 0x05 },
    { opcode := 0x0403, size := 16, panels := byInstance 0x05 },
    { opcode := 0x0404, size := 16, panels := fun _ => [(0x06, 0)] },
    { opcode := 0x0405, size := 16, panels := fun _ => [(0x06, 0)],
      claims := fun b => u b 1 1 != 0 || u b 2 1 != 0 },
    { opcode := 0x0406, size := 16, panels := fun _ => [(0x06, 0)] },
    { opcode := 0x0501, size := 48, panels := fun _ => [(0x07, 0)] },
    { opcode := 0x0502, size := 24, panels := fun _ => [(0x07, 0)] },
    { opcode := 0x0503, size := 32, panels := fun _ => [(0x07, 0)] },
    { opcode := 0x0504, size := 88, panels := fun _ => [(0x07, 0)] },
    { opcode := 0x0505, size := 8, panels := fun _ => [(0x07, 0)] } ] ++
  [ { opcode := 0x0601, size := 48, panels := fun _ => [(0x08, 0)] },
    { opcode := 0x0602, size := 8, panels := fun _ => [(0x08, 0)] },
    { opcode := 0x0603, size := 8, panels := fun _ => [(0x08, 0)] },
    { opcode := 0x0604, size := 16, panels := fun _ => [(0x08, 0)] },
    { opcode := 0x0605, size := 24, panels := fun _ => [(0x08, 0)], claims := fun _ => false },
    { opcode := 0x0701, size := 16, panels := fun b =>
        if u b 0 1 < 16 then [(0x09, u b 0 1 / 4)]
        else if u b 0 1 == 20 || u b 0 1 == 21 then [(0x02, 0)] else [] },
    { opcode := 0x0702, size := 8, panels := fun _ => [(0x0B, 0)] },
    { opcode := 0x0703, size := 40, panels := fun _ => [(0x0B, 0)] },
    { opcode := 0x0704, size := 8, panels := fun _ => [(0x0B, 0)] },
    { opcode := 0x0705, size := 16, panels := fun _ => [(0x0B, 0)], claims := fun _ => false },
    { opcode := 0x0706, size := 40, panels := fun _ => [(0x0B, 0)] },
    { opcode := 0x0801, size := 24, panels := fun _ => [(0x0B, 0)] },
    { opcode := 0x0802, size := 32, panels := fun _ => [(0x0B, 0)], claims := fun _ => false },
    { opcode := 0x0803, size := 8, panels := fun _ => [(0x0B, 0)] },
    { opcode := 0x0901, size := 24, panels := byInstance 0x0C },
    { opcode := 0x0902, size := 24, panels := byInstance 0x0C },
    { opcode := 0x0903, size := 8, panels := byInstance 0x0C } ] ++
  [ { opcode := 0x0101, size := 24 }, { opcode := 0x0102, size := 8 }, { opcode := 0x0103, size := 8 },
    { opcode := 0x0104, size := 8 }, { opcode := 0x0105, size := 8 }, { opcode := 0x0106, size := 8 },
    { opcode := 0x0107, size := 24 }, { opcode := 0x0108, size := 24 }, { opcode := 0x0109, size := 8 },
    { opcode := 0x0201, size := 24, panels := fun _ => [(0x01, 0), (0x02, 0)] },
    { opcode := 0x0202, size := 16, panels := fun _ => [(0x02, 0)] },
    { opcode := 0x0203, size := 8, panels := fun _ => [(0x02, 0)] },
    { opcode := 0x0204, size := 40, panels := fun _ => [(0x02, 0)] },
    { opcode := 0x0205, size := 24, panels := fun _ => [(0x01, 0)], secure := fun _ _ => true },
    { opcode := 0x0206, size := 16, panels := fun _ => [(0x01, 0)] },
    { opcode := 0x0207, size := 8, panels := fun _ => [(0x01, 0)] },
    { opcode := 0x0208, size := 48, panels := fun _ => [(0x01, 0)] },
    { opcode := 0x0209, size := 24, panels := fun _ => [(0x02, 0)] } ] ++
  [ { opcode := 0x0A01, size := 16 }, { opcode := 0x0A02, size := 16 }, { opcode := 0x0A03, size := 24 },
    { opcode := 0x0A04, size := 8 },
    { opcode := 0x0A05, size := 40, panels := fun _ => [(0x0E, 0)] },
    { opcode := 0x0B01, size := 8, panels := fun _ => [(0x12, 0)] },
    { opcode := 0x0B02, size := 8, panels := fun _ => [(0x12, 0)] },
    { opcode := 0x0B03, size := 8, panels := fun _ => [(0x12, 0)] },
    { opcode := 0x0B04, size := 16, panels := fun _ => [(0x12, 0)], secure := fun p _ => p.net.joined && p.net.root },
    { opcode := 0x0B05, size := 16, panels := fun _ => [(0x12, 0)], claims := fun _ => false },
    { opcode := 0x0B06, size := 8, panels := fun _ => [(0x12, 0)] },
    { opcode := 0x0C01, size := 32, panels := fun _ => [(0x13, 0)] },
    { opcode := 0x0C02, size := 32, panels := fun _ => [(0x13, 0)] },
    { opcode := 0x0C03, size := 8, panels := fun _ => [(0x13, 0)] } ] ++
  [ { opcode := 0x0D01, size := 24, panels := fun _ => [(0x16, 0)], secure := fun _ b => bitAt (u b 15 1) 7 },
    { opcode := 0x0D02, size := 8, panels := fun _ => [(0x16, 0)] },
    { opcode := 0x0D03, size := 8, panels := fun _ => [(0x16, 0)], claims := fun _ => false },
    { opcode := 0x0E01, size := 16, panels := fun _ => [(0x14, 0)], secure := fun _ _ => true },
    { opcode := 0x0E02, size := 16, panels := fun _ => [(0x14, 0)], claims := fun _ => false },
    { opcode := 0x0E03, size := 8, panels := fun _ => [(0x14, 0)] },
    { opcode := 0x0E04, size := 16, panels := fun _ => [(0x14, 0)] },
    { opcode := 0x0E05, size := 16, panels := fun _ => [(0x14, 0)] },
    { opcode := 0x0E06, size := 72, panels := fun _ => [(0x15, 0)] },
    { opcode := 0x0F01, size := 16, panels := fun _ => [(0x17, 0)], secure := fun _ _ => true },
    { opcode := 0x0F02, size := 16, panels := fun _ => [(0x17, 0)], secure := fun _ _ => true },
    { opcode := 0x0F03, size := 8, panels := fun _ => [(0x17, 0)], secure := fun _ _ => true },
    { opcode := 0x0F04, size := 16, panels := fun _ => [], secure := fun _ _ => true } ]

/-- The row of an opcode; none: the opcode is not in the catalogues (ST_UNKNOWN). -/
def cmdRow (opcode : Nat) : Option CmdRow := cmdRows.find? (·.opcode == opcode)

/-- The instances of each panel type (R15). -/
def panelInstances : Nat → Nat
  | 0x03 | 0x04 | 0x05 | 0x09 | 0x0C => 4
  | 0x01 | 0x02 | 0x06 | 0x07 | 0x08 | 0x0B | 0x0D | 0x0E | 0x0F | 0x10 | 0x11 | 0x12 | 0x13 | 0x14 | 0x15 | 0x16
  | 0x17 => 1
  | _ => 0

/-- The panels of the piece in the order of the Pricking: by type, then instance (R15, R406). -/
def panelEntries : List (Nat × Nat) :=
  (List.range 0x18).flatMap fun t => (List.range (panelInstances t)).map fun i => (t, i)

/-- The index of a panel's entry in the Pricking (R406). -/
def panelIndex (t i : Nat) : Nat := panelEntries.findIdx (· == (t, i))

/-- The panels that a command in flight names. -/
def Flight.panels (f : Flight) : List (Nat × Nat) := ((cmdRow f.opcode).map fun r => r.panels f.body).getD []

/-- Two commands are ordered by a panel that both name (R25, R445). -/
def sharePanel (f g : Flight) : Bool := f.panels.any fun x => g.panels.contains x

/-- g is an earlier command of f's session (R445). -/
def earlier (g f : Flight) : Bool := g.session == f.session && g.channel == f.channel && decide (g.order < f.order)

/-- The record a command holds, where it is complete. -/
def Flight.record (f : Flight) : Option Completion :=
  match f.progress with
  | .held c => some c
  | _ => none

/-- A complete command whose record may be written: no earlier ordered command is open, its ring has room (R446, R450). -/
def writable (p : Piece) (f : Flight) : Bool :=
  match f.record with
  | none => false
  | some c =>
    let r := ringFor p f c.status
    !(p.transport.flights.any fun g => earlier g f && (sharePanel g f || f.fenceBefore)) &&
    (r.entries == 0 || !r.full p)

/-- The commands in flight that are earlier than a command of its session. -/
def earlierOpen (p : Piece) (f : Flight) : Bool := p.transport.flights.any fun g => earlier g f

/-- The Mint count at which the latest change of a session took effect (R445). -/
def lastEffectOf (p : Piece) (session : Nat) : Nat := (lookup p.transport.lastEffect session).getD 0

/-- Replaces a command in flight. -/
def setFlight (f : Flight) (p : Piece) : Piece :=
  { p with transport := { p.transport with flights :=
      (p.transport.flights.map fun g => if g.order == f.order then f else g) } }

/-- The record of a command in flight. -/
def Flight.completion (f : Flight) (status : Nat) (results : List Nat) : Completion :=
  { tag := f.tag, session := f.session, status := status, opcode := f.opcode, results := results }

/-- A waiting FENCE whose earlier commands have completed (R445). -/
def fenceDone (p : Piece) (f : Flight) : Bool :=
  match f.progress with
  | .waiting .fence _ _ => !earlierOpen p f
  | _ => false

/-- A waiting SESSION_CLOSE whose session has no other command in flight (R438). -/
def closeDone (p : Piece) (f : Flight) : Bool :=
  match f.progress with
  | .waiting .sessionClose _ _ => !(p.transport.flights.any fun g => g.session == f.session && g.order != f.order)
  | _ => false

/-- The session is gone, with its rings (R491). -/
def dropSession (id : Nat) (p : Piece) : Piece :=
  { p with transport := { p.transport with sessions := p.transport.sessions.filter (·.id != id) } }

/-- One round of completions: the first record that may be written is written; else the first FENCE whose commands have
completed, or SESSION_CLOSE whose session has none left, becomes complete. -/
def settleOnce (p : Piece) : Piece :=
  match p.transport.flights.find? (writable p) with
  | some f =>
    match f.record with
    | some c => writeCompletion f c p
    | none => p
  | none =>
    match p.transport.flights.find? (fenceDone p) with
    | some f =>
      let t := lastEffectOf p f.session
      setFlight { f with progress := .held (f.completion 0x00 [low32 t, high32 t]) } p
    | none =>
      match p.transport.flights.find? (closeDone p) with
      | some f => setFlight { f with progress := .held (f.completion 0x00 []) } (dropSession f.session p)
      | none => p

/-- Repeats rounds of completions. -/
def settleN : Nat → Piece → Piece
  | 0, p => p
  | k + 1, p => settleN k (settleOnce p)

/-- Writes every completion that may be written (R446, R449, R450). -/
def settle (p : Piece) : Piece := settleN (2 * p.transport.flights.length) p

/-- Notes that a change of a session took effect now (R445). -/
def noteEffect (session : Nat) (p : Piece) : Piece :=
  { p with transport := { p.transport with lastEffect := insert' p.transport.lastEffect session p.now } }

/-- A command that makes no change: FENCE, ABORT_TAG, DUMP_READ, KEY_HASH_QUERY, and a command that names panels and needs no
claim, which reads (R437, R445). -/
def changesNothing (f : Flight) : Bool :=
  f.opcode == 0x0106 || f.opcode == 0x0109 || f.opcode == 0x0E05 || f.opcode == 0x0F04 ||
  match cmdRow f.opcode with
  | some row => !(row.panels f.body).isEmpty && !row.claims f.body
  | none => false

/-- A command in flight is complete (R444, R445). -/
def finish (f : Flight) (status : Nat) (results : List Nat) (p : Piece) : Piece :=
  settle (setFlight { f with progress := .held (f.completion status results) }
    (when (status == 0x00 && !changesNothing f) (noteEffect f.session) p))

/-- A step of the piece that a started command waited for: it completes (R456). -/
def finishWaiting (kind : WaitKind) (index status : Nat) (results : List Nat → List Nat) (p : Piece) : Piece :=
  match p.transport.flights.find? fun f =>
      match f.progress with
      | .waiting k i _ => k == kind && i == index
      | _ => false with
  | some f =>
    match f.progress with
    | .waiting _ _ r => finish f status (results r) p
    | _ => p
  | none => p

/-- The same for every command that waits on one thing. -/
def finishAllWaiting (kind : WaitKind) (index status : Nat) (results : List Nat → List Nat) (p : Piece) : Piece :=
  (List.range p.transport.flights.length).foldl (fun p _ => finishWaiting kind index status results p) p

/-- Some command waits on one thing. -/
def someWaiting (p : Piece) (kind : WaitKind) (index : Nat) : Bool :=
  p.transport.flights.any fun f =>
    match f.progress with
    | .waiting k i _ => k == kind && i == index
    | _ => false

/-! ### Sources 16 to 23 of the stamp fabric -/

/-- Changes one source 16 to 23. -/
def onAux (source : Nat) (f : AuxSource → AuxSource) (p : Piece) : Piece :=
  { p with fabric := { p.fabric with aux := upd p.fabric.aux (source - 16) f } }

/-- A record of a source 16 to 23 enters the fabric's waiting records with the source's next SEQ (R251, R252). -/
def pushSource (source : Nat) (t : T16) (rising : Bool) (flags tag : Nat) (p : Piece) : Piece :=
  onAux source (fun a =>
    { a with seq := wrap32 a.seq 1
             waiting := a.waiting ++ [{ stamp := { source := source, time := t, seq := a.seq, rising := rising,
                                                   flags := flags, tag := tag, prescale := a.prescale }, entered := p.now }] }) p

/-- The next labelled record of every source, block of every stream and trigger event carries POSTJUMP (R58, R82, R110,
R193). -/
def markPostJump (p : Piece) : Piece :=
  { p with fabric := { p.fabric with postJump := List.replicate 24 true }
           rfin := p.rfin.map fun r => { r with postJump := true }
           chan := (p.chan.map fun c => { c with ddcs := c.ddcs.map fun d => { d with postJump := true } })
           trigger := { p.trigger with postJump := true }
           ledger := { p.ledger with stepTick := some p.now } }

/-- POSTJUMP is due for an item of a consumer: its mark is set and the item's own time is at or after the step. -/
def postJumpDue (p : Piece) (mark : Bool) (t : T16) : Bool :=
  mark && decide (T16.ofTick (p.ledger.stepTick.getD 0) ≤ t)

/-! ### Counter slots: what happens to their sources, and the Ledger's past -/

/-- Changes one counter slot. -/
def onSlot (s : Nat) (f : CountSlot → CountSlot) (p : Piece) : Piece :=
  { p with tally := { p.tally with slots := upd p.tally.slots s f } }

/-- A slot measures a source (R259). -/
def CountSlot.measures (c : CountSlot) (source : Nat) : Bool :=
  c.setting.src == source || (c.setting.stopSrc == source && (c.setting.function == 5 || c.setting.function == 6))

/-- The slot runs and has no stop or loss before it. -/
def CountSlot.counting (c : CountSlot) : Bool := c.state == .running && c.stopAt.isNone && c.lossAt.isNone

/-- Changes every slot. -/
def mapSlots (f : CountSlot → CountSlot) (p : Piece) : Piece :=
  { p with tally := { p.tally with slots := p.tally.slots.map f } }

/-- Something with an INVALID_CAUSE happens to a source now (R279). -/
def markSource (source cause : Nat) (p : Piece) : Piece :=
  mapSlots (fun c => if c.counting && c.measures source then
    { c with marks := c.marks ++ [{ start := p.now, stop := some p.now, cause := cause }] } else c) p

/-- A source is lost (cause 6) or sets FAULT_ACTIVE (cause 7) now: its slots stop at this tick (R279, R280). -/
def loseSource (source cause : Nat) (p : Piece) : Piece :=
  mapSlots (fun c => if c.counting && c.measures source then { c with lossAt := some (p.now, cause) } else c) p

/-- An effect that may move FREQ_VALID: what a slot sees of its loss and return (R279, R284). -/
def trackFreq (f : Piece → Piece) (p : Piece) : Piece :=
  let q := f p
  if freqValid p && !freqValid q then
    mapSlots (fun c => { c with marks := c.marks ++ [{ start := p.now, stop := none, cause := 4 }] }) q
  else if !freqValid p && freqValid q then
    mapSlots (fun c => { c with marks := (c.marks.map fun m => { m with stop := some (m.stop.getD p.now) }) }) q
  else q

/-- ∫(ρ + σ) dM up to a moment that lies at or after the previous anchor (R283). -/
def rateIntegral (l : Ledger) (t : T16) : Int :=
  let m := mappingAt l t
  l.rateSum + (t - T16.ofTick l.current.m0) * (m.rho + m.sigma)

/-- A moment as a gate passes it. -/
def gateMark (p : Piece) (t : T16) : GateMark :=
  let l := p.ledger
  let stepAt (late : T16 → Bool) : Nat := match l.stepTick with
    | some s => if late (T16.ofTick s) then 1 else 0
    | none => 0
  let tick := (T16.tick t).toNat
  let coast := match coasting p, l.coastStart with
    | true, some s => decide (s ≤ tick)
    | _, _ => decide (l.lastCoast.1 ≤ tick) && decide (tick < l.lastCoast.2)
  { time := t, label := labelAt p t, rate := rateIntegral l t, steps := l.epochCount - stepAt (fun s => decide (t ≤ s)),
    epoch := l.epochCount - stepAt (fun s => decide (t < s)), coast := coast }

/-! ### The Net's epoch messages -/

/-- A step of the root's Ledger goes down the tree as an epoch message: Δ, the new NET_EPOCH, the step tick labelled in the old
scale (R564). -/
def sendEpoch (delta : Int) (oldLabel : Nat) (p : Piece) : Piece :=
  if p.net.joined && p.net.root then
    let e := (p.net.epoch + 1) % 256
    let p := { p with net := { p.net with epoch := e } }
    (List.range 4).foldl (fun p i =>
      let q := nth p.net.ports i
      when (q.role == .down && q.state == .active) (emit (.netMessage i "epoch" [delta, e, oldLabel])) p) p
  else p

/-! ### Free values -/

/-- Draws a free value: the place in the run at which it is drawn (log entry 8). -/
def draw (p : Piece) : Piece × Nat := ({ p with free := p.free + 1 }, p.free)

end Sys2Proof.Machine
end

