-- ==== Sys2Proof/Machine/Operands.lean ====
section
/-! DEFINITION. How a command of the steward runs: the checks of R443 in their order, the body rules of R454, and the ways a
command ends; the fields of a body. -/

namespace Sys2Proof.Machine

/-! ### Status codes (R444) -/

abbrev stOk : Nat := 0x00
abbrev stRange : Nat := 0x01
abbrev stZero : Nat := 0x02
abbrev stBusy : Nat := 0x03
abbrev stNoSession : Nat := 0x04
abbrev stNotClaimed : Nat := 0x05
abbrev stAborted : Nat := 0x06
abbrev stSecure : Nat := 0x07
abbrev stNoResource : Nat := 0x08
abbrev stState : Nat := 0x09
abbrev stCheck : Nat := 0x0A
abbrev stTimeout : Nat := 0x0B
abbrev stFault : Nat := 0x0C
abbrev stUnknown : Nat := 0x0D
abbrev stGone : Nat := 0x0E

/-- How a command that has started goes on. -/
inductive Verdict where
  /-- It completes with a status and result words. -/
  | done (status : Nat) (results : List Nat)
  /-- It waits on its panel (R456). -/
  | wait (kind : WaitKind) (index : Nat) (results : List Nat)
  /-- It cannot start yet and stays in flight (R622). -/
  | postpone
  deriving DecidableEq, Repr, Inhabited

/-- A command's own work on the piece. -/
abbrev Act := Flight → Answer → Piece → Piece × Verdict

/-- The status of the first rule that fails; `rules` pairs a failure with its status, in the order of R454. -/
def firstFailure (rules : List (Bool × Nat)) : Option Nat := (rules.find? (·.1)).map (·.2)

/-- Fails with the first broken rule and changes nothing, or goes on (R454). -/
def guarded (rules : List (Bool × Nat)) (p : Piece) (k : Piece × Verdict) : Piece × Verdict :=
  match firstFailure rules with
  | some st => (p, .done st [])
  | none => k

/-- The status that a failed transfer gives a command (R444, R455). -/
def transferStatus : Transfer → Nat
  | .ok => stOk
  | .gone => stGone
  | .refused => stFault
  | .timeout => stTimeout

/-- Goes on with the bytes of a table read, or fails with the status of the failed read and changes nothing (R455). -/
def withTable (p : Piece) (a n : Nat) (host : Answer) (k : Bytes → Piece × Verdict) : Piece × Verdict :=
  match pieceRead p a n host with
  | .ok bs => k bs
  | .error t => (p, .done (transferStatus t) [])

/-- A completed command whose result words 0 and 1 are a 64-bit number (R456). -/
def doneWith (status n : Nat) : Verdict := .done status [low32 n, high32 n]

/-- The session of a command exists on its channel (R436). -/
def sessionOpen (p : Piece) (f : Flight) : Bool :=
  p.transport.sessions.any fun s => s.id == f.session && s.channel == f.channel

/-- A session holds the claim of a panel (R437). -/
def holdsClaim (p : Piece) (session : Nat) (panel : Nat × Nat) : Bool :=
  p.transport.claims.any fun c => c.panelType == panel.1 && c.inst == panel.2 && c.session == session

/-- Another command of the session with the same tag is in flight (R439). -/
def tagInFlight (p : Piece) (f : Flight) : Bool :=
  p.transport.flights.any fun g =>
    g.order != f.order && g.channel == f.channel && g.session == f.session && g.tag == f.tag

/-- SYS_HELLO and SESSION_OPEN carry no session (R436). -/
def sessionless (opcode : Nat) : Bool := opcode == 0x0101 || opcode == 0x0102

/-- Until READY every command outside group 0x01 completes with ST_BUSY, whatever else is wrong with it (R622; log entry 23). -/
def beforeReady (p : Piece) (opcode : Nat) : Bool := !p.boot.ready && opcode / 256 != 0x01

/-- The first of checks 2 to 7 of R443 that fails, and then the body size of R452, with its status; check 1 is made on the
block (R441). The second part says whether DUPLICATE is set. -/
def headerFault (p : Piece) (row : CmdRow) (f : Flight) : Option (Nat × Bool) :=
  if beforeReady p f.opcode then some (stBusy, false)
  else if 4096 ≤ f.tag then some (stRange, false)
  else if sessionless row.opcode && f.session != 0xFFFF then some (stRange, false)
  else if 256 ≤ f.session && f.session != 0xFFFF then some (stRange, false)
  else if row.secure p f.body && (!f.isSealed || decide (f.channel < 16)) then some (stSecure, false)
  else if !sessionless row.opcode && !sessionOpen p f then some (stNoSession, false)
  else if tagInFlight p f then some (stBusy, true)
  else if !((row.panels f.body).all fun x => decide (x.2 < panelInstances x.1)) then some (stRange, false)
  else if row.claims f.body && !((row.panels f.body).all (holdsClaim p f.session)) then some (stNotClaimed, false)
  else if f.body.length != row.size then some (stRange, false)
  else none

/-- A setting on its way, which takes effect at a boundary of its own (R25). -/
def Flight.settling (g : Flight) : Bool :=
  match g.progress with
  | .waiting k _ _ =>
    match k with
    | .clkout | .epochStep | .steer | .frontEnd | .chanChange | .trigSetting | .stampSetting => true
    | _ => false
  | _ => false

/-- A command whose effect comes about as soon as it starts, on a panel that has settings which wait for a boundary: the band
table, a steer or resolution of the Ledger, the holdover model, the timecode, a filter load, a trigger cell that waits for no
block, and what else TRIGGER takes (R25). -/
def Flight.immediate (f : Flight) : Bool :=
  [0x0202, 0x0206, 0x0207, 0x0208, 0x0209, 0x0304, 0x0502, 0x0503, 0x0504, 0x0505].contains f.opcode ||
    (f.opcode == 0x0501 && !(decide (1 ≤ u f.body 1 1) && decide (u f.body 1 1 ≤ 4)))

/-- A command that may not start yet: FENCE_BEFORE with an earlier command open; or an earlier command of the session on the same
panel that has not started, or whose setting is on its way while this one would take effect at once (R25, R445; log entry 16). -/
def blocked (p : Piece) (f : Flight) : Bool :=
  p.transport.flights.any fun g =>
    earlier g f && (f.fenceBefore || (sharePanel g f && (g.progress == .notStarted || (g.settling && f.immediate))))

/-- Starts a checked command, where nothing holds it back (R25, R445, R622). -/
def start (f : Flight) (host : Answer) (act : Act) (p : Piece) : Piece :=
  if blocked p f then p
  else if beforeReady p f.opcode then finish f stBusy [] p
  else
    match act f host p with
    | (p', .done st rs) => finish f st rs p'
    | (p', .wait k i rs) => settle (setFlight { f with progress := .waiting k i rs } p')
    | (p', .postpone) => p'

/-- The command in flight, fetched and not started, that a row carries out (log entry 16). -/
def fetched (p : Piece) (opcode : Nat) (c : Cmd) : Option Flight :=
  p.transport.flights.find? fun f =>
    f.opcode == opcode && f.channel == c.channel.val && f.session == c.session && f.tag == c.tag &&
    f.progress == .notStarted

/-- The command block of a row as a command in flight. -/
def flightOf (c : Cmd) (opcode order : Nat) : Flight :=
  { order := order, opcode := opcode, channel := c.channel.val, session := c.session, tag := c.tag,
    irq := c.completeIrq, fenceBefore := c.fenceBefore, isSealed := c.isSealed, body := c.body }

/-- Puts a command in flight. -/
def enroll (f : Flight) (p : Piece) : Piece :=
  { p with transport := { p.transport with flights := p.transport.flights ++ [f],
                                           nextOrder := p.transport.nextOrder + 1 } }

/-- Completes a command that failed a check of R443. -/
def failCheck (f : Flight) (status : Nat) (duplicate : Bool) (p : Piece) : Piece :=
  settle (setFlight { f with progress := .held { f.completion status [] with duplicate := duplicate } } p)

/-- A command row: the steward, while it runs, checks the command (or takes the one it has fetched and checked) and starts it
(R411, R443). -/
def runCommand (opcode : Nat) (c : Cmd) (act : Act) (p : Piece) : Piece :=
  if p.transport.state != .running then p
  else
    match fetched p opcode c with
    | some f => start f c.read act p
    | none =>
      match cmdRow opcode with
      | none => p
      | some row =>
        let f := flightOf c opcode p.transport.nextOrder
        let p := enroll f p
        match headerFault p row f with
        | some (st, dup) => failCheck f st dup p
        | none => start f c.read act p

/-- The result words that the first command waiting on one thing holds so far. -/
def waitingWords (p : Piece) (kind : WaitKind) (index : Nat) : Option (List Nat) :=
  p.transport.flights.findSome? fun f =>
    match f.progress with
    | .waiting k i r => if k == kind && i == index then some r else none
    | _ => none

/-- Writes a readout at DEST: whole, or up to the line that the DMC refused, or nothing where the host link is gone; answers the
status and the bytes written (R221, R311, R444). `dram` says whether the readout needs the DMC. -/
def readoutWrite (dram : Bool) (dest : Nat) (bs : Bytes) (refusedAt : Option Nat) (p : Piece) : Piece × Nat × Nat :=
  if dram && dmcRefuses p.dmc then
    let part := bs.take ((refusedAt.getD 0) / 64 * 64)
    let p := if part.isEmpty then p
      else if isDevice dest then dramWrite (deviceAddr dest) part p
      else if p.hostif.linkUp then emit (.hostWrite dest part) p
      else p
    (p, stFault, part.length)
  else
    match pieceWrite dest bs p with
    | (p, .ok) => (p, stOk, bs.length)
    | (p, t) => (p, transferStatus t, 0)

/-- A full calibration runs, so that a command that would start an engine completes with ST_BUSY (R457). -/
def calibrating (p : Piece) : Bool := p.cal.running

/-- A command row whose work needs no answer of the host. -/
def simple (act : Flight → Piece → Piece × Verdict) : Act := fun f _ p => act f p

end Sys2Proof.Machine
end

