-- ==== Sys2Proof/Machine/Timecode.lean ====
section
/-! DEFINITION. IRIG-B frames (02 R65, R66): the elements of a frame, their encoding from a rendered second and their decoding.
PRESUMED: the places of the fields and the widths of the pulses, which the spec names and does not give, are those of IRIG-B
(log entry 59). -/

namespace Sys2Proof.Machine

/-- The elements that hold a decimal digit or a straight binary number, lowest weight first. -/
structure IrigDigit where
  weight : Nat
  elements : List Nat
  deriving DecidableEq, Repr, Inhabited

/-- Seconds, minutes, hours, day of the year, year of the century. -/
def irigSeconds : List IrigDigit := [⟨1, [1, 2, 3, 4]⟩, ⟨10, [6, 7, 8]⟩]
def irigMinutes : List IrigDigit := [⟨1, [10, 11, 12, 13]⟩, ⟨10, [15, 16, 17]⟩]
def irigHours : List IrigDigit := [⟨1, [20, 21, 22, 23]⟩, ⟨10, [25, 26]⟩]
def irigDay : List IrigDigit := [⟨1, [30, 31, 32, 33]⟩, ⟨10, [35, 36, 37, 38]⟩, ⟨100, [40, 41]⟩]
def irigYear : List IrigDigit := [⟨1, [50, 51, 52, 53]⟩, ⟨10, [55, 56, 57, 58]⟩]

/-- The 17 elements of the straight binary seconds. -/
def irigSbs : List Nat := (List.range 9).map (· + 80) ++ (List.range 8).map (· + 90)

/-- The elements of the 27 control-function bits; with a year in the frame the first nine are not sent. -/
def irigControl : List Nat :=
  (List.range 9).map (· + 50) ++ (List.range 9).map (· + 60) ++ (List.range 9).map (· + 70)

/-- Which of year, control functions and straight binary seconds a format B000 to B007 has (R65). -/
def irigHasYear (format : Nat) : Bool := decide (4 ≤ format)
def irigHasControl (format : Nat) : Bool := format % 4 == 0 || format % 4 == 1
def irigHasSbs (format : Nat) : Bool := format % 4 == 0 || format % 4 == 3

/-- An element is the reference marker or a position identifier. -/
def irigMarker (i : Nat) : Bool := i == 0 || i % 10 == 9

/-- The bits of a number at elements, lowest first. -/
def irigBits (n : Nat) (elements : List Nat) : List (Nat × Bool) := elements.mapIdx fun k e => (e, bitAt n k)

/-- The bits of a number in decimal digits. -/
def irigDecimal (n : Nat) (ds : List IrigDigit) : List (Nat × Bool) :=
  ds.flatMap fun d => irigBits (n / d.weight % 10) d.elements

/-- The number at elements of a frame whose contents are a number with bit i for element i. -/
def irigNumber (contents : Nat) (elements : List Nat) : Nat :=
  (elements.mapIdx fun k e => flag (bitAt contents e) k).sum

/-- The number in decimal digits. -/
def irigValue (contents : Nat) (ds : List IrigDigit) : Nat :=
  (ds.map fun d => d.weight * irigNumber contents d.elements).sum

/-- The control bits that a frame carries. -/
def irigControlOf (format contents : Nat) : Nat :=
  let n := irigNumber contents irigControl
  if irigHasYear format then n / 512 * 512 else n

/-- A leap year. -/
def leapYear (y : Int) : Bool := (y % 4 == 0 && y % 100 != 0) || y % 400 == 0

/-- Year and day of the year, from 1, of a number of days since 1970-01-01. -/
def yearDay (days : Int) : Int × Nat :=
  let z := days + 719468
  let era := z / 146097
  let doe := z % 146097
  let yoe := (doe - doe / 1460 + doe / 36524 - doe / 146096) / 365
  let march := doe - (365 * yoe + yoe / 4 - yoe / 100)
  let y := yoe + era * 400
  if 306 ≤ march then (y + 1, (march - 305).toNat)
  else (y, (march + 60 + (if leapYear y then 1 else 0)).toNat)

/-- The high time in ms of each of the 100 elements of a frame: 8 for a marker, 5 for a 1 and 2 for a 0 (R66). `rendered` counts
seconds since 1970 without leap seconds; `leap`: the second is 23:59:60 in place of the 23:59:59 that `rendered` names. -/
def irigFrame (format : Nat) (rendered : Int) (leap : Bool) (control : Nat) : List Nat :=
  let (year, day) := yearDay (rendered / 86400)
  let sod := (rendered % 86400).toNat
  let bits :=
    irigDecimal (if leap then 60 else sod % 60) irigSeconds ++ irigDecimal (sod / 60 % 60) irigMinutes ++
    irigDecimal (sod / 3600) irigHours ++ irigDecimal day irigDay ++
    (if irigHasYear format then irigDecimal (year % 100).toNat irigYear else []) ++
    (if irigHasControl format then
      (irigBits control irigControl).filter fun x => !irigHasYear format || decide (60 ≤ x.1) else []) ++
    (if irigHasSbs format then irigBits (if leap then sod + 1 else sod) irigSbs else [])
  (List.range 100).map fun i =>
    if irigMarker i then 8 else if bits.contains (i, true) then 5 else 2

/-- The nominal width in ms that a pulse of a width in µs has: none where it is invalid (R65). -/
def irigWidth (us : Nat) : Option Nat :=
  [2, 5, 8].find? fun n => decide (us ≤ 1000 * n + Config.irigTolerance) && decide (1000 * n ≤ us + Config.irigTolerance)

/-- The contents of a frame with every pulse valid and every position identifier in its place, as a number with bit i for
element i; a position identifier where the frame has a bit is a pulse of invalid width (R65). -/
def irigContents (widths : List Nat) : Option Nat :=
  let ok := widths.length == 100 && (List.range 100).all fun i =>
    match irigWidth (nth widths i) with
    | some n => (n == 8) == irigMarker i
    | none => false
  if ok then some (maskOf 100 fun i => irigWidth (nth widths i) == some 5) else none

end Sys2Proof.Machine
end

