-- ==== Sys2Proof/Machine/Time.lean ====
section
/-! DEFINITION. CLOCKS and LEDGER (02): presence, synthesizer, clock outputs, the mapping of Ledger time, discipline, steps,
coasting, timecode; their commands (20 R498 to R506). -/

namespace Sys2Proof.Machine

/-- Changes CLOCKS. -/
def onClocks (f : Clocks → Clocks) (p : Piece) : Piece := { p with clocks := f p.clocks }

/-- Changes LEDGER. -/
def onLedger (f : Ledger → Ledger) (p : Piece) : Piece := { p with ledger := f p.ledger }

/-- The die temperature code: the maximum of monitor channels 0 to 15 (R89). -/
def dieTemp (p : Piece) : Nat := (p.monitor.results.take 16).foldl (fun m r => max m r.code) 0

/-! ### Mapping changes, slews and steps -/

/-- The spacing of mapping changes: 64 µs (R54). -/
def mappingSpacing : Nat := 64 * ticksPerUs

/-- A mapping change may be made at this tick (R54). -/
def mappingFree (p : Piece) : Bool :=
  (match p.ledger.changedAt with
   | some c => decide (c + mappingSpacing ≤ p.now)
   | none => true) &&
  (match p.ledger.slew with
   | some s => decide (p.now + mappingSpacing ≤ s.stop)
   | none => true)

/-- Sets a new anchor at a tick, with new rates (R53). -/
def reanchor (m : Nat) (rho sigma : Int) (l : Ledger) : Ledger :=
  { l with previous := l.current, older := l.previous :: l.older, changedAt := some m
           rateSum := l.rateSum + (T16.ofTick m - T16.ofTick l.current.m0) * (l.current.rho + l.current.sigma)
           current := { m0 := m, l0 := l.current.exact (T16.ofTick m), rho := rho, sigma := sigma } }

/-- |σ| of a slew of |Δ| (2⁻⁴⁸ s): the smaller of SLEW_MAX and |Δ| / 64 µs, in 2⁻⁶⁴, rounded half up (R55). -/
def slewRate (slewMax : Nat) (delta : Nat) : Nat :=
  let a := (slewMax : Rat) * 2 ^ 64 / 10 ^ 12
  let b := (delta : Rat) * 2 ^ 16 * 15625
  (roundRat (min a b)).toNat

/-- Starts a slew of Δ at the present tick in place of any that runs (R55). -/
def startSlew (rho : Int) (delta : Int) (p : Piece) : Piece :=
  let r := slewRate p.ledger.slewMax delta.natAbs
  if delta == 0 || r == 0 then onLedger (fun l => { reanchor p.now rho 0 l with slew := none }) p
  else
    let n := ceilDiv (delta.natAbs * labelUnits) (65536 * r)
    onLedger (fun l => { reanchor p.now rho (if delta < 0 then -(r : Int) else r) l with
                         slew := some { start := p.now, stop := p.now + n, delta := delta } }) p

/-- The part of a running slew still to be corrected, in 2⁻⁴⁸ s (R55, R63). -/
def remainingSlew (p : Piece) : Rat :=
  match p.ledger.slew with
  | some s =>
    let doneUnits : Int := ((min p.now s.stop - s.start : Nat) : Int) * 65536 * p.ledger.current.sigma.natAbs
    max 0 ((s.delta.natAbs : Rat) - (doneUnits : Rat) / labelUnits)
  | none => 0

/-- A holdover estimate that starts at the present tick (R60). -/
def newEstimate (p : Piece) : Estimate :=
  { start := p.now, u0 := p.ledger.holdover.u0, startTemp := dieTemp p, upTo := p.now }

/-- Restarts the holdover estimate of FREE (R59). -/
def restartEstimate (p : Piece) : Piece := onLedger (fun l => { l with freeEstimate := newEstimate p }) p

/-- The ends of LEDGER_RATE's signed 48-bit range (R53). -/
def rhoMin : Int := -(2 ^ 47)
def rhoMax : Int := 2 ^ 47 - 1

/-- ρ after a change, within its signed 48 bits (R53). -/
def changedRho (rho : Int) (c : HeldChange) : Int := max rhoMin (min rhoMax (c.rhoSet.getD rho + c.rhoAdd))

/-- ρ once the changes that wait are made. -/
def heldRho (l : Ledger) : Int := l.heldChanges.foldl changedRho l.current.rho

/-- RATE_LIMIT after a change that gives ρ a value: ρ is held at an end of its range where the loop asked for more, until ρ moves
(R57). -/
def limitAfter (l : Ledger) (c : HeldChange) (rho : Int) : Bool :=
  if c.rhoSet.isSome then c.limited else l.rateLimit && rho == l.current.rho

/-- Makes a mapping change at the present tick (R53, R55); a LEDGER_STEER completes with its anchor tick (R503) and restarts
the estimate of a free Ledger (R59). -/
def applyChange (c : HeldChange) (p : Piece) : Piece :=
  let rho := changedRho p.ledger.current.rho c
  let p := onLedger (fun l => { l with rateLimit := limitAfter l c rho }) p
  let p := match c.slew with
    | some d => startSlew rho d p
    | none => onLedger (fun l => reanchor p.now rho l.current.sigma l) p
  if c.command then
    finishWaiting .steer 0 stOk (fun _ => [low32 p.now, high32 p.now])
      (restartEstimate p)
  else p

/-- Makes a mapping change, or holds it until R54 allows it. -/
def requestChange (c : HeldChange) (p : Piece) : Piece :=
  if mappingFree p && p.ledger.heldChanges.isEmpty then applyChange c p
  else onLedger (fun l => { l with heldChanges := l.heldChanges ++ [c] }) p

/-- The code of a Ledger state (R67). -/
def ledgerCode : LedgerState → Nat
  | .unset => 0
  | .free => 1
  | .locked => 2
  | .slewing => 3
  | .coast => 4
  | .jumpPending => 5

/-- Changes the Ledger's state; each change raises a LEDGER record (R59, R496). Leaving the coast ends it (R60). -/
def setLedgerState (new : LedgerState) (delta : Int) (p : Piece) : Piece :=
  let old := p.ledger.state
  let ends := new != .coast && new != .jumpPending
  let p := onLedger (fun l =>
    { l with state := new, coastStart := if ends then none else l.coastStart
             lastCoast := match ends, l.coastStart with
               | true, some s => (s, p.now)
               | _, _ => l.lastCoast }) p
  when (old != new) (raiseEvent 0x07 0x01 0
    (leBytes 1 (ledgerCode new) ++ leBytes 1 (ledgerCode old) ++ zeros 2 ++ leBytes 8 (twos 64 delta) ++
      leBytes 4 p.ledger.epochCount)) p

/-- A coast starts, with its estimate (R60). -/
def startCoast (p : Piece) : Piece :=
  onLedger (fun l => { l with coastStart := some p.now, coastEstimate := newEstimate p }) p

/-- Enters COAST; a coast that runs already goes on (R60). -/
def enterCoast (p : Piece) : Piece := setLedgerState .coast 0 (if coasting p then p else startCoast p)

/-- A step of the Ledger passes the targets of TIME_MATCH cells (R181). -/
def passTargets (oldLabel newLabel : Nat) (p : Piece) : Piece :=
  { p with trigger := { p.trigger with cells := (p.trigger.cells.map fun c =>
      match c.target with
      | some t => if decide (oldLabel < t) && decide (t < newLabel) then { c with stepped := true } else c
      | none => c) } }

/-- A step of the Ledger at a moment of the present tick, to the exact time `l` (R58): the epoch counts, the source-23 mark and
the journal entry are written, the next stamp of every source carries POSTJUMP. -/
def stepLedger (t : T16) (l : Int) (p : Piece) : Piece :=
  let m := p.now
  let oldLabel := p.label
  let cur := p.ledger.current
  let l0 := l - (t - T16.ofTick m) * (2 ^ 64 + cur.rho + cur.sigma)
  let p := onLedger (fun g => { g with previous := g.current, older := g.previous :: g.older, changedAt := some m, current := { cur with m0 := m, l0 := l0 },
                                       rateSum := rateIntegral g (T16.ofTick m), stepTick := some m,
                                       epochCount := wrap32 g.epochCount 1 }) p
  let newLabel := p.label
  let delta := roundLabel (l0 - cur.exact (T16.ofTick m))
  let p := writeJournal { code := 0x1000, panelType := 0x01,
                          detail := leBytes 8 (twos 64 delta) ++ labelBytes oldLabel ++ labelBytes newLabel } p
  let p := passTargets oldLabel newLabel p
  sendEpoch delta oldLabel (markPostJump (pushSource 23 (T16.ofTick m) true 0 0 p))

/-- The step of LEDGER_SET_EPOCH at the present tick: L at moment `t` becomes the label; the state follows R59. -/
def setEpochAt (t : T16) (w : EpochWait) (p : Piece) : Piece :=
  let before := p.ledger.current.exact (T16.ofTick p.now)
  let p := stepLedger t (w.label * labelUnits) p
  let delta := roundLabel (p.ledger.current.exact (T16.ofTick p.now) - before)
  let p := restartEstimate (onLedger (fun l => { l with epochWait := none }) p)
  let p := match p.ledger.state, p.ledger.source, p.ledger.sourcePresent with
    | .unset, .none, _ => setLedgerState .free delta p
    | .unset, _, true => setLedgerState .locked delta p
    | .unset, _, false => setLedgerState .coast delta (startCoast p)
    | _, _, _ => p
  finishWaiting .epochStep 0 stOk (fun _ => [low32 p.now, high32 p.now, p.ledger.epochCount]) p

/-- LEDGER_EPOCH_STEP: a waiting step is made at its AT_MINT tick (R58). -/
def execLedgerEpochStep : State → Out := effect fun p =>
  match p.ledger.epochWait with
  | some w =>
    match w.atMint with
    | some m => when (m == p.now) (setEpochAt (T16.ofTick m) w) p
    | none => p
  | none => p

/-- MAPPING_CHANGE_APPLY: the oldest held change is applied once 64 µs have passed (R54). -/
def execMappingChangeApply : State → Out := effect fun p =>
  match p.ledger.heldChanges with
  | c :: rest => when (mappingFree p) (fun p => applyChange c (onLedger (fun l => { l with heldChanges := rest }) p)) p
  | [] => p

/-- SLEWING with no slew left, neither running nor held, becomes LOCKED (R63). -/
def leaveSlewing (p : Piece) : Piece :=
  when (p.ledger.state == .slewing && !(p.ledger.heldChanges.any (·.slew.isSome))) (setLedgerState .locked 0) p

/-- SLEW_END: σ returns to zero on the tick at which the correction reaches |Δ|; SLEWING becomes LOCKED, with a Δ of zero, which
has no slew, as well (R55, R63). -/
def execSlewEnd : State → Out := effect fun p =>
  match p.ledger.slew with
  | some s => when (decide (s.stop ≤ p.now))
      (fun p => leaveSlewing (onLedger (fun l => { reanchor s.stop l.current.rho 0 l with slew := none }) p)) p
  | none => leaveSlewing p

/-! ### Discipline loop (R57) -/

/-- The loop with error e and time t since the last measurement, in seconds: integ, tune code, the ρ it asks for. -/
def loopStep (l : Ledger) (vcxo : Bool) (e t : Rat) : Rat × Nat × Int :=
  let tau : Rat := l.loopTau
  let integ := l.integ + e * t / (tau * tau)
  let y := integ + 2 * e / tau
  if vcxo then
    let gain : Rat := (l.holdover.vcxoGain : Rat) / 10 ^ 15
    let code := (max 0 (min 0xFFFFF (0x80000 + truncRat (y / gain)))).toNat
    (integ, code, roundRat ((y - ((code : Rat) - 0x80000) * gain) * 2 ^ 64))
  else (integ, l.tuneCode, roundRat (y * 2 ^ 64))

/-- One measurement of the loop at a moment; it acts while the Ledger is LOCKED or SLEWING and holds otherwise (R57). DESIGN
CHOICE: T of the first measurement is 0, and a gap in which the source was absent counts into the next T; the spec does not say
(log entry 58). -/
def discipline (t : T16) (e : Rat) (p : Piece) : Piece :=
  let l := p.ledger
  let dt : Rat := match l.lastMeasure with
    | some t0 => ((t - t0 : Int) : Rat) / (65536 * ticksPerSecond)
    | none => 0
  if l.state == .locked || l.state == .slewing then
    let (integ, code, rho) := loopStep l p.clocks.vcxo e dt
    let clamped := max rhoMin (min rhoMax rho)
    requestChange { rhoSet := some clamped, limited := decide (clamped ≠ rho) }
      (onLedger (fun l => { l with integ := integ, tuneCode := code, lastMeasure := some t }) p)
  else onLedger (fun l => { l with lastMeasure := some t }) p

/-! ### PPSIN (R41) -/

/-- The Ledger time that has passed since the anchor at a moment, in exact Ledger units, or in ticks while the Ledger is UNSET; and
the length of a second in the same units. Each stretch counts under the mapping in force in it; a step of the Ledger between the
two does not count (log entry 58). -/
def sinceAnchor (p : Piece) (anchor t : T16) : Int × Int :=
  if p.ledger.state == .unset then (t - anchor, 65536 * (ticksPerSecond : Int))
  else ((t - anchor) * 2 ^ 64 + (rateIntegral p.ledger t - p.clocks.ppsAnchorRate), (secondUnits : Int))

/-- The expected time nearest to a moment, as n seconds after the anchor, and whether the moment lies within ±PPS_WINDOW of
it. -/
def ppsVerdict (p : Piece) (anchor t : T16) : Nat × Bool :=
  let (d, sec) := sinceAnchor p anchor t
  let n := (2 * d + sec) / (2 * sec)
  let dev := (d - n * sec).natAbs
  (n.toNat, decide (1 ≤ n) && decide (dev * 1000000000 ≤ p.clocks.ppsWindowNs * sec.toNat))

/-- The source's time minus L at a moment of a good pulse: a whole second, the one nearest to L plus the pending Δ (R62). -/
def ppsDelta (p : Piece) (t : T16) (pendingDelta : Int) : Int :=
  let l := (mappingAt p.ledger t).exact t
  let s := roundDiv (l + pendingDelta * labelUnits) secondUnits
  s * secondUnits - l

/-- What a good pulse does for the Ledger: the loop measures, or a pending Δ is refreshed (R57, R62). -/
def ppsMeasure (t : T16) (p : Piece) : Piece :=
  if p.ledger.source != .ppsin then p
  else if p.ledger.state == .jumpPending then
    onLedger (fun l => { l with lastDelta := roundLabel (ppsDelta p t l.lastDelta) }) p
  else if p.ledger.sourcePresent then discipline t ((ppsDelta p t 0 : Rat) / secondUnits) p
  else p

/-- A good pulse: the new anchor; source 21 takes it where it is enabled; the loop measures; a step that waits for it is made
(R41, R252, R502). -/
def goodPulse (t : T16) (p : Piece) : Piece :=
  let r := rateIntegral p.ledger t
  let p := onClocks (fun c =>
    { c with ppsAnchor := some t, ppsAnchorRate := r, ppsWindows := 0, ppsGood := c.ppsGood + 1, ppsBad := 0 }) p
  let p := when (nth p.fabric.aux 5).en (pushSource 21 t true 0 0) p
  match p.ledger.epochWait with
  | some w => if w.atMint.isNone then setEpochAt t w p else ppsMeasure t p
  | none => ppsMeasure t p

/-- A pulse that is not good counts as bad; while PPSIN is not present it becomes the anchor (R41). -/
def badPulse (t : T16) (p : Piece) : Piece :=
  onClocks (fun c =>
    { c with ppsBad := c.ppsBad + 1, ppsGood := 0
             ppsAnchor := if c.ppsPresent then c.ppsAnchor else some t
             ppsAnchorRate := if c.ppsPresent then c.ppsAnchorRate else rateIntegral p.ledger t
             ppsWindows := if c.ppsPresent then c.ppsWindows else 0 }) p

/-- PPSIN_PULSE: a rising edge captured at a fraction of the present tick, timed at the ball, evaluated while the synthesizer is
LOCKED (R22, R41). -/
def execPpsinPulse (fraction : Fin 65536) : State → Out := effect fun p =>
  when (p.clocks.synth == .locked) (fun p =>
    let t := T16.ofTick p.now + fraction.val - Config.rootDelay 21
    match p.clocks.ppsAnchor with
    | none => badPulse t p
    | some a =>
      let (n, within) := ppsVerdict p a t
      if within && decide (p.clocks.ppsWindows < n) then goodPulse t p else badPulse t p) p

/-- PPS_WINDOW_CLOSE: the next window has passed with no pulse in it: one missing pulse (R41). -/
def execPpsWindowClose : State → Out := effect fun p =>
  match p.clocks.ppsAnchor with
  | some a =>
    let n := p.clocks.ppsWindows + 1
    let (d, sec) := sinceAnchor p a (T16.ofTick p.now)
    let past := decide ((n * sec + (p.clocks.ppsWindowNs * sec) / 1000000000 : Int) < d)
    when (p.clocks.synth == .locked && past)
      (onClocks fun c => { c with ppsBad := c.ppsBad + 1, ppsGood := 0, ppsWindows := n }) p
  | none => p

/-- PPS_LOSS: 4 bad or missing pulses; a step that waits for a pulse completes with ST_STATE (R41, R42, R502). -/
def execPpsLoss : State → Out := effect fun p =>
  when (p.clocks.ppsPresent && decide (4 ≤ p.clocks.ppsBad)) (fun p =>
    let p := raiseAlarm 0x0101 0x02 0
      (onClocks (fun c => { c with ppsPresent := false, ppsinLossCount := sat32 c.ppsinLossCount 1 }) p)
    match p.ledger.epochWait with
    | some w => when w.atMint.isNone (fun p =>
        finishWaiting .epochStep 0 stState (fun _ => []) (onLedger (fun l => { l with epochWait := none }) p)) p
    | none => p) p

/-- PPSIN_PRESENT: 1,024 consecutive good pulses (R41). -/
def execPpsinPresent : State → Out := effect fun p =>
  when (!p.clocks.ppsPresent && decide (1024 ≤ p.clocks.ppsGood)) (onClocks fun c => { c with ppsPresent := true }) p

/-! ### REFIN (R40, R42) -/

/-- The nominal period of a REFIN setting in ps. -/
def refinPeriod (freq : Nat) : Nat :=
  match freq with
  | 0 => 200000
  | 1 => 100000
  | _ => 10000

/-- A period lies within ±25 % of a nominal (R40). -/
def periodGood (freq periodPs : Nat) : Bool :=
  let n := refinPeriod freq
  decide (3 * n ≤ 4 * periodPs) && decide (4 * periodPs ≤ 5 * n)

/-- The counts of good and bad cycles after a run of equal cycles (R40). -/
def countCycles (c : Clocks) (run : Nat × Option Nat) : Clocks :=
  if run.1 == 0 then c
  else if run.2.elim false (periodGood c.refinFreq) then { c with refinGood := c.refinGood + run.1, refinBad := 0 }
  else { c with refinBad := c.refinBad + run.1, refinGood := 0 }

/-- The counts after a list of runs. -/
def measureCycles (cycles : List (Nat × Option Nat)) (c : Clocks) : Clocks := cycles.foldl countCycles c

/-- The period of the last cycle measured. -/
def lastPeriod (cycles : List (Nat × Option Nat)) : Option Nat := (cycles.getLast?).bind (·.2)

/-! ### Synthesizer (R43 to R46) -/

/-- The shifted edges of a band at a temperature code, in 1/160 MHz (R44). -/
def bandEdges (b : Band) (temp : Nat) : Int × Int :=
  let shift := b.tempSlope * ((temp : Int) - 1424)
  (b.fLow * 160 + shift, b.fHigh * 160 + shift)

/-- The entry that R44 selects at a temperature code. -/
def selectBand (bands : List Band) (temp : Nat) : Option Nat :=
  let f : Int := 10240 * 160
  let ok (i : Nat) : Bool :=
    let b := nth bands i
    let (lo, hi) := bandEdges b temp
    b.valid && decide (lo ≤ f) && decide (f ≤ hi)
  let dist (i : Nat) : Nat := let (lo, hi) := bandEdges (nth bands i) temp; (lo + hi - 2 * f).natAbs
  ((List.range bands.length).filter ok).foldl
    (fun best i => match best with
      | some j => if dist i < dist j then some i else some j
      | none => some i) none

/-- A window of 1 µs of REFIN counts within tolerance (R46). -/
def windowGood (count : Nat) : Bool := decide (2558 ≤ count) && decide (count ≤ 2562)

/-- The number of consecutive windows within tolerance after runs of equal windows (R46). -/
def countWindows (windows : List (Nat × Nat)) (n : Nat) : Nat :=
  windows.foldl (fun n w => if w.1 == 0 then n else if windowGood w.2 then n + w.1 else 0) n

/-- Selects a band and closes the loop (R44, R45); none: no entry qualifies. -/
def startSynth (waitUs : Nat) (p : Piece) : Option Piece :=
  let temp := dieTemp p
  (selectBand p.clocks.bands temp).map fun i =>
    onClocks (fun c => { c with synth := .wait, band := i, bandTemp := temp, lockWait := waitUs }) p

/-! ### Loss and return of the time source (R60 to R64) -/

/-- The time source named by REF_SELECT is present. -/
def sourceIsPresent (p : Piece) : Bool :=
  match p.ledger.source with
  | .none => false
  | .ppsin => p.clocks.ppsPresent
  | .net => p.net.sourcePresent

/-- TIME_SOURCE_LOST: the Ledger coasts; a JUMP_PENDING returns to COAST (R60, R64). -/
def execTimeSourceLost : State → Out := effect fun p =>
  when (p.ledger.sourcePresent && !sourceIsPresent p) (fun p =>
    let p := onLedger (fun l => { l with sourcePresent := false, lost := true }) p
    match p.ledger.state with
    | .unset | .free => p
    | _ => enterCoast p) p

/-- |Δ| lies within CAPTURE (R62). -/
def withinCapture (capturePs : Nat) (delta : Int) : Bool :=
  decide (0 < capturePs) && decide (delta.natAbs * 10 ^ 12 ≤ capturePs * 2 ^ 48)

/-- The decision at the return of the source with Δ in 2⁻⁴⁸ s (R62). -/
def returnSource (delta : Int) (p : Piece) : Piece :=
  if p.ledger.refInvalid then p
  else if withinCapture p.ledger.capture delta then
    setLedgerState .slewing 0 (requestChange { slew := some delta } (onLedger (fun l => { l with refJump := false }) p))
  else
    let p := onLedger (fun l => { l with lastDelta := delta, refJump := true }) p
    setLedgerState .jumpPending delta (raiseAlarm 0x0003 0x01 0 p)

/-- Δ in 2⁻⁴⁸ s, the source's time minus L: from the latest good pulse of PPSIN, or from the latest good exchange of the UP port
(R62). -/
def sourceDelta (p : Piece) : Int :=
  match p.ledger.source with
  | .none => 0
  | .ppsin => (p.clocks.ppsAnchor.map fun t => roundLabel (ppsDelta p t 0)).getD 0
  | .net => ((p.net.ports.find? (·.role == .up)).map fun q => -q.theta).getD 0

/-- TIME_SOURCE_PRESENT: the source that REF_SELECT names is present again, with the synthesizer LOCKED, and Δ is measured; an UNSET Ledger with source
NET steps to the Net's time (R46, R62 to R64, R563). -/
def execTimeSourcePresent (source : TimeSource) : State → Out := effect fun p =>
  when (source == p.ledger.source && sourceIsPresent p && !p.ledger.sourcePresent && p.clocks.synth == .locked) (fun p =>
    let delta := sourceDelta p
    let p := onLedger (fun l =>
      { l with sourcePresent := true, lost := false, refInvalid := l.refInvalid && !l.lost }) p
    match p.ledger.state with
    | .coast => returnSource delta p
    | .unset =>
      if p.ledger.source == .net then
        let t := T16.ofTick p.now
        setLedgerState .locked delta (stepLedger t (p.ledger.current.exact t + delta * labelUnits) p)
      else p
    | _ => p) p

/-- LEDGER_MISMATCH: the two counters disagree (R56). -/
def execLedgerMismatch : State → Out := effect fun p =>
  raiseAlarm 0x0000 0x01 0 (onLedger (fun l => { l with mismatch := true }) p)

/-- TAP_PHASE: a tap's error leaves ±20 ps; TIME_VALID stays low for 1 ms after it (R23, R591). -/
def execTapPhase (island : Nat) : State → Out := effect fun p =>
  raiseAlarm 0x0001 0x01 island
    { p with safety := { p.safety with tapBadUntil := p.now + ticksPerMs } }

/-! ### Holdover (R60, R61, R63) -/

/-- u of an estimate at the present tick, in ps (R60). -/
def Estimate.u (h : Holdover) (e : Estimate) (now : Nat) : Rat :=
  let t : Rat := ((now - e.start : Nat) : Rat) / ticksPerSecond
  let i : Rat := (e.tempIntegral : Rat) / (16 * ticksPerSecond)
  (e.u0 : Rat) + (h.y : Rat) * t / 1000 + (h.d : Rat) * t * t / 2000000 + (h.ct : Rat) * i / 1000

/-- u in ps at the present tick (R59, R60, R63). -/
def holdoverU (p : Piece) : Rat :=
  let l := p.ledger
  let h := l.holdover
  let rest : Rat := remainingSlew p * 10 ^ 12 / 2 ^ 48
  match l.state with
  | .locked => h.u0
  | .slewing => h.u0 + rest
  | .coast | .jumpPending => l.coastEstimate.u h p.now + rest
  | _ => l.freeEstimate.u h p.now

/-- The integral of an estimate goes on to a tick under the temperature that stood until then (R60; log entry 15). -/
def Estimate.grow (temp : Int) (now : Nat) (e : Estimate) : Estimate :=
  { e with tempIntegral := e.tempIntegral + (temp - e.startTemp).natAbs * (now - e.upTo), upTo := now }

/-- Both estimates go on to the present tick: at an evaluation, and before the die temperature changes. -/
def growEstimates (p : Piece) : Piece :=
  onLedger (fun l => { l with freeEstimate := l.freeEstimate.grow (dieTemp p) p.now
                              coastEstimate := l.coastEstimate.grow (dieTemp p) p.now }) p

/-- HOLDOVER_EVAL: the evaluation at a tick whose count is a multiple of 2,560,000 (R61). -/
def execHoldoverEval : State → Out := effect fun p =>
  when (p.clocks.mintRun && p.now % ticksPerMs == 0 && p.ledger.state != .unset) (fun p =>
    let p := growEstimates p
    let uu := holdoverU p
    let reached := decide ((p.ledger.holdover.timeLimit : Rat) ≤ uu)
    let latch := reached && !p.ledger.limitReached
    let p := onLedger (fun l => { l with uncert := min (roundRat uu).toNat 0xFFFFFFFF, withinLimit := !reached,
                                         limitReached := reached }) p
    when latch (raiseAlarm 0x0002 0x01 0) p) p

/-! ### PPSOUT and TCODE_OUT at a second boundary (R51, R66) -/

/-- The Ledger second whose boundary falls between this tick and the next, if one does (R51). -/
def boundarySecond (p : Piece) : Option Int :=
  let a := (p.ledger.current.exact (T16.ofTick p.now) - 1) / secondUnits
  let b := (p.ledger.current.exact (T16.ofTick (p.now + 1)) - 1) / secondUnits
  if a < b then some b else none

/-- The steps of 6.1 ps from the present tick to the boundary of a second, to the nearest (R51; log entry 58). -/
def fineDelay (second : Int) (p : Piece) : Nat :=
  let m := p.ledger.current
  let rest := second * secondUnits - m.exact (T16.ofTick p.now)
  (roundDiv (rest * 390625) (6100 * 65536 * (2 ^ 64 + m.rho + m.sigma).toNat)).toNat

/-- PPSOUT at a boundary: a pulse, unless it falls within PPS_WIDTH of the last rising edge (R51). -/
def ppsoutRise (second : Int) (p : Piece) : Piece :=
  let o := p.clocks.ppsout
  let near := match o.lastRise with
    | some m => decide (p.now < m + o.widthUs * ticksPerUs)
    | none => false
  let fine := fineDelay second p
  when o.en (onClocks fun c => { c with ppsout :=
    if near then { o with running := true }
    else { o with running := true, level := true, lastRise := some p.now, fine := fine } }) p

/-- TCODE_OUT at a boundary: a pending UTC_OFFSET takes effect and a frame starts (R66). -/
def timecodeStart (second : Int) (p : Piece) : Piece :=
  let tc := p.clocks.timecode
  let (offset, leap, pend) := match tc.pendingOffset with
    | some (o, eff) =>
      if (eff : Int) ≤ second then
        (o, o == tc.utcOffset - 1 && (second + tc.utcOffset) % 86400 == 0, none)
      else (tc.utcOffset, false, some (o, eff))
    | none => (tc.utcOffset, false, none)
  let frame := irigFrame tc.format (second + offset) leap tc.control
  let p := onClocks (fun c => { c with timecode := { tc with utcOffset := offset, pendingOffset := pend, running := tc.outEn
                                                             frameStart := p.now, frame := frame } }) p
  when (tc.outEn && !p.safety.safeState) (emit (.timecodeFrame tc.format (second + offset) leap tc.control frame)) p

/-- The level of TCODE_OUT at the present tick: each element of the frame is 10 ms long (R66, R590). -/
def tcodeLevel (p : Piece) : Bool :=
  let tc := p.clocks.timecode
  let e := p.now - tc.frameStart
  p.boot.released && !p.safety.safeState && tc.running && p.ledger.state != .unset &&
    decide (e % (10 * ticksPerMs) < nth tc.frame (e / (10 * ticksPerMs)) * ticksPerMs)

/-- LEDGER_SECOND_BOUNDARY: PPSOUT rises and a timecode frame starts, not while the Ledger is UNSET (R51, R66). -/
def execLedgerSecondBoundary : State → Out := effect fun p =>
  match boundarySecond p with
  | some k => when (p.ledger.state != .unset && p.clocks.mintRun) (fun p => timecodeStart (k % 2 ^ 32) (ppsoutRise k p)) p
  | none => p

/-- PPSOUT_PULSE_END: PPS_WIDTH has passed; with EN 0 PPSOUT stops (R51). DESIGN CHOICE: a PPS_WIDTH that reaches the time root
during a pulse applies to that pulse; the spec does not say (log entry 58). -/
def execPpsoutPulseEnd : State → Out := effect fun p =>
  let o := p.clocks.ppsout
  match o.lastRise with
  | some m => when (o.level && decide (m + o.widthUs * ticksPerUs ≤ p.now))
      (onClocks fun c => { c with ppsout := { o with level := false, running := o.en } }) p
  | none => p

/-! ### Clock outputs (R49, R50) -/

/-- The first tick after `m` at which a MINT_DIV setting has a rising edge. -/
def nextRising (s : ClkSetting) (m : Nat) : Nat := m + s.divider - (m + s.divider - s.phase % s.divider) % s.divider

/-- The tick at which a MINT_DIV output that runs stops: the end of the present high phase, or now. -/
def stopTick (s : ClkSetting) (m : Nat) : Nat :=
  let pos := (m + s.divider - s.phase % s.divider) % s.divider
  if pos < s.divider / 2 then m + s.divider / 2 - pos else m

/-- An output has started and not stopped at a tick. -/
def clkRuns (c : Clkout) (m : Nat) : Bool :=
  (match c.startsAt with | some a => decide (a ≤ m) | none => false) &&
  (match c.stopsAt with | some b => decide (m < b) | none => true)

/-- The level of an output at a tick; an armed MINT_DIV restart counts from its own start. -/
def clkLevel (c : Clkout) (m : Nat) : Bool :=
  clkRuns c m &&
  (if c.setting.refCopy then c.high
   else decide ((m + c.setting.divider - c.setting.phase % c.setting.divider) % c.setting.divider < c.setting.divider / 2))

/-- A setting takes hold of an output that is low: it is armed at the next rising-edge position, or stays off (R50). -/
def clkArm (new : ClkSetting) (m : Nat) (c : Clkout) : Clkout :=
  { c with setting := new, stopsAt := none, next := none, high := false, armed := new.en && new.refCopy
           startsAt := if new.en && !new.refCopy then some (nextRising new m) else none }

/-- A running output stops at the end of its high phase and then takes a setting (R50). -/
def clkStop (new : ClkSetting) (m : Nat) (c : Clkout) : Clkout :=
  if c.setting.refCopy then (if c.high then { c with next := some new } else clkArm new m c)
  else { c with stopsAt := some (stopTick c.setting m), next := some new }

/-- A setting reaches the time root (R50): an idle or armed output is armed at the next rising edge, or stays off; a running
output goes on, stops after its high phase, or stops and starts again at the first rising edge of the new setting; an output that
is stopping takes the latest setting once it has stopped. -/
def clkArrive (new : ClkSetting) (m : Nat) (c : Clkout) : Clkout :=
  let c := { c with pending := none }
  if !clkRuns c m then clkArm new m c
  else if c.next.isSome then { c with next := some new }
  else if new.en && new.divider == c.setting.divider && new.phase == c.setting.phase && new.refCopy == c.setting.refCopy then
    { c with setting := new }
  else clkStop new m c

/-- A stop that has come about gives way to the setting that follows it. -/
def clkSettle (m : Nat) (c : Clkout) : Clkout :=
  match c.stopsAt, c.next with
  | some b, some n => if b ≤ m then clkArm n (b - 1) c else c
  | _, _ => c

/-- A REF_COPY output at an edge of REFIN, the n-th rising one or the falling one after it: REFIN divided by DIVIDER starts, goes on
or ends (R49, R50). DESIGN CHOICE: it is high for the first half of the 2 × DIVIDER half cycles of its period, counted from reset;
the spec does not say (log entry 58). -/
def clkRefEdge (n : Nat) (rising : Bool) (m : Nat) (c : Clkout) : Clkout :=
  if !c.setting.refCopy then c
  else
    let d := c.setting.divider
    let half := 2 * ((n + d - c.setting.phase % d) % d) + (if rising then 0 else 1)
    let high := decide (half < d)
    if c.armed then (if half == 0 then { c with armed := false, startsAt := some m, high := true } else c)
    else if c.startsAt.isNone then c
    else
      match c.next, high with
      | some s, false => clkArm s m c
      | _, _ => { c with high := high }

/-- REFIN's edge as the REF_COPY outputs see it (R50). -/
def refinClock (rising : Bool) (p : Piece) : Piece :=
  let m := p.now
  onClocks (fun c =>
    let n := if rising then c.refinEdges + 1 else c.refinEdges
    { c with refinEdges := n, clkouts := c.clkouts.map fun k => clkRefEdge n rising m (clkSettle m k) }) p

/-- CLOCKS_STATUS (R67). -/
def clocksStatus (p : Piece) : Nat :=
  let c := p.clocks
  let synth := match c.synth with | .off => 0 | .wait => 1 | .locked => 2 | .failed => 3
  flag c.timecode.running 25 + flag c.ppsout.running 24 +
  (maskOf 4 fun k => clkRuns (clkSettle p.now (nth c.clkouts k)) p.now) * 2 ^ 20 +
  flag c.timecode.lastIn.isSome 17 + flag (freqValid p) 16 + c.band % 64 * 2 ^ 8 + synth * 2 ^ 4 +
  flag c.ppsPresent 1 + flag c.refinPresent 0

/-- PPSOUT's setting at the time root (R51): it starts at the next second boundary and stops after the pulse in progress. -/
def ppsoutArrive (en : Bool) (widthUs : Nat) (o : Ppsout) : Ppsout :=
  { o with pending := none, en := en, widthUs := widthUs, running := o.running && (en || o.level) }

/-- A setting of CLKOUT_SET is on its way. -/
def clkoutOnWay (c : Clocks) : Bool := c.ppsout.pending.isSome || c.clkouts.any (·.pending.isSome)

/-- CLKOUT_SETTING_ARRIVE: the setting of an output, or of PPSOUT, reaches the time root; CLKOUT_SET completes once every applied
record has (R50, R51, R501). -/
def execClkoutSettingArrive (output : Fin 5) : State → Out := effect fun p =>
  let done (p : Piece) : Piece :=
    when (!clkoutOnWay p.clocks) (finishWaiting .clkout 0 stOk fun _ => [clocksStatus p]) p
  if output.val < 4 then
    match (nth p.clocks.clkouts output).pending with
    | some s => done (onClocks (fun c =>
        { c with clkouts := upd c.clkouts output fun k => clkArrive s p.now (clkSettle p.now k) }) p)
    | none => p
  else
    match p.clocks.ppsout.pending with
    | some (en, w) => done (onClocks (fun c => { c with ppsout := ppsoutArrive en w c.ppsout }) p)
    | none => p

/-! ### Timecode input (R65) -/

/-- TIMECODE_FRAME_IN: a frame with every pulse valid and every position identifier gives a TIMECODE record at the leading edge of
its on-time marker; any other is counted (R65). -/
def execTimecodeFrameIn (frame : TimecodeFrame) : State → Out := effect fun p =>
  match irigContents frame.widths with
  | some x =>
    let f := (Config.irigFormat x).val
    raiseEventAt 0x06 0x02 0 frame.marker
      (leBytes 2 (irigValue x irigDay) ++ leBytes 1 (irigValue x irigHours) ++ leBytes 1 (irigValue x irigMinutes) ++
        leBytes 1 (irigValue x irigSeconds) ++ leBytes 1 f ++
        leBytes 2 (if irigHasYear f then irigValue x irigYear else 0xFFFF) ++
        leBytes 4 (if irigHasSbs f then irigNumber x irigSbs else 0xFFFFFFFF) ++
        leBytes 4 (if irigHasControl f then irigControlOf f x else 0))
      (onClocks (fun c => { c with timecode := { c.timecode with lastIn := some p.now } }) p)
  | none => onClocks (fun c => { c with tcodeErrors := sat32 c.tcodeErrors 1 }) p

/-- TCODE_IN_PRESENT_LAPSE: 2 s have passed since the last valid frame (R67). -/
def execTcodeInPresentLapse : State → Out := effect fun p =>
  match p.clocks.timecode.lastIn with
  | some m => when (decide (m + 2 * ticksPerSecond ≤ p.now))
      (onClocks fun c => { c with timecode := { c.timecode with lastIn := none } }) p
  | none => p

/-! ### Commands (R498 to R506) -/

/-- The time source of a code. -/
def sourceOf (n : Nat) : TimeSource := if n == 1 then .ppsin else if n == 2 then .net else .none

/-- REF_SELECT takes effect (R37, R39, R59, R64, R498). DESIGN CHOICE: where JUMP_PENDING goes back to COAST or to FREE, REF_JUMP of
LEDGER_STATUS stays 1 until a capture or a resolution; R59 keeps the alarm latched and says nothing of the bit (log entry 58). -/
def applyRefSelect (b : Bytes) (p : Piece) : Piece :=
  let new := sourceOf (u b 3 1)
  let old := p.ledger.source
  let p := onClocks (fun c => { c with vcxo := u b 0 1 == 1, refinFreq := u b 1 1, square := u b 2 1 == 1,
                                       ppsWindowNs := u b 4 4 }) p
  let p := onLedger (fun l =>
    { l with source := new, loopTau := u b 8 4, slewMax := u b 12 4, capture := u b 16 4, refInvalid := false,
             tuneCode := if u b 0 1 == 1 then l.tuneCode else 0x80000 }) p
  if new == old then p
  else
    match p.ledger.state, new with
    | .unset, _ => onLedger (fun l => { l with sourcePresent := false }) p
    | .free, .none => p
    | .free, _ => enterCoast (onLedger (fun l => { l with sourcePresent := false }) p)
    | _, .none => setLedgerState .free 0 (onLedger (fun l => { l with sourcePresent := false }) p)
    | _, _ => enterCoast (onLedger (fun l => { l with sourcePresent := false }) p)

/-- REF_SELECT (R498). -/
def actRefSelect : Act := simple fun f p =>
  let b := f.body
  let runs := p.clocks.synth != .off
  guarded
    [ (u b 4 4 == 0 || u b 8 4 == 0 || u b 12 4 == 0, stZero),
      (decide (1 < u b 0 1) || decide (2 < u b 1 1) || (u b 0 1 == 1 && u b 1 1 != 2) || decide (1 < u b 2 1) ||
        decide (2 < u b 3 1) || decide (u b 4 4 < 10) || decide (100000000 < u b 4 4) || decide (100000 < u b 8 4) ||
        decide (1000000 < u b 12 4) || decide (1000000 < u b 16 4) || u b 20 4 != 0, stRange),
      (runs && u b 1 1 != p.clocks.refinFreq, stState) ] p
    (if p.clocks.mintRun then (applyRefSelect b p, doneWith stOk p.now)
     else (onLedger (fun l => { l with refSelect := some b }) p, .wait .refSelect 0 []))

def execRefSelect (c : Cmd) : State → Out := effect (runCommand 0x0201 c actRefSelect)

/-- The synthesizer declares lock: the Mint starts, or goes on; SYNTH_START completes (R45, R500). -/
def declareLock (p : Piece) : Piece :=
  let p := onClocks (fun c => { c with synth := .locked, mint := if c.mintRun then c.mint else 0, mintRun := true }) p
  let p := match p.ledger.refSelect with
    | some b => finishWaiting .refSelect 0 stOk (fun _ => [low32 p.now, high32 p.now])
        (applyRefSelect b (onLedger (fun l => { l with refSelect := none }) p))
    | none => p
  finishWaiting .synthLock 0 stOk (fun _ => [p.clocks.band, p.clocks.bandTemp]) p

/-- The band entry in 8 bytes of a table (R43). -/
def bandOf (b : Bytes) : Band :=
  { valid := bitAt (u b 7 1) 0, fLow := u b 0 2, fHigh := u b 2 2, capCode := u b 4 1, biasCode := u b 5 1,
    tempSlope := sgn b 6 1 }

/-- A band entry within the ranges of R43. -/
def bandOk (b : Bytes) : Bool :=
  decide (9800 ≤ u b 0 2) && decide (u b 0 2 ≤ 11200) && decide (u b 0 2 < u b 2 2) && decide (u b 2 2 ≤ 11200) &&
  decide (u b 4 1 < 64) && decide (u b 5 1 < 16) && decide (u b 7 1 < 2)

/-- An ADDRESS that names a table (R455). -/
def tableAddrOk (d : Dmc) (a n : Nat) : Bool := a % 4 == 0 && rangeOk d a n

/-- A DEST or image address (R455). -/
def destOk (d : Dmc) (a n : Nat) : Bool := a % 64 == 0 && rangeOk d a n

/-- SYNTH_BAND_TABLE_LOAD (R43, R499). -/
def actBandTable : Act := fun f host p =>
  let b := f.body
  let n := u b 0 1
  guarded
    [ (n == 0, stZero),
      (decide (64 < n) || !isZero (slice b 1 7) || !tableAddrOk p.dmc (u b 8 8) (8 * n), stRange) ] p
    (withTable p (u b 8 8) (8 * n) host fun t =>
      let es := (List.range n).map fun i => slice t (8 * i) 8
      if es.all bandOk then
        (onClocks (fun c => { c with bands := es.map bandOf ++
          ((c.bands.drop n).map fun e => { e with valid := false }) }) p, .done stOk [])
      else (p, .done stRange []))

def execSynthBandTableLoad (c : Cmd) : State → Out := effect (runCommand 0x0202 c actBandTable)

/-- SYNTH_START (R44, R45, R500). -/
def actSynthStart : Act := simple fun f p =>
  let w := u f.body 0 4
  guarded
    [ (u f.body 4 4 != 0 || (w != 0 && (decide (w < 50) || decide (10000 < w))), stRange),
      (p.clocks.synth == .off && (selectBand p.clocks.bands (dieTemp p)).isNone, stRange),
      (p.clocks.synth != .off, stState) ] p
    (match startSynth (if w == 0 then 2000 else w) p with
     | some p' => (p', .wait .synthLock 0 [])
     | none => (p, .done stRange []))

def execSynthStart (c : Cmd) : State → Out := effect (runCommand 0x0203 c actSynthStart)

/-- The setting in a CLKOUT record (R501). -/
def clkSettingOf (r : Bytes) : ClkSetting :=
  { en := bitAt (u r 0 1) 6, refCopy := bitAt (u r 0 1) 5, divider := u r 4 4, phase := u r 2 2,
    skew := u r 1 1 % 64 }

/-- A CLKOUT record that applies lies within its ranges (R49, R501). -/
def clkRecordOk (r : Bytes) : Bool :=
  let s := clkSettingOf r
  u r 0 1 % 32 == 0 && decide (u r 1 1 < 64) && decide (s.phase < s.divider) &&
  (if s.refCopy then decide (1 ≤ s.divider) && decide (s.divider ≤ 1024)
   else s.divider % 2 == 0 && decide (2 ≤ s.divider) && decide (s.divider ≤ 65536))

/-- CLKOUT_SET (R49 to R51, R501): the records that apply go on their way to the time root. -/
def actClkoutSet : Act := simple fun f p =>
  let b := f.body
  let rec_ (k : Nat) : Bytes := slice b (8 * k) 8
  let applies (k : Nat) : Bool := bitAt (u (rec_ k) 0 1) 7
  let pps := rec_ 4
  let w := u pps 4 4
  guarded
    [ (!((List.range 5).any applies), stZero),
      ((List.range 4).any (fun k => applies k && !clkRecordOk (rec_ k)), stRange),
      (applies 4 && (u pps 0 1 % 64 != 0 || !isZero (slice pps 1 3) || w == 0 || decide (500000 < w)), stRange) ] p
    (let p := when (applies 4) (onClocks fun c => { c with ppsout :=
        { c.ppsout with pending := some (bitAt (u pps 0 1) 6, w) } }) p
     (onClocks (fun c => { c with clkouts := (c.clkouts.mapIdx fun k o =>
        if applies k then { o with pending := some (clkSettingOf (rec_ k)) } else o) }) p, .wait .clkout 0 []))

def execClkoutSet (c : Cmd) : State → Out := effect (runCommand 0x0204 c actClkoutSet)

/-- LEDGER_SET_EPOCH (R58, R502). -/
def actSetEpoch : Act := simple fun f p =>
  let b := f.body
  let atPulse := u b 10 1 == 1
  guarded
    [ (decide (1 < u b 10 1) || !isZero (slice b 11 5) || (!atPulse && decide (u b 16 8 < p.now + 16)), stRange),
      ((atPulse && !p.clocks.ppsPresent) || !p.clocks.mintRun || p.ledger.state == .jumpPending, stState),
      (p.ledger.epochWait.isSome, stBusy) ] p
    (onLedger (fun l => { l with epochWait := some { atMint := if atPulse then none else some (u b 16 8)
                                                     label := u b 0 4 * 2 ^ 48 + u b 4 6 } }) p, .wait .epochStep 0 [])

def execLedgerSetEpoch (c : Cmd) : State → Out := effect (runCommand 0x0205 c actSetEpoch)

/-- LEDGER_STEER (R38, R503). -/
def actSteer : Act := simple fun f p =>
  let r := sgn f.body 0 8
  let d := sgn f.body 8 8
  let rho := heldRho p.ledger + r
  guarded
    [ (r == 0 && d == 0, stZero),
      (decide (rho < rhoMin) || decide (rhoMax < rho), stRange),
      (p.ledger.source != .none, stState) ] p
    (let c : HeldChange := { rhoAdd := r, slew := if d == 0 then none else some d }
     if mappingFree p && p.ledger.heldChanges.isEmpty then
       (restartEstimate (applyChange c p), doneWith stOk p.now)
     else (onLedger (fun l => { l with heldChanges := l.heldChanges ++ [{ c with command := true }] }) p,
           .wait .steer 0 []))

def execLedgerSteer (c : Cmd) : State → Out := effect (runCommand 0x0206 c actSteer)

/-- LEDGER_JUMP_RESOLVE (R62, R64, R504). -/
def actJumpResolve : Act := simple fun f p =>
  let a := u f.body 0 1
  let d := p.ledger.lastDelta
  guarded
    [ (decide (2 < a) || !isZero (slice f.body 1 7), stRange), (p.ledger.state != .jumpPending, stState) ] p
    (let p := onLedger (fun l => { l with refJump := false }) p
     match a with
     | 0 =>
       let t := T16.ofTick p.now
       (setLedgerState .locked d (stepLedger t (p.ledger.current.exact t + d * labelUnits) p), doneWith stOk (twos 64 d))
     | 1 => (setLedgerState .slewing 0 (requestChange { slew := some d } p), doneWith stOk (twos 64 d))
     | _ => (setLedgerState .coast 0 (onLedger (fun l => { l with refInvalid := true }) p), doneWith stOk 0))

def execLedgerJumpResolve (c : Cmd) : State → Out := effect (runCommand 0x0207 c actJumpResolve)

/-- HOLDOVER_MODEL_SET (R60, R505). -/
def actHoldoverModel : Act := simple fun f p =>
  let b := f.body
  let v (i : Nat) : Int := sgn b (8 * i) 8
  let out (x lo hi : Int) : Bool := decide (x < lo) || decide (hi < x)
  guarded
    [ (v 4 == 0 || v 5 == 0, stZero),
      (out (v 0) 0 (10 ^ 9) || out (v 1) 0 (10 ^ 10) || out (v 2) 0 (10 ^ 9) || out (v 3) 0 (10 ^ 9) ||
        out (v 4) (-(10 ^ 9)) (10 ^ 9) || out (v 5) 1000 (10 ^ 9), stRange) ] p
    (onLedger (fun l => { l with holdover := { u0 := (v 0).toNat, y := (v 1).toNat, d := (v 2).toNat, ct := (v 3).toNat,
                                               vcxoGain := v 4, timeLimit := (v 5).toNat } }) p, .done stOk [])

def execHoldoverModelSet (c : Cmd) : State → Out := effect (runCommand 0x0208 c actHoldoverModel)

/-- TIMECODE_SET (R66, R506). -/
def actTimecodeSet : Act := simple fun f p =>
  let b := f.body
  let eff := u b 16 4
  guarded
    [ (u b 0 1 % 128 != 0 || decide (7 < u b 1 1) || u b 2 2 != 0 || decide (2 ^ 27 ≤ u b 4 4) || u b 20 4 != 0 ||
        (eff != 0 && decide (eff ≤ labelSeconds p.label)), stRange) ] p
    (onClocks (fun c => { c with timecode :=
      { c.timecode with outEn := bitAt (u b 0 1) 7, format := u b 1 1, control := u b 4 4,
                        pendingOffset := some (sgn b 8 8, eff), offsetSet := true,
                        running := c.timecode.running && bitAt (u b 0 1) 7 } }) p, .done stOk [])

def execTimecodeSet (c : Cmd) : State → Out := effect (runCommand 0x0209 c actTimecodeSet)

end Sys2Proof.Machine
end

