-- ==== Sys2Proof/Machine/Streams.lean ====
section
/-! DEFINITION. The sample streams of the CHAN instances as their consumers see them: stream codes, routes, sample values,
invalid samples. -/

namespace Sys2Proof.Machine

/-- Changes one RFIN. -/
def onRfin (i : Nat) (f : Rfin → Rfin) (p : Piece) : Piece := { p with rfin := upd p.rfin i f }

/-- Changes one CHAN. -/
def onChan (i : Nat) (f : Chan → Chan) (p : Piece) : Piece := { p with chan := upd p.chan i f }

/-- Changes one DDC. -/
def onDdc (i n : Nat) (f : Ddc → Ddc) (p : Piece) : Piece :=
  onChan i (fun c => { c with ddcs := upd c.ddcs n f }) p

/-- The input whose stream a CHAN instance takes (R75). -/
def feedOf (p : Piece) (i : Nat) : Nat := if (nth p.rfin i).partner then i - 1 else i

/-- A CHAN instance takes a paired stream (R115). -/
def pairedFeed (p : Piece) (i : Nat) : Bool := (nth p.rfin (feedOf p i)).paired

/-- Sample period of an input's stream in 2⁻¹⁶ tick (R74, R75). -/
def inputPeriod (paired : Bool) : Nat := if paired then 8192 else 16384

/-- Samples in a block (R82). -/
def blockLen : Nat := 512

/-- The routes of a CHAN instance as last commanded: RAW_ROUTE and XFORM_SRC (R96, R460). -/
def commandedRoutes (c : Chan) : Nat × Nat :=
  match c.routes.getLast? with
  | some (raw, src, _) => (raw, src)
  | none => (c.rawRoute, c.xformSrc)

/-- The setting of a DDC as last commanded, and whether it is to run. -/
def commandedDdc (d : Ddc) : Bool × DdcSetting :=
  d.changes.foldl (fun (x : Bool × DdcSetting) ch =>
    match ch with
    | .enable s _ => (true, s)
    | .tune ftw _ => (x.1, { x.2 with ftw := ftw })
    | .shape s _ => (x.1, { s with ftw := x.2.ftw })
    | .disable _ => (false, x.2)) (d.en, d.setting)

/-- The route bits of a stream of a CHAN instance as last commanded: bit 0 ACQ, bit 1 STREAM, bit 2 TRIGGER (R96). -/
def routeBits (p : Piece) (i stream : Nat) : Nat :=
  let c := nth p.chan i
  if stream == 8 then (commandedRoutes c).1 + 4 else (commandedDdc (nth c.ddcs stream)).2.route

/-- The square root of a natural number, rounded half up (R170). -/
def roundSqrt (n : Nat) : Nat :=
  let r := Nat.sqrt n
  if r * r + r < n then r + 1 else r

/-- The value of a sample under COMPONENT: 0 I, 1 Q, 2 MAG; a raw sample is its code (R170, R214). -/
def component (raw : Bool) (comp : Nat) (x : Int × Int) : Int :=
  if raw then x.1
  else match comp with
    | 0 => x.1
    | 1 => x.2
    | _ => roundSqrt (x.1 * x.1 + x.2 * x.2).toNat

/-- A sample of a block is invalid (R86, R109). -/
def AcqBlock.invalidAt (b : AcqBlock) (k : Nat) : Bool := decide (b.invalidFrom ≤ k) && decide (k < b.firstValid)

/-- The block holds an invalid sample. -/
def AcqBlock.anyInvalid (b : AcqBlock) : Bool := decide (b.invalidFrom < b.firstValid)

/-- The time of a sample of a block. -/
def AcqBlock.timeOf (b : AcqBlock) (k : Nat) : T16 := b.start + ((k * b.period : Nat) : Int)

/-! ### Block boundaries -/

/-- The active coefficient set of a DDC; `none` is the default set of 64 taps (R105). -/
def activeTaps (d : Ddc) : Nat :=
  match nth d.banks d.bank with
  | some l => l.length
  | none => 64

/-- S: the support of an output sample in input samples (R107). -/
def support (k taps : Nat) : Nat :=
  if k == 0 then taps else 1 + 30 * (2 ^ (k - 1) - 1) + (taps - 1) * 2 ^ (k - 1)

/-- The time of the first sample of the output block in the making of a DDC (R106). -/
def ddcBlockStart (p : Piece) (i n : Nat) : T16 :=
  let d := nth (nth p.chan i).ddcs n
  d.head - (((support d.setting.k (activeTaps d) - 1) * inputPeriod (pairedFeed p i) / 2 : Nat) : Int)

/-- The time of the first sample of the block in the making of a stream of a CHAN instance, where the stream runs: 0 to 7
DDC n, 8 RAW. -/
def streamStart (p : Piece) (i stream : Nat) : Option T16 :=
  if stream == 8 then
    let r := nth p.rfin (feedOf p i)
    if r.conv == .idle then none else some r.start
  else if (nth (nth p.chan i).ddcs stream).en then some (ddcBlockStart p i stream)
  else none

end Sys2Proof.Machine
end

