-- ==== Sys2Proof/Machine/AcqFam.lean ====
section
/-! DEFINITION. ACQ: rings, arming, trigger points, segments, reduction to pairs, mask tests, readout (08), and its commands
(19 R473 to R476). -/

namespace Sys2Proof.Machine

/-- Changes one acquisition. -/
def onAcq (k : Nat) (f : Acq → Acq) (p : Piece) : Piece := { p with acq := { p.acq with acqs := upd p.acq.acqs k f } }

/-- An acquisition. -/
def Piece.acqOf (p : Piece) (k : Nat) : Acq := nth p.acq.acqs k

/-- Armed or triggered. -/
def acqActive (a : Acq) : Bool := a.state == .armed || a.state == .triggered

/-! ### Geometry (R201 to R203) -/

/-- E: the entries a segment needs (R201). -/
def segEntries (s : AcqSetting) : Nat := if s.m == 0 then s.pre + s.post else ceilDiv s.pre s.m + ceilDiv s.post s.m

/-- Z: the blocks of the ring (R202). -/
def ringBlocks (s : AcqSetting) : Nat := if s.gapless then s.slotBlocks else s.segments * s.slotBlocks

/-- D: the data bytes of a ring block. -/
def blockBytes (s : AcqSetting) : Nat := if s.m == 0 && s.stream == 8 then 768 else 2048

/-- Device address of a ring block's data, and of its header (R202). -/
def dataAddr (s : AcqSetting) (b : Nat) : Nat := deviceAddr s.ringBase + b * blockBytes s
def headerAddr (s : AcqSetting) (b : Nat) : Nat := deviceAddr s.ringBase + ringBlocks s * blockBytes s + b * 32

/-- Writes a ring block; a DMC that refuses takes nothing. -/
def writeRingBlock (s : AcqSetting) (b : Nat) (header data : Bytes) (p : Piece) : Piece :=
  when (!dmcRefuses p.dmc) (fun p => dramWrite (headerAddr s b) header (dramWrite (dataAddr s b) data p)) p

/-- Writes 64 bytes of the directory: slot 0 the acquisition header, slot s + 1 that of segment s (R203). -/
def writeDirectory (s : AcqSetting) (i : Nat) (bs : Bytes) (p : Piece) : Piece :=
  when (!dmcRefuses p.dmc) (dramWrite (deviceAddr s.dirBase + 64 * i) bs) p

/-! ### Samples and segments. Sample numbers count from the arm point. -/

/-- The grid of sample times from the arm point on: block number, time and sample period of each part (R105, R206). -/
def Acq.grid (a : Acq) : List (Nat × T16 × Nat) := (0, a.origin, a.period) :: a.anchors

/-- The time of a sample. -/
def sampleTime (a : Acq) (n : Nat) : T16 :=
  let (num, t, period) := ((a.grid.filter fun g => decide (g.1 * blockLen ≤ n)).getLast?).getD (0, a.origin, a.period)
  t + (((n - num * blockLen) * period : Nat) : Int)

/-- A block that does not continue the grid begins a new part of it. -/
def Acq.regrid (b : AcqBlock) (a : Acq) : Acq :=
  let period := ((a.grid.getLast?).map (·.2.2)).getD a.period
  if b.start = sampleTime a (a.taken * blockLen) ∧ b.period = period then a
  else { a with anchors := a.anchors ++ [(a.taken, b.start, b.period)] }

/-- The number of the first sample at or after a time; negative before the arm point (R206). -/
def firstAt (t : T16) : List (Nat × T16 × Nat) → Int
  | [] => 0
  | (num, t0, period) :: rest =>
    let n : Int := ((num * blockLen : Nat) : Int) - (-(t - t0)) / (period : Int)
    match rest with
    | [] => n
    | (next, _, _) :: _ =>
      let limit : Int := ((next * blockLen : Nat) : Int)
      if n < limit then n else max limit (firstAt t rest)

/-- The samples received. -/
def received (a : Acq) : Nat := a.taken * blockLen

/-- The blocks of the stream whose entries fit in a slot or region (R201; log entry 31). -/
def windowBlocks (s : AcqSetting) : Nat := s.slotBlocks * (if s.m == 0 then 1 else s.m)

/-- The first sample of the oldest block that the slot or region holds, losses apart (R207, R222). -/
def oldestHeld (a : Acq) : Nat :=
  let s := a.setting
  let window := (a.taken - windowBlocks s) * blockLen
  if s.gapless then
    match a.record with
    | some (x, _) => if s.m == 0 then x * blockLen else x
    | none => window
  else max (a.slotFirst * blockLen) window

/-- The first sample of a segment. -/
def Segment.first (s : Segment) : Nat := s.t - s.pre

/-- The sample after a segment's last. -/
def segEnd (a : Acq) (s : Segment) : Nat := s.cut.getD (s.t + a.setting.post)

/-- The first segment in progress is complete (R208). -/
def segmentReady (a : Acq) : Bool :=
  match a.open_ with
  | s :: _ => decide (segEnd a s ≤ received a)
  | [] => false

/-- The held blocks that hold a sample of a range. -/
def heldIn (a : Acq) (first stop : Nat) : List HeldBlock :=
  a.held.filter fun h => decide (h.num * blockLen < stop) && decide (first < (h.num + 1) * blockLen)

/-- The samples of a range that were stored (R211, R222). -/
def storedIn (a : Acq) (first stop : Nat) : Nat :=
  (stop - first) - (a.lostRanges.map fun r => min stop r.2 - max first r.1).sum

/-- The first sample from one on that was stored (R210, R222). -/
def firstStored (a : Acq) (first : Nat) : Nat :=
  a.lostRanges.foldl (fun n r => if r.1 ≤ n && n < r.2 then r.2 else n) first

/-! ### The capture FIFO (R204, R222) -/

/-- What an acquisition owns of the capture FIFO store: 1 MiB (R204). -/
def captureFifo : Nat := 2 ^ 20

/-- The bytes in a capture FIFO. -/
def captureLevel (a : Acq) : Nat := (a.fifo.map fun w => w.header.length + w.data.length).sum

/-- A ring block of n bytes finds no room in the FIFO. -/
def captureFull (a : Acq) (n : Nat) : Bool := decide (captureFifo < captureLevel a + n)

/-- The DMC takes the oldest blocks of a capture FIFO, at most n. -/
def drainFifo (k n : Nat) (p : Piece) : Piece :=
  let a := p.acqOf k
  (a.fifo.take n).foldl (fun p w => writeRingBlock a.setting w.ring w.header w.data p)
    (onAcq k (fun a => { a with fifo := a.fifo.drop n }) p)

/-- A ring block enters the capture FIFO; the writer goes on with the next one, circularly (R205). -/
def captureBlock (header data : Bytes) (a : Acq) : Acq × Nat :=
  let s := a.setting
  let ring := if s.gapless then a.pos else a.slot * s.slotBlocks + a.pos
  ({ a with fifo := a.fifo ++ [{ ring := ring, header := header, data := data }], pos := (a.pos + 1) % s.slotBlocks }, ring)

/-- The next block would overwrite the record's first block (R209). -/
def regionFull (a : Acq) : Bool :=
  a.setting.gapless &&
    match a.record with
    | some (num, ring) => a.pos == ring && (if a.setting.m == 0 then decide (num < a.taken) else !a.pairLog.isEmpty)
    | none => false

/-- The flags of a range of samples: those of its blocks, with INVALID in bit 9 (R211). -/
def rangeFlags (a : Acq) (first stop : Nat) : Nat :=
  let hs := heldIn a first stop
  let bad (h : HeldBlock) : Bool := (List.range blockLen).any fun k =>
    h.block.invalidAt k && decide (first ≤ h.num * blockLen + k) && decide (h.num * blockLen + k < stop)
  hs.foldl (fun f h => f ||| h.block.flags) 0 ||| flag (hs.any bad) 9

/-! ### Pairs (R214 to R218) -/

/-- The sample after the interval that begins at n: in NORMAL mode T begins an interval and the segment ends one; in GAPLESS
mode the grid runs from the record's first sample (R215). -/
def intervalEnd (a : Acq) (n : Nat) : Nat :=
  let m := a.setting.m
  if a.setting.gapless then n + m
  else
    match a.open_ with
    | s :: _ =>
      if n < s.t then s.t - ((s.t - n - 1) / m) * m
      else min (s.t + ((n - s.t) / m + 1) * m) (segEnd a s)
    | [] => n + m

/-- The pair of an interval (R214). -/
def pairOf (a : Acq) (first stop : Nat) : Pair :=
  let take (q : Pair) (h : HeldBlock) : Pair :=
    (List.range blockLen).foldl (fun q k =>
      let n := h.num * blockLen + k
      if n < first || stop ≤ n then q
      else
        let fl := h.block.flags % 16 + flag (bitAt h.block.flags 8) 4
        if h.block.invalidAt k then { q with flags := q.flags ||| fl ||| 32 }
        else
          let x := component (a.setting.stream == 8) a.setting.component (nth h.block.samples k)
          { q with valid := true, greatest := if q.valid then max q.greatest x else x
                   least := if q.valid then min q.least x else x, flags := q.flags ||| fl }) q
  (heldIn a first stop).foldl take { first := first, last := stop - 1 }

/-- No valid sample lay in the interval. -/
def Pair.empty (q : Pair) : Bool := !q.valid

/-- Sixteen bits of a pair. -/
def pairHalf (x : Int) : Nat := if 32767 < x then (Config.pairMagnitude x).toNat else twos 16 x

/-- The signed value of sixteen bits of a pair, as stored and tested (R214, R217). -/
def pairValue (x : Int) : Int := signed 16 (pairHalf x)

/-- A pair as it is stored. -/
def Pair.bytes (q : Pair) : Bytes := leBytes 2 (pairHalf q.least) ++ leBytes 2 (pairHalf q.greatest)

/-- The header of a pair block (R202). SEG_INDEX is that of the segment in progress; DESIGN CHOICE: with none, that of the segment to come
in NORMAL mode and that of the last one in GAPLESS mode (log entry 31). -/
def pairHeader (p : Piece) (a : Acq) (qs : List Pair) : Bytes :=
  let t := sampleTime a ((qs.head?.map (·.first)).getD 0)
  let seg := match a.open_ with
    | s :: _ => s.index
    | [] => if a.setting.gapless then a.accepted - 1 else a.accepted
  let fl := qs.foldl (fun f q => f ||| q.flags) 0
  leBytes 4 a.pairSeq ++ leBytes 4 seg ++ leBytes 8 (T16.tick t).toNat ++ labelBytes (labelAt p t) ++
    leBytes 1 (fl ||| flag a.pairGapDue 6) ++ zeros 5

/-- The pairs of the block in the making go to the capture FIFO, or the block is lost where that is full (R222). -/
def flushPairs (k : Nat) (p : Piece) : Piece :=
  let a := p.acqOf k
  let data := a.pairs.flatMap Pair.bytes
  if a.pairs.isEmpty then p
  else if captureFull a (32 + data.length) then
    onAcq k (fun a => { a with pairs := [], pairSeq := wrap32 a.pairSeq 1, pairTotal := a.pairTotal + 1,
                               lost := sat32 a.lost 1, gapDue := true, pairGapDue := true
                               lostRanges := a.lostRanges ++
                                 [((a.pairs.headD {}).first, ((a.pairs.getLast?).getD {}).last + 1)] }) p
  else
    let (a', ring) := captureBlock (pairHeader p a a.pairs) data a
    onAcq k (fun _ => { a' with pairs := [], pairSeq := wrap32 a.pairSeq 1, pairTotal := a.pairTotal + 1, pairGapDue := false,
                                pairLog := a.pairLog ++ [(a.pairTotal, ring, a.pairs.length)] }) p

/-- The limits of a mask position: lower, upper (R216). -/
def maskLimits (a : Acq) (pos : Nat) : Int × Int :=
  ((a.mask.find? fun e => e.1 == pos).map (·.2)).getD (-32768, 32767)

/-- The violation record (R218). -/
def violationRecord (p : Piece) (a : Acq) (s : Segment) (pos : Nat) (q : Pair) : Bytes :=
  let t := sampleTime a q.first
  let (lo, hi) := maskLimits a pos
  leBytes 4 s.index ++ leBytes 2 pos ++ leBytes 1 (flag (decide (hi < pairValue q.greatest)) 1 + flag (decide (pairValue q.least < lo)) 0) ++
    zeros 1 ++ leBytes 2 (pairHalf q.least) ++ leBytes 2 (pairHalf q.greatest) ++ leBytes 4 (labelSeconds (labelAt p t)) ++
    leBytes 8 (T16.tick t).toNat ++ leBytes 6 (labelFraction (labelAt p t)) ++ zeros 2

/-- Tests a pair against the mask (R217, R218). -/
def testPair (k : Nat) (q : Pair) (p : Piece) : Piece :=
  let a := p.acqOf k
  match a.open_ with
  | s :: rest =>
    let pos := (q.first - s.t) / a.setting.m
    let (lo, hi) := maskLimits a pos
    let violates := decide (hi < pairValue q.greatest) || decide (pairValue q.least < lo)
    if a.setting.gapless || q.first < s.t || 4095 < pos || q.empty || !violates then p
    else
      let stops := a.setting.stopViol && a.violation.isNone
      let s' := { s with violCount := s.violCount + 1
                         cut := if stops then some (min (s.t + a.setting.post) (q.last + 1 + a.setting.violPost)) else s.cut }
      onAcq k (fun a => { a with open_ := s' :: rest, violCount := sat32 a.violCount 1
                                 violation := if stops then some (violationRecord p a s pos q) else a.violation }) p
  | [] => p

/-- The sample after the next interval, where that has been received whole: with no segment in progress the grid runs on from the arm
point or the slot's first sample (R205, R215; log entry 31). -/
def intervalReady (a : Acq) : Option (Nat × Nat) :=
  match a.pairNext with
  | none => none
  | some n =>
    let stop := intervalEnd a n
    let limit := match a.open_ with
      | s :: _ => if a.setting.gapless then received a else min (segEnd a s) (received a)
      | [] => received a
    if stop ≤ n || limit < stop then none else some (n, stop)

/-- No block is left in the region for the pair that would begin the next one (R209). -/
def noRoom (a : Acq) : Bool := regionFull a && a.pairs.isEmpty

/-- A pair is formed, tested and stored (R214, R217). -/
def storePair (k n stop : Nat) (p : Piece) : Piece :=
  testPair k (pairOf (p.acqOf k) n stop)
    (onAcq k (fun a => { a with pairNext := some stop, pairs := a.pairs ++ [pairOf a n stop] }) p)

/-- One interval that has been received whole: its pair is formed, tested and stored. -/
def takeInterval (k : Nat) (p : Piece) : Piece :=
  let a := p.acqOf k
  match intervalReady a with
  | none => p
  | some (n, stop) =>
    if noRoom a then p
    else
      let p := storePair k n stop p
      when (decide (blockLen ≤ (p.acqOf k).pairs.length)) (flushPairs k) p

/-- Takes intervals received, at most j. -/
def takeIntervals (k : Nat) : Nat → Piece → Piece
  | 0, p => p
  | j + 1, p => takeIntervals k j (takeInterval k p)

/-- Takes every interval that has been received. -/
def takeAll (k : Nat) (p : Piece) : Piece :=
  let a := p.acqOf k
  takeIntervals k ((received a - a.pairNext.getD 0) / a.setting.m + 3) p

/-- The intervals up to the end of a stopped segment or record, the last one as far as it goes (R215). -/
def closeIntervals (k stop : Nat) (p : Piece) : Piece :=
  let p := takeAll k p
  let a := p.acqOf k
  match a.pairNext with
  | some n =>
    let e := min stop (intervalEnd a n)
    when (decide (n < e) && !noRoom a) (storePair k n e) p
  | none => p

/-! ### Ends of segments and of acquisitions -/

/-- The segment header of 64 bytes (R210, R211). -/
def segmentHeader (p : Piece) (a : Acq) (s : Segment) (stop : Nat) (short : Bool) : Bytes :=
  let first := s.first
  let tt := sampleTime a s.t
  let dead := if a.setting.gapless then 0 else firstStored a first - a.lastEnd
  let deadLabel := if dead == 0 then 0 else labelAt p (sampleTime a a.lastEnd)
  let fl := rangeFlags a first stop ||| flag a.gapDue 4 ||| flag s.preShort 5 ||| flag short 6 |||
    flag (decide (0 < s.violCount)) 7 ||| flag s.tainted 10
  leBytes 4 s.index ++ leBytes 2 fl ++ leBytes 2 s.tag ++ leBytes 8 (T16.tick tt).toNat ++ labelBytes (labelAt p tt) ++
    leBytes 2 (first % blockLen) ++ leBytes 4 s.eventSeq ++ leBytes 8 (min dead (2 ^ 64 - 1)) ++ labelBytes deadLabel ++
    leBytes 2 (min s.violCount 65535) ++ leBytes 4 (storedIn a first (min stop s.t)) ++ leBytes 4 (storedIn a s.t stop) ++
    leBytes 4 (wrap32 a.firstSeq (first / blockLen))

/-- The runs of the ring that hold a range of the pairs formed. -/
def runsOf (log : List (Nat × Nat × Nat)) (lo hi : Nat) : List (Nat × Nat × Nat) :=
  log.filterMap fun e =>
    let from_ := max lo (e.1 * blockLen)
    let upto := min hi (e.1 * blockLen + e.2.2)
    if from_ < upto then some (e.2.1, from_ - e.1 * blockLen, upto - from_) else none

/-- The pairs of a segment among those formed since the segment or record began. -/
def pairRange (a : Acq) (s : Segment) (stop : Nat) : Nat × Nat :=
  match a.record with
  | some (b, _) =>
    if a.setting.gapless then ((s.first - b) / a.setting.m, ceilDiv (stop - b) a.setting.m) else (0, a.pairTotal * blockLen)
  | none => (0, a.pairTotal * blockLen)

/-- The sample after the last one stored: in a full region of pairs that of the last pair (R209). -/
def storedEnd (a : Acq) : Nat :=
  if a.setting.m != 0 && noRoom a then min (a.pairNext.getD 0) (received a) else received a

/-- Ends the first segment in progress at its end, or at the last sample stored: its header is written (R208, R212, R218,
R219). -/
def closeSegment (k : Nat) (p : Piece) : Piece :=
  let a := p.acqOf k
  match a.open_ with
  | [] => p
  | s :: rest =>
    let stop := min (segEnd a s) (max (storedEnd a) s.first)
    let p := when (a.setting.m != 0 && !a.setting.gapless) (fun p => flushPairs k (closeIntervals k stop p)) p
    let a := p.acqOf k
    let s := a.open_.headD s
    let stop := min (segEnd a s) stop
    let short := decide (stop < s.t + a.setting.post)
    let h := segmentHeader p a s stop short
    let range := pairRange a s stop
    let done : DoneSegment :=
      { header := h, blocks := if a.setting.m == 0 then (heldIn a s.first stop).map (·.ring) else []
        runs := if a.setting.m == 0 then [] else runsOf a.pairLog range.1 range.2, pairs := range }
    writeDirectory a.setting (s.index + 1) h
      (onAcq k (fun a => { a with open_ := rest, finished := a.finished ++ [done], lastEnd := stop, gapDue := false }) p)

/-- The acquisition header of 64 bytes (R212). -/
def acqHeader (k : Nat) (a : Acq) : Bytes :=
  let s := a.setting
  leBytes 4 a.armCount ++ leBytes 1 k ++ leBytes 1 (flag s.gapless 7 + flag (s.m != 0) 6) ++ leBytes 1 a.cause ++
    leBytes 1 (s.stream * 16 + s.component * 4 + s.inst) ++ leBytes 4 a.finished.length ++ leBytes 4 s.m ++
    leBytes 4 a.ignored ++ leBytes 4 a.late ++ leBytes 4 a.lost ++ zeros 4 ++ pad 32 (a.violation.getD [])

/-- The acquisition is DONE with a cause: its FIFO empties, it writes its header and sends its record (R212, R225). -/
def doneAcq (k cause : Nat) (p : Piece) : Piece :=
  let p := drainFifo k (p.acqOf k).fifo.length p
  let p := onAcq k (fun a => { a with state := .done, cause := cause, open_ := [], arrivals := [], armAt := none }) p
  let a := p.acqOf k
  raiseEvent 0x03 0x08 0 (acqHeader k a) (writeDirectory a.setting 0 (acqHeader k a) p)

/-- Ends the segments in progress: in NORMAL mode the one that has the slot, in GAPLESS mode all. -/
def closeOpen (k : Nat) (p : Piece) : Piece :=
  let a := p.acqOf k
  if a.setting.gapless then
    let p := if a.setting.m == 0 || a.open_.isEmpty then p
      else flushPairs k (closeIntervals k (received a) p)
    (List.range a.open_.length).foldl (fun p _ => closeSegment k p) p
  else closeSegment k p

/-- An acquisition that is armed or triggered ends (R219, R220). -/
def endAcq (k cause : Nat) (p : Piece) : Piece :=
  when (acqActive (p.acqOf k)) (fun p => doneAcq k cause (closeOpen k p)) p

/-- The stream that an acquisition takes stops (R220). -/
def streamLost (inst stream : Nat) (p : Piece) : Piece :=
  (List.range 16).foldl (fun p k =>
    let s := (p.acqOf k).setting
    if s.inst == inst && s.stream == stream then endAcq k 5 p else p) p

/-- The DMC froze: every acquisition that runs enters FAULT and writes nothing (R223). -/
def faultAcqs (p : Piece) : Piece :=
  { p with acq := { p.acq with acqs := (p.acq.acqs.map fun a =>
      if acqActive a then { a with state := .fault, cause := 6, open_ := [], arrivals := [], armAt := none, fifo := [] } else a) } }

/-! ### The stream, the arm point, triggers -/

/-- A block of a stream is on its way to the acquisitions that take it (R204). -/
def feedAcq (inst stream : Nat) (b : AcqBlock) (p : Piece) : Piece :=
  { p with acq := { p.acq with acqs := (p.acq.acqs.map fun a =>
      if acqActive a && a.setting.inst == inst && a.setting.stream == stream then { a with arrivals := a.arrivals ++ [b] }
      else a) } }

/-- ACQ_ARM_POINT: the first block that reaches the tally island from the tick of R205 on sets the arm point. -/
def execAcqArmPoint (acq : Fin 16) : State → Out := inIsland 0x20 fun p =>
  let a := p.acqOf acq
  match a.armAt, a.arrivals with
  | some t, b :: _ =>
    when (a.state == .armed && decide (t ≤ p.now))
      (onAcq acq fun a => { a with armAt := none, origin := b.start, period := b.period, firstSeq := b.seq
                                   pairNext := if a.setting.m == 0 then none else some 0 }) p
  | _, _ => p

/-- Stores a block of samples in the slot or region (R205, R208, R209). -/
def storeBlock (b : AcqBlock) (a : Acq) : Acq :=
  let (a, ring) := captureBlock b.header b.data a
  { a with held := a.held.filter (·.ring != ring) ++ [{ num := a.taken, ring := ring, block := b }]
           taken := a.taken + 1
           record := match a.record, a.open_ with
             | none, g :: _ => if a.setting.gapless && decide (g.first / blockLen ≤ a.taken) then some (a.taken, ring) else none
             | r, _ => r }

/-- A block that finds the FIFO full is lost (R222). -/
def loseBlock (a : Acq) : Acq :=
  { a with taken := a.taken + 1, lost := sat32 a.lost 1, gapDue := true
           lostRanges := a.lostRanges ++ [(a.taken * blockLen, (a.taken + 1) * blockLen)] }

/-- Keeps a block for reduction: as many as the slot's pairs span, and in GAPLESS mode all from the record on (log entry 31). -/
def keepBlock (b : AcqBlock) (a : Acq) : Acq :=
  let held := a.held ++ [{ num := a.taken, ring := 0, block := b }]
  { a with taken := a.taken + 1
           held := if a.setting.gapless && a.record.isSome then held else lastN (windowBlocks a.setting) held }

/-- Reduction takes what has been received; the record that no block is left for ends with cause FULL (R209, R214). -/
def reduce (k : Nat) (p : Piece) : Piece :=
  let p := takeAll k p
  let a := p.acqOf k
  when (noRoom a && (intervalReady a).isSome) (endAcq k 4) p

/-- A block of an acquisition that runs is stored, or kept for reduction (R205, R208, R214, R222). -/
def receiveBlock (k : Nat) (b : AcqBlock) (p : Piece) : Piece :=
  let a := p.acqOf k
  if a.setting.m == 0 then
    onAcq k (if captureFull a (32 + b.data.length) then loseBlock else storeBlock b) (onAcq k (Acq.regrid b) p)
  else reduce k (onAcq k (keepBlock b) (onAcq k (Acq.regrid b) p))

/-- ACQ_BLOCK_RECEIVE: a stream block reaches the acquisition, after the DMC has taken `drained` blocks of its FIFO; before the arm
point it is passed over; while a complete segment awaits its end the block waits (R204, R205, R208, R209, R214, R222). -/
def execAcqBlockReceive (acq : Fin 16) (drained : Nat) : State → Out := inIsland 0x20 fun p =>
  let p := drainFifo acq drained p
  let a := p.acqOf acq
  match a.arrivals with
  | [] => p
  | b :: rest =>
    let pop := onAcq acq fun a => { a with arrivals := rest }
    if !acqActive a then pop p
    else
      match a.armAt with
      | some t => if p.now < t then pop p else p
      | none =>
        if segmentReady a then p
        else if a.setting.m == 0 && regionFull a then endAcq acq 4 p
        else receiveBlock acq b (pop p)

/-- The first block that the next slot takes after a segment: the one after the segment's last, and after every block already written
in the present slot (R208). -/
def nextSlotFirst (a : Acq) (stop : Nat) : Nat := max ((stop - 1) / blockLen + 1) (if stop ≤ received a then a.taken else 0)

/-- The first sample that the slot of the next accepted segment can hold: of the present slot, or of the one that follows the
last segment in progress. -/
def slotStart (a : Acq) : Nat :=
  match a.open_.getLast? with
  | some s => if a.setting.gapless then oldestHeld a else nextSlotFirst a (segEnd a s) * blockLen
  | none => oldestHeld a

/-- What R207 decides for a trigger point. -/
inductive TriggerVerdict where
  | ignored | late | taken (preShort : Bool)
  deriving DecidableEq, Repr, Inhabited

/-- The first row of R207 that applies to trigger point `t`. -/
def judgeTrigger (a : Acq) (t : Int) : TriggerVerdict :=
  let n := t.toNat
  let s := a.setting
  let held := decide (a.lastFirst ≤ n) || (!a.open_.isEmpty && decide (oldestHeld a ≤ n))
  let inLast := match a.lastT with
    | some l => held && (if s.gapless then decide (n ≤ l) else decide (n < l + s.post))
    | none => false
  let short := decide (n - s.pre < slotStart a) || decide (n < s.pre)
  if t < 0 then .ignored
  else if inLast then .ignored
  else if n < slotStart a then .late
  else if short && s.armFull then .ignored
  else .taken short

/-- Takes a segment (R206, R207). -/
def acceptSegment (k : Nat) (e : AcqTrigger) (n : Nat) (short : Bool) (p : Piece) : Piece :=
  onAcq k (fun a =>
    let first := max (n - a.setting.pre) (slotStart a)
    let g : Segment := { index := a.accepted, t := n, pre := n - first, eventSeq := e.seq, tag := e.tag,
                         tainted := e.tainted, preShort := short }
    let rec_ := match a.held.find? (·.num == first / blockLen) with
      | some h => some (h.num, h.ring)
      | none => none
    { a with open_ := a.open_ ++ [g], accepted := a.accepted + 1, state := .triggered, lastT := some n, lastFirst := first
             record := if a.setting.gapless && a.accepted == 0 then
                 (if a.setting.m == 0 then rec_ else some (first, a.pos)) else a.record }) p

/-- The pairs of a segment, or of the record, begin: those of the grid before it are left behind (R215; log entry 31). -/
def startPairs (first : Nat) (a : Acq) : Acq := { a with pairNext := some first, pairs := [], pairTotal := 0, pairLog := [] }

/-- An accepted segment that has the slot, or begins the record, is reduced from its first sample on. -/
def acceptPairs (k : Nat) (before : Acq) (p : Piece) : Piece :=
  when (before.setting.m != 0) (fun p => reduce k
    (when (before.open_.isEmpty && (!before.setting.gapless || before.accepted == 0))
      (onAcq k (fun a => startPairs a.lastFirst a)) p)) p

/-- ACQ_TRIGGER_ARRIVE: the oldest trigger event on its way reaches the acquisition; one that runs takes it in its turn
(R206, R207, R218). DESIGN CHOICE: one that R207 would accept after the last segment, or after the violation that ends the acquisition,
is dropped without count (log entry 31). -/
def execAcqTriggerArrive (acq : Fin 16) : State → Out := inIsland 0x20 fun p =>
  let a := p.acqOf acq
  match a.triggers with
  | [] => p
  | e :: rest =>
    let pop := onAcq acq fun a => { a with triggers := rest }
    if !acqActive a then pop p
    else if a.armAt.isSome then p
    else
      let t := firstAt (e.time + e.tpOffset * 65536) a.grid
      let p := pop p
      match judgeTrigger a t with
      | .ignored => onAcq acq (fun a => { a with ignored := sat32 a.ignored 1 }) p
      | .late => onAcq acq (fun a => { a with late := sat32 a.late 1 }) p
      | .taken short =>
        if a.violation.isSome || a.setting.segments ≤ a.accepted then p
        else acceptPairs acq a (acceptSegment acq e t.toNat short p)

/-- The acquisition goes on after a segment: with the next slot in NORMAL mode (R208). -/
def nextSegment (a : Acq) : Acq :=
  if a.setting.gapless then { a with state := if a.open_.isEmpty then .armed else .triggered }
  else
    let first := nextSlotFirst a a.lastEnd
    let a := { a with slot := a.slot + 1, slotFirst := first, pos := 0, held := a.held.filter fun h => decide (first ≤ h.num)
                      state := if a.open_.isEmpty then .armed else .triggered }
    if a.setting.m == 0 then a else startPairs (((a.open_.head?).map (·.first)).getD (first * blockLen)) a

/-- SEGMENT_COMPLETE: the segment's last sample is written; its header is written, and the acquisition goes on or is DONE
(R208, R209, R211, R212, R218). -/
def execSegmentComplete (acq : Fin 16) : State → Out := inIsland 0x20 fun p =>
  when (acqActive (p.acqOf acq) && segmentReady (p.acqOf acq)) (fun p =>
    let a := p.acqOf acq
    let last := decide (a.setting.segments ≤ a.finished.length + 1)
    let ends := a.violation.isSome || last
    let p := when (ends && a.setting.gapless && a.setting.m != 0)
      (fun p => flushPairs acq (closeIntervals acq (segEnd a (a.open_.headD {})) p)) p
    let p := closeSegment acq p
    if (p.acqOf acq).violation.isSome then doneAcq acq 3 p
    else if last then doneAcq acq 1 p
    else
      let p := onAcq acq nextSegment p
      when ((p.acqOf acq).setting.m != 0) (reduce acq) p) p

/-! ### Commands -/

/-- The settings in a body (R473). -/
def acqSettingOf (b : Bytes) : AcqSetting :=
  let src := u b 1 1
  let mode := u b 2 1
  { inst := src % 4, stream := src / 16, component := field src 2 2, gapless := bitAt mode 7, armFull := bitAt mode 6,
    stopViol := bitAt mode 5, segments := u b 4 2, pre := u b 8 4, post := u b 12 4, m := u b 16 4, violPost := u b 20 4,
    slotBlocks := u b 24 4, ringBase := u b 32 8, dirBase := u b 40 8 }

/-- A region of device DRAM within the installed capacity (R200, R473). -/
def dramRegion (d : Dmc) (a n : Nat) : Bool := a % 64 == 0 && isDevice a && rangeOk d a n

/-- ACQ_CONFIGURE (R199 to R201, R473). -/
def actAcqConfigure : Act := simple fun f p =>
  let b := f.body
  let k := u b 0 1
  let s := acqSettingOf b
  let ringSize := ringBlocks s * (blockBytes s + 32)
  let dirSize := 64 * (s.segments + 1)
  guarded
    [ (s.segments == 0 || (s.pre == 0 && s.post == 0), stZero),
      (decide (15 < k) || u b 2 1 % 32 != 0 || u b 3 1 != 0 || u b 6 2 != 0 || u b 28 4 != 0 || s.component == 3 ||
        decide (8 < s.stream) || s.m == 1 || decide (2 ^ 20 < s.m) ||
        (s.slotBlocks != 0 && (decide (s.slotBlocks < ceilDiv (segEntries s) blockLen + 1) ||
          !dramRegion p.dmc s.ringBase ringSize || !dramRegion p.dmc s.dirBase dirSize)) ||
        (s.stopViol && (s.m == 0 || s.gapless || decide (s.post < s.violPost))), stRange),
      (!bitAt (routeBits p s.inst s.stream) 0 || acqActive (p.acqOf k), stState) ] p
    (onAcq k (fun a => { a with setting := s }) p, .done stOk [low32 ringSize, high32 ringSize, dirSize])

def execAcqConfigure (c : Cmd) : State → Out := effect (runCommand 0x0601 c actAcqConfigure)

/-- Arms one acquisition: its directory is cleared and its counters start at zero; trigger events on their way still reach it
(R205, R207). -/
def armAcq (at_ k : Nat) (p : Piece) : Piece :=
  let p := onAcq k (fun a => { setting := a.setting, mask := a.mask, maskLoaded := a.maskLoaded,
                               armCount := wrap32 a.armCount 1, state := .armed, armAt := some at_, triggers := a.triggers }) p
  let s := (p.acqOf k).setting
  (List.range (s.segments + 1)).foldl (fun p i => writeDirectory s i (zeros 64) p) p

/-- ACQ_ARM (R205, R223, R457, R474). -/
def actAcqArm : Act := simple fun f p =>
  let m := u f.body 0 2
  let named := maskIndices 16 m
  let at_ := p.now + 32
  guarded
    [ (m == 0, stZero), (!isZero (slice f.body 2 6), stRange),
      (named.any (fun k => acqActive (p.acqOf k) || (p.acqOf k).setting.slotBlocks == 0), stState),
      (calibrating p, stBusy), (dmcRefuses p.dmc, stFault) ] p
    (named.foldl (fun p k => armAcq at_ k p) p, doneWith stOk at_)

def execAcqArm (c : Cmd) : State → Out := effect (runCommand 0x0602 c actAcqArm)

/-- ACQ_STOP (R219, R474). -/
def actAcqStop : Act := simple fun f p =>
  let m := u f.body 0 2
  let ended := (maskIndices 16 m).filter fun k => acqActive (p.acqOf k)
  guarded [ (m == 0, stZero), (!isZero (slice f.body 2 6), stRange) ] p
    (ended.foldl (fun p k => endAcq k 2 p) p, .done stOk [maskOf 16 ended.contains])

def execAcqStop (c : Cmd) : State → Out := effect (runCommand 0x0603 c actAcqStop)

/-- ACQ_MASKTEST_LOAD (R216, R475). -/
def actMasktestLoad : Act := fun f host p =>
  let b := f.body
  let k := u b 0 1
  let first := u b 2 2
  let n := u b 4 2
  let a := p.acqOf k
  guarded
    [ (n == 0, stZero),
      (decide (15 < k) || u b 1 1 != 0 || u b 6 2 != 0 || decide (4096 < first + n) || !tableAddrOk p.dmc (u b 8 8) (4 * n),
        stRange),
      (a.setting.m == 0 || acqActive a, stState) ] p
    (withTable p (u b 8 8) (4 * n) host fun t =>
      let entry (i : Nat) : Nat × Int × Int := (first + i, sgn t (4 * i) 2, sgn t (4 * i + 2) 2)
      let es := (List.range n).map entry
      if es.any (fun e => decide (e.2.2 < e.2.1)) then (p, .done stRange [])
      else
        (onAcq k (fun a => { a with maskLoaded := true
                                    mask := es ++ (a.mask.filter fun e =>
                                      decide (e.1 < first) || decide (first + n ≤ e.1)) }) p, .done stOk []))

def execAcqMasktestLoad (c : Cmd) : State → Out := effect (runCommand 0x0604 c actMasktestLoad)

/-- ACQ_READOUT: the readout starts; it is kept with its parameters until its last line (R221, R223, R476). -/
def actAcqReadout : Act := simple fun f p =>
  let b := f.body
  let k := u b 0 1
  let whole := bitAt (u b 1 1) 7
  let first := u b 4 4
  let n := u b 8 4
  let dest := u b 16 8
  let a := p.acqOf k
  guarded
    [ (n == 0, stZero),
      (decide (15 < k) || u b 1 1 % 128 != 0 || u b 2 2 != 0 || u b 12 4 != 0 || dest % 64 != 0 || !addrOk p.dmc dest ||
        decide (a.finished.length < first + n) || (whole && !a.setting.gapless), stRange),
      (a.state != .done, stState), (dmcRefuses p.dmc, stFault) ] p
    (p, .wait .acqReadout k [first, n, flag whole 0, dest])

def execAcqReadout (c : Cmd) : State → Out := effect (runCommand 0x0605 c actAcqReadout)

/-- A ring block as the readout writes it: header, then data. -/
def readBlock (p : Piece) (s : AcqSetting) (b : Nat) : Bytes :=
  memRead p.dmc.dram (headerAddr s b) 32 ++ memRead p.dmc.dram (dataAddr s b) (blockBytes s)

/-- The pairs of a run. -/
def readRun (p : Piece) (s : AcqSetting) (r : Nat × Nat × Nat) : Bytes :=
  memRead p.dmc.dram (dataAddr s r.1 + 4 * r.2.1) (4 * r.2.2)

/-- The data of one segment in order of time. -/
def segmentData (p : Piece) (a : Acq) (d : DoneSegment) : Bytes :=
  let s := a.setting
  if s.m == 0 then d.blocks.flatMap (readBlock p s)
  else padTo 64 ((if s.gapless then runsOf a.pairLog d.pairs.1 d.pairs.2 else d.runs).flatMap (readRun p s))

/-- The data of a GAPLESS record: its ring blocks from the first to the last, or all its pairs. -/
def wholeData (p : Piece) (a : Acq) : Bytes :=
  let s := a.setting
  if s.m == 0 then
    match a.record, (a.finished.getLast?.bind (·.blocks.getLast?)) with
    | some (_, r0), some r1 =>
      let n := (r1 + s.slotBlocks - r0) % s.slotBlocks + 1
      (List.range n).flatMap fun i => readBlock p s ((r0 + i) % s.slotBlocks)
    | _, _ => []
  else padTo 64 (a.pairLog.flatMap fun e => readRun p s (e.2.1, 0, e.2.2))

/-- ACQ_READOUT_DONE: the last line of the readout is written, or the DMC refuses (R221). -/
def execAcqReadoutDone (acq : Fin 16) (refusedAt : Option Nat) : State → Out := effect fun p =>
  match waitingWords p .acqReadout acq with
  | some (first :: n :: whole :: dest :: _) =>
    let a := p.acqOf acq
    let segs := (a.finished.drop first).take n
    let bs := acqHeader acq a ++
      (if whole == 1 then a.finished.flatMap (·.header) ++ wholeData p a
       else segs.flatMap fun d => d.header ++ segmentData p a d)
    let (p, st, written) := readoutWrite true dest bs refusedAt p
    finishWaiting .acqReadout acq st (fun _ => [low32 written, high32 written]) p
  | _ => p

/-! ### Registers (R224) -/

/-- ACQ_STATUS. -/
def acqStatus (p : Piece) : Nat :=
  (maskOf 16 fun k => (p.acqOf k).state == .done) * 65536 + maskOf 16 fun k => acqActive (p.acqOf k)

/-- ACQ_An_CFG. -/
def acqConfig (a : Acq) : Nat :=
  let s := a.setting
  flag (s.slotBlocks != 0) 31 + flag s.gapless 30 + flag (s.m != 0) 29 + flag s.stopViol 28 + flag s.armFull 27 +
    flag a.maskLoaded 26 + s.component % 4 * 2 ^ 24 + s.stream % 16 * 2 ^ 20 + s.inst % 4 * 2 ^ 16 + s.segments % 65536

/-- ACQ_An_STATE. -/
def acqStateWord (a : Acq) : Nat :=
  a.cause % 8 * 65536 + match a.state with | .idle => 0 | .armed => 1 | .triggered => 2 | .done => 3 | .fault => 4

end Sys2Proof.Machine
end

