-- ==== Sys2Proof/Machine/Monitor.lean ====
section
/-! DEFINITION. MONITOR: the sequencer of the monitor converter and its urgent requests (03 R89 to R95), and
MONITOR_SEQUENCE_SET (20 R520). -/

namespace Sys2Proof.Machine

/-- Changes MONITOR. -/
def onMonitor (f : Monitor → Monitor) (p : Piece) : Piece := { p with monitor := f p.monitor }

/-- The channel scheduled for the present slot; none in an empty slot or after the last that fits the frame (R90, R94). -/
def scheduled (m : Monitor) : Option Nat :=
  if m.slot < m.sequence.length && m.slot + m.shift < m.sequence.length + m.idle then m.sequence[m.slot]? else none

/-- The code a channel converts to: the spare channels convert to zero (R89). -/
def convertedCode (channel code : Nat) : Nat := if 32 ≤ channel then 0 else code

/-- Writes a result (R92, R95). -/
def writeResult (c : Conversion) (code : Nat) (m : Monitor) : Monitor :=
  let r : MonitorResult :=
    { seq := m.frameCount % 65536, urgent := c.urgent, code := convertedCode c.channel code, mint := m.slotBegan }
  { m with results := put m.results c.channel r
           urgentResult := if c.urgent then some (c.safety, c.channel, r.code) else m.urgentResult }

/-- The end of an urgent conversion: in NATIVE mode it has taken the slot of a scheduled one, which is counted unless it has
the same channel; in TC80 mode the remaining slots shift (R93, R94). -/
def endUrgent (c : Conversion) (m : Monitor) : Monitor :=
  if m.tc80 then { m with shift := m.shift + 1 }
  else
    let skips := match scheduled m with
      | some ch => ch != c.channel
      | none => false
    { m with slot := m.slot + 1, schedSkipped := if skips then sat32 m.schedSkipped 1 else m.schedSkipped }

/-- The next slot begins, with a waiting urgent request first (R94). -/
def nextSlot (now : Nat) (m : Monitor) : Monitor :=
  match m.waiting with
  | c :: rest => { m with slotBegan := now, conversion := some c, waiting := rest }
  | [] => { m with slotBegan := now, conversion := none }

/-- MONITOR_CONVERSION: the conversion of the slot ends with a code (R91 to R94); the estimates of u take the temperature as it was
until then (R60). -/
def execMonitorConversion (code : Fin 4096) : State → Out := effect fun p =>
  when (p.boot.released && p.monitor.running) (fun p =>
    let p := growEstimates p
    match p.monitor.conversion with
    | some c => onMonitor (fun m => nextSlot p.now (endUrgent c (writeResult c code m))) p
    | none =>
      match scheduled p.monitor with
      | some ch => onMonitor (fun m =>
          nextSlot p.now { writeResult { channel := ch } code m with slot := m.slot + 1 }) p
      | none => p) p

/-- An urgent request that waits in TC80 mode. DESIGN CHOICE: SAFETY's go ahead of CALMGR's, those of an earlier cycle too; the spec
orders those of one cycle alone (log entry 35). -/
def waitUrgent (c : Conversion) (m : Monitor) : Monitor :=
  { m with urgentDelayed := sat32 m.urgentDelayed 1
           waiting := if c.safety then m.waiting.filter (·.safety) ++ c :: m.waiting.filter (!·.safety) else m.waiting ++ [c] }

/-- An urgent request that meets a conversion: dropped in NATIVE mode, waiting in TC80 mode (R93, R94). -/
def meetUrgent (c : Conversion) (m : Monitor) : Monitor :=
  if m.tc80 then waitUrgent c m else { m with urgentDropped := sat32 m.urgentDropped 1 }

/-- An urgent request at a slot boundary takes the slot; of two at one boundary SAFETY's is served first and the other meets it
(R93, R94). -/
def takeSlot (c : Conversion) (now : Nat) (m : Monitor) : Monitor :=
  match m.conversion with
  | none => { m with conversion := some c, slotBegan := now }
  | some d => if c.safety && !d.safety then meetUrgent d { m with conversion := some c } else meetUrgent c m

/-- MONITOR_URGENT_REQUEST: at a slot boundary, or in an empty slot, it takes the slot that begins; within the slot of a conversion
it meets that conversion (R93, R94). -/
def execMonitorUrgentRequest (safety : Bool) (channel : Fin 40) (s : State) (atBoundary : Bool := true) : Out :=
  effect (fun p =>
  let c : Conversion := { channel := channel.val, urgent := true, safety := safety }
  when (p.boot.released && p.monitor.running) (fun p => onMonitor (fun m =>
    if atBoundary || (m.conversion.isNone && (scheduled m).isNone) then takeSlot c p.now m else meetUrgent c m) p) p) s

/-- The slots of the frame have passed: those of the sequence, urgent ones and as many empty ones as the sender of the row has seen
(R90, R94). -/
def frameOver (m : Monitor) (empty : Nat) : Bool :=
  (scheduled m).isNone && decide (m.slot + m.shift + empty = m.sequence.length + m.idle)

/-- A frame starts: in TC80 mode what was not converted is skipped; a new sequence takes effect (R90, R94). -/
def startFrame (p : Piece) : Piece :=
  let p := onMonitor (fun m =>
    let left := if m.tc80 then m.sequence.length - m.slot else 0
    let m := { m with schedSkipped := sat32 m.schedSkipped left, frameCount := wrap32 m.frameCount 1, slot := 0, shift := 0,
                      slotBegan := p.now }
    match m.pending with
    | some (s, i, t) => { m with sequence := s, idle := i, tc80 := t, pending := none }
    | none => m) p
  finishAllWaiting .monitorSequence 0 stOk (fun _ => [low32 p.now, high32 p.now]) p

/-- MONITOR_SEQUENCE_SET (R90, R520): the sequence takes effect at the next frame start. -/
def actMonitorSequence : Act := simple fun f p =>
  let b := f.body
  let n := u b 0 1
  let chans := ((slice b 8 64).take n).map (·.toNat)
  guarded
    [ (n == 0, stZero),
      (decide (64 < n) || decide (1 < u b 1 1) || u b 4 4 != 0 || chans.any (fun c => decide (39 < c)) ||
        !isZero ((slice b 8 64).drop n) || !((List.range 16).all chans.contains), stRange) ] p
    (onMonitor (fun m => { m with pending := some (chans, u b 2 2, u b 1 1 == 1) }) p, .wait .monitorSequence 0 [])

def execMonitorSequenceSet (c : Cmd) : State → Out := effect (runCommand 0x0E06 c actMonitorSequence)

/-- MONITOR_STATUS (R95). -/
def monitorStatus (m : Monitor) : Nat := m.sequence.length % 256 * 2 ^ 8 + flag m.tc80 1 + flag m.running 0

/-- MONITOR_RESULTn (R95). -/
def monitorResult (r : MonitorResult) : Nat := r.seq % 65536 * 2 ^ 16 + flag r.urgent 15 + r.code % 4096

end Sys2Proof.Machine
end

