-- ==== Sys2Proof/Machine/NetMsg.lean ====
section
/-! DEFINITION. Cross-triggers as the Net carries them (22 R565, R566): their bytes, the queues of the ports. -/

namespace Sys2Proof.Machine

/-- Changes NET. -/
def onNet (f : Net → Net) (p : Piece) : Piece := { p with net := f p.net }

/-- Changes one port. -/
def onPort (i : Nat) (f : NetPort → NetPort) (p : Piece) : Piece := onNet (fun n => { n with ports := upd n.ports i f }) p

/-- A port. -/
def Piece.portOf (p : Piece) (i : Nat) : NetPort := nth p.net.ports i

/-- A port carries cross-triggers: it is an ACTIVE UP or DOWN port (R566). -/
def carries (q : NetPort) : Bool := q.state == .active && (q.role == .up || q.role == .down)

/-- A cross-trigger of 16 bytes (R565). -/
def xtrigBytes (code node hops seq label : Nat) : Bytes :=
  let b := leBytes 1 0xC1 ++ leBytes 1 code ++ leBytes 2 node ++ leBytes 1 hops ++ leBytes 1 seq ++
    leBytes 6 (labelFraction label) ++ leBytes 2 (labelSeconds label) ++ leBytes 1 0
  b ++ leBytes 1 (crc8 b)

/-- A cross-trigger waits for a port's frame, or finds the queue full (R566). -/
def queueXtrig (i : Nat) (bs : Bytes) (p : Piece) : Piece :=
  if (p.portOf i).queue.length < 16 then onPort i (fun q => { q with queue := q.queue ++ [bs] }) p
  else onNet (fun n => { n with xtrigDropped := sat32 n.xtrigDropped 1 }) p

/-- A cross-trigger goes to every port that carries them but one (R566). -/
def spreadXtrig (but : Option Nat) (bs : Bytes) (p : Piece) : Piece :=
  (List.range 4).foldl (fun p i => when (carries (p.portOf i) && but != some i) (queueXtrig i bs) p) p

/-- A joined piece originates a cross-trigger (R191, R566). -/
def originateXtrig (code label : Nat) (p : Piece) : Piece :=
  when p.net.joined (fun p =>
    let bs := xtrigBytes code p.net.nodeId 0 p.net.xtrigSeq label
    spreadXtrig none bs (onNet (fun n => { n with xtrigSeq := (n.xtrigSeq + 1) % 256, xtrigSent := wrap32 n.xtrigSent 1 }) p)) p

end Sys2Proof.Machine
end

