-- ==== Sys2Proof/Machine/Elements.lean ====
section
/-! DEFINITION. Redundant elements: a detected error and its targeted self-test, the verdicts transient and lasting, and what
each verdict does to the element (24 R596 to R600, 03 R80 and R81, 09 R232, R247 and R248). -/

namespace Sys2Proof.Machine

/-- The elements of R600: an SRAM row, an interpolator, a slice, a comparator. -/
def rowElement (panel inst row : Nat) : Element := { test := 0, panel := panel, inst := inst, element := row }
def interpElement (motif n : Nat) : Element := { test := 1, panel := 0x09, inst := motif, element := n }
def sliceElement (input slice : Nat) : Element := { test := 2, panel := 0x03, inst := input, element := slice }
def compElement (source c : Nat) : Element :=
  { test := 3, panel := 0x09, inst := source / 4, element := 4 * (source % 4) + c }
def portElement (port : Nat) : Element := { test := 4, panel := 0x12, inst := 0, element := port }

/-- Changes SAFETY. -/
def onSafety (f : Safety → Safety) (p : Piece) : Piece := { p with safety := f p.safety }

/-- Changes one motif. -/
def onMotif (k : Nat) (f : Motif → Motif) (p : Piece) : Piece := { p with stamp := upd p.stamp k f }

/-- A motif. -/
def Piece.motif (p : Piece) (k : Nat) : Motif := nth p.stamp k

/-- Changes one stamp input, by its source number. -/
def onInput (source : Nat) (f : StampInput → StampInput) (p : Piece) : Piece :=
  onMotif (source / 4) (fun m => { m with inputs := upd m.inputs (source % 4) f }) p

/-- A stamp input. -/
def Piece.input (p : Piece) (source : Nat) : StampInput := nth (p.motif (source / 4)).inputs (source % 4)

/-- Transient verdicts of an element in the last 10 s (R599, R606). -/
def transientsOf (p : Piece) (e : Element) : Nat :=
  (p.safety.transientLog.filter fun f => f.element == e && decide (p.now < f.mint + 10 * ticksPerSecond)).length

/-- The journal entry of an element. -/
def elementEntry (p : Piece) (e : Element) (verdict : Nat) : JournalEntry :=
  { panelType := e.panel, inst := e.inst, element := if e.test == 0 then 0 else e.element, verdict := verdict,
    transients := min 255 (transientsOf p e) }

/-- The spare rows that an array of 1,024 rows has lent (R596). -/
def rowsMapped (p : Piece) (e : Element) : Nat :=
  (p.safety.mappedRows.filter fun r => r.panel == e.panel && r.inst == e.inst && r.element / 1024 == e.element / 1024).length

/-- A stamp input sets FAULT_ACTIVE: it delivers no records, and its counter slots stop (R232, R248, R280). -/
def loseInput (source : Nat) (p : Piece) : Piece :=
  loseSource source 7 (onInput source (fun i => { i with faultActive := true }) p)

/-- A lasting fault of a slice: S retired latches SPARE_LOST; with fewer than two slices left the input is unusable; rotation
ends (R81, R599). -/
def retireSlice (i j : Nat) (p : Piece) : Piece :=
  let p := onRfin i (fun r =>
    let retired := r.retired ||| 2 ^ j
    { r with retired := retired, rotation := none, unusable := r.unusable || decide (2 ≤ popcount 3 retired) }) p
  when (j == 2) (raiseAlarm 0x0404 0x03 i) p

/-- The spare takes FAULT_COVER of an input (R247). -/
def coverInput (k n : Nat) (p : Piece) : Piece :=
  onMotif k (fun m =>
    { m with role := .faultCover, spareInput := n, roleEdges := 0, roleBegan := p.now, inRound := false
             inputs := upd m.inputs n fun i => { i with spareActive := true } }) p

/-- The spare can serve an input: it is neither retired nor under test. -/
def spareOk (m : Motif) : Bool := !m.spareRetired && !m.spareFaulted

/-- A visit ends at once: the input's own interpolator returns with its previous constants; `cal`: its next record carries CAL
(R247). -/
def endVisit (k : Nat) (cal : Bool) (p : Piece) : Piece :=
  let m := p.motif k
  match m.role with
  | .overlap | .standingIn | .handback =>
    onMotif k (fun m => { m with
      role := .idle, inRound := false
      inputs := upd m.inputs m.spareInput fun i => { i with spareActive := false, calDue := i.calDue || cal } }) p
  | .selfCal => onMotif k (fun m => { m with role := .idle, inRound := false }) p
  | _ => p

/-- A fault of an input's interpolator: the spare covers it, unless it covers another or is not fit (R247, R248). -/
def faultInterp (k n : Nat) (p : Piece) : Piece :=
  let m := p.motif k
  let own := m.spareInput == n && (m.role == .standingIn || m.role == .handback || m.role == .overlap || m.role == .faultCover)
  let p := onInput (4 * k + n) (fun i => { i with interpFaulted := true }) p
  if own then coverInput k n p
  else
    let p := endVisit k true p
    when (spareOk m && m.role != .faultCover) (coverInput k n) p

/-- A fault of the spare: what it serves returns to its own interpolator, with its last constants and no CAL, or stays without one
(R247, R248). -/
def faultSpare (k : Nat) (p : Piece) : Piece :=
  let m := p.motif k
  let p := endVisit k false p
  onMotif k (fun q => { q with
    role := .idle, inRound := false, spareFaulted := true
    inputs := if m.role == .faultCover then
        upd q.inputs m.spareInput fun i => { i with spareActive := false, interpFaulted := true }
      else q.inputs }) p

/-- A lasting fault of an interpolator: the spare stays in FAULT_COVER, or takes it; an input that it cannot serve sets
FAULT_ACTIVE; a retired spare latches SPARE_LOST. Rotation of the motif stops (R247, R248, R597). -/
def retireInterp (k n : Nat) (p : Piece) : Piece :=
  let stop (m : Motif) : Motif := { m with rotationEn := false, inRound := false }
  if n == 4 then
    let m := p.motif k
    let p := onMotif k (fun m => { stop m with
      spareRetired := true, spareLost := true, spareFaulted := false, role := .idle
      inputs := (m.inputs.map fun i => { i with spareActive := false }) }) p
    let p := raiseAlarm 0x0404 0x09 k p
    (List.range 4).foldl (fun p j => when (nth m.inputs j).interpRetired (loseInput (4 * k + j)) p) p
  else
    let p := onMotif k stop (onInput (4 * k + n) (fun i => { i with interpRetired := true, interpFaulted := false }) p)
    if (p.input (4 * k + n)).spareActive then p
    else if spareOk (p.motif k) && (p.motif k).role != .faultCover then coverInput k n (endVisit k true p)
    else loseInput (4 * k + n) p

/-- A spare that has returned covers the input that lacks its interpolator (R247, R248). -/
def coverAgain (k : Nat) (p : Piece) : Piece :=
  let m := p.motif k
  match (List.range 4).find? fun n => ((nth m.inputs n).interpRetired || (nth m.inputs n).interpFaulted) && !(nth m.inputs n).faultActive with
  | some n => when (spareOk m && m.role == .idle) (coverInput k n) p
  | none => p

/-- The lowest-numbered comparator that can take over from the selected one does, with its own constants (R231, R232). -/
def nextComp (i : StampInput) : StampInput :=
  match (List.range 4).find? fun c => c != i.compSel && !bitAt (i.compRetired ||| i.compHeld) c with
  | some c => { i with compSel := c, epoch := i.epoch + 1, calDue := true }
  | none => i

/-- A lasting fault of a comparator, which gives way to the next where it is the selected one; with all four retired the input is
lost (R232). -/
def retireComp (source c : Nat) (p : Piece) : Piece :=
  let p := onInput source (fun i =>
    let i := { i with compRetired := i.compRetired ||| 2 ^ c }
    if i.compSel == c then nextComp i else i) p
  when (decide ((p.input source).compRetired = 15)) (fun p => raiseAlarm 0x0405 0x09 (source / 4) (loseInput source p)) p

/-- A lasting fault of an SRAM row keeps its spare row; with none left SPARE_ROW_LOST latches (R596, R605). -/
def retireRow (e : Element) (p : Piece) : Piece :=
  when (!p.safety.mappedRows.contains e) (raiseAlarm 0x0502 e.panel e.inst) p

/-- What a lasting verdict does to the element (R599). -/
def loseElement (e : Element) (p : Piece) : Piece :=
  match e.test with
  | 0 => retireRow e p
  | 1 => retireInterp e.inst e.element p
  | 2 => retireSlice e.inst e.element p
  | 3 => retireComp (4 * e.inst + e.element / 4) (e.element % 4) p
  | _ => onPort e.element (fun q => { q with state := .fault }) p

/-- A lasting verdict: the element is retired, ELEMENT_RETIRED latches with a persistent journal entry (R599). -/
def retireElement (e : Element) (p : Piece) : Piece :=
  if p.safety.retirements.contains e then p
  else
    let p := onSafety (fun s => { s with retired := sat32 s.retired 1, retirements := s.retirements ++ [e],
                                         tests := s.tests.filter (·.element != e) }) p
    loseElement e (alarmWith 0x0403 { elementEntry p e 2 with persistent := true } p)

/-- A detected error of an element: it fails the test of that element that runs; the fourth transient within 10 s is lasting
without a test; else a test is to start (R598, R599). -/
def detectError (e : Element) (p : Piece) : Piece :=
  if p.safety.tests.any fun t => t.element == e && t.running then
    onSafety (fun s => { s with tests := (s.tests.map fun t =>
      if t.element == e && t.running then { t with failed := true } else t) }) p
  else if p.safety.retirements.contains e then p
  else if 3 ≤ transientsOf p e then retireElement e p
  else if p.safety.tests.any (·.element == e) then p
  else onSafety (fun s => { s with tests := s.tests ++ [{ element := e }] }) p

/-- The fault of a slice is dealt with: the invalid span ends at a moment with the last such fault (R80). -/
def clearFault (j : Nat) (t : T16) (r : Rfin) : Rfin :=
  let left := r.faulted.filter (·.1 != j)
  { r with faulted := left
           spans := if left.isEmpty then
               r.spans.map fun s => if s.reason == 6 && s.stop.isNone then { s with stop := some t } else s
             else r.spans }

/-- An element returns to service after a transient fault (R599): a slice through a match with the slice that stands in, an
interpolator through HANDBACK, a row from its spare row. -/
def returnElement (e : Element) (p : Piece) : Piece :=
  match e.test with
  | 0 => onSafety (fun s => { s with mappedRows := s.mappedRows.filter (· != e) }) p
  | 1 =>
    if e.element == 4 then coverAgain e.inst (onMotif e.inst (fun m => { m with spareFaulted := false }) p)
    else
      let p := onInput (4 * e.inst + e.element) (fun i => { i with interpFaulted := false }) p
      onMotif e.inst (fun m =>
        if m.role == .faultCover && m.spareInput == e.element then { m with role := .handback, roleEdges := 0, roleBegan := p.now }
        else m) p
  | 2 => onRfin e.inst (fun r =>
      if e.element != 2 && r.map.contains 2 && !r.map.contains e.element then
        { r with rotation := some { slice := e.element, step := 3, began := p.now, returns := true } }
      else if r.map.contains e.element then clearFault e.element (T16.ofTick p.now) r
      else r) p
  | 3 => p
  | _ => onPort e.element (fun q => if q.state == .fault then { q with state := .noSignal } else q) p

/-- A transient verdict (R599, R606). -/
def transientElement (e : Element) (p : Piece) : Piece :=
  let p := onSafety (fun s =>
    { s with transients := sat32 s.transients 1
             transientLog := { element := e, mint := p.now } ::
               s.transientLog.filter fun f => decide (p.now < f.mint + 10 * ticksPerSecond) }) p
  returnElement e (writeJournal { elementEntry p e 1 with code := 0x1001 } p)

end Sys2Proof.Machine
end

