-- ==== Sys2Proof/Machine/TrigFam.lean ====
section
/-! DEFINITION. TRIGGER: source stages, the combination matrix, trigger events and their routes, TRIG_OUT, express units (07),
and its commands (19 R468 to R472). -/

namespace Sys2Proof.Machine

/-- Changes TRIGGER. -/
def onTrigger (f : Trigger → Trigger) (p : Piece) : Piece := { p with trigger := f p.trigger }

/-- Changes one cell. -/
def onCell (n : Nat) (f : Cell → Cell) (p : Piece) : Piece := onTrigger (fun t => { t with cells := upd t.cells n f }) p

/-- Changes one TRIG_OUT. -/
def onOut (k : Nat) (f : TrigOut → TrigOut) (p : Piece) : Piece := onTrigger (fun t => { t with outs := upd t.outs k f }) p

/-- A cell. -/
def Piece.cell (p : Piece) (n : Nat) : Cell := nth p.trigger.cells n

/-- A field of the parameter area of R468, at its offset in the body. -/
def CellSetting.par (s : CellSetting) (off len : Nat) : Nat := u s.params (off - 8) len

/-- The same for a signed field. -/
def CellSetting.level (s : CellSetting) (off : Nat) : Int := sgn s.params (off - 8) 2

/-- The source is an RF type (R167). -/
def CellSetting.rf (s : CellSetting) : Bool := decide (1 ≤ s.source) && decide (s.source ≤ 4)

/-- The tally-island cycle of a tick. -/
def tallyCycle (tick : Nat) : Nat := tick / 2

/-- A difference of times in 2⁻¹⁶ tick is no longer than a number of ps. -/
def withinPs (d : Int) (ps : Nat) : Bool := decide (d * 390625 ≤ (ps : Int) * 65536000)

/-- A difference of times is at least a number of ps. -/
def atLeastPs (d : Int) (ps : Nat) : Bool := decide ((ps : Int) * 65536000 ≤ d * 390625)

/-- The entry with the least time, the first of equals. -/
def earliest (time : α → T16) (l : List α) : Option α :=
  l.foldl (fun best a => match best with
    | some b => if time a < time b then some a else some b
    | none => some a) none

/-- Adds an entry to the four with the latest times of its key (R178, R184). -/
def keepFour [BEq α] (key : α → Nat) (time : α → T16) (a : α) (l : List α) : List α :=
  let same := l.filter fun b => key b == key a
  if same.length < 4 then l ++ [a]
  else
    match earliest time same with
    | some b => if time b < time a then l.erase b ++ [a] else l
    | none => l ++ [a]

/-! ### Source stages -/

/-- A source stage issues a condition event; of several in one tally-island cycle it issues the earliest and counts the rest
(R169). -/
def issueCond (e : CondEvent) (p : Piece) : Piece :=
  if p.trigger.matrix.any fun o => o.cell == e.cell && o.cycle == e.cycle then
    onCell e.cell (fun c => { c with dropped := sat32 c.dropped 1 })
      (onTrigger (fun t => { t with matrix := (t.matrix.map fun o =>
        if o.cell == e.cell && o.cycle == e.cycle && decide (e.time < o.time) then e else o) }) p)
  else
    onCell e.cell (fun c => { c with fired := wrap32 c.fired 1 })
      (onTrigger (fun t => { t with matrix := t.matrix ++ [e] }) p)

/-- The value stands in the state whose runs the cell counts (R171). -/
def CellSetting.holds (s : CellSetting) (y : Int) : Bool :=
  if s.par 11 1 == 1 then decide (y < s.level 14) else decide (s.level 14 < y)

/-- RF_LEVEL at one sample (R171). -/
def levelStep (s : CellSetting) (d : RfDetector) (y : Int) : RfDetector × Bool :=
  if s.holds y then ({ d with run := d.run + 1 }, d.run == 0) else ({ d with run := 0 }, false)

/-- RF_EDGE at one sample (R171). -/
def edgeStep (s : CellSetting) (d : RfDetector) (y : Int) : RfDetector × Bool :=
  let l := s.level 14
  let h : Int := s.par 18 2
  let slope := s.par 11 1
  let rise := d.riseArmed && (d.last.map fun x => decide (x ≤ l) && decide (l < y)).getD false
  let fall := d.fallArmed && (d.last.map fun x => decide (l ≤ x) && decide (y < l)).getD false
  ({ d with riseArmed := (d.riseArmed && !rise) || decide (y ≤ l - h)
            fallArmed := (d.fallArmed && !fall) || decide (l + h ≤ y) },
   (rise && slope != 1) || (fall && slope != 0))

/-- RF_WIDTH at one sample: whether the width of a run is decided there and fires (R171). -/
def widthStep (s : CellSetting) (d : RfDetector) (y : Int) (bad : Bool) : RfDetector × Bool :=
  let w1 := s.par 20 4
  let w2 := s.par 24 4
  let mode := s.par 12 1
  if s.holds y then
    let w := d.run + 1
    ({ d with run := w, runTainted := bad || (decide (0 < d.run) && d.runTainted) },
     (mode == 1 && w == w1 + 1) || (mode == 3 && w == w2 + 1))
  else
    ({ d with run := 0 }, decide (0 < d.run) &&
      ((mode == 0 && decide (d.run < w1)) || (mode == 2 && decide (w1 ≤ d.run) && decide (d.run ≤ w2)) ||
        (mode == 3 && decide (d.run < w1))))

/-- RF_WINDOW at one sample (R171). -/
def windowStep (s : CellSetting) (d : RfDetector) (y : Int) : Bool :=
  let inside (x : Int) : Bool := decide (s.level 14 ≤ x) && decide (x ≤ s.level 16)
  match d.last with
  | some x => if s.par 11 1 == 1 then inside x && !inside y else inside y && !inside x
  | none => false

/-- The detector of an RF cell takes one sample: its new state, and whether it fires there and TAINTED (R171, R172). -/
def rfStep (s : CellSetting) (d : RfDetector) (y : Int) (bad : Bool) : RfDetector × Option Bool :=
  if bad && !s.useTainted then ({}, none)
  else
    let (d', fires, taint) := match s.source with
      | 1 => let (e, f) := levelStep s d y; (e, f, bad)
      | 2 => let (e, f) := edgeStep s d y; (e, f, bad)
      | 3 => let (e, f) := widthStep s d y bad; (e, f, bad || e.runTainted)
      | _ => (d, windowStep s d y, bad)
    ({ d' with last := some y }, if fires then some taint else none)

/-- The condition event of an RF cell at a sample of a block (R169, R173, R188). -/
def rfEvent (n source : Nat) (b : AcqBlock) (k : Nat) (tainted : Bool) : CondEvent :=
  let t := b.timeOf k
  { cell := n, source := source, time := t, cycle := tallyCycle (T16.tick t).toNat, tainted := tainted,
    detail := b.seq % 2 ^ 23 * 512 + k }

/-- An RF cell takes a block of its stream. -/
def rfBlock (raw : Bool) (b : AcqBlock) (n : Nat) (c : Cell) : RfDetector × List CondEvent :=
  b.samples.zipIdx.foldl (fun (d, es) (x, k) =>
    let (d', f) := rfStep c.setting d (component raw (c.setting.par 10 1) x) (b.invalidAt k)
    (d', match f with
      | some t => es ++ [rfEvent n c.setting.source b k t]
      | none => es)) (c.detector, [])

/-- A cell takes a stream (R170). -/
def takesStream (inst stream : Nat) (c : Cell) : Bool :=
  c.setting.en && c.setting.rf && c.setting.par 8 1 == inst && c.setting.par 9 1 == stream

/-- A block of a stream reaches the time-domain detectors of the cells that take it (R170 to R173). -/
def feedTrigger (inst stream : Nat) (b : AcqBlock) (p : Piece) : Piece :=
  let hits := (List.range 16).filter fun n => takesStream inst stream (p.cell n)
  let (p, es) := hits.foldl (fun (p, es) n =>
    let (d, e) := rfBlock (stream == 8) b n (p.cell n)
    (onCell n (fun c => { c with detector := d }) p, es ++ e)) (p, [])
  (sortBy (fun (x y : CondEvent) => decide (x.time < y.time)) es).foldl (fun p e => issueCond e p) p

/-- FREQ_MASK at one verdict: the cell and whether it fires (R176, R177). -/
def maskStep (v : MaskVerdict) (c : Cell) : Cell × Bool :=
  let s := c.setting
  let count := match s.par 9 1 with
    | 0 => v.upper
    | 1 => v.lower
    | _ => v.upper + v.lower
  if v.tainted && !s.useTainted then ({ c with run := 0, runTainted := false }, false)
  else
    let c := if v.cfgChange then { c with run := 0, runTainted := false } else c
    if s.par 10 2 ≤ count then
      let c := { c with run := c.run + 1, runTainted := c.runTainted || v.tainted }
      let fires := c.run == s.par 12 2 && !c.issued
      ({ c with issued := c.issued || fires }, fires)
    else ({ c with run := 0, runTainted := false, issued := false }, false)

/-- A cell takes a verdict. -/
def maskCell (v : MaskVerdict) (n : Nat) (p : Piece) : Piece :=
  let c := p.cell n
  if c.setting.en && c.setting.source == 5 && c.setting.par 8 1 == v.channel then
    let (c', fires) := maskStep v c
    let p := onCell n (fun _ => c') p
    when fires (issueCond { cell := n, source := 5, time := v.time, cycle := tallyCycle p.now, tainted := c'.runTainted,
                            detail := v.frameSeq }) p
  else p

/-- FREQ_MASK_VERDICT: the oldest verdict of a channel reaches the cells that watch it (R176, R177). -/
def execFreqMaskVerdict (channel : Fin 4) : State → Out := inIsland 0x20 fun p =>
  match p.trigger.verdicts.find? (·.channel == channel.val) with
  | some v =>
    (List.range 16).foldl (fun p n => maskCell v n p) (onTrigger (fun t => { t with verdicts := t.verdicts.erase v }) p)
  | none => p

/-- An edge bit matches a slope code (R457). -/
def slopeTakes (slope : Nat) (rising : Bool) : Bool := slope == 2 || (slope == 0) == rising

/-- The coincidence that an arriving stamp completes: its time and the stamps it uses (R178). -/
def coincidence (s : CellSetting) (a : Stamp) (retained : List Stamp) : Option (T16 × List Stamp) :=
  let win := s.par 16 4
  let others (t : T16) : List Stamp := (List.range 20).filterMap fun src =>
    if src == a.source then none
    else earliest (·.time) (retained.filter fun x => x.source == src && decide (x.time ≤ t) && withinPs (t - x.time) win)
  let times := sortBy (fun (x y : T16) => decide (x < y))
    (a.time :: (retained.map (·.time)).filter fun t => decide (a.time < t) && withinPs (t - a.time) win)
  times.findSome? fun t =>
    let o := others t
    if s.par 13 1 ≤ o.length + 1 then some (t, a :: o.take (s.par 13 1 - 1)) else none

/-- A cell takes a stamp (R178); of equal times the latest is that of the highest source (R26). -/
def coincCell (a : Stamp) (n : Nat) (p : Piece) : Piece :=
  let c := p.cell n
  let s := c.setting
  if s.en && s.source == 6 && decide (a.source < 20) && bitAt (s.par 8 4) a.source && slopeTakes (s.par 12 1) a.rising then
    match coincidence s a c.stamps with
    | some (t, used) =>
      let late := used.foldl (fun (b : Stamp) x =>
        if b.time < x.time || (b.time == x.time && decide (b.source < x.source)) then x else b) a
      issueCond { cell := n, source := 6, time := t, cycle := tallyCycle p.now
                  detail := late.seq % 2 ^ 24 * 256 + late.source }
        (onCell n (fun c => { c with stamps := c.stamps.filter fun x => !used.contains x }) p)
    | none => onCell n (fun c => { c with stamps := keepFour Stamp.source Stamp.time a c.stamps }) p
  else p

/-- STAMP_COINC_ARRIVAL: the oldest stamp on its way reaches the STAMP_COINC cells (R178). -/
def execStampCoincArrival : State → Out := inIsland 0x20 fun p =>
  match p.trigger.stamps with
  | a :: rest => (List.range 16).foldl (fun p n => coincCell a n p) (onTrigger (fun t => { t with stamps := rest }) p)
  | [] => p

/-! ### Express units (R194, R195) -/

/-- The stamp inputs that an express cell selects, as local indices of its island. -/
def expressInputs (s : CellSetting) : List Nat :=
  if s.source == 6 then ((List.range 16).filter (bitAt (s.par 8 4))).map (· % 4) else []

/-- D_n of a stamp input in fs: calibrated path delay and CABLE_DELAY (R195, R236; log entry 13). -/
def inputDelay (p : Piece) (source : Nat) : Int :=
  let i := nth (nth p.stamp (source / 4)).inputs (source % 4)
  Config.pathDelay i.pathEpoch source i.compSel i.setting.prescale (if i.spareActive then 4 else source % 4) +
    i.setting.cableDelay

/-- E_n of an input of an express cell in stamp-island cycles, halves up (R195, R355). -/
def alignment (p : Piece) (k : Nat) (inputs : List Nat) (n : Nat) : Int :=
  if inputs.length ≤ 1 then 0
  else
    let ds := inputs.map fun m => inputDelay p (4 * k + m)
    roundDiv (ds.foldl max (inputDelay p (4 * k + n)) - inputDelay p (4 * k + n)) 390625

/-- EXP_WIN in stamp-island cycles (R195). -/
def expressWindow (s : CellSetting) : Nat := ceilDiv (s.par 16 4 * 1000) 390625 + 2

/-- An event reaches TRIG_OUTk's output register on its way. -/
def reachOut (k : Nat) (p : Piece) : Piece := onOut k (fun o => { o with arrivals := o.arrivals + 1 }) p

/-- The express unit evaluates an aligned cycle: of edges of at least COINC_N inputs within EXP_WIN cycles it fires, once in the cycle;
an edge stays available as long as it lies within EXP_WIN (R195). -/
def expressCycle (k : Nat) (s : CellSetting) (p : Piece) (cycle : Nat) : Piece :=
  let x := nth p.trigger.express k
  let es := (x.pending.filter (·.2 == cycle)) ++ x.edges.filter fun e => decide (cycle < e.2 + expressWindow s)
  let distinct := ((expressInputs s).filter fun m => es.any (·.1 == m)).length
  when (s.en && decide (s.par 13 1 ≤ distinct)) (reachOut k)
    (onTrigger (fun t => { t with express := upd t.express k fun x =>
      { x with edges := es, pending := x.pending.filter (·.2 != cycle) } }) p)

/-- The express unit evaluates the aligned cycles that have come, oldest first (R195). -/
def settleExpress (k : Nat) (p : Piece) : Piece :=
  let x := nth p.trigger.express k
  match x.cell with
  | none => p
  | some m =>
    let due := (x.pending.map (·.2)).filter fun t => decide (t ≤ p.now)
    (sortBy (fun (a b : Nat) => decide (a < b)) (List.eraseDups due)).foldl (expressCycle k (p.cell m).setting) p

/-- The express unit of a stamp island takes a captured edge of input 4k + n, which is aligned E_n cycles later (R194, R195). -/
def expressEdge (k n : Nat) (rising : Bool) (p : Piece) : Piece :=
  match (nth p.trigger.express k).cell with
  | none => p
  | some m =>
    let s := (p.cell m).setting
    let ins := expressInputs s
    if !s.en || s.source != 6 || !ins.contains n || !slopeTakes (s.par 12 1) rising then p
    else
      let at_ := p.now + (alignment p k ins n).toNat
      settleExpress k (onTrigger (fun t => { t with express := upd t.express k fun x =>
        { x with pending := x.pending ++ [(n, at_)] } }) p)

/-- TRIG_IN_EDGE: an edge of TRIG_INk is captured at a Mint tick; its cells issue condition events, and an express cell drives
TRIG_OUTk (R179, R194, R195). -/
def execTrigInEdge (pin : Fin 4) (rising : Bool) : State → Out := effect fun p =>
  let takes (p : Piece) (n : Nat) : Bool :=
    let s := (p.cell n).setting
    s.en && s.source == 7 && s.par 8 1 == pin.val && slopeTakes (s.par 9 1) rising
  let p := match (nth p.trigger.express pin).cell with
    | some n => when (takes p n) (reachOut pin) p
    | none => p
  (List.range 16).foldl (fun p n =>
    when (takes p n) (issueCond
      { cell := n, source := 7, time := T16.ofTick p.now - T16.ofTick (Config.trigInDelay pin), cycle := tallyCycle p.now }) p) p

/-! ### TIME_MATCH (R181) -/

/-- The target of a TIME_MATCH setting, and its PERIOD, in 2⁻⁴⁸ s. -/
def CellSetting.target (s : CellSetting) : Nat := s.par 8 4 * 2 ^ 48 + s.par 12 6
def CellSetting.periodLabel (s : CellSetting) : Nat := s.par 20 4 * 2 ^ 48 + s.par 24 6

/-- The first of the targets after one that has fired which lies in the future. -/
def nextTarget (target period now : Nat) : Option Nat :=
  if period == 0 then none else some (target + ((now - target) / period + 1) * period)

/-- The targets that the Ledger has passed already are LATE: a first look at them, when a setting takes effect and when the time
tap runs again (R181). -/
def lookAtTarget (p : Piece) (c : Cell) : Cell :=
  match c.target with
  | some t => { c with firstLook := p.clocks.mintRun && decide (t < p.label) }
  | none => c

/-- The time tap runs again: every target is looked at anew (R181). -/
def lookAtTargets (p : Piece) : Piece := onTrigger (fun t => { t with cells := t.cells.map (lookAtTarget p) }) p

/-- TIME_MATCH_FIRE: the Ledger has reached the target; the cell fires, LATE where the target was past at its first look or a
step passed it, and sets its next target (R181). -/
def execTimeMatchFire (cell : Fin 16) : State → Out := inIsland 0x20 fun p =>
  let c := p.cell cell
  match c.target with
  | some t =>
    if p.clocks.mintRun && c.setting.en && c.setting.source == 9 && decide (t ≤ p.label) then
      let late := c.firstLook || c.stepped
      let next := if late then nextTarget t c.setting.periodLabel p.label
        else if c.setting.periodLabel == 0 then none else some (t + c.setting.periodLabel)
      issueCond { cell := cell, source := 9, time := if late then T16.ofTick p.now else timeOfLabel p t
                  cycle := tallyCycle p.now, late := late, post := c.stepped, label := some t }
        (onCell cell (fun c => { c with target := next, firstLook := false, stepped := false }) p)
    else p
  | none => p

/-! ### The combination matrix (R183 to R186) -/

/-- AND_WIN: the events that an output uses (R183, R184). -/
def andWin (c : Combine) (r : List CondEvent) : Option (List CondEvent) :=
  let pick (t : T16) (n : Nat) : Option CondEvent :=
    earliest (·.time) (r.filter fun e => e.cell == n && decide (e.time ≤ t) && withinPs (t - e.time) c.window)
  (sortBy (fun (x y : T16) => decide (x < y)) (r.map (·.time))).findSome? fun t => (maskIndices 16 c.mask).mapM (pick t)

/-- SEQ: the A event and the B event that an output uses (R183, R184). -/
def seqPair (c : Combine) (r : List CondEvent) : Option (List CondEvent) :=
  let bs := sortBy (fun (x y : CondEvent) => decide (x.time < y.time)) (r.filter fun e => bitAt c.bMask e.cell)
  bs.findSome? fun b =>
    (earliest (·.time) (r.filter fun a => bitAt c.aMask a.cell && a != b && atLeastPs (b.time - a.time) c.holdoff &&
      (c.timeout == 0 || withinPs (b.time - a.time) c.timeout))).map fun a => [a, b]

/-- The latest of some events; of equals that of the lowest cell (R187). -/
def latestEvent (es : List CondEvent) : CondEvent :=
  es.foldl (fun b e => if b.time < e.time || (b.time == e.time && decide (e.cell < b.cell)) then e else b) (es.headD {})

/-- A cell has a route (R185, R189). -/
def Routes.some (r : Routes) : Bool := r.out != 0 || r.net || r.mark || r.ring || r.acqMask != 0

/-- A combination stage issues an output event; with one of its cell of the same time it is one output (R186). -/
def pushOutput (n : Nat) (cycle : Nat) (used : List CondEvent) (p : Piece) : Piece :=
  let time := (latestEvent used).time
  let now := used.filter (·.cycle == cycle)
  let o : OutEvent := { cell := n, time := time, cycle := cycle, used := used,
                        completing := latestEvent (if now.isEmpty then used else now) }
  let same (x : OutEvent) : Bool := x.cell == n && x.time == time
  onTrigger (fun t =>
    if t.fresh.any same then
      { t with fresh := t.fresh.map fun x =>
        if same x then { x with used := x.used ++ used, completing := latestEvent [x.completing, o.completing] } else x }
    else { t with fresh := t.fresh ++ [o] }) p

/-- An output event enters the queue; it is lost to one of its cell that is still held (R186). An event of an earlier cycle whose cell
has no route is past its issue and not held (R185). -/
def holdOutput (p : Piece) (o : OutEvent) : Piece :=
  let gone (x : OutEvent) : Bool := x.cell == o.cell && x.cycle != o.cycle && !(p.cell x.cell).routes.some
  let held (x : OutEvent) : Bool := x.cell == o.cell && !x.direct && !gone x
  if p.trigger.queue.any held && !o.direct then onCell o.cell (fun c => { c with dropped := sat32 c.dropped 1 }) p
  else onTrigger (fun t => { t with queue := (t.queue.filter fun x => !gone x) ++ [o] }) p

/-- The outputs of one cycle in order of time: where nothing is queued the earliest issue at once, and the later ones are held
(R186). -/
def holdOutputs (p : Piece) : Piece :=
  let os := sortBy (fun (x y : OutEvent) => decide (x.time < y.time)) p.trigger.fresh
  let first := (os.head?).map (·.time)
  let free := p.trigger.queue.isEmpty
  (os.map fun o => { o with direct := free && first == some o.time }).foldl holdOutput (onTrigger (fun t => { t with fresh := [] }) p)

/-- Discards retained events that lie too far before the newest (R184). -/
def ageRetained (c : Combine) (r : List CondEvent) : List CondEvent :=
  let newest := (latestEvent r).time
  r.filter fun e =>
    if c.mode == 2 then withinPs (newest - e.time) c.window
    else c.timeout == 0 || withinPs (newest - e.time) c.timeout

/-- A combination stage takes the condition events of one tally-island cycle (R183, R184). Those of its own cell, and those issued
before its cell was disabled, complete; a disabled cell retains nothing (R168, R468). -/
def combineCell (cycle : Nat) (batch : List CondEvent) (n : Nat) (p : Piece) : Piece :=
  let cell := p.cell n
  let c := cell.combine
  let open_ := cell.setting.en || decide (cycle ≤ cell.since)
  if c.mode != 0 && !open_ then p
  else if c.mode == 0 then
    (batch.filter (·.cell == n)).foldl (fun p e => pushOutput n cycle [e] p) p
  else if c.mode == 1 then
    (sortBy (fun (x y : CondEvent) => decide (x.time < y.time)) (batch.filter fun e => bitAt c.mask e.cell)).foldl
      (fun p e => pushOutput n cycle [e] p) p
  else
    let mask := if c.mode == 2 then c.mask else c.aMask ||| c.bMask
    let named := batch.filter fun e => bitAt mask e.cell
    if named.isEmpty then p
    else
      let r := named.foldl (fun r e => keepFour CondEvent.cell CondEvent.time e r) cell.retained
      match (if c.mode == 2 then andWin c r else seqPair c r) with
      | some used =>
        pushOutput n cycle used
          (onCell n (fun x => { x with retained :=
            if x.setting.en then ageRetained c (r.filter fun e => !used.contains e) else [] }) p)
      | none => onCell n (fun x => { x with retained := if x.setting.en then ageRetained c r else [] }) p

/-- MATRIX_EVENT_ARRIVE: the oldest condition event on its way, with those of its tally-island cycle, reaches the matrix
(R185). -/
def execMatrixEventArrive : State → Out := inIsland 0x20 fun p =>
  match p.trigger.matrix with
  | e :: _ =>
    let batch := p.trigger.matrix.filter (·.cycle == e.cycle)
    holdOutputs ((List.range 16).foldl (fun p n => combineCell e.cycle batch n p)
      (onTrigger (fun t => { t with matrix := t.matrix.filter (·.cycle != e.cycle) }) p))
  | [] => p

/-! ### Trigger events (R186 to R193) -/

/-- The queued output events that form the next trigger event: those of the earliest cycle and, in it, of the earliest time
(R186). -/
def nextGroup (q : List OutEvent) : List OutEvent :=
  match q with
  | [] => []
  | o :: os =>
    let first := os.foldl (fun b x =>
      if x.cycle < b.cycle || (x.cycle == b.cycle && decide (x.time < b.time)) then x else b) o
    sortBy (fun (x y : OutEvent) => decide (x.cell < y.cell)) (q.filter fun x => x.cycle == first.cycle && x.time == first.time)

/-- What a trigger event is made of. -/
structure TriggerEvent where
  seq : Nat
  mask : Nat
  time : T16
  label : Nat
  completing : CondEvent
  lowest : Nat
  netOrigin : Bool
  late : Bool
  forced : Bool
  tainted : Bool
  post : Bool
  coast : Bool

/-- The trigger event of a group of output events (R187, R188). -/
def triggerEventOf (p : Piece) (g : List OutEvent) : TriggerEvent :=
  let used := g.flatMap (·.used)
  let o := g.headD {}
  let label := (used.find? fun e => e.time == o.time && e.label.isSome).bind (·.label)
  { seq := p.trigger.eventSeq, mask := maskOf 16 fun n => g.any (·.cell == n), time := o.time
    label := label.getD (labelAt p o.time), completing := o.completing, lowest := o.cell, netOrigin := used.all (·.net)
    late := used.any (·.late), forced := used.any (·.forced), tainted := used.any (·.tainted)
    post := postJumpDue p p.trigger.postJump o.time || used.any (·.post), coast := coasting p }

/-- The record of 32 bytes (R188). -/
def TriggerEvent.bytes (node : Nat) (e : TriggerEvent) : Bytes :=
  let flags := flag e.netOrigin 6 + flag e.late 5 + flag e.forced 4 + flag e.tainted 3 + flag e.post 2 + flag e.coast 1
  leBytes 4 e.seq ++ leBytes 2 e.mask ++ leBytes 1 (e.completing.source * 16 + e.lowest) ++ leBytes 1 flags ++
    leBytes 8 (T16.tick e.time).toNat ++ labelBytes e.label ++ leBytes 2 (if e.netOrigin then e.completing.node else node) ++
    leBytes 4 e.completing.detail

/-- The event goes to acquisition a with the settings of the lowest-numbered cell that routes to it (R189). -/
def sendToAcq (e : TriggerEvent) (a : Nat) (p : Piece) : Piece :=
  match (maskIndices 16 e.mask).find? fun n => bitAt (p.cell n).routes.acqMask a with
  | some n =>
    let (off, tag) := nth (p.cell n).routes.acq a
    let x : AcqTrigger := { time := e.time, seq := e.seq, tag := tag, tpOffset := off, tainted := e.tainted }
    { p with acq := { p.acq with acqs := upd p.acq.acqs a fun q => { q with triggers := q.triggers ++ [x] } } }
  | none => p

/-- The edge of the present tally-island cycle in units of 1/8,192,000 tick. -/
def cycleEdge (p : Piece) : Int := (2 * tallyCycle p.now * 8192000 : Nat)

/-- A grant of the stamp fabric in the present tally-island cycle moves a source's permit time: 781.25 ps back, 1.6 ns on
(R242). -/
def grantPermit (source : Nat) (p : Piece) : Piece :=
  let next (t : Int) : Int := max t (cycleEdge p - 2 * 8192000) + 2 ^ 25
  { p with fabric := { p.fabric with permits := upd p.fabric.permits source next } }

/-- A source is eligible in the present tally-island cycle (R242). -/
def eligible (p : Piece) (source : Nat) : Bool := decide (nth p.fabric.permits source ≤ cycleEdge p)

/-- The source-22 marker of a trigger event, or its loss where source 22 is not eligible (R192). -/
def markEvent (e : TriggerEvent) (p : Piece) : Piece :=
  if eligible p 22 then
    let s : Stamp := { source := 22, time := e.time, seq := e.seq, rising := true, tag := e.lowest
                       flags := flag e.coast 0 + flag e.post 1 + flag p.trigger.crowdDue 3 }
    onTrigger (fun t => { t with crowdDue := false })
      (onAux 22 (fun a => { a with waiting := a.waiting ++ [{ stamp := s, entered := p.now }] }) (grantPermit 22 p))
  else onTrigger (fun t => { t with marksCrowded := sat32 t.marksCrowded 1, crowdDue := true }) p

/-- The event goes to the event ring (R193). -/
def ringEvent (e : TriggerEvent) (p : Piece) : Piece :=
  { p with transport := { p.transport with raised := p.transport.raised ++
      [{ kind := 0x02, mint := (T16.tick e.time).toNat, label := e.label, panelType := 0x07, inst := 0
         body := e.bytes p.net.nodeId }] } }

/-- A trigger event goes to the union of its cells' routes (R189 to R193). -/
def routeEvent (e : TriggerEvent) (p : Piece) : Piece :=
  let cells := maskIndices 16 e.mask
  let has (f : Routes → Bool) : Bool := cells.any fun n => f (p.cell n).routes
  let p' := (List.range 4).foldl (fun q k => when (has fun r => bitAt r.out k) (reachOut k) q) p
  let p' := (List.range 16).foldl (fun q a => sendToAcq e a q) p'
  let p' := match cells.find? fun n => (p.cell n).routes.net with
    | some n => when (!e.netOrigin) (originateXtrig (p.cell n).routes.netCode e.label) p'
    | none => p'
  when (has (·.ring)) (ringEvent e) (when (has (·.mark)) (markEvent e) p')

/-- The output events in the queue whose cell has a route (R185). -/
def routedQueue (p : Piece) : List OutEvent := p.trigger.queue.filter fun o => (p.cell o.cell).routes.some

/-- TRIGGER_EVENT_ISSUE: at most one trigger event per tally-island cycle leaves the queue; an output event whose cell has no route
issues none (R185 to R187). -/
def execTriggerEventIssue : State → Out := inIsland 0x20 fun p =>
  let p := when (p.trigger.issuedAt != some (tallyCycle p.now)) (fun p => onTrigger (fun t => { t with queue := routedQueue p }) p) p
  let g := nextGroup p.trigger.queue
  if g.isEmpty || p.trigger.issuedAt == some (tallyCycle p.now) then p
  else
    let e := triggerEventOf p g
    routeEvent e (onTrigger (fun t =>
      { t with queue := t.queue.filter (fun o => !g.contains o), issuedAt := some (tallyCycle p.now)
               eventSeq := wrap32 t.eventSeq 1
               postJump := t.postJump && !postJumpDue p t.postJump e.time }) p)

/-! ### TRIG_OUT (R190) -/

/-- A pulse starts at a tick. -/
def startPulse (at_ : Nat) (o : TrigOut) : TrigOut :=
  { o with pulse := some (o.polarity, at_ + o.width), quiet := none, startDue := false }

/-- TRIG_OUT_PULSE_START: an event reaches the output register: a pulse starts, waits for the inactive cycles to end, or is
merged (R31, R190, R196). -/
def execTrigOutPulseStart (output : Fin 4) : State → Out := effect fun p =>
  let p := settleExpress output p
  let o := nth p.trigger.outs output
  if o.arrivals == 0 then p
  else
    onOut output (fun o =>
      let o := { o with arrivals := o.arrivals - 1 }
      if o.pulse.isSome || o.startDue then { o with merged := sat32 o.merged 1 }
      else if o.quiet.isSome then { o with startDue := true }
      else startPulse p.now o) p

/-- TRIG_OUT_PULSE_END: PULSE_WIDTH is over; the output goes to its inactive level for at least 4 cycles (R190). -/
def execTrigOutPulseEnd (output : Fin 4) : State → Out := effect fun p =>
  onOut output (fun o =>
    match o.pulse with
    | some (_, stop) =>
      if stop ≤ p.now then { o with pulse := none, quiet := some (stop + 4), idleHigh := o.polarity } else o
    | none => o) p

/-- TRIG_OUT_INACTIVE_END: the inactive cycles are over; a start that waits begins its pulse (R190). -/
def execTrigOutInactiveEnd (output : Fin 4) : State → Out := effect fun p =>
  onOut output (fun o =>
    match o.quiet with
    | some t => if t ≤ p.now then (if o.startDue then startPulse t o else { o with quiet := none }) else o
    | none => o) p

/-- TRIG_OUTk is active: a pulse is in progress, and the safe state does not hold the output inactive (R190, R592). -/
def outActive (p : Piece) (k : Nat) : Bool := (nth p.trigger.outs k).pulse.isSome && !p.safety.safeState

/-- The level of a TRIG_OUT ball: the pulse's active level, else the inactive level (R190, R592). -/
def trigOutLevel (p : Piece) (k : Nat) : Bool :=
  let o := nth p.trigger.outs k
  match o.pulse with
  | some (inverted, _) => if p.safety.safeState then inverted else !inverted
  | none => o.idleHigh

/-! ### Commands -/

/-- The settings in a body (R468). -/
def cellSettingOf (b : Bytes) : CellSetting :=
  let fl := u b 2 1
  { en := bitAt fl 7, express := bitAt fl 6, useTainted := bitAt fl 5, source := u b 1 1 % 16, params := slice b 8 40 }

/-- The zero rules of a source (R171, R176, R178). -/
def cellZero (s : CellSetting) : Bool :=
  match s.source with
  | 3 => s.par 20 4 == 0 || (decide (2 ≤ s.par 12 1) && s.par 24 4 == 0)
  | 5 => s.par 10 2 == 0 || s.par 12 2 == 0
  | 6 => s.par 8 4 == 0 || s.par 13 1 == 0 || s.par 16 4 == 0
  | _ => false

/-- The bytes of the parameter area from an offset of the body to its end are zero. -/
def CellSetting.restZero (s : CellSetting) (off : Nat) : Bool := isZero (s.params.drop (off - 8))

/-- The fields of an RF source lie in their ranges, and those it does not use are zero (R170, R171, R468). -/
def rfOk (s : CellSetting) : Bool :=
  let raw := s.par 9 1 == 8
  let inRaw (x : Int) : Bool := !raw || (decide (-2048 ≤ x) && decide (x ≤ 2047))
  let width := s.source == 3
  decide (s.par 8 1 ≤ 3) && decide (s.par 9 1 ≤ 8) && (raw || decide (s.par 10 1 ≤ 2)) &&
  decide (s.par 11 1 ≤ if s.source == 2 then 2 else 1) && s.par 13 1 == 0 && inRaw (s.level 14) &&
  (if s.source == 4 then inRaw (s.level 16) && decide (s.level 14 ≤ s.level 16) else s.par 16 2 == 0) &&
  (if s.source == 2 then decide (s.par 18 2 ≤ 32767) else s.par 18 2 == 0) &&
  (if width then decide (s.par 12 1 ≤ 3) && decide (s.par 20 4 ≤ 2 ^ 24) && decide (s.par 24 4 ≤ 2 ^ 24) &&
      (if s.par 12 1 ≤ 1 then s.par 24 4 == 0 else decide (s.par 20 4 ≤ s.par 24 4))
    else s.par 12 1 == 0 && s.par 20 4 == 0 && s.par 24 4 == 0) && s.restZero 28

/-- The parameter area is one that its source allows (R167, R468). -/
def cellParamsOk (s : CellSetting) : Bool :=
  match s.source with
  | 0 => s.restZero 8
  | 1 | 2 | 3 | 4 => rfOk s
  | 5 => decide (s.par 8 1 ≤ 3) && decide (s.par 9 1 ≤ 2) && s.restZero 14
  | 6 => decide (s.par 8 4 < 2 ^ 20) && decide (s.par 12 1 ≤ 2) && decide (s.par 13 1 ≤ popcount 20 (s.par 8 4)) &&
      s.par 14 2 == 0 && decide (s.par 16 4 ≤ 1000000) && s.restZero 20
  | 7 => decide (s.par 8 1 ≤ 3) && decide (s.par 9 1 ≤ 2) && s.restZero 10
  | 8 => s.restZero 10
  | 9 => s.par 18 2 == 0 && (s.periodLabel == 0 || decide (100 * 2 ^ 48 ≤ s.periodLabel * 10 ^ 9)) && s.restZero 30
  | _ => false

/-- The stamp island whose express unit a setting would hold; none where its sources do not lie in one island (R194). -/
def expressIsland (s : CellSetting) : Option Nat :=
  if s.source == 7 then some (s.par 8 1)
  else (List.range 4).find? fun k => decide (s.par 8 4 / 2 ^ (4 * k + 4) = 0) && s.par 8 4 % 2 ^ (4 * k) == 0

/-- EXP_WIN or an alignment delay of an express cell is out of range (R195). -/
def expressTooWide (p : Piece) (s : CellSetting) : Bool :=
  s.source == 6 && (decide (17 < expressWindow s) ||
    match expressIsland s with
    | some k => (expressInputs s).any fun n => decide (15 < alignment p k (expressInputs s) n)
    | none => false)

/-- A cell holds the express unit of an island, or is to hold it once its settings take effect (R194). -/
def holdsExpress (p : Piece) (k n : Nat) : Bool :=
  (nth p.trigger.express k).cell == some n || (p.cell n).next.any fun x => x.1.express && expressIsland x.1 == some k

/-- The express unit is not to be had for a cell (R194). -/
def expressRefused (p : Piece) (n : Nat) (s : CellSetting) : Bool :=
  match expressIsland s with
  | some k => (List.range 16).any fun m => m != n && holdsExpress p k m
  | none => true

/-- The stream at whose block boundary a setting takes effect; none: it takes effect at once (R168). -/
def boundaryStream (c : Cell) (s : CellSetting) : Option (Nat × Nat) :=
  let stream (x : CellSetting) : Option (Nat × Nat) := if x.rf then some (x.par 8 1, x.par 9 1) else none
  if s.en && s.rf then stream s
  else if c.setting.en && c.setting.rf then stream c.setting
  else (c.next.getLast?).bind fun x => stream x.1

/-- A setting of a cell takes effect at a tick and clears its source state (R168, R194, R468). -/
def applyCell (n : Nat) (s : CellSetting) (at_ : Nat) (p : Piece) : Piece :=
  let p := (List.range 4).foldl (fun p k => settleExpress k p) p
  let p := onCell n (fun c => lookAtTarget p
    { c with setting := s, since := tallyCycle at_, detector := {}, run := 0, runTainted := false, issued := false, stamps := []
             retained := [], target := if s.en && s.source == 9 then some s.target else none, stepped := false }) p
  let p := onTrigger (fun t =>
    { t with express := (t.express.map fun x => if x.cell == some n then {} else x) }) p
  let p := if s.express then
      match expressIsland s with
      | some k => onTrigger (fun t => { t with express := put t.express k { cell := some n } }) p
      | none => p
    else p
  p

/-- The tick at which the first setting that a cell holds back is due: the block in the making of its stream begins late enough, or
the stream does not run (R168; log entry 32). -/
def cellDue (p : Piece) (n : Nat) : Option (CellSetting × Nat) :=
  let c := p.cell n
  match c.next with
  | (s, from_) :: _ =>
    match (boundaryStream { c with next := [] } s).bind fun x => streamStart p x.1 x.2 with
    | some t => if T16.ofTick from_ ≤ t && t ≤ T16.ofTick p.now then some (s, (T16.tick t).toNat) else none
    | none => some (s, p.now)
  | [] => none

/-- The settings of a cell that are due take effect in the order of their commands, at most k of them; each command completes. -/
def applyCellNext (n : Nat) : Nat → Piece → Piece
  | 0, p => p
  | k + 1, p =>
    match cellDue p n with
    | some (s, t) =>
      applyCellNext n k (finishWaiting .trigSetting n stOk (fun _ => [low32 t, high32 t])
        (applyCell n s t (onCell n (fun c => { c with next := c.next.drop 1 }) p)))
    | none => p

/-- The settings of a cell that are due take effect. -/
def applyCellDue (n : Nat) (p : Piece) : Piece := applyCellNext n (p.cell n).next.length p

/-- The settings due at the boundaries of a stream take effect before its block is evaluated. -/
def applyCellsDue (p : Piece) : Piece := (List.range 16).foldl (fun p n => applyCellDue n p) p

/-- TRIG_SETTING_APPLY: the setting that an RF cell holds back takes effect at its stream's block boundary (R168). -/
def execTrigSettingApply (cell : Fin 16) : State → Out := inIsland 0x20 (applyCellDue cell)

/-- TRIG_CELL_SET (R166 to R168, R170, R171, R176, R178, R181, R194, R195, R468). -/
def actTrigCell : Act := simple fun f p =>
  let b := f.body
  let n := u b 0 1
  let s := cellSettingOf b
  let c := p.cell n
  guarded
    [ (cellZero s, stZero),
      (decide (15 < n) || decide (15 < u b 1 1) || u b 2 1 % 32 != 0 || !isZero (slice b 3 5) || !cellParamsOk s ||
        (s.express && (c.combine.mode != 0 || (s.source != 6 && s.source != 7) || expressTooWide p s)), stRange),
      (s.rf && !bitAt (routeBits p (s.par 8 1) (s.par 9 1)) 2, stState),
      (s.express && expressRefused p n s, stNoResource) ] p
    (match boundaryStream c s with
     | some (i, st) =>
       if (streamStart p i st).isNone && c.next.isEmpty then (applyCell n s p.now p, doneWith stOk p.now)
       else (onCell n (fun c => { c with next := c.next ++ [(s, p.now + 32)] }) p, .wait .trigSetting n [])
     | none => (applyCell n s p.now p, doneWith stOk p.now))

def execTrigCellSet (c : Cmd) : State → Out := effect (runCommand 0x0501 c actTrigCell)

/-- The armed bank of a mask channel becomes active (R175). -/
def swapMask (ch : Nat) (p : Piece) : Piece :=
  onTrigger (fun t => { t with masks := upd t.masks ch fun m =>
    if m.armed then { m with active := 1 - m.active, armed := false, version := (m.version + 1) % 256 } else m }) p

/-- MASK_SWAP: the next frame of the channel starts comparison (R175). -/
def execMaskSwap (channel : Fin 4) : State → Out := inIsland 0x20 (swapMask channel)

/-- The limits of a bin: lower, upper (R174). -/
def MaskChannel.limits (m : MaskChannel) (bin : Nat) : Int × Int :=
  (((nth m.banks m.active).find? fun e => e.1 == bin).map (·.2)).getD (-32768, 32767)

/-- TRIG_MASK_LOAD (R175, R469). -/
def actMaskLoad : Act := fun f host p =>
  let b := f.body
  let ch := u b 0 1
  let first := u b 4 4
  let n := u b 8 4
  guarded
    [ (n == 0, stZero),
      (decide (3 < ch) || !isZero (slice b 1 3) || u b 12 4 != 0 || decide (65536 < first + n) ||
        !tableAddrOk p.dmc (u b 16 8) (4 * n), stRange),
      ((nth p.trigger.masks ch).armed, stBusy) ] p
    (withTable p (u b 16 8) (4 * n) host fun t =>
      let es : List (Nat × Int × Int) := (List.range n).map fun i => (first + i, sgn t (4 * i) 2, sgn t (4 * i + 2) 2)
      if es.any (fun e => decide (e.2.2 < e.2.1)) then (p, .done stRange [])
      else
        let p := onTrigger (fun t => { t with masks := upd t.masks ch fun m =>
          { m with armed := true
                   banks := put m.banks (1 - m.active) (es ++ ((nth m.banks m.active).filter fun e =>
                     decide (e.1 < first) || decide (first + n ≤ e.1))) } }) p
        let version := ((nth p.trigger.masks ch).version + 1) % 256
        (when ((nth p.xform ch).setting.maskSrc == 0) (swapMask ch) p, .done stOk [version]))

def execTrigMaskLoad (c : Cmd) : State → Out := effect (runCommand 0x0502 c actMaskLoad)

/-- The settings in a body (R470). -/
def combineOf (b : Bytes) : Combine :=
  { mode := u b 1 1 % 4, mask := u b 2 2, aMask := u b 4 2, bMask := u b 6 2, window := u b 8 8, holdoff := u b 16 8,
    timeout := u b 24 8 }

/-- TRIG_COMBINE_SET (R183, R194, R470). -/
def actTrigCombine : Act := simple fun f p =>
  let b := f.body
  let n := u b 0 1
  let c := combineOf b
  let any := c.mode == 1 || c.mode == 2
  guarded
    [ ((any && c.mask == 0) || (c.mode == 2 && c.window == 0) || (c.mode == 3 && (c.aMask == 0 || c.bMask == 0)), stZero),
      (decide (15 < n) || decide (3 < u b 1 1) || decide (10 ^ 10 < c.window) || decide (10 ^ 10 < c.holdoff) ||
        decide (10 ^ 10 < c.timeout) || (!any && c.mask != 0) || (c.mode != 2 && c.window != 0) ||
        (c.mode != 3 && (c.aMask != 0 || c.bMask != 0 || c.holdoff != 0 || c.timeout != 0)) ||
        (c.mode != 0 && (List.range 4).any fun k => holdsExpress p k n), stRange) ] p
    (onCell n (fun x => { x with combine := c, retained := [] }) p, .done stOk [])

def execTrigCombineSet (c : Cmd) : State → Out := effect (runCommand 0x0503 c actTrigCombine)

/-- The routes in a body (R471). -/
def routesOf (b : Bytes) : Routes :=
  let r := u b 2 1
  { out := r / 16, net := bitAt r 3, mark := bitAt r 2, ring := bitAt r 1, netCode := u b 3 1, acqMask := u b 4 2,
    acq := (List.range 16).map fun a => (sgn b (8 + 4 * a) 2, u b (10 + 4 * a) 2) }

/-- New settings of a TRIG_OUT arrive; an inactive output moves to its new inactive level (R190). -/
def setOut (w : Nat) (o : TrigOut) : TrigOut :=
  { o with polarity := bitAt w 30, width := w % 65536, idleHigh := if o.pulse.isSome then o.idleHigh else bitAt w 30 }

/-- TRIG_ROUTE_SET (R189, R190, R471). -/
def actTrigRoute : Act := simple fun f p =>
  let b := f.body
  let n := u b 0 1
  let apply := bitAt (u b 1 1) 0
  let out (k : Nat) : Nat := u b (72 + 4 * k) 4
  let outs := (List.range 4).filter fun k => bitAt (out k) 31
  guarded
    [ ((!apply && outs.isEmpty) || outs.any (fun k => out k % 65536 == 0), stZero),
      (decide (15 < n) || decide (1 < u b 1 1) || (apply && (bitAt (u b 2 1) 0 || u b 6 2 != 0)) ||
        outs.any (fun k => field (out k) 16 14 != 0 || decide (out k % 65536 < 24)), stRange) ] p
    (let p := when apply (onCell n fun c => { c with routes := routesOf b }) p
     (outs.foldl (fun p k => onOut k (setOut (out k)) p) p, .done stOk []))

def execTrigRouteSet (c : Cmd) : State → Out := effect (runCommand 0x0504 c actTrigRoute)

/-- TRIG_FORCE (R182, R472). -/
def actTrigForce : Act := simple fun f p =>
  let m := u f.body 0 2
  guarded [ (m == 0, stZero), (!isZero (slice f.body 2 6), stRange) ] p
    ((maskIndices 16 m).foldl (fun p n =>
      let s := (p.cell n).setting
      when s.en (issueCond { cell := n, source := s.source, time := T16.ofTick p.now, cycle := tallyCycle p.now
                             forced := true, detail := f.tag }) p) p, doneWith stOk p.now)

def execTrigForce (c : Cmd) : State → Out := effect (runCommand 0x0505 c actTrigForce)

/-! ### Registers (R197) -/

/-- TRIGGER_STATUS. -/
def triggerStatus (p : Piece) : Nat :=
  let t := p.trigger
  (maskOf 16 fun n => (p.cell n).setting.en) * 65536 + (maskOf 4 fun k => (nth t.express k).cell.isSome) * 4096 +
    maskOf 4 (outActive p) * 256 + (maskOf 4 fun k => (nth t.masks k).armed) * 16 +
    maskOf 4 fun k => (nth t.masks k).active == 1

/-- TRIGGER_MASK_VERSION. -/
def maskVersions (p : Piece) : Nat := ((List.range 4).map fun k => (nth p.trigger.masks k).version % 256 * 256 ^ k).sum

/-- TRIGGER_CELLn_CFG. -/
def cellConfig (c : Cell) : Nat :=
  flag c.setting.en 31 + flag c.setting.express 30 + flag c.setting.useTainted 29 + c.setting.source % 16 * 2 ^ 24 +
    c.combine.mode % 4 * 2 ^ 20 + c.routes.out % 16 * 2 ^ 16 + flag c.routes.net 15 + flag c.routes.mark 14 +
    flag c.routes.ring 13

/-- TRIGGER_OUTk_CFG. -/
def outConfig (p : Piece) (k : Nat) : Nat :=
  let o := nth p.trigger.outs k
  let active := match (nth p.trigger.express k).cell with
    | some n => (p.cell n).setting.en
    | none => false
  flag o.polarity 30 + flag active 29 + o.width % 65536

end Sys2Proof.Machine
end

