-- ==== Sys2Proof/Machine/StampFam.lean ====
section
/-! DEFINITION. STAMP: inputs and their settings, capture, dead time, burst FIFOs, the spare interpolator and its rotation,
faults of interpolators and comparators (09 R227 to R248, 12 R322 to R324); STAMP_INPUT_SET (19 R477) and STAMP_RAW_STREAM
(19 R478). -/

namespace Sys2Proof.Machine

/-! ### Settings (R228 to R230) -/

/-- New settings of sources 0 to 15 take effect at a tick: an enable starts SEQ at 0; an enable and a change of THRESHOLD
blank the input; an enable and a change of PRESCALE clear the prescaler; any change begins a calibration epoch (R229, R230,
R234, R250, R251). -/
def setInput (new : StampSetting) (at_ : Nat) (i : StampInput) : StampInput :=
  let old := i.setting
  let enable := !old.en && new.en
  let changed := decide (new.threshold ≠ old.threshold) || new.slope != old.slope || decide (new.prescale ≠ old.prescale) ||
    decide (new.cableDelay ≠ old.cableDelay)
  { i with setting := new, pending := i.pending.drop 1
           seq := if enable then 0 else i.seq
           fifoHigh := if enable then i.fifo.length else i.fifoHigh
           prescaled := if enable || decide (new.prescale ≠ old.prescale) then 0 else i.prescaled
           blankUntil := if enable || decide (new.threshold ≠ old.threshold) then some (at_ + 2560) else i.blankUntil
           calDue := i.calDue || changed }

/-- The same for sources 20 and 21; a change of PRESCALE begins a calibration epoch (R250, R252). -/
def setAux (new : StampSetting) (a : AuxSource) : AuxSource :=
  let enable := !a.en && new.en
  { a with en := new.en, prescale := new.prescale, pending := a.pending.drop 1
           calDue := a.calDue || decide (new.prescale ≠ a.prescale)
           seq := if enable then 0 else a.seq
           prescaled := if enable || decide (new.prescale ≠ a.prescale) then 0 else a.prescaled }

/-- The pending settings of a source with their ticks, oldest first. -/
def pendingSettings (p : Piece) (source : Nat) : List (StampSetting × Nat) :=
  if source < 16 then (p.input source).pending else (nth p.fabric.aux (source - 16)).pending

/-- The settings of a source. -/
def settingOf (p : Piece) (source : Nat) : StampSetting :=
  if source < 16 then (p.input source).setting
  else { en := (nth p.fabric.aux (source - 16)).en, prescale := (nth p.fabric.aux (source - 16)).prescale }

/-- Settings of a source take effect: slots that measure it see the change or the loss (R279, R280), and the command completes
with the tick and the first SEQ (R477). An input without its own interpolator is covered again as it is enabled (R248). -/
def takeSetting (source : Nat) (new : StampSetting) (at_ : Nat) (p : Piece) : Piece :=
  let old := settingOf p source
  let p := if source < 16 then onInput source (setInput new at_) p else onAux source (setAux new) p
  let p := when (old != new) (markSource source 5) p
  let p := when (old.en && !new.en) (loseSource source 6) p
  let p := when (decide (source < 16) && new.en) (coverAgain (source / 4)) p
  let seq := if source < 16 then (p.input source).seq else (nth p.fabric.aux (source - 16)).seq
  finishWaiting .stampSetting source stOk (fun _ => [low32 at_, high32 at_, seq]) p

/-- The pending settings of a source take effect once their ticks have come, in order (R25, R229). -/
def applySetting (source : Nat) (p : Piece) : Piece :=
  (pendingSettings p source).foldl (fun p x => when (decide (x.2 ≤ p.now)) (takeSetting source x.1 x.2) p) p

/-- STAMP_SETTINGS_APPLY (R229). -/
def execStampSettingsApply (source : Fin 24) : State → Out := effect (applySetting source)

/-- THRESHOLD_BLANK_END: 1 µs after the change the input detects edges again (R230). -/
def execThresholdBlankEnd (source : Fin 16) : State → Out := effect fun p =>
  match (p.input source).blankUntil with
  | some t => when (decide (t ≤ p.now)) (onInput source fun i => { i with blankUntil := none }) p
  | none => p

/-- The settings in a STAMP_INPUT_SET body; sources 20 and 21 ignore what R252 names. -/
def stampSettingOf (source : Nat) (b : Bytes) : StampSetting :=
  let en := bitAt (u b 1 1) 7
  if source < 16 then
    { en := en, threshold := u b 4 2, prescale := u b 2 1, cableDelay := sgn b 8 4
      slope := match u b 1 1 % 4 with
        | 0 => .rising
        | 1 => .falling
        | _ => .both }
  else { en := en, prescale := if source == 20 then u b 2 1 else 0 }

/-- The settings an input has once those that wait have taken effect. -/
def commandedSetting (i : StampInput) : StampSetting := ((i.pending.getLast?).map (·.1)).getD i.setting

/-- An alignment delay of an express cell would leave its range under new settings of an input, with the other inputs at their
commanded settings (R195, R228). -/
def breaksExpress (p : Piece) (source : Nat) (new : StampSetting) : Bool :=
  match (nth p.trigger.express (source / 4)).cell with
  | some m =>
    let q := onMotif (source / 4) (fun m => { m with inputs := m.inputs.map fun i => { i with setting := commandedSetting i } }) p
    expressTooWide (onInput source (fun i => { i with setting := new }) q) (p.cell m).setting
  | none => false

/-- STAMP_INPUT_SET (R228, R229, R477): armed for the first stamp-island cycle at least 16 cycles on. -/
def actStampInput : Act := simple fun f p =>
  let b := f.body
  let n := u b 0 1
  let own := decide (n < 16)
  let en := bitAt (u b 1 1) 7
  let s := stampSettingOf n b
  guarded
    [ (!own && n != 20 && n != 21, stRange),
      (field (u b 1 1) 2 5 != 0 || u b 3 1 != 0 || u b 6 2 != 0 || u b 12 4 != 0 || decide (16 < s.prescale), stRange),
      (own && (u b 1 1 % 4 == 3 || decide (4095 < s.threshold) || breaksExpress p n s), stRange),
      (own && en && (p.input n).faultActive, stState),
      (en && calibrating p, stBusy) ] p
    (let at_ := p.now + 16
     (if own then onInput n (fun i => { i with pending := i.pending ++ [(s, at_)] }) p
      else onAux n (fun a => { a with pending := a.pending ++ [(s, at_)] }) p, .wait .stampSetting n []))

def execStampInputSet (c : Cmd) : State → Out := effect (runCommand 0x0701 c actStampInput)

/-- STAMP_RAW_STREAM (R253, R478): the mask and the channel apply from the first tally-island cycle at least 16 cycles on. -/
def actRawStream : Act := simple fun f p =>
  let b := f.body
  let mask := u b 0 4
  let ch := u b 4 1
  let at_ := (p.now + 33) / 2 * 2
  guarded
    [ (decide (2 ^ 24 ≤ mask) || decide (63 < ch) || u b 5 3 != 0, stRange),
      ((nth p.stream.channels ch).state == .closed, stState) ] p
    ({ p with fabric := { p.fabric with rawNext := some (mask, ch, at_) } }, doneWith stOk at_)

def execStampRawStream (c : Cmd) : State → Out := effect (runCommand 0x0702 c actRawStream)

/-! ### Capture (R233 to R243) -/

/-- Slope selection (R233). -/
def Slope.passes : Slope → Bool → Bool
  | .rising, r => r
  | .falling, r => !r
  | .both, _ => true

/-- The selected comparator detects edges (R232). -/
def detects (i : StampInput) : Bool := !bitAt (i.compRetired ||| i.compHeld) i.compSel

/-- The interpolator that measures an input: its number, the epoch of its table and its override table (R236, R245). -/
def measuring (m : Motif) (n : Nat) : Nat × Nat × Option (List Nat) :=
  let i := nth m.inputs n
  if i.spareActive then (4, m.spareEpoch, m.spareTable) else (n, i.interpEpoch, i.table)

/-- The tap positions in quarter taps with the quarter-tap offsets of the lines removed (R237). -/
def edgePositions (e : StampEdge) : List Int := [4 * e.tap0.val, 4 * e.tap1.val - 1, 4 * e.tap2.val - 2, 4 * e.tap3.val - 3]

/-- The positions spread over more than one tap (R237). -/
def edgeSpread (e : StampEdge) : Bool :=
  let s := sortBy (fun a b => decide (a < b)) (edgePositions e)
  decide (4 < nth s 3 - nth s 0)

/-- The fine code: the sum of the four tap positions, or where they spread the median of the four, the mean of the middle two (R236,
R237; log entry 13). -/
def edgeCode (e : StampEdge) : Nat :=
  let s := sortBy (fun a b => decide (a < b)) (edgePositions e)
  let c : Int := if (edgeSpread e) then (nth s 1 + nth s 2 + 3) / 2 else (e.tap0.val + e.tap1.val + e.tap2.val + e.tap3.val : Nat)
  (max 0 (min 255 c)).toNat

/-- SAT: the taps spread, or the DLL reports loss of lock (R237). -/
def edgeSat (e : StampEdge) : Bool := (edgeSpread e) || e.dllLost

/-- The fraction of a fine code in 2⁻¹⁶ tick (R236). -/
def fraction (p : Piece) (source : Nat) (edge : StampEdge) : Int :=
  let (interp, epoch, table) := measuring (p.motif (source / 4)) (source % 4)
  match table with
  | some l => (nth l (edgeCode edge) : Nat)
  | none => (Config.fineTable epoch (source / 4) interp (edgeCode edge) % 65536 : Nat)

/-- An edge falls into the dead time after the edge captured last (R239). -/
def inDeadTime (last : Option T16) (t : T16) (greyCaptured : Bool) : Bool :=
  match last with
  | some l =>
    let d := (t - l) * 390625
    decide (d < 790 * 65536000) || (decide (d < 810 * 65536000) && !greyCaptured)
  | none => false

/-- The time of a stamp from its time at the capture stage: path delay and CABLE_DELAY, halves up (R236; log entry 13). -/
def stampTime (p : Piece) (source : Nat) (raw : T16) : T16 := raw - roundDiv (inputDelay p source * 65536) 390625

/-- The depth of a burst FIFO (R241). -/
def fifoDepth : Nat := 8192

/-- A captured edge takes its SEQ; it enters the burst FIFO, or is discarded by a faulted interpolator (R247) or a full FIFO
(R243), its flags passing to the next record (R250). -/
def captureEdge (source : Nat) (raw : T16) (edge : StampEdge) (p : Piece) : Piece :=
  let i := p.input source
  let s : Stamp := { source := source, time := stampTime p source raw, seq := i.seq, rising := edge.rising
                     prescale := i.setting.prescale
                     flags := (flag i.spareActive 2 + flag i.crowdDue 3 + flag (edgeSat edge) 5 + flag i.calDue 6) ||| i.passed }
  let p := onInput source (fun i => { i with captured := wrap32 i.captured 1, seq := wrap32 i.seq 1, lastCapture := some raw }) p
  let p := onMotif (source / 4) (fun m =>
    if (m.role == .overlap || m.role == .handback) && m.spareInput == source % 4 then { m with roleEdges := m.roleEdges + 1 } else m) p
  let p := expressEdge (source / 4) (source % 4) edge.rising p
  onInput source (fun i =>
    let lost := { i with passed := s.flags, crowdDue := false, calDue := false }
    if (i.interpFaulted || i.interpRetired) && !i.spareActive then { lost with lostFault := sat32 i.lostFault 1 }
    else if fifoDepth ≤ i.fifo.length then { lost with overflow := sat32 i.overflow 1 }
    else { i with fifo := i.fifo ++ [{ stamp := s, entered := p.now }], fifoHigh := max i.fifoHigh (i.fifo.length + 1)
                  crowdDue := false, calDue := false, passed := 0 }) p

/-- An edge at the ball of an input: blank, slope, prescaler, then dead time or capture (R230, R232 to R240). -/
def inputEdge (source : Nat) (edge : StampEdge) (p : Piece) : Piece :=
  let i := p.input source
  let blank := match i.blankUntil with
    | some t => decide (p.now < t)
    | none => false
  if !i.setting.en || i.faultActive || blank || !detects i || !i.setting.slope.passes edge.rising then p
  else
    let passed := i.prescaled == 0
    let p := onInput source (fun i => { i with prescaled := (i.prescaled + 1) % 2 ^ i.setting.prescale }) p
    if !passed then p
    else
      let raw := T16.ofTick p.now + fraction p source edge
      if inDeadTime i.lastCapture raw edge.greyCaptured then
        onInput source (fun i => { i with lostDt := sat32 i.lostDt 1, crowdDue := true }) p
      else captureEdge source raw edge p

/-- A REFIN edge: the REF_COPY outputs see it; as source 20 it is stamped at the ball, rising edges only, prescaled, with no
label SPARE nor SAT (R22, R50, R252). -/
def refinEdge (edge : StampEdge) (p : Piece) : Piece :=
  let p := refinClock edge.rising p
  let a := nth p.fabric.aux 4
  if !a.en || !edge.rising then p
  else
    let p := onAux 20 (fun a => { a with prescaled := (a.prescaled + 1) % 2 ^ a.prescale }) p
    let t := T16.ofTick p.now + (Config.fineTable 0 4 0 (edgeCode edge) % 65536 : Nat) - Config.rootDelay 20
    when (a.prescaled == 0)
      (fun p => onAux 20 (fun a => { a with calDue := false }) (pushSource 20 t true (flag a.calDue 6) 0 p)) p

/-- STAMP_EDGE_CAPTURE: an edge at a ball of sources 0 to 15, or of REFIN, after settings that have fallen due (R229, R236,
R252). The other sources take no edges: their records come from CHAN, PPSIN, the matrix and the Net. -/
def execStampEdgeCapture (source : Fin 24) (edge : StampEdge) : State → Out := effect fun p =>
  let p := applySetting source p
  if source.val < 16 then inputEdge source edge p
  else if source.val == 20 then refinEdge edge p
  else p

/-- The wait limit at the head of a FIFO: 13.11 µs (R241). -/
def waitLimit : Nat := 33562

/-- Head records that have waited 13.11 µs are discarded and counted, and their flags pass to the next record (R241, R250). -/
def expireHeads (now : Nat) : Nat → StampInput → StampInput
  | 0, i => i
  | k + 1, i =>
    match i.fifo with
    | [] => i
    | h :: rest =>
      if now < h.entered + waitLimit then i
      else expireHeads now k (match rest with
        | n :: more =>
          { i with overflow := sat32 i.overflow 1
                   fifo := { n with stamp := { n.stamp with flags := n.stamp.flags ||| h.stamp.flags } } :: more }
        | [] => { i with overflow := sat32 i.overflow 1, fifo := [], passed := i.passed ||| h.stamp.flags })

/-- What has waited too long at the head of an input's FIFO leaves it. -/
def expireInput (source : Nat) (p : Piece) : Piece :=
  onInput source (fun i => expireHeads p.now i.fifo.length i) p

/-- STAMP_FIFO_WAIT_EXPIRY: the head record has waited 13.11 µs (R241, R250). -/
def execStampFifoWaitExpiry (source : Fin 16) : State → Out := effect (expireInput source)

/-! ### The spare and its rotation (R244 to R246, R322 to R324) -/

/-- Changes CALMGR. -/
def onCal (f : Cal → Cal) (p : Piece) : Piece := { p with cal := f p.cal }

/-- The first rotating input at or after a local index: enabled, without FAULT_ACTIVE (R244). -/
def nextVisit (m : Motif) (from_ : Nat) : Option Nat :=
  (List.range 4).find? fun n => decide (from_ ≤ n) && (nth m.inputs n).setting.en && !(nth m.inputs n).faultActive

/-- The spare takes up a role for an input. -/
def takeRole (k : Nat) (r : SpareRole) (n : Nat) (p : Piece) : Piece :=
  onMotif k (fun m => { m with role := r, spareInput := n, roleEdges := 0, roleBegan := p.now }) p

/-- A round begins with SELF_CAL of the spare (R322). -/
def startRound (k : Nat) (p : Piece) : Piece :=
  let p := onCal (fun c => { c with roundBegan := put c.roundBegan k (some p.now), roundLate := put c.roundLate k false }) p
  takeRole k .selfCal 0 (onMotif k (fun m => { m with inRound := true, rotationEn := true }) p)

/-- Rotation of a motif is enabled: the mode, INTERP_EN, no full calibration, a spare that is fit (R315, R322, R326). -/
def rotates (p : Piece) (k : Nat) : Bool :=
  p.cal.mode != .startup && bitAt p.cal.interpEn k && !p.cal.running && spareOk (p.motif k)

/-- INTERP_ROUND_START: a round starts every ROT_INTERVAL; while the round before runs it is delayed and counted (R322). -/
def execInterpRoundStart (motif : Fin 4) : State → Out := effect fun p =>
  let due := match nth p.cal.roundBegan motif with
    | some t => decide (t + p.cal.rotInterval * ticksPerUs ≤ p.now)
    | none => true
  let p := when (p.cal.mode != .startup && !p.cal.running) (coverAgain motif) p
  if !rotates p motif || !due then p
  else if (p.motif motif).inRound then
    when (!nth p.cal.roundLate motif) (onCal fun c =>
      { c with overrun := sat32 c.overrun 1, roundLate := put c.roundLate motif true }) p
  else when ((p.motif motif).role == .idle) (startRound motif) p

/-- The round goes on with the next input, or ends; a delayed round then starts (R322). -/
def visitFrom (k n : Nat) (p : Piece) : Piece :=
  match nextVisit (p.motif k) n with
  | some m => takeRole k .overlap m p
  | none =>
    let p := onCal (fun c => { c with rounds := sat32 c.rounds 1 })
      (onMotif k (fun m => { m with role := .idle, inRound := false }) p)
    when (nth p.cal.roundLate k && rotates p k) (startRound k) p

/-- After a role for an input: the spare covers another input whose interpolator has failed, or the round goes on, or the spare is
idle (R245, R247). -/
def afterVisit (k n : Nat) (p : Piece) : Piece :=
  let p := coverAgain k (onMotif k (fun m => { m with role := .idle }) p)
  when (p.motif k).inRound (visitFrom k (n + 1)) p

/-- The handover to or from the spare (R245); the refreshed interpolator brings new constants. -/
def handOver (k n : Nat) (toSpare : Bool) (p : Piece) : Piece :=
  onMotif k (fun m => { m with
    handoverCount := sat32 m.handoverCount 1
    inputs := upd m.inputs n fun i =>
      if toSpare then { i with spareActive := true }
      else { i with spareActive := false, epoch := i.epoch + 1, interpEpoch := i.interpEpoch + 1, calDue := true } }) p

/-- The match at the end of OVERLAP and HANDBACK (R323). -/
def matched (r : RoleResult) : Bool := decide (r.mean.natAbs ≤ 500) && decide (r.rms ≤ 2000)

/-- A failed match is counted (R324). -/
def countMatchFail (p : Piece) : Piece := onCal (fun c => { c with matchFail := sat32 c.matchFail 1 }) p

/-- A handover without a comparison is counted (R246). -/
def countUnverified (k : Nat) (p : Piece) : Piece :=
  onMotif k (fun m => { m with unverified := sat32 m.unverified 1 }) p

/-- The end of OVERLAP: the spare stands in, or its failed match ends the visit and it is tested (R245, R324). -/
def endOverlap (k n edges : Nat) (r : RoleResult) (p : Piece) : Piece :=
  if edges < 64 then takeRole k .standingIn n (handOver k n true (countUnverified k p))
  else if matched r then takeRole k .standingIn n (handOver k n true p)
  else
    detectError (interpElement k 4) (countMatchFail
      (onMotif k (fun m => { m with role := .idle, inRound := false, spareFaulted := true }) p))

/-- The end of HANDBACK: the refreshed interpolator returns, or its failed match leaves the spare in FAULT_COVER and it is
tested (R245, R324). -/
def endHandback (k n edges : Nat) (r : RoleResult) (p : Piece) : Piece :=
  if edges < 64 then afterVisit k n (handOver k n false (countUnverified k p))
  else if matched r then afterVisit k n (handOver k n false p)
  else
    detectError (interpElement k n) (countMatchFail (coverInput k n
      (onInput (4 * k + n) (fun i => { i with interpFaulted := true }) p)))

/-- INTERP_ROLE_END: SELF_CAL ends after 100 µs, STANDING_IN after 250 µs, OVERLAP and HANDBACK after 64 edges or 250 µs
(R245, R322). -/
def execInterpRoleEnd (motif : Fin 4) (result : RoleResult) : State → Out := effect fun p =>
  let k := motif.val
  let m := p.motif k
  let past (ticks : Nat) : Bool := decide (m.roleBegan + ticks ≤ p.now)
  let ended := decide (64 ≤ m.roleEdges) || past (250 * ticksPerUs)
  match m.role with
  | .selfCal => when (past (100 * ticksPerUs)) (fun p =>
      visitFrom k 0 (onMotif k (fun m => { m with spareEpoch := m.spareEpoch + 1 }) p)) p
  | .overlap => when ended (endOverlap k m.spareInput m.roleEdges result) p
  | .standingIn => when (past (250 * ticksPerUs)) (takeRole k .handback m.spareInput) p
  | .handback => when ended (endHandback k m.spareInput m.roleEdges result) p
  | _ => p

/-! ### Faults (R232, R247, R248) -/

/-- INTERP_FAULT: the monitor detects a fault; the alarm latches, the spare covers the input, the targeted test is to start
(R247, R594). -/
def execInterpFault (motif : Fin 4) (interpolator : Fin 5) : State → Out := effect fun p =>
  let k := motif.val
  let n := interpolator.val
  let e := interpElement k n
  let retired := if n == 4 then (p.motif k).spareRetired else (p.input (4 * k + n)).interpRetired
  when (!retired) (fun p =>
    let p := alarmWith 0x0401 (elementEntry p e 0) p
    detectError e (if n == 4 then faultSpare k p else faultInterp k n p)) p

/-- COMP_FAULT: the next comparator takes over with its own constants; the faulted one is tested (R232, R594). -/
def execCompFault (source : Fin 16) : State → Out := effect fun p =>
  let i := p.input source
  let e := compElement source i.compSel
  when (!i.faultActive && detects i) (fun p =>
    let p := alarmWith 0x0402 (elementEntry p e 0) p
    detectError e (onInput source (fun i => nextComp { i with compHeld := i.compHeld ||| 2 ^ i.compSel }) p)) p

/-! ### Registers (R254) -/

/-- The code of a role (R254). -/
def roleCode : SpareRole → Nat
  | .idle => 0
  | .selfCal => 1
  | .overlap => 2
  | .standingIn => 3
  | .handback => 4
  | .faultCover => 5

/-- STAMP_STATUS; ROTATION_EN reads 1 while rotation runs: enabled, or with a round that has not ended. -/
def stampStatus (p : Piece) (k : Nat) : Nat :=
  let m := p.motif k
  flag m.spareLost 15 + flag (m.rotationEn && (rotates p k || m.inRound)) 14 + roleCode m.role * 2 ^ 8 +
  (if m.role == .idle || m.role == .selfCal then 0 else m.spareInput % 4 * 2 ^ 4) +
  maskOf 4 fun n => (nth m.inputs n).setting.en

/-- STAMP_INn_CFG. -/
def stampConfig (i : StampInput) : Nat :=
  let slope := match i.setting.slope with
    | .rising => 0
    | .falling => 1
    | .both => 2
  flag i.setting.en 31 + flag i.faultActive 30 + slope * 2 ^ 28 + i.compSel % 4 * 2 ^ 26 + flag i.spareActive 25 +
  i.setting.prescale % 32 * 2 ^ 20 + i.compRetired % 16 * 2 ^ 16 + i.setting.threshold % 4096

end Sys2Proof.Machine
end

