-- ==== Sys2Proof/Machine/Numeric.lean ====
section
/-! DEFINITION. Numbers of the signal path: the cosine in fixed point, window coefficients, powers in centibels (04 R98,
05 R120, R121, R130; log entries 9 and 10). -/

namespace Sys2Proof.Machine

/-- π × 2⁹⁶. -/
def pi96 : Int := 248902613312231085230521944622

/-- The sum of `n` further terms of the cosine series at a square argument, everything times 2⁹⁶; `term` is the term with
index i. -/
def cosTerms (square : Int) : Nat → Nat → Int → Int
  | 0, _, _ => 0
  | n + 1, i, term => term + cosTerms square n (i + 1) (-(term * square / (2 ^ 96 * ((2 * i + 1) * (2 * i + 2) : Nat))))

/-- cos x × 2⁹⁶ for an angle x, times 2⁹⁶, of at most π / 2. -/
def cosSeries (x : Int) : Int := cosTerms (x * x / 2 ^ 96) 20 0 (2 ^ 96)

/-- cos(2π num / den) × 2⁶⁴, rounded (log entry 9). -/
def cosTurn (num den : Nat) : Int :=
  let r := num % den
  let r := if den < 2 * r then den - r else r
  let (a, negative) := if den < 4 * r then (den - 2 * r, true) else (2 * r, false)
  let c := (cosSeries (pi96 * a / den) + 2 ^ 31) / 2 ^ 32
  if negative then -c else c

/-- sin(2π num / den) × 2⁶⁴. -/
def sinTurn (num den : Nat) : Int := cosTurn (4 * num + 3 * den) (4 * den)

/-! ### Windows (R120, R121) -/

/-- Terms of the power series of I₀ from index i on, at a quarter of the square of the argument. -/
def besselTerms (quarter : Rat) : Nat → Nat → Rat → Rat
  | 0, _, _ => 0
  | n + 1, i, term => term + besselTerms quarter n (i + 1) (term * quarter / ((i + 1) * (i + 1) : Nat))

/-- I₀ of the root of a rational. -/
def besselSquare (square : Rat) : Rat := besselTerms (square / 4) 64 0 1

/-- A sum of cosines of the window angle, with weights in 10⁻⁹. -/
def cosineWindow (weights : List Int) (n len : Nat) : Rat :=
  ((weights.mapIdx fun i w => ((w * cosTurn (i * n) len : Int) : Rat)).sum) / (10 ^ 9 * 2 ^ 64)

/-- w(n) of a built-in window of N samples (R120). -/
def windowValue (code kaiser n len : Nat) : Rat :=
  match code with
  | 0 => 1
  | 1 => cosineWindow [500000000, -500000000] n len
  | 2 => cosineWindow [358750000, -488290000, 141280000, -11680000] n len
  | 3 => cosineWindow [215578950, -416631580, 277263158, -83578947, 6947368] n len
  | _ =>
    let beta : Rat := (kaiser + 1 : Nat)
    let y : Rat := 2 * n / len - 1
    besselSquare (beta * beta * (1 - y * y)) / besselSquare (beta * beta)

/-- q(n) of a built-in window (R121); FLATTOP keeps the negative values that its CG of R121 counts (log entry 9). -/
def windowCoef (code kaiser n len : Nat) : Int := roundRat (windowValue code kaiser n len * 2 ^ 17)

/-- The coefficients of a window of N samples; code 5 is the custom table. -/
def windowTable (code kaiser len : Nat) (custom : List Nat) : List Int :=
  if code == 5 then custom.map (fun (c : Nat) => (c : Int)) else (List.range len).map fun n => windowCoef code kaiser n len

/-- N × CG × 2¹⁷ (R121). -/
def windowSum (q : List Int) : Int := q.sum

/-! ### Centibels (R130) -/

/-- ⌊log₁₀ q⌋ of a positive rational. -/
def log10Floor (q : Rat) : Int :=
  if 1 ≤ q then (Nat.log 10 q.floor.toNat : Int) else -(Nat.clog 10 (q⁻¹).ceil.toNat : Int)

/-- A power as clamped centibels, off its exact value by at most 1 (R130; log entry 10). -/
def centibels (deviation : Int) (q : Rat) : Int :=
  if q ≤ 0 then -32768
  else
    let x := (log10Floor (q ^ 2000) + 1) / 2 + max (-1) (min 1 deviation)
    max (-32768) (min 32767 x)

end Sys2Proof.Machine
end

