-- ==== Sys2Proof/Machine/Rates.lean ====
section
/-! DEFINITION. Rates of the transform engines as commanded, and the limits they must keep (05 R117, R123, R141; 06 R161;
04 R97). -/

namespace Sys2Proof.Machine

/-- An input is paired, or is to be (R72, R76). -/
def commandedPaired (p : Piece) (i : Nat) : Bool :=
  let r := nth p.rfin (i / 2 * 2)
  ((r.changes.getLast?).map (·.paired)).getD r.paired

/-- Sample rate of an input in samples per second (R74, R75). -/
def sampleRate (paired : Bool) : Nat := if paired then 20480000000 else 10240000000

/-- The stream that an engine takes as commanded: whether it is real, and its rate; none where its DDC does not run (R117). -/
def commandedFeed (p : Piece) (i : Nat) : Option (Bool × Rat) :=
  let c := nth p.chan i
  let src := (commandedRoutes c).2
  let fs : Rat := sampleRate (commandedPaired p i)
  if src == 8 then some (true, fs)
  else
    let (en, s) := commandedDdc (nth c.ddcs src)
    if en then some (false, fs / 2 ^ s.k) else none

/-- The settings of an engine as commanded: those of the last grid to come. -/
def commandedXform (x : Xform) : XformSetting :=
  match x.after.getLast? with
  | some g => (g.next.getLast?.map (·.1)).getD g.setting
  | none => x.parked.getD ((x.next.getLast?.map (·.1)).getD x.setting)

/-- The engine runs and is not to end: its last grid is not to end. -/
def engineRuns (x : Xform) : Bool :=
  x.en && (match x.after.getLast? with
    | some g => g.ending.isNone
    | none => x.ending.isNone)

/-- Load of an engine in complex points per second (R123). -/
def engineLoad (feed : Bool × Rat) (overlap : Nat) : Rat := (if feed.1 then feed.2 else 2 * feed.2) * 2 ^ overlap / 2

/-- The limit of R123 and R141. -/
def engineLimit : Rat := 20480000000

/-- An enabled engine is overloaded (R123). -/
def overloaded (p : Piece) (i : Nat) : Bool :=
  let x := nth p.xform i
  match commandedFeed p i with
  | some f => engineRuns x && decide (engineLimit < engineLoad f (commandedXform x).overlap)
  | none => false

/-- Frames per second of an engine as commanded. -/
def frameRate (p : Piece) (i : Nat) : Rat :=
  let x := nth p.xform i
  let s := commandedXform x
  match commandedFeed p i with
  | some f => if engineRuns x then f.2 * 2 ^ s.overlap / 2 ^ s.len else 0
  | none => 0

/-- The settings of a detector slot as commanded. -/
def commandedDetector (d : Detector) : DetectorSetting := (d.next.getLast?.map (·.1)).getD d.setting

/-- Bins of a frame (R118). -/
def binsOf (real : Bool) (len : Nat) : Nat := if real then 2 ^ len / 2 else 2 ^ len

/-- Items per second that a source of an engine sends along a route: 0 FRAME, 1 to 4 DET0 to DET3; route bit 0 DENSITY,
1 TALLY, 2 STREAM. -/
def itemRate (p : Piece) (i src route : Nat) : Rat :=
  let x := nth p.xform i
  if src == 0 then if bitAt (commandedXform x).route route then frameRate p i else 0
  else
    let d := commandedDetector (nth x.detectors (src - 1))
    if d.en && bitAt d.route route then frameRate p i / d.count else 0

/-- A DENSITY channel is the second of a PINGPONG pair, which takes nothing of its own engine (R156). -/
def pingpongSecond (p : Piece) (i : Nat) : Bool := i % 2 == 1 && (nth p.density.channels i).pingpong

/-- The engine that a DENSITY channel takes items from: its own, or that of the first channel of its PINGPONG pair (R146, R156). -/
def channelEngine (p : Piece) (ch : Nat) : Nat := if pingpongSecond p ch then ch - 1 else ch

/-- The DENSITY channels that take items from an engine. -/
def fedChannels (p : Piece) (i : Nat) : List Nat := (List.range 4).filter fun ch => channelEngine p ch == i

/-- The spectrogram of a DENSITY channel that an engine feeds would exceed its row rate (R161). -/
def rowsTooFast (p : Piece) (i : Nat) : Bool :=
  (fedChannels p i).any fun ch =>
    let c := nth p.density.channels ch
    decide (0 < (c.rowsPending.getD c.ringRows)) && decide (250000 * (c.every : Rat) < itemRate p i c.src 0)

/-- Bytes per second that an engine exports (R141). -/
def exportRate (p : Piece) (i : Nat) : Rat :=
  let x := nth p.xform i
  let s := commandedXform x
  let real := ((commandedFeed p i).map (·.1)).getD true
  let frames : Rat := if s.every == 0 then 0
    else itemRate p i 0 2 / s.every * (48 + s.binCount * (if s.complexKind then 8 else 2) : Nat)
  frames + ((List.range 4).map fun n => itemRate p i (n + 1) 2 * (48 + 2 * binsOf real s.len : Nat)).sum

/-- Some engine of a list breaks R123, or R161 with the DENSITY channel it feeds. -/
def enginesBroken (p : Piece) (engines : List Nat) : Bool := engines.any fun i => overloaded p i || rowsTooFast p i

/-- The complex rates of the DDCs routed to ACQ and STREAM of an instance exceed 5.12 G samples/s (R97). -/
def routedTooFast (p : Piece) (i : Nat) : Bool :=
  let fs : Rat := sampleRate (commandedPaired p i)
  let rates : List Rat := (nth p.chan i).ddcs.map fun d =>
    let (en, s) := commandedDdc d
    if en && s.route % 4 != 0 then fs / 2 ^ s.k else 0
  decide ((5120000000 : Rat) < rates.sum)

end Sys2Proof.Machine
end

