-- ==== Sys2Proof/Machine/Mailbox.lean ====
section
/-! DEFINITION. The mailboxes and the lock bank (17), and the transport of command blocks and completions (18). -/

namespace Sys2Proof.Machine

/-! ### Notices -/

/-- The notice in four staged words (R416, R418). -/
def noticeOf (w : List Nat) : Notice :=
  { address := join32 (nth w 0) (nth w 1), length := field (nth w 2) 0 16, seq := field (nth w 2) 16 16,
    epoch := field (nth w 3) 0 8, kind := field (nth w 3) 8 8, reserved := field (nth w 3) 16 16 }

/-- The four words of a notice (R416). -/
def noticeWords (n : Notice) : List Nat :=
  [low32 n.address, high32 n.address, n.length % 65536 + n.seq % 65536 * 65536,
   n.epoch % 256 + n.kind % 256 * 256 + n.reserved % 65536 * 65536]

/-- The side that owns a channel: function 0 its own; the secure channels function 1 while the link is up and the management
port while it is down (R414, R415). -/
def owner (p : Piece) (ch : Nat) : Requester :=
  if ch < 16 then .host0 else if p.hostif.linkUp then .host1 else .mgmt

/-- A write by a requester that cannot reach the block at all is no access; by the side that does not own a secure channel it
is ignored and counted (R415). -/
def mbxWrite (r : Requester) (ch : Nat) (f : Piece → Piece) (p : Piece) : Piece :=
  if r == owner p ch then f p
  else if 16 ≤ ch && (r == .host1 || r == .mgmt) then onChannel ch (fun c => { c with fullCount := sat32 c.fullCount 1 }) p
  else p

/-- Sets a status bit of a channel, and sends the attention vector where the bit was clear (R432). -/
def setStatus (ch : Nat) (was : Channel → Bool) (f : Channel → Channel) (p : Piece) : Piece :=
  let already := was (p.channel ch)
  when (!already) (attention ch) (onChannel ch f p)

/-- A voided notice of a channel (R426). -/
def voidNotices (ch n : Nat) (p : Piece) : Piece :=
  when (decide (0 < n)) (setStatus ch (·.voided) fun c => { c with voided := true, voidCount := sat32 c.voidCount n }) p

/-- A rejected notice of a channel (R417, R435). -/
def rejectNotice (ch : Nat) (p : Piece) : Piece :=
  setStatus ch (·.rejectedBit) (fun c => { c with rejectedBit := true, rejected := sat32 c.rejected 1 }) p

/-- A write of offset 0x0C posts the staged notice, or voids it for its epoch, or refuses it for a full queue
(R418, R419, R426). -/
def ringDoorbell (requester : Requester) (channel : Nat) (word : Nat) (p : Piece) : Piece :=
  mbxWrite requester channel (fun p =>
    let p := onChannel channel (fun c => { c with staging := put c.staging 3 word }) p
    let c := p.channel channel
    let n := noticeOf c.staging
    if n.epoch != p.epoch requester then voidNotices channel 1 p
    else if 64 ≤ c.outq.length then
      setStatus channel (·.fullRefused) (fun c => { c with fullRefused := true, fullCount := sat32 c.fullCount 1 }) p
    else onChannel channel (fun c => { c with outq := c.outq ++
      [{ notice := n, sender := requester, entered := p.now, timeout := c.timeoutTx }] }) p) p

/-- DOORBELL (R418). -/
def execDoorbell (requester : Requester) (channel : Fin 20) (word : Word) : State → Out :=
  effect (ringDoorbell requester channel word.toNat)

/-- A read of MBX_IN_LO: the head inbound notice leaves its queue; its upper words are captured for the reader (R421, R427). A
reader that does not own the channel takes nothing (log entry 24). -/
def takeInbound (requester : Requester) (channel : Nat) (wide : Bool) (p : Piece) : Piece × List Nat :=
  if requester != owner p channel then (p, if wide then [0, 0] else [0])
  else
    let c := p.channel channel
    let q := c.inq.head?
    let w := match q with
      | some q => noticeWords q.notice
      | none => [0, 0, 0, 0]
    let stale := match q with
      | some q => q.stale
      | none => false
    let cap : Capture := { requester := requester.number, words := [if wide then 0 else nth w 1, nth w 2, nth w 3] }
    (onChannel channel (fun c =>
      { c with inq := c.inq.drop 1
               captures := cap :: c.captures.filter (·.requester != requester.number)
               staleCount := if stale then c.staleCount - 1 else c.staleCount }) p,
      if wide then [nth w 0, nth w 1] else [nth w 0])

/-- MBX_IN_TAKE (R421). -/
def execMbxInTake (requester : Requester) (channel : Fin 20) (wide : Bool) : State → Out := effect fun p =>
  let (p, ws) := takeInbound requester channel wide p
  emit (.readValue requester.number ws) p

/-- A 1 written to a W1C bit of MBX_STATUS clears it (R428). -/
def clearMbxStatus (requester : Requester) (channel : Nat) (v : Nat) (p : Piece) : Piece :=
  mbxWrite requester channel (onChannel channel fun c =>
    { c with rejectedBit := c.rejectedBit && !bitAt v 5, fullRefused := c.fullRefused && !bitAt v 4
             voided := c.voided && !bitAt v 3, timeout := c.timeout && !bitAt v 2
             peerResetSeen := c.peerResetSeen && !bitAt v 1 }) p

/-- MBX_STATUS_CLEAR (R428). -/
def execMbxStatusClear (requester : Requester) (channel : Fin 20) (value : Word) : State → Out :=
  effect (clearMbxStatus requester channel value.toNat)

/-- The timer of a queued notice has expired and has raised no TIMEOUT yet (R424). -/
def timerExpired (p : Piece) (q : Queued) : Bool :=
  q.timeout != 0 && !q.expired && (!p.clocks.mintRun || decide (q.entered + q.timeout * ticksPerUs ≤ p.now))

/-- MBX_TIMEOUT_EXPIRY: TIMEOUT goes to the sender, once per notice, and the notice stays queued (R424). -/
def execMbxTimeoutExpiry (channel : Fin 20) (outbound : Bool) (index : Nat) : State → Out := effect fun p =>
  let c := p.channel channel
  let q := if outbound then c.outq[index]? else c.inq[index]?
  when (match q with | some q => timerExpired p q | none => false) (fun p =>
    let mark (l : List Queued) : List Queued := upd l index fun q => { q with expired := true }
    let p := onChannel channel (fun c =>
      { c with timeoutCount := sat32 c.timeoutCount 1
               outq := if outbound then mark c.outq else c.outq, inq := if outbound then c.inq else mark c.inq }) p
    if outbound then setStatus channel (·.timeout) (fun c => { c with timeout := true }) p
    else writeJournal { code := 0x1002, panelType := 0x11, detail := [BitVec.ofNat 8 channel] } p) p

/-- Commands taken and not completed: at most 4,096 (R440). -/
def inFlight (p : Piece) : Nat :=
  p.transport.flights.length + (p.transport.channels.map fun c => c.fetching.length).sum

/-- The channel the steward serves next: the first with a notice after the one served last (R420). -/
def nextServed (p : Piece) : Option Nat :=
  ((List.range 20).map fun i => (p.transport.lastServed + 1 + i) % 20).find? fun ch => !(p.channel ch).outq.isEmpty

/-- A notice that R417 accepts. -/
def noticeOk (n : Notice) : Bool :=
  n.kind == 0x01 && n.length != 0 && n.address % 64 == 0 && n.reserved == 0

/-- Issues a host read (R375). -/
def issueRead (use : ReadUse) (address length : Nat) (p : Piece) : Piece :=
  let id := p.hostif.nextRequest
  emit (.hostRead id address length)
    { p with hostif := { p.hostif with
        requests := p.hostif.requests ++ [{ id := id, use := use, address := address, length := length }]
        nextRequest := id + 1 } }

/-- NOTICE_TAKE_BY_STEWARD: the next notice in rotating order is rejected, or its block is fetched (R417, R420, R434,
R440). -/
def execNoticeTakeBySteward : State → Out := effect fun p =>
  when (p.transport.state == .running && decide (inFlight p < 4096)) (fun p =>
    match nextServed p with
    | none => p
    | some ch =>
      match (p.channel ch).outq with
      | [] => p
      | q :: rest =>
        let p := onChannel ch (fun c => { c with outq := rest, staleCount := if q.stale then c.staleCount - 1
                                                                            else c.staleCount }) p
        let p := { p with transport := { p.transport with lastServed := ch } }
        if noticeOk q.notice then
          let p := onChannel ch (fun c => { c with fetching := c.fetching ++ [q.notice] }) p
          if isDevice q.notice.address then p
          else issueRead (.commandFetch ch) q.notice.address (64 * q.notice.length) p
        else rejectNotice ch p) p

/-- Forgets the oldest host read of a use. -/
def dropRequest (use : ReadUse) (p : Piece) : Piece :=
  match p.hostif.requests.find? (·.use == use) with
  | some r => { p with hostif := { p.hostif with requests := p.hostif.requests.filter (·.id != r.id) } }
  | none => p

/-- A command block as fetched (R433). -/
structure Block where
  opcode : Nat
  tag : Nat
  session : Nat
  flags : Nat
  bodyLen : Nat
  sealCrc : Nat
  reserved : Bytes
  body : Bytes

/-- The fields of a block. -/
def blockOf (bs : Bytes) : Block :=
  { opcode := u bs 0 2, tag := u bs 2 2, session := u bs 4 2, flags := u bs 6 2, bodyLen := u bs 8 4,
    sealCrc := u bs 12 4, reserved := slice bs 16 16, body := slice bs 32 (min (u bs 8 4) (bs.length - 32)) }

/-- SEAL_CRC as the block should carry it (R441): the hallmark of the notice, then the block with the field taken as zero. -/
def sealOf (n : Notice) (ch : Nat) (bs : Bytes) : Nat :=
  let len := 32 + u bs 8 4
  checkFrom 1 (checkFrom 1 0 (hallmark n.address n.seq ch)) (slice bs 0 12 ++ zeros 4 ++ slice (bs.take len) 16
    (min len bs.length - 16))

/-- Checks 1 and the header's part of check 2, then check 3, of R443. -/
def blockFault (n : Notice) (ch : Nat) (bs : Bytes) (b : Block) : Option Nat :=
  if bitAt b.flags 2 && b.sealCrc != sealOf n ch bs then some stCheck
  else if decide (4096 ≤ b.tag) || decide (8 ≤ b.flags) || !isZero b.reserved ||
      (!bitAt b.flags 2 && b.sealCrc != 0) || decide (n.length * 64 < 32 + b.bodyLen) ||
      (decide (256 ≤ b.session) && b.session != 0xFFFF) then some stRange
  else if (cmdRow b.opcode).isNone then some stUnknown
  else none

/-- A fetched block is checked in the order of R443: it completes with the first status, or stays in flight for its row
(log entry 16). -/
def takeCommand (n : Notice) (ch : Nat) (bs : Bytes) (p : Piece) : Piece :=
  let b := blockOf bs
  let f : Flight := { order := p.transport.nextOrder, opcode := b.opcode, channel := ch, session := b.session,
                      tag := b.tag % 4096, irq := bitAt b.flags 1, fenceBefore := bitAt b.flags 0,
                      isSealed := bitAt b.flags 2, body := b.body }
  let p := enroll f p
  match if beforeReady p b.opcode then some stBusy else blockFault n ch bs b with
  | some st => failCheck f st false p
  | none =>
    match (cmdRow b.opcode).bind fun row => headerFault p row f with
    | some (st, dup) => failCheck f st dup p
    | none => p

/-- The fetch of a block fails: nothing executes, the notice counts as rejected (R435). -/
def fetchFails (ch : Nat) (p : Piece) : Piece :=
  match (p.channel ch).fetching with
  | _ :: rest => rejectNotice ch (dropRequest (.commandFetch ch) (onChannel ch (fun c => { c with fetching := rest }) p))
  | [] => p

/-- The answer that a fetch of a channel has received (HOST_READ_COMPLETION, HOST_REQUEST_TIMEOUT), or else the one of the
row. -/
def fetchAnswer (p : Piece) (ch : Nat) (row : Answer) : Answer :=
  ((p.hostif.answers.find? fun a => a.1.use == .commandFetch ch).map (·.2)).getD row

/-- Forgets the oldest received answer of a fetch. -/
def dropAnswer (ch : Nat) (p : Piece) : Piece :=
  match p.hostif.answers.find? fun a => a.1.use == .commandFetch ch with
  | some a => { p with hostif := { p.hostif with answers := p.hostif.answers.filter (·.1.id != a.1.id) } }
  | none => p

/-- COMMAND_FETCH_DONE: the block arrives, from the host's answer or from device DRAM (R434, R443). -/
def execCommandFetchDone (channel : Fin 20) (answer : Answer) : State → Out := effect fun p0 =>
  let answer := fetchAnswer p0 channel answer
  let p := dropAnswer channel p0
  match (p.channel channel).fetching with
  | [] => p0
  | n :: rest =>
    if !addrOk p.dmc n.address then fetchFails channel p
    else
      match pieceRead p n.address (64 * n.length) answer with
      | .ok bs => takeCommand n channel bs
          (dropRequest (.commandFetch channel) (onChannel channel (fun c => { c with fetching := rest }) p))
      | .error _ => fetchFails channel p

/-- COMMAND_FETCH_FAIL (R435). -/
def execCommandFetchFail (channel : Fin 20) : State → Out := effect (fetchFails channel)

/-- The consumer index in a host answer. -/
def indexOf (a : Answer) (old : Nat) : Nat :=
  match a with
  | .data bs => u bs 0 4
  | _ => old

/-- COMPLETION_RING_RETRY: the consumer index of a session's ring, or with session 0xFFFF of a channel's default ring, is read
again, and held completions are written (R450). -/
def execCompletionRingRetry (session : Nat) (channel : Fin 20) (consumer : Answer) : State → Out := effect fun p =>
  let re (r : Ring) : Ring := { r with consumer := indexOf consumer r.consumer }
  settle (if session == 0xFFFF then onChannel channel (fun c => { c with ring := re c.ring }) p
    else onSession session (fun s => { s with ring := s.ring.map re }) p)

/-- STEWARD_NOTICE_POST: a held notice is posted once a slot frees (R423). -/
def execStewardNoticePost (channel : Fin 20) : State → Out := effect fun p =>
  match (p.channel channel).held with
  | n :: rest => when (decide ((p.channel channel).inq.length < 64))
      (fun p => enterInbound channel n (onChannel channel (fun c => { c with held := rest }) p)) p
  | [] => p

/-! ### Epochs and resets of a side (R425 to R427) -/

/-- The epoch after an increment, skipping 0 (R425). -/
def nextEpoch (e : Nat) : Nat := if e == 255 then 1 else e + 1

/-- The channels of one side of the queues. -/
def allChannels : List Nat := List.range 20

/-- A sender's epoch increments: its queued notices are voided in the same cycle (R425, R426). -/
def bumpEpoch (r : Requester) (p : Piece) : Piece :=
  let p := { p with transport := { p.transport with epochs := upd p.transport.epochs (epochIndex r) nextEpoch } }
  allChannels.foldl (fun p ch =>
    let c := p.channel ch
    if r == .steward then
      let n := c.inq.length + c.held.length
      voidNotices ch n (onChannel ch (fun c => { c with inq := [], held := [] }) p)
    else
      let n := (c.outq.filter (·.sender == r)).length
      voidNotices ch n (onChannel ch (fun c => { c with outq := c.outq.filter (·.sender != r) }) p)) p

/-- The receiver of a channel is reset: its queued notices stay and count as stale (R427). -/
def receiverReset (ch : Nat) (toSteward : Bool) (p : Piece) : Piece :=
  let mark (l : List Queued) : List Queued := l.map fun q => { q with stale := true }
  setStatus ch (·.peerResetSeen) (fun c =>
    if toSteward then { c with peerResetSeen := true, staleCount := c.outq.length, outq := mark c.outq }
    else { c with peerResetSeen := true, staleCount := c.inq.length, inq := mark c.inq }) p

/-! ### Lock bank (R429 to R431) -/

/-- The requesters of the lock bank (R429). -/
def locks? (r : Requester) : Bool := r == .host0 || r == .steward || r == .netRemote

/-- Sets the owner of a lock. -/
def setLock (n o : Nat) (p : Piece) : Piece :=
  { p with transport := { p.transport with locks := put p.transport.locks n o } }

/-- Counts a bad release (R430). -/
def countBadRelease (p : Piece) : Piece :=
  { p with transport := { p.transport with badRelease := sat32 p.transport.badRelease 1 } }

/-- A lock word as a reader sees it after its read (R429, R430). -/
def lockWord (reader holder : Nat) : Nat := flag (reader == holder) 31 + holder

/-- A read of a lock word (R430); the node counts for the Net-remote steward only (R572). -/
def readLock (requester : Requester) (lock : Nat) (wide : Bool) (node : Nat) (p : Piece) : Piece × List Nat :=
  let r := requester.number
  if wide then (countBadRelease p, [0, 0])
  else
    let o := nth p.transport.locks lock
    if o == 0 then
      let p := setLock lock r p
      (when (requester == .netRemote) (fun p => { p with transport := { p.transport with
        lockNodes := insert' p.transport.lockNodes lock node } }) p, [lockWord r r])
    else (p, [lockWord r o])

/-- LOCK_ACQUIRE_READ (R429, R430). -/
def execLockAcquireRead (requester : Requester) (lock : Fin 64) (wide : Bool) (node : Fin 65536) : State → Out :=
  effect fun p => when (locks? requester) (fun p =>
    let (p, ws) := readLock requester lock wide node p
    emit (.readValue requester.number ws) p) p

/-- A write of a lock word (R430). -/
def writeLock (requester : Requester) (lock value : Nat) (wide : Bool) (p : Piece) : Piece :=
  let r := requester.number
  let o := nth p.transport.locks lock
  if !wide && o == r && value == o then setLock lock 0 p else countBadRelease p

/-- LOCK_RELEASE_WRITE (R429, R430). -/
def execLockReleaseWrite (requester : Requester) (lock : Fin 64) (value : Word) (wide : Bool) : State → Out :=
  effect fun p => when (locks? requester) (writeLock requester lock value.toNat wide) p

/-- Releases the locks of a requester that goes away, which a test picks, and counts each (R431). -/
def releaseLocks (pick : Nat → Nat → Bool) (p : Piece) : Piece :=
  let t := p.transport
  let gone := (List.range 64).filter fun i => nth t.locks i != 0 && pick i (nth t.locks i)
  { p with transport := { t with locks := t.locks.mapIdx fun i o => if gone.contains i then 0 else o
                                 forcedRelease := sat32 t.forcedRelease gone.length } }

end Sys2Proof.Machine
end

