-- ==== Sys2Proof/Machine/Session.lean ====
section
/-! DEFINITION. Sessions, claims, rings, fences and aborts (18 R436 to R450, 20 R489 to R494), and the event records
(20 R495 to R497). -/

namespace Sys2Proof.Machine

/-- A ring registration in a body of 24 bytes (R490): its fields are within range for records of a size; the consumer index is
read from a 4-byte aligned address (R455; log entry 17). -/
def ringBodyOk (p : Piece) (b : Bytes) (size : Nat) : Bool :=
  u b 12 4 == 0 && u b 0 8 % 64 == 0 && rangeOk p.dmc (u b 0 8) (u b 8 4 * size) && addrOk p.dmc (u b 16 8) && u b 16 8 % 4 == 0

/-- A registration that needs device DRAM while it is being initialised waits (R622). -/
def ringMustWait (p : Piece) (b : Bytes) : Bool :=
  !dmcRefuses p.dmc && !p.dmc.initDone && (isDevice (u b 0 8) || isDevice (u b 16 8))

/-- The ring after a registration, and whether a length is staged: a change of ENTRIES alone on a ring that holds records is
staged; ENTRIES zero disables; any other change starts a new ring (R449, R490, R538). -/
def registerRing (p : Piece) (old : Ring) (b : Bytes) : Ring × Bool :=
  let base := u b 0 8
  let n := u b 8 4
  let cons := u b 16 8
  if n == 0 then ({ base := base, consumerAddr := cons }, false)
  else if old.entries != 0 && old.base == base && old.consumerAddr == cons && old.holds p then
    if n == old.entries then ({ old with stagedEntries := none }, false)
    else ({ old with stagedEntries := some n }, true)
  else if old.entries == n && old.base == base && old.consumerAddr == cons then (old, false)
  else ({ base := base, entries := n, consumerAddr := cons }, false)

/-- The identity words (R400). -/
def pieceId : Nat := 0xD0A40001
def pieceRev : Nat := 0x00004201

/-- SYS_HELLO (R490). -/
def actHello : Act := simple fun f p =>
  let b := f.body
  guarded [ (!ringBodyOk p b 32, stRange) ] p
    (if ringMustWait p b then (p, .postpone)
     else
       let (r, _) := registerRing p (p.channel f.channel).ring b
       let p := onChannel f.channel (fun c => { c with ring := r }) p
       (p, .done stOk [pieceId, pieceRev, p.transport.fwVersion,
         p.epoch .steward * 256 + p.epoch (owner p f.channel), 256 - p.transport.sessions.length, inFlight p]))

def execSysHello (c : Cmd) : State → Out := effect (runCommand 0x0101 c actHello)

/-- The lowest free session number. -/
def freeSession (p : Piece) : Option Nat :=
  (List.range 256).find? fun i => !(p.transport.sessions.any (·.id == i))

/-- SESSION_OPEN (R436, R491). -/
def actSessionOpen : Act := simple fun f p =>
  guarded [ (!isZero f.body, stRange), ((freeSession p).isNone, stNoResource) ] p
    (match freeSession p with
     | some i => ({ p with transport := { p.transport with
         sessions := p.transport.sessions ++ [{ id := i, channel := f.channel }] } }, .done stOk [i])
     | none => (p, .done stNoResource []))

def execSessionOpen (c : Cmd) : State → Out := effect (runCommand 0x0102 c actSessionOpen)

/-- Completes the commands of a session that have not started, but for one (R438, R447). -/
def abortNotStarted (session order : Nat) (p : Piece) : Piece :=
  { p with transport := { p.transport with flights := (p.transport.flights.map fun g =>
      if g.session == session && g.order != order && g.progress == .notStarted then
        { g with progress := .held (g.completion stAborted []) }
      else g) } }

/-- Closes the stream channels of a session (R489, R491). -/
def closeStreams (session : Nat) (p : Piece) : Piece :=
  { p with stream := { p.stream with channels := (p.stream.channels.map fun c =>
      if c.state != .closed && c.owner == session then {} else c) } }

/-- SESSION_CLOSE (R438, R491): claims go, unstarted commands are aborted, stream channels close; it completes once the
started commands have. -/
def actSessionClose : Act := simple fun f p =>
  let closing := match p.session f.session with
    | some s => s.closing
    | none => false
  guarded [ (!isZero f.body, stRange), (closing, stState) ] p
    (let p := { p with transport := { p.transport with
       claims := p.transport.claims.filter (·.session != f.session) } }
     (closeStreams f.session (abortNotStarted f.session f.order (onSession f.session (fun s => { s with closing := true }) p)),
      .wait .sessionClose f.session []))

def execSessionClose (c : Cmd) : State → Out := effect (runCommand 0x0103 c actSessionClose)

/-- The session that holds the claim of a panel (R437). -/
def claimHolder (p : Piece) (t i : Nat) : Option Nat :=
  (p.transport.claims.find? fun c => c.panelType == t && c.inst == i).map (·.session)

/-- PANEL_CLAIM (R437, R489, R492, R622): it waits for the Pricking. -/
def actPanelClaim : Act := simple fun f p =>
  let t := u f.body 0 1
  let i := u f.body 1 1
  if !p.boot.pricking then (p, .postpone)
  else
    guarded
      [ (!isZero (slice f.body 2 6) || !(panelEntries.contains (t, i)) || t == 0x0D, stRange),
        ((match claimHolder p t i with | some h => h != f.session | none => false), stBusy) ] p
      (let p := when (claimHolder p t i).isNone (fun p => { p with transport := { p.transport with
         claims := p.transport.claims ++ [{ panelType := t, inst := i, session := f.session }] } }) p
       (p, .done stOk [low32 (Config.windowOffset (panelIndex t i))]))

def execPanelClaim (c : Cmd) : State → Out := effect (runCommand 0x0104 c actPanelClaim)

/-- PANEL_RELEASE (R437, R492): the panel's configuration keeps running. -/
def actPanelRelease : Act := simple fun f p =>
  let t := u f.body 0 1
  let i := u f.body 1 1
  guarded
    [ (!isZero (slice f.body 2 6) || !(panelEntries.contains (t, i)), stRange),
      (claimHolder p t i != some f.session, stState) ] p
    ({ p with transport := { p.transport with
        claims := p.transport.claims.filter fun c => !(c.panelType == t && c.inst == i) } }, .done stOk [])

def execPanelRelease (c : Cmd) : State → Out := effect (runCommand 0x0105 c actPanelRelease)

/-- FENCE (R445, R493): complete once every earlier command of its session is. -/
def actFence : Act := simple fun f p =>
  guarded [ (!isZero f.body, stRange) ] p (p, .wait .fence 0 [])

def execFence (c : Cmd) : State → Out := effect (runCommand 0x0106 c actFence)

/-- EVENT_RING_SET (R494). -/
def actEventRingSet : Act := simple fun f p =>
  guarded [ (!ringBodyOk p f.body 160, stRange) ] p
    (if ringMustWait p f.body then (p, .postpone)
     else
       let old := ((p.session f.session).bind (·.eventRing)).getD {}
       let (r, staged) := registerRing p old f.body
       (onSession f.session (fun s => { s with eventRing := some r }) p, .done stOk [flag staged 0]))

def execEventRingSet (c : Cmd) : State → Out := effect (runCommand 0x0107 c actEventRingSet)

/-- COMPLETION_RING_SET (R449, R494). -/
def actCompletionRingSet : Act := simple fun f p =>
  guarded [ (!ringBodyOk p f.body 32, stRange) ] p
    (if ringMustWait p f.body then (p, .postpone)
     else
       let old := ((p.session f.session).bind (·.ring)).getD {}
       let (r, staged) := registerRing p old f.body
       (onSession f.session (fun s => { s with ring := some r }) p, .done stOk [flag staged 0]))

def execCompletionRingSet (c : Cmd) : State → Out := effect (runCommand 0x0108 c actCompletionRingSet)

/-- ABORT_TAG (R447, R493). -/
def actAbortTag : Act := simple fun f p =>
  let tag := u f.body 0 2
  let target := p.transport.flights.find? fun g => g.session == f.session && g.order != f.order && g.tag == tag
  guarded
    [ (decide (4096 ≤ tag) || !isZero (slice f.body 2 6), stRange),
      ((match target with | some g => g.progress != .notStarted | none => true), stState) ] p
    (match target with
     | some g => (setFlight { g with progress := .held (g.completion stAborted []) } p, .done stOk [])
     | none => (p, .done stState []))

def execAbortTag (c : Cmd) : State → Out := effect (runCommand 0x0109 c actAbortTag)

/-! ### Event records (R495 to R497) -/

/-- An event record of 160 bytes (R495). -/
def eventBytes (e : EventRecord) (seq : Nat) (phase : Bool) : Bytes :=
  leBytes 4 seq ++ leBytes 1 e.kind ++ leBytes 1 (flag phase 7) ++ leBytes 2 (min 128 e.body.length) ++
  leBytes 8 e.mint ++ labelBytes e.label ++ leBytes 1 e.panelType ++ leBytes 1 e.inst ++ zeros 4 ++ pad 128 e.body

/-- Writes one record into a session's event ring, which has room; a record that the memory cannot take is voided
(R385, R395). -/
def writeEvent (id : Nat) (r : Ring) (e : EventRecord) (p : Piece) : Piece :=
  match pieceWrite (r.base + r.slot * 160) (eventBytes e r.next r.phase) p with
  | (p, .ok) => onSession id (fun s => { s with eventRing := some r.advance }) p
  | (p, _) => countVoided p

/-- The GAP record of a session's event ring; its ORIGIN is not stated (log entry 27). -/
def gapRecord (s : Session) (p : Piece) : Piece × EventRecord :=
  let (p, n) := draw p
  let o := (Config.freeWord n).toNat
  (p, { kind := 0x01, mint := p.now, label := p.label, panelType := o % 256, inst := o / 256 % 256,
        body := leBytes 4 s.lost ++ zeros 4 ++ leBytes 8 s.lostMint })

/-- Writes the GAP record of a session at its first free slot (R497). -/
def writeGap (id : Nat) (p : Piece) : Piece :=
  match p.session id with
  | some s =>
    match s.eventRing with
    | some r =>
      when (decide (0 < s.lost) && r.entries != 0 && !r.full p) (fun p =>
        let (p, g) := gapRecord s p
        onSession id (fun s => { s with lost := 0 }) (writeEvent id r g p)) p
    | none => p
  | none => p

/-- The event ring's consumer index is read again. -/
def rereadEvent (id : Nat) (consumer : Answer) (p : Piece) : Piece :=
  onSession id (fun s => { s with eventRing := s.eventRing.map fun r =>
    { r with consumer := indexOf consumer r.consumer } }) p

/-- A record goes into a session's event ring behind any GAP that is due, or is dropped and counted (R497). -/
def enterEvent (id : Nat) (e : EventRecord) (dropped : Piece → Piece) (p : Piece) : Piece :=
  let p := writeGap id p
  match p.session id with
  | some s =>
    match s.eventRing with
    | some r =>
      if r.entries == 0 then countVoided p
      else if s.lost == 0 && !r.full p then writeEvent id r e p
      else dropped (onSession id (fun s =>
        { s with lost := s.lost + 1, lostMint := if s.lost == 0 then p.now else s.lostMint }) p)
    | none => countVoided p
  | none => countVoided p

/-- EVENT_RING_RETRY: the index is read again, and the GAP record goes to the first free slot (R497). -/
def execEventRingRetry (session : Fin 256) (consumer : Answer) : State → Out :=
  effect fun p => writeGap session (rereadEvent session consumer p)

end Sys2Proof.Machine
end

