-- ==== Sys2Proof/Machine/StreamFam.lean ====
section
/-! DEFINITION. STREAM: chains, rings, VDIF frames; CHECK: the scan engine (21), and their commands (20 R507 to R511). -/

namespace Sys2Proof.Machine

/-- Changes one stream channel. -/
def onStream (ch : Nat) (f : StreamChannel → StreamChannel) (p : Piece) : Piece :=
  { p with stream := { p.stream with channels := upd p.stream.channels ch f } }

/-- A stream channel. -/
def Piece.streamCh (p : Piece) (ch : Nat) : StreamChannel := nth p.stream.channels ch

/-- A producer's record is on its way to its channel (R523). -/
def sendStream (i : StreamItem) (p : Piece) : Piece :=
  { p with stream := { p.stream with arrivals := p.stream.arrivals ++ [i] } }

/-! ### Opening and closing (R507, R510, R540) -/

/-- BITS, THRESH, SHIFT and DATA_BYTES of a VDIF channel's SEED (R540). -/
def vdifBits (seed : Nat) : Nat := field seed 48 8
def vdifThresh (seed : Nat) : Nat := field seed 32 16
def vdifShift (seed : Nat) : Nat := field seed 24 8
def vdifBytes (seed : Nat) : Nat := field seed 0 24

/-- The frame parameters lie within R540. -/
def vdifOk (streamId seed : Nat) : Bool :=
  let b := vdifBits seed
  field streamId 10 6 == 0 && field seed 56 8 == 0 && (b == 2 || b == 8 || b == 16) &&
  (if b == 2 then decide (1 ≤ vdifThresh seed) && decide (vdifThresh seed ≤ 32767) else vdifThresh seed == 0) &&
  (if b == 8 then decide (vdifShift seed ≤ 15) else vdifShift seed == 0) &&
  vdifBytes seed % 8 == 0 && decide (8 ≤ vdifBytes seed) && decide (vdifBytes seed ≤ 8388576)

/-- STREAM_OPEN (R507, R522, R540). -/
def actStreamOpen : Act := simple fun f p =>
  let b := f.body
  let ch := u b 0 1
  let fl := u b 3 1
  let c := p.streamCh ch
  let isOpen := c.state != .closed
  guarded
    [ (decide (63 < ch) || decide (1 < u b 1 1) || decide (4 < u b 2 1) || fl % 64 != 0 ||
        (bitAt fl 6 && u b 1 1 == 0) || (bitAt fl 7 && u b 1 1 == 1) ||
        (bitAt fl 6 && !vdifOk (u b 4 4) (u b 8 8)), stRange),
      (isOpen && c.owner == f.session, stState), (isOpen, stBusy) ] p
    (onStream ch (fun _ => { state := .idle, source := u b 1 1 == 1, vdifMode := bitAt fl 6, hallmark := bitAt fl 7,
                             alg := u b 2 1, owner := f.session, streamId := u b 4 4, seed := u b 8 8 }) p,
     .done stOk [])

def execStreamOpen (c : Cmd) : State → Out := effect (runCommand 0x0A01 c actStreamOpen)

/-- The rules of every later stream command on its channel: it is open, and the session's own (R489). -/
def ownedRules (p : Piece) (f : Flight) (ch : Nat) (more : Bool) : List (Bool × Nat) :=
  let c := p.streamCh ch
  [ (c.state == .closed || (c.owner == f.session && more), stState), (c.owner != f.session, stBusy), (more, stState) ]

/-- STREAM_CLOSE: the model's transactions return at once; words 0 and 1 hold the bytes moved (R510). -/
def actStreamClose : Act := simple fun f p =>
  let ch := u f.body 0 1
  guarded ((decide (63 < ch) || !isZero (slice f.body 1 7), stRange) :: ownedRules p f ch false) p
    (onStream ch (fun _ => {}) p, doneWith stOk (p.streamCh ch).bytes)

def execStreamClose (c : Cmd) : State → Out := effect (runCommand 0x0A04 c actStreamClose)

/-! ### Chains (R525 to R534) -/

/-- STREAM_CHAIN_SET starts a chain (R508, R531). -/
def actChainSet : Act := simple fun f p =>
  let ch := u f.body 0 1
  let a := u f.body 8 8
  let c := p.streamCh ch
  guarded ((decide (63 < ch) || !isZero (slice f.body 1 7) || !destOk' p a, stRange) ::
      ownedRules p f ch (c.source || c.state == .running)) p
    (onStream ch (fun c => { c with state := .running, desc := a, first := true, atLink := false, linkIssued := false,
                                    extendPending := false }) p, .done stOk [])
where
  destOk' (p : Piece) (a : Nat) : Bool := a % 64 == 0 && rangeOk p.dmc a 64

def execStreamChainSet (c : Cmd) : State → Out := effect (runCommand 0x0A02 c actChainSet)

/-- A descriptor that R526 accepts. -/
def descriptorOk (d : Dmc) (b : Bytes) : Bool :=
  let c := u b 20 4
  let n := u b 16 4
  let fixedOk (bit : Nat) (a : Nat) : Bool := !bitAt c bit || (a % 64 == 0 && n % 64 == 0)
  field c 0 29 == 0 && u b 28 4 == 0 && field (u b 32 8) 1 5 == 0 && fixedOk 30 (u b 0 8) && fixedOk 29 (u b 8 8) &&
  rangeOk d (u b 0 8) (if bitAt c 30 then 64 else n) && rangeOk d (u b 8 8) (if bitAt c 29 then 64 else n)

/-- The bytes a descriptor reads: a fixed source is read once per line (R526, R527). -/
def sourceBytes (p : Piece) (b : Bytes) (data : Answer) : Except Transfer Bytes :=
  let n := u b 16 4
  let a := u b 0 8
  if n == 0 then .ok []
  else if bitAt (u b 20 4) 30 && isDevice a then
    match pieceRead p a 64 data with
    | .ok line => .ok ((List.replicate (n / 64) line).flatten)
    | .error t => .error t
  else pieceRead p a n data

/-- Writes the bytes a descriptor moves, line by line for a fixed destination (R526, R527). -/
def moveBytes (b : Bytes) (bs : Bytes) (p : Piece) : Piece :=
  let a := u b 8 8
  let put (a : Nat) (x : Bytes) (p : Piece) : Piece :=
    if isDevice a then dramWrite (deviceAddr a) x p else emit (.hostWrite a x) p
  if bitAt (u b 20 4) 29 then (chunks 64 bs.length bs).foldl (fun p line => put a line p) p
  else when (!bs.isEmpty) (put a bs) p

/-- The offset of the first byte in range of the line that holds a byte of a transfer (R531). -/
def lineOffset (addr off : Nat) : Nat := ((addr + off) / 64 * 64) - addr

/-- The check value a descriptor starts from (R529). -/
def chainStart (c : StreamChannel) (b : Bytes) : Nat :=
  if bitAt (u b 20 4) 31 && !c.first then c.running
  else if c.hallmark then checkFrom c.alg c.seed (hallmark (u b 8 8) (u b 24 4) c.streamId)
  else c.seed

/-- The engine's write-back of bytes 40 to 63 (R525, R528). -/
def writeBack (d : Nat) (err off check : Nat) (valid : Bool) (p : Piece) : Piece :=
  (pieceWrite (d + 40) (leBytes 4 (flag true 31 + flag valid 30 + err) ++ leBytes 4 off ++ leBytes 8 check ++
    leBytes 8 p.now) p).1

/-- A descriptor fails: it is written back with the error and the channel halts (R531). -/
def failDescriptor (ch err off : Nat) (p : Piece) : Piece :=
  let d := (p.streamCh ch).desc
  onStream ch (fun c => { c with state := .halted, err := err, atLink := false, linkIssued := false })
    (writeBack d err off 0 false p)

/-- The part of a failed transfer that was moved before the failing line. -/
def movedBefore (p : Piece) (b : Bytes) (data : Answer) (off : Nat) : Bytes :=
  let a := u b 0 8
  let bs := if isDevice a then memRead p.dmc.dram (deviceAddr a) (u b 16 4)
    else match data with
      | .data x => slice x 0 (u b 16 4)
      | _ => zeros (u b 16 4)
  bs.take off

/-- The result of a descriptor that has been fetched (R526 to R531); `failAt` is the offset of the failing line where the
state of the memory or the host's answer fails the transfer. -/
def runDescriptor (ch : Nat) (b : Bytes) (data : Answer) (failAt : Option Nat) (p : Piece) : Piece :=
  let c := p.streamCh ch
  let n := u b 16 4
  if !descriptorOk p.dmc b then failDescriptor ch 3 0 p
  else
    match sourceBytes p b data with
    | .error _ =>
      let off := lineOffset (u b 0 8) (min (failAt.getD 0) n)
      failDescriptor ch 1 off (onStream ch (fun c => { c with bytes := c.bytes + off })
        (if isDevice (u b 8 8) && dmcRefuses p.dmc && off == 0 then p else moveBytes b (movedBefore p b data off) p))
    | .ok bs =>
      if n != 0 && isDevice (u b 8 8) && dmcRefuses p.dmc then
        let off := lineOffset (u b 8 8) (min (failAt.getD 0) n)
        failDescriptor ch 2 off (onStream ch (fun c => { c with bytes := c.bytes + off })
          (moveBytes b (bs.take off) p))
      else if n != 0 && !isDevice (u b 8 8) && !p.hostif.linkUp then
        onStream ch (fun c => { c with state := .stopped }) p
      else
        let check := checkFrom c.alg (chainStart c b) bs
        let p := writeBack c.desc 0 0 check (c.alg != 0) (moveBytes b bs p)
        onStream ch (fun c => { c with bytes := (c.bytes + n) % 2 ^ 64, running := check, first := false, atLink := true,
                                       linkIssued := true, extendPending := false }) p

/-- DESCRIPTOR_COMPLETE: the current descriptor of a running chain has been fetched, moved and answered (R528 to R531); a
failed fetch halts the channel. -/
def execDescriptorComplete (channel : Fin 64) (descriptor data : Answer) (failAt : Option Nat) : State → Out :=
  effect fun p =>
    let c := p.streamCh channel
    when (c.state == .running && !c.source && !c.atLink) (fun p =>
      match pieceRead p c.desc 64 descriptor with
      | .ok b => runDescriptor channel b data failAt p
      | .error _ => onStream channel (fun c => { c with state := .halted, err := 1 }) p) p

/-- CHAIN_LINK_READ: the engine follows the link, parks on END, or reads again after a doorbell; a failed read halts the
channel (R531, R532). -/
def execChainLinkRead (channel : Fin 64) (answer : Answer) : State → Out := effect fun p =>
  let c := p.streamCh channel
  when ((c.state == .running || c.state == .parked) && c.atLink && c.linkIssued) (fun p =>
    match pieceRead p (c.desc + 32) 8 answer with
    | .error _ => onStream channel (fun c => { c with state := .halted, err := 1, atLink := false, linkIssued := false }) p
    | .ok w =>
      let l := leNat w
      if l % 2 == 0 then
        onStream channel (fun c => { c with state := .running, desc := l / 64 * 64, atLink := false, linkIssued := false }) p
      else if c.extendPending then onStream channel (fun c => { c with extendPending := false }) p
      else onStream channel (fun c => { c with state := .parked, linkIssued := false }) p) p

/-- A write of STREAM_CHn_EXTEND: a doorbell after the link read was issued sets EXTEND_PENDING; on a parked chain the engine reads the link
again (R532). -/
def extendChain (channel : Nat) (p : Piece) : Piece :=
  let c := p.streamCh channel
  if c.source || !c.atLink then p
  else if c.linkIssued then onStream channel (fun c => { c with extendPending := true }) p
  else if c.state == .parked then onStream channel (fun c => { c with linkIssued := true, extendPending := false }) p
  else p

/-- CHAIN_EXTEND (R532). -/
def execChainExtend (channel : Fin 64) : State → Out := effect (extendChain channel)

/-! ### Rings (R535 to R539) -/

/-- The ring's CONSUMED as it stands: read from device DRAM, or as last read from the host. -/
def consumedOf (p : Piece) (r : StreamRing) : Nat × Nat :=
  if isDevice r.consumerAddr then
    let v := leNat (memRead p.dmc.dram (deviceAddr r.consumerAddr) 8)
    (v / 2 ^ 40, v % 2 ^ 40)
  else (r.consumedPass, r.consumedOff)

/-- Bytes of a ring. -/
def StreamRing.size (r : StreamRing) : Nat := r.length * 64

/-- The bytes an entry may still take before it meets what the consumer has not read (R536). -/
def ringRoom (p : Piece) (r : StreamRing) : Nat :=
  let (cp, co) := consumedOf p r
  if cp == r.pass % 2 ^ 24 then (r.size - r.off) + min co ((r.staged.getD r.length) * 64)
  else co - r.off

/-- The ring holds no entry. -/
def ringEmpty (p : Piece) (r : StreamRing) : Bool := consumedOf p r == (r.pass % 2 ^ 24, r.off)

/-- The ring's position and pass after one more byte run, wrapping at its end, where a staged length takes effect (R538). -/
def ringAdvance (r : StreamRing) (n : Nat) : StreamRing :=
  if r.off + n < r.size then { r with off := r.off + n }
  else
    let rest := r.off + n - r.size
    { r with off := rest, pass := (r.pass + 1) % 2 ^ 24, lastEnd := r.size, length := r.staged.getD r.length, staged := none }

/-- The pieces of an entry as they lie in the ring: address and bytes. -/
def ringPieces (r : StreamRing) (bs : Bytes) : List (Nat × Bytes) :=
  let n := r.size - r.off
  if bs.length ≤ n then [(r.base + r.off, bs)] else [(r.base + r.off, bs.take n), (r.base, bs.drop n)]

/-- The engine's index words PRODUCED, LAST_END and CHECK (R536). -/
def indexBlock (r : StreamRing) : Bytes :=
  leBytes 8 (r.pass % 2 ^ 24 * 2 ^ 40 + r.off) ++ leBytes 8 r.lastEnd ++ leBytes 8 r.check

/-- A framed entry, or a stamp record or VDIF frame as it is (R535). -/
def entryBytes (c : StreamChannel) (i : StreamItem) : Bytes :=
  if i.kind == 0 || i.kind == 256 then i.record
  else
    padTo 16 (leBytes 4 c.entrySeq ++ leBytes 1 i.kind ++ [0xFF] ++ leBytes 1 i.panelType ++ leBytes 1 i.inst ++
      leBytes 4 i.record.length ++ zeros 4 ++ i.record)

/-- Whether an entry fits now. -/
def entryFits (p : Piece) (c : StreamChannel) (i : StreamItem) : Bool :=
  c.ring.length != 0 && decide ((entryBytes c i).length ≤ ringRoom p c.ring) && decide ((entryBytes c i).length ≤ c.ring.size)

/-- Writes one entry that fits, with its index block (R535, R536). -/
def writeEntry (ch : Nat) (i : StreamItem) (p : Piece) : Piece :=
  let c := p.streamCh ch
  let bs := entryBytes c i
  let p := (ringPieces c.ring bs).foldl (fun p x => (pieceWrite x.1 x.2 p).1) p
  let check := if c.alg == 0 then 0 else checkFrom c.alg c.ring.check bs
  let r := { ringAdvance c.ring bs.length with check := check }
  let p := onStream ch (fun c =>
    { c with ring := r, bytes := (c.bytes + bs.length) % 2 ^ 64
             entrySeq := if i.kind == 0 || i.kind == 256 then c.entrySeq else wrap32 c.entrySeq 1 }) p
  (pieceWrite (c.ring.consumerAddr + 8) (indexBlock r) p).1

/-- The GAP entry of a channel (R496, R537). -/
def gapItem (ch : Nat) (c : StreamChannel) : StreamItem :=
  { channel := ch, kind := 0x01, panelType := 0x0D, record := leBytes 4 c.lost ++ zeros 4 ++ leBytes 8 c.lostMint }

/-- The ring takes no writes: disabled, stopped, or in frozen device DRAM (R537, R539). -/
def ringBlocked (p : Piece) (c : StreamChannel) : Bool :=
  c.state != .running || c.ring.length == 0 || (isDevice c.ring.base && dmcRefuses p.dmc) ||
  (!isDevice c.ring.base && !p.hostif.linkUp)

/-- Writes the staged entries that fit, oldest first, then the GAP that is due (R537). -/
def flushRing : Nat → Nat → Piece → Piece
  | 0, _, p => p
  | k + 1, ch, p =>
    let c := p.streamCh ch
    if ringBlocked p c then p
    else
      match c.staging with
      | i :: rest =>
        if entryFits p c i then flushRing k ch (writeEntry ch i (onStream ch (fun c => { c with staging := rest }) p)) else p
      | [] =>
        let g := gapItem ch c
        if 0 < c.lost && !c.vdifMode && entryFits p c g then
          writeEntry ch g (onStream ch (fun c => { c with lost := 0 }) p)
        else p

/-- The bytes that wait in the staging share (R524). -/
def stagedBytes (c : StreamChannel) : Nat := (c.staging.map fun i => (entryBytes c i).length).sum

/-- An entry is dropped whole and counted, with the drops of the next GAP (R537). -/
def dropEntry (ch : Nat) (p : Piece) : Piece :=
  onStream ch (fun c =>
    { c with dropped := sat32 c.dropped 1, lost := c.lost + 1, lostMint := if c.lost == 0 then p.now else c.lostMint }) p

/-- An entry waits in the channel's share of 128 KiB, or is dropped where that is full (R524, R537). -/
def stageEntry (ch : Nat) (i : StreamItem) (p : Piece) : Piece :=
  let c := p.streamCh ch
  if stagedBytes c + (entryBytes c i).length ≤ 131072 then onStream ch (fun c => { c with staging := c.staging ++ [i] }) p
  else dropEntry ch p

/-- An entry is written, staged, or dropped whole and counted (R524, R537, R542); while the memory or the host link has no capacity
left for it, it is staged or dropped (R34, R35). -/
def enterRing (ch : Nat) (i : StreamItem) (p : Piece) : Piece :=
  let full := p.stream.pathFull
  let p := when (!full) (flushRing ((p.streamCh ch).staging.length + 1) ch) p
  let c := p.streamCh ch
  if ringBlocked p c || (0 < c.lost && !c.vdifMode) then dropEntry ch p
  else if !full && c.staging.isEmpty && entryFits p c i then writeEntry ch i p
  else stageEntry ch i p

/-- Whether the memory or the host link has no capacity left for an item, where the sender of the row says that real-time demand
exceeds it: the raw stamp log yields to any demand (R34), and the host link carries less than every sample stream below 64 GT/s
(R35). -/
def pathIsFull (noRoom : Bool) (p : Piece) (i : StreamItem) : Bool :=
  noRoom && (i.rawLog || (!i.samples.isEmpty && !isDevice (p.streamCh i.channel).ring.base && decide (p.hostif.rate < 6)))

/-! ### VDIF (R540 to R542) -/

/-- The day number since 1970-01-01 of half-year k, counted from 1970: 1 January for even k, 1 July for odd. -/
def halfYearDay (k : Nat) : Nat :=
  let y := 1970 + k / 2
  let leaps (y : Nat) : Nat := y / 4 - y / 100 + y / 400
  let leap := (y % 4 == 0 && y % 100 != 0) || y % 400 == 0
  365 * (y - 1970) + (leaps (y - 1) - leaps 1969) + (if k % 2 == 1 then (if leap then 182 else 181) else 0)

/-- The latest half-year that starts at or before a day. -/
def halfYearOf (day : Nat) : Nat := ((List.range 400).filter fun k => decide (halfYearDay k ≤ day)).length - 1

/-- Frames per second of a sample stream on a channel, where it is whole (R541). -/
def framesPerSecond (c : StreamChannel) (i : StreamItem) : Option Nat :=
  let a := ticksPerSecond * 65536 * (if i.complex then 2 else 1) * vdifBits c.seed
  let b := i.period * 8 * vdifBytes c.seed
  if b != 0 && a % b == 0 && a / b != 0 then some (a / b) else none

/-- The code of a sample (R541). -/
def vdifCode (seed : Nat) (x : Int) : Nat :=
  let t : Int := vdifThresh seed
  match vdifBits seed with
  | 2 => if x < -t then 0 else if x < 0 then 1 else if x < t then 2 else 3
  | 8 => (satW 8 (rnd x (vdifShift seed)) + 128).toNat
  | _ => twos 16 (x + 32768)

/-- Codes of a width packed from bit 0 upwards into bytes. -/
def packCodes (bits : Nat) (codes : List Nat) : Bytes :=
  if bits == 16 then codes.flatMap (leBytes 2)
  else if bits == 8 then codes.map (BitVec.ofNat 8)
  else (chunks 4 codes.length codes).map fun q =>
    BitVec.ofNat 8 (nth q 0 + nth q 1 * 4 + nth q 2 * 16 + nth q 3 * 64)

/-- A whole VDIF frame (R540, R541): its header of 32 bytes and its data. -/
def vdifFrame (c : StreamChannel) (v : Vdif) (codes : List Nat) (invalid : Bool) : Bytes :=
  let sec := v.seconds + v.frames / v.framesPerSecond
  leBytes 4 (flag invalid 31 + sec % 2 ^ 30) ++
  leBytes 4 (v.refEpoch % 64 * 2 ^ 24 + v.frames % v.framesPerSecond) ++
  leBytes 4 (Config.vdifVersion % 8 * 2 ^ 29 + (32 + vdifBytes c.seed) / 8) ++
  leBytes 4 (flag v.complex 31 + (vdifBits c.seed - 1) * 2 ^ 26 + field c.streamId 0 10 * 2 ^ 16 + field c.streamId 16 16) ++
  zeros 16 ++ packCodes (vdifBits c.seed) codes

/-- The moment of a whole Ledger second at a sample, if one lies after the sample before and not after this one: its rendered
second (R541). -/
def secondStart (p : Piece) (t : T16) (period : Nat) : Option Int :=
  let m := mappingAt p.ledger t
  let k := m.exact t / secondUnits
  if m.exact (t - period) < k * secondUnits then some (k + p.clocks.timecode.utcOffset) else none

/-- Takes one sample time of a block into the frame in the making; emits the frame when it is full. `xs` are the components. -/
def vdifTake (ch : Nat) (t : T16) (period : Nat) (valid : Bool) (xs : List Int) (p : Piece) : Piece :=
  let c := p.streamCh ch
  match c.vdif with
  | none => p
  | some v =>
    let v := if v.started then v
      else match secondStart p t period with
        | some s =>
          let k := halfYearOf (s / 86400).toNat
          { v with started := true, refEpoch := (k + 64 * 64 - 60) % 64, seconds := (s - halfYearDay k * 86400).toNat }
        | none => v
    if !v.started then p
    else
      let codes := v.codes ++ xs.map (vdifCode c.seed)
      let invalid := v.invalid || !valid
      if codes.length * vdifBits c.seed < 8 * vdifBytes c.seed then
        onStream ch (fun c => { c with vdif := some { v with codes := codes, invalid := invalid } }) p
      else
        let bs := vdifFrame c v codes invalid
        enterRing ch { channel := ch, kind := 256, record := bs }
          (onStream ch (fun c => { c with vdif := some { v with codes := [], invalid := false, frames := v.frames + 1 } }) p)

/-- A sample block reaches a VDIF channel (R541): its one stream, or counted as refused. -/
def vdifBlock (ch : Nat) (i : StreamItem) (p : Piece) : Piece :=
  let c := p.streamCh ch
  let refuse := onStream ch fun c => { c with refused := sat32 c.refused 1 }
  let same (v : Vdif) : Bool := v.panelType == i.panelType && v.inst == i.inst && v.sub == i.sub
  let run (p : Piece) : Piece :=
    let w := if i.complex then 2 else 1
    (List.range (i.samples.length / w)).foldl (fun (p : Piece) (k : Nat) =>
      vdifTake ch (i.time + ((k * i.period : Nat) : Int)) i.period (decide (i.firstValid ≤ k) || decide (k < i.invalidFrom))
        ((i.samples.drop (w * k)).take w) p) p
  if i.kind != 0x10 then refuse p
  else
    match c.vdif with
    | some v => if same v then run p else refuse p
    | none =>
      match framesPerSecond c i with
      | some f =>
        if p.clocks.timecode.offsetSet then
          run (onStream ch (fun c => { c with vdif := some { panelType := i.panelType, inst := i.inst, sub := i.sub,
                                                              framesPerSecond := f, complex := i.complex } }) p)
        else refuse p
      | none => refuse p

/-- SOURCE_RECORD_ARRIVE: the oldest record on its way reaches its channel (R523, R537, R541); `noRoom`: real-time demand exceeds
what the memory or the host link sustains as it arrives (R34, R35). -/
def execSourceRecordArrive (s : State) (noRoom : Bool := false) : Out :=
  effect (fun p =>
  match p.stream.arrivals with
  | [] => p
  | i :: rest =>
    let p := { p with stream := { p.stream with arrivals := rest, pathFull := pathIsFull noRoom p i } }
    let c := p.streamCh i.channel
    if c.state == .closed then p
    else if !c.source then onStream i.channel (fun c => { c with refused := sat32 c.refused 1 }) p
    else if c.vdifMode then vdifBlock i.channel i p
    else enterRing i.channel i p) s

/-- RING_CONSUMER_REREAD: CONSUMED is read again, and what waits is written (R536, R537). -/
def execRingConsumerReread (channel : Fin 64) (consumer : Answer) : State → Out := effect fun p =>
  let p := match consumer with
    | .data bs => onStream channel (fun c => { c with ring := { c.ring with consumedPass := u bs 5 3, consumedOff := u bs 0 5 } }) p
    | _ => p
  flushRing ((p.streamCh channel).staging.length + 1) channel p

/-- STREAM_RING_SET (R509, R522, R538, R539). -/
def actRingSet : Act := simple fun f p =>
  let b := f.body
  let ch := u b 0 1
  let len := u b 4 4
  let base := u b 8 8
  let cons := u b 16 8
  let c := p.streamCh ch
  let fresh : StreamRing := { base := base, length := len, consumerAddr := cons, check := if c.vdifMode then 0 else c.seed }
  guarded ((decide (63 < ch) || !isZero (slice b 1 3) || base % 64 != 0 || cons % 32 != 0 ||
        !rangeOk p.dmc base (64 * len) || !rangeOk p.dmc cons 32, stRange) :: ownedRules p f ch (!c.source)) p
    (if len == 0 then (onStream ch (fun c => { c with state := .idle, ring := fresh }) p, .done stOk [0])
     else if c.state == .running && c.ring.base == base && c.ring.consumerAddr == cons && !ringEmpty p c.ring then
       (onStream ch (fun c => { c with ring := { c.ring with staged := if len == c.ring.length then none else some len } }) p,
        .done stOk [flag (len != c.ring.length) 0])
     else (onStream ch (fun c => { c with state := .running, ring := fresh }) p, .done stOk [0]))

def execStreamRingSet (c : Cmd) : State → Out := effect (runCommand 0x0A03 c actRingSet)

/-! ### CHECK (R547, R548, R511) -/

/-- Changes one check unit. -/
def onUnit (i : Nat) (f : CheckUnit → CheckUnit) (p : Piece) : Piece :=
  { p with check := { p.check with units := upd p.check.units i f } }

/-- The scan in a body (R511). -/
def scanOf (b : Bytes) (session : Nat) : Scan :=
  let fl := u b 2 1
  { alg := u b 1 1, compare := bitAt fl 7, hallmark := bitAt fl 6, periodic := bitAt fl 5, period := u b 4 4,
    start := u b 8 8, length := u b 16 8, expected := u b 24 8, seed := u b 32 8, session := session }

/-- The check value of a scan's data (R546, R547). -/
def scanValue (s : Scan) (data : Bytes) : Nat :=
  checkFrom s.alg (if s.hallmark then checkFrom s.alg s.seed (hallmark s.start 0 0) else s.seed) data

/-- A unit takes a scan: it starts, but for an empty one, which needs no pass (R511). -/
def beginScan (i : Nat) (s : Scan) (p : Piece) : Piece :=
  onUnit i (fun x => { x with scan := if s.length == 0 then none else some s, scanning := s.length != 0, replacing := none,
                              alg := s.alg, compare := s.compare, hallmark := s.hallmark }) p

/-- A value is known: it is recorded and compared, and a mismatch is counted and latched (R547, R548). -/
def recordScan (i : Nat) (s : Scan) (v : Nat) (p : Piece) : Piece :=
  let bad := s.compare && v != s.expected
  let p := onUnit i (fun x => { x with value := v, passes := wrap32 x.passes 1,
                                       mismatch := if bad then sat32 x.mismatch 1 else x.mismatch }) p
  when bad (raiseAlarm 0x0600 0x0E 0) p

/-- Result words of a scan (R511). -/
def scanWords (s : Scan) (v : Nat) : List Nat := [low32 v, high32 v, flag (s.compare && v == s.expected) 0]

/-- CHECK_SCAN (R511, R547). A command that replaces a periodic scan whose pass runs waits under index unit + 8. -/
def actCheckScan : Act := simple fun f p =>
  let b := f.body
  let i := u b 0 1
  let s := scanOf b f.session
  let x := nth p.check.units i
  guarded
    [ (s.periodic && s.period == 0, stZero),
      (decide (7 < i) || s.alg == 0 || decide (4 < s.alg) || u b 2 1 % 32 != 0 || u b 3 1 != 0 ||
        !rangeOk p.dmc s.start s.length, stRange),
      (i == 7 || x.replacing.isSome || (match x.scan with
        | some o => o.session != f.session || !o.periodic
        | none => false), stBusy) ] p
    (if x.scanning then (onUnit i (fun x => { x with replacing := some s }) p, .wait .checkScan (i + 8) [])
     else if s.length == 0 then
       let v := scanValue s []
       (recordScan i s v (beginScan i s p), .done stOk (scanWords s v))
     else (beginScan i s p, .wait .checkScan i []))

def execCheckScan (c : Cmd) : State → Out := effect (runCommand 0x0A05 c actCheckScan)

/-- Moves the command that waits for a replacing scan to its unit. -/
def promoteScan (i : Nat) (p : Piece) : Piece :=
  match p.transport.flights.find? fun f =>
      match f.progress with
      | .waiting .checkScan k _ => k == i + 8
      | _ => false with
  | some f => setFlight { f with progress := .waiting .checkScan i [] } p
  | none => p

/-- What follows a pass: a replacing scan, the wait of a periodic one, or idleness (R547). -/
def afterPass (i : Nat) (s : Scan) (go : Bool) (p : Piece) : Piece :=
  match (nth p.check.units i).replacing with
  | some r =>
    let p := promoteScan i (beginScan i r p)
    if r.length == 0 then
      let v := scanValue r []
      finishWaiting .checkScan i stOk (fun _ => scanWords r v) (recordScan i r v p)
    else p
  | none =>
    if s.periodic && go then onUnit i (fun x => { x with scanning := false, due := p.now + s.period * ticksPerMs }) p
    else onUnit i (fun x => { x with scanning := false, scan := none }) p

/-- CHECK_SCAN_PASS_DONE: the pass has read its data, from device DRAM or from the host's answer; a failed read ends the scan
(R547, R548). -/
def execCheckScanPassDone (unit : Fin 8) (answer : Answer) : State → Out := effect fun p =>
  let x := nth p.check.units unit
  match x.scan with
  | some s =>
    when x.scanning (fun p =>
      match pieceRead p s.start s.length answer with
      | .ok bs =>
        let v := scanValue s bs
        afterPass unit s true (finishWaiting .checkScan unit stOk (fun _ => scanWords s v) (recordScan unit s v p))
      | .error t => afterPass unit s false (finishWaiting .checkScan unit (transferStatus t) (fun _ => []) p)) p
  | none => p

/-- CHECK_PERIODIC_START: PERIOD has passed (R511, R547). -/
def execCheckPeriodicStart (unit : Fin 8) : State → Out := effect fun p =>
  let x := nth p.check.units unit
  match x.scan with
  | some s => when (s.periodic && !x.scanning && decide (x.due ≤ p.now)) (onUnit unit fun x => { x with scanning := true }) p
  | none => p

end Sys2Proof.Machine
end

