-- ==== Sys2Proof/Machine/XformFam.lean ====
section
/-! DEFINITION. XFORM: the grid of an engine, transform frames, detector slots, mask comparison, export (05);
XFORM_CONFIGURE, XFORM_WINDOW_LOAD, DETECTOR_SET (19 R462 to R464). -/

namespace Sys2Proof.Machine

/-- Changes one engine. -/
def onXform (i : Nat) (f : Xform → Xform) (p : Piece) : Piece := { p with xform := upd p.xform i f }

/-- Changes one channel of DENSITY. -/
def onDensityCh (i : Nat) (f : DensityChannel → DensityChannel) (p : Piece) : Piece :=
  { p with density := { p.density with channels := upd p.density.channels i f } }

/-- Changes TALLY. -/
def onTally (f : Tally → Tally) (p : Piece) : Piece := { p with tally := f p.tally }

/-- An engine. -/
def Piece.engine (p : Piece) (i : Nat) : Xform := nth p.xform i

/-- The transform length N in input samples. -/
def XformSetting.size (s : XformSetting) : Nat := 2 ^ s.len

/-- The hop H (R123). -/
def XformSetting.hop (s : XformSetting) : Nat := 2 ^ s.len / 2 ^ s.overlap

/-- Bins of a frame of an engine (R118). -/
def Xform.bins (x : Xform) : Nat := binsOf (x.input.src == 8) x.setting.len

/-- A duration of n samples of an engine's input. -/
def Xform.span (x : Xform) (n : Nat) : Int := ((n * x.input.period : Nat) : Int)

/-! ### Consumers of frames -/

/-- The span of a DENSITY channel in bins fits in a frame (R148). -/
def densityFits (c : DensityChannel) (bins : Nat) : Bool :=
  decide ((c.binLo : Rat) + 4096 * (2 : Rat) ^ c.colShift ≤ bins)

/-- An engine starts a new grid: its DENSITY channel checks its geometry again; its SPEC contexts set CFG_CHANGE
(R152, R307). -/
def newGrid (i : Nat) (p : Piece) : Piece :=
  let bins := (p.engine i).bins
  let recheck (c : DensityChannel) : DensityChannel :=
    if !c.en && c.ringRows == 0 then c
    else if densityFits c bins then { c with cfgChange := true }
    else { c with geomFault := true }
  let mark (x : Context) : Context :=
    if x.cls == .spec && x.binding / 4096 == 2 && x.binding % 4 == i then { x with sticky := x.sticky ||| 1 } else x
  onTally (fun t => { t with contexts := t.contexts.map mark }) ((fedChannels p i).foldl (fun p ch => onDensityCh ch recheck p) p)

/-- A DENSITY channel counts items or writes their rows: DENSITY_CONFIGURE with EN = 0 leaves the ring running (R160, R465). -/
def DensityChannel.live (c : DensityChannel) : Bool := c.en || c.ringRows != 0

/-- An item goes to DENSITY, where its channel takes the source, and to TALLY, by its routes (R132, R137, R146). -/
def routeItem (i route : Nat) (item : SpectrumItem) (p : Piece) : Piece :=
  let takes := bitAt route 0 && !pingpongSecond p i && (nth p.density.channels i).live && (nth p.density.channels i).src == item.src
  let p := when (takes && !(item.src == 0 && item.flags.tainted)) (onDensityCh i fun c => { c with arrivals := c.arrivals ++ [item] }) p
  when (bitAt route 1 && !item.flags.tainted) (onTally fun t => { t with items := t.items ++ [{ inst := i, item := item }] }) p

/-- The flags of a record (R142). -/
def FrameFlags.bits (f : FrameFlags) : Nat :=
  flag f.zero 0 + flag f.cfgChange 1 + flag f.hand 2 + flag f.coast 3 + flag f.post 4 + flag f.cal 5 + flag f.sat 6 +
  flag f.tainted 7 + flag f.part 8 + flag f.memErr 9

/-- The header of an exported record (R142). `kind` is its KIND byte. -/
def exportHeader (i : Nat) (x : Xform) (kind type used first count seqFirst : Nat) (exp : Int) (item : SpectrumItem) : Bytes :=
  leBytes 4 (item.seq % 2 ^ 32) ++
  leBytes 1 (x.input.src * 16 + flag x.input.paired 3 + flag (x.input.src == 8) 2 + i) ++
  leBytes 1 kind ++ leBytes 2 item.flags.bits ++ leBytes 8 item.mint ++ labelBytes item.label ++
  leBytes 1 (twos 8 exp) ++ leBytes 1 x.setting.len ++ leBytes 1 (x.setting.kaiser * 16 + x.setting.window) ++
  leBytes 1 (x.setting.overlap * 64 + type) ++ leBytes 2 used ++ leBytes 4 first ++ leBytes 4 count ++
  leBytes 4 (seqFirst % 2 ^ 32) ++ zeros 4

/-- Sends a record of an engine to its stream channel (R141, R523). -/
def sendExport (i : Nat) (x : Xform) (record : Bytes) (p : Piece) : Piece :=
  sendStream { channel := x.setting.streamCh, kind := 0x11, panelType := 0x05, inst := i, record := record } p

/-- The verdict of a frame under the mask of its channel (R138). An armed bank becomes active first (R175). -/
def compareMask (i : Nat) (item : SpectrumItem) (time : T16) (p : Piece) : Piece :=
  let p := swapMask i p
  let m := nth p.trigger.masks i
  let upper := (item.values.mapIdx fun k v => if (m.limits k).2 < v then [k] else []).flatten
  let lower := (item.values.mapIdx fun k v => if v < (m.limits k).1 then [k] else []).flatten
  let lowest := (upper ++ lower).foldl min 0xFFFFFFFF
  onTrigger (fun t => { t with verdicts := t.verdicts ++
    [{ channel := i, frameSeq := item.seq % 2 ^ 32, time := time, upper := upper.length, lower := lower.length,
       lowest := lowest, tainted := item.flags.tainted, cfgChange := item.flags.cfgChange }] }) p

/-! ### Detector slots (R134 to R137) -/

/-- Changes one slot of an engine. -/
def onDetector (i n : Nat) (f : Detector → Detector) (p : Piece) : Piece :=
  onXform i (fun x => { x with detectors := upd x.detectors n f }) p

/-- A slot of an engine. -/
def Piece.detector (p : Piece) (i n : Nat) : Detector := nth (p.engine i).detectors n

/-- Combines two tables entry by entry; beyond the end of one table the other stands alone, as after a restart with another number
of bins (R135). -/
def combineWith (f : α → α → α) : List α → List α → List α
  | [], b => b
  | a, [] => a
  | x :: a, y :: b => f x y :: combineWith f a b

/-- The flags of a detected frame from those of its frames (log entry 33). -/
def FrameFlags.join (a b : FrameFlags) : FrameFlags :=
  { a with cfgChange := a.cfgChange || b.cfgChange, hand := a.hand || b.hand, post := a.post || b.post,
           cal := a.cal || b.cal, sat := a.sat || b.sat, memErr := a.memErr || b.memErr }

/-- A frame enters the open group of a slot, its powers `ps` and its values in centibels (R134, R135). -/
def takeFrame (item : SpectrumItem) (time : T16) (ps : List Rat) (d : Detector) : Detector :=
  let g := d.group
  let g : Group := if g.count == 0 then
      { firstSeq := item.seq, firstTime := time, label := item.label, coast := item.flags.coast } else g
  let g := { g with count := g.count + 1, flags := g.flags.join item.flags }
  if item.flags.tainted then { d with group := g }
  else
    let v := item.values
    let w : Rat := 1 / 2 ^ d.setting.alpha
    { d with
      group := { g with used := g.used + 1
                        sumP := combineWith (· + ·) g.sumP ps
                        sumP2 := combineWith (· + ·) g.sumP2 (ps.map fun x => x * x)
                        sumLog := combineWith (· + ·) g.sumLog v
                        greatest := combineWith max g.greatest v
                        least := combineWith min g.least v
                        last := v }
      rms := combineWith (fun q x => q + (x - q) * w) d.rms ps
      maxHold := combineWith max d.maxHold v
      minHold := combineWith min d.minHold v }

/-- The spectral kurtosis of a bin as 3.12 fixed point (R136). -/
def kurtosis (m : Nat) (s1 s2 : Rat) : Int :=
  if s1 = 0 || m < 2 then 0
  else
    let sk : Rat := ((m : Rat) + 1) / (m - 1) * (m * s2 / (s1 * s1) - 1)
    max 0 (min 32767 (roundRat (sk * 4096)))

/-- The values of a detected frame (R135); `free` draws the deviation of linear sums (log entry 10). -/
def detectedValues (free bins : Nat) (d : Detector) : List Int :=
  let g := d.group
  if d.setting.type == 8 then
    if g.used < 2 then List.replicate bins 0 else List.zipWith (kurtosis g.used) g.sumP g.sumP2
  else if g.used == 0 then List.replicate bins (-32768)
  else
    match d.setting.type with
    | 0 => g.greatest
    | 1 => g.least
    | 2 => g.last
    | 3 => g.sumP.mapIdx fun k s => centibels (Config.powerDeviation free k) (s / g.used)
    | 4 => g.sumLog.map fun s => roundDiv s g.used
    | 5 => (d.rms.take bins).mapIdx fun k q => centibels (Config.powerDeviation free k) q
    | 6 => d.maxHold.take bins
    | _ => d.minHold.take bins

/-- A slot closes its open group and issues its detected frame (R134, R137). -/
def issueGroup (i n : Nat) (p : Piece) : Piece :=
  let x := p.engine i
  let d := p.detector i n
  let g := d.group
  if g.count == 0 then p
  else
    let (p, free) := draw p
    let tainted := g.used == 0 || (d.setting.type == 8 && decide (g.used < 2))
    let item : SpectrumItem :=
      { src := n + 1, seq := d.seq % 2 ^ 32, mint := (T16.tick g.firstTime).toNat, label := g.label
        flags := { g.flags with zero := false, coast := g.coast, tainted := tainted, part := decide (g.used < d.setting.count) }
        values := detectedValues free x.bins d }
    let p := onDetector i n (fun d => { d with seq := wrap32 d.seq 1, lastSeq := d.seq, group := {} }) p
    let p := when (x.setting.maskSrc == n + 2) (compareMask i item g.firstTime) p
    let p := routeItem i d.setting.route item p
    let record := exportHeader i x (n * 64 + 2) d.setting.type g.used 0 item.values.length g.firstSeq 0 item ++
      item.values.flatMap fun v => leBytes 2 (twos 16 v)
    when (bitAt d.setting.route 2) (sendExport i x record) p

/-- Every slot closes its open group (R137). -/
def issueGroups (i : Nat) (p : Piece) : Piece := (List.range 4).foldl (fun p n => issueGroup i n p) p

/-- A slot is set: its open group is issued, and what it accumulates starts anew with the next frame (R135, R137). -/
def setDetector (i n : Nat) (s : DetectorSetting) (p : Piece) : Piece :=
  let p := issueGroup i n p
  let p := onDetector i n (fun d => { d with setting := s, group := {}, rms := [], maxHold := [], minHold := [] }) p
  finishWaiting .detector (4 * i + n) stOk (fun _ => [(p.engine i).frameSeq]) p

/-- The settings of one slot that the frame with this last sample opens, in the order of their commands (R464). -/
def applyDetector (i n : Nat) (last : T16) (p : Piece) : Piece :=
  let due (e : DetectorSetting × Nat) : Bool := decide ((e.2 : Int) ≤ T16.tick last)
  let now := (p.detector i n).next.filter due
  let p := onDetector i n (fun d => { d with next := d.next.filter fun e => !due e }) p
  now.foldl (fun p e => setDetector i n e.1 p) p

/-- The settings of slots that the frame with this last sample opens (R464). -/
def applyDetectors (i : Nat) (last : T16) (p : Piece) : Piece := (List.range 4).foldl (fun p n => applyDetector i n last p) p

/-- A slot takes a frame, and issues its group once it holds D frames. -/
def feedDetector (i n : Nat) (item : SpectrumItem) (time : T16) (ps : List Rat) (p : Piece) : Piece :=
  if !(p.detector i n).setting.en then p
  else
    let p := onDetector i n (takeFrame item time ps) p
    let d := p.detector i n
    when (decide (d.setting.count ≤ d.group.count)) (issueGroup i n) p

/-! ### The grid (R124 to R126) -/

/-- An engine drops samples before the next frame, remembering a POSTJUMP sample among them but for one whose frame has begun
at it (R133). -/
def dropSamples (n : Nat) (seenFirst : Bool) (x : Xform) : Xform :=
  let gone := x.buffer.take n
  let gone := if seenFirst then gone.drop 1 else gone
  { x with buffer := x.buffer.drop n, head := x.head + x.span n, postDue := x.postDue || gone.any (·.post) }

/-- A frame of the old grid is still whole before a moment: its span ends at or before it. -/
def frameBefore (x : Xform) (r : T16) : Bool := decide (x.head + x.span x.setting.size ≤ r)

/-- The restart sample of the first pending setting: the first sample of the first block of its input that begins at or after its
tick, once such a block is known (R125). -/
def restartSample (p : Piece) (i : Nat) : Option T16 :=
  let x := p.engine i
  match x.next, streamStart p i x.input.src with
  | (_, tick) :: _, some s =>
    let len : Int := ((blockLen * x.input.period : Nat) : Int)
    let t := T16.ofTick tick
    if s < t then none else some (max x.head (s - len * ((s - t) / len)))
  | _, _ => none

/-- What the commands of the grid in the making wait on, and those of the last grid to come. -/
def gridKey (i : Nat) (x : Xform) : Nat := i + 4 * x.gridId
def lastGridKey (i : Nat) (x : Xform) : Nat := i + 4 * (x.gridId + x.after.length)

/-- With MASK_SRC NONE an armed bank of the mask becomes active at once (R175). -/
def settleMask (i : Nat) (p : Piece) : Piece := when ((p.engine i).setting.maskSrc == 0) (swapMask i) p

/-- The new grid begins at a restart sample: the open groups close, CFG_CHANGE is due (R125, R137, R152). -/
def beginGrid (i : Nat) (change : Xform → Xform) (p : Piece) : Piece :=
  settleMask i (newGrid i (onXform i (fun x => { change x with cfgChange := true }) (issueGroups i p)))

/-- A moment is no later than the disable of the grid in the making. -/
def beforeEnd (x : Xform) (t : T16) : Bool :=
  match x.ending with
  | some e => decide (t < T16.ofTick e)
  | none => true

/-- A restart for new settings that is due, once no whole frame of the old configuration is left before the restart sample; its
XFORM_CONFIGURE completes (R125). -/
def restartFor (i : Nat) (r : T16) (s : XformSetting) (p : Piece) : Piece :=
  let p := beginGrid i (fun x =>
    { dropSamples ((r - x.head).toNat / x.input.period) false x with setting := s, next := x.next.drop 1 }) p
  finishWaiting .xformGrid (gridKey i (p.engine i)) stOk
    (fun _ => [low32 (T16.tick r).toNat, high32 (T16.tick r).toNat, (p.engine i).frameSeq]) p

/-- A restart for a new input, with its samples (R125). -/
def restartInput (i : Nat) (input : XInput) (start : T16) (samples : List XSample) (p : Piece) : Piece :=
  beginGrid i (fun x =>
    { x with input := input, head := start, postDue := x.postDue || x.buffer.any (·.post), buffer := samples, incoming := none }) p

/-- The restart that is due (R125). -/
def restartGrid (i : Nat) (p : Piece) : Piece :=
  let x := p.engine i
  match x.next, restartSample p i, x.incoming with
  | (s, _) :: _, some r, none => if frameBefore x r || !beforeEnd x r then p else restartFor i r s p
  | (s, _) :: _, some r, some (input, start, samples) =>
    if r < start then (if frameBefore x r || !beforeEnd x r then p else restartFor i r s p)
    else if x.setting.size ≤ x.buffer.length || !beforeEnd x start then p
    else restartInput i input start samples p
  | _, _, some (input, start, samples) =>
    if x.setting.size ≤ x.buffer.length || !beforeEnd x start then p else restartInput i input start samples p
  | _, _, none => p

/-- XFORM_GRID_RESTART (R125). -/
def execXformGridRestart (engine : Fin 4) : State → Out := inIsland (0x18 + engine.val) (restartGrid engine)

/-- Samples of a block reach an engine that has no grid yet: the grid begins at START_MINT, or with the first block that
begins at the tick of R124. A POSTJUMP sample before the grid marks its first frame (R133). -/
def openGrid (i : Nat) (input : XInput) (start : T16) (samples : List XSample) (t : T16) (p : Piece) : Piece :=
  let x := p.engine i
  let k := if x.fromBlock then (if t ≤ start then 0 else samples.length) else ceilDiv (t - start).toNat input.period
  if samples.length ≤ k then onXform i (fun x => { x with postDue := x.postDue || samples.any (·.post) }) p
  else
    let head := start + ((k * input.period : Nat) : Int)
    let p := onXform i (fun x => { x with input := input, head := head, buffer := samples.drop k, from_ := none
                                          postDue := x.postDue || (samples.take k).any (·.post) }) p
    let p := when x.cfgChange (newGrid i) p
    finishAllWaiting .xformGrid (gridKey i x) stOk
      (fun _ => [low32 (T16.tick head).toNat, high32 (T16.tick head).toNat, x.frameSeq]) p

/-- A block of the stream that an engine takes reaches the grid in the making: its samples follow those it holds, or belong to a
new input (R124, R125). -/
def feedGrid (i : Nat) (input : XInput) (start : T16) (samples : List XSample) (p : Piece) : Piece :=
  let x := p.engine i
  match x.from_, x.incoming with
  | some t, _ => openGrid i input start samples t p
  | none, some (input', start', held) =>
    if input' == input && start == start' + ((held.length * input.period : Nat) : Int)
    then onXform i (fun x => { x with incoming := some (input', start', held ++ samples) }) p
    else onXform i (fun x => { x with incoming := some (input, start, samples), postDue := x.postDue || held.any (·.post) }) p
  | none, none =>
    if x.input == input && start == x.head + x.span x.buffer.length
    then onXform i (fun x => { x with buffer := x.buffer ++ samples }) p
    else onXform i (fun x => { x with incoming := some (input, start, samples) }) p

/-- A block of the stream that an engine takes: for the grid in the making, and kept for the grids to come. -/
def feedXform (i : Nat) (input : XInput) (start : T16) (samples : List XSample) (p : Piece) : Piece :=
  let x := p.engine i
  if !x.en then p
  else
    feedGrid i input start samples
      (when (!x.after.isEmpty) (onXform i fun x => { x with backlog := x.backlog ++ [(input, start, samples)] }) p)

/-- A grid to come is the grid in the making: the blocks that have come for it are its input (R124, R145). -/
def followGrid (i : Nat) (g : NextGrid) (rest : List NextGrid) (p : Piece) : Piece :=
  let blocks := (p.engine i).backlog
  let p := onXform i (fun x => { x with
    setting := g.setting, next := g.next, ending := g.ending, from_ := some g.from_, fromBlock := g.fromBlock, buffer := []
    incoming := none, cfgChange := g.continues, postDue := g.continues && (x.postDue || x.buffer.any (·.post))
    frameSeq := if g.continues then x.frameSeq else 0, after := rest, backlog := [], gridId := x.gridId + 1 }) p
  blocks.foldl (fun p b => feedXform i b.1 b.2.1 b.2.2 p) (settleMask i p)

/-- No grid follows: the engine is disabled, with the settings commanded last. -/
def idleXform (x : Xform) : Xform :=
  { x with en := false, ending := none, next := [], buffer := [], incoming := none, from_ := none, cfgChange := false
           postDue := false, backlog := [], setting := commandedXform x, parked := none }

/-- The grid of an engine has ended: its groups close, its commands complete with its last frame, and the next grid follows, or the
engine is disabled (R126, R137). -/
def endGrid (i : Nat) (p : Piece) : Piece :=
  let p := issueGroups i p
  let x := p.engine i
  let words := [low32 x.lastMint, high32 x.lastMint, x.lastSeq]
  let p := finishAllWaiting .xformEnd (gridKey i x) stOk (fun _ => words)
    (finishAllWaiting .xformGrid (gridKey i x) stOk (fun _ => words) p)
  match x.after with
  | g :: rest => followGrid i g rest p
  | [] => settleMask i (onXform i idleXform p)

/-- The grid in the making begins only after a moment, or not at all: no block of its input that is known begins it before (R124,
R126). -/
def beginsAfter (p : Piece) (i : Nat) (from_ t : T16) : Bool :=
  let src := (nth p.chan i).xformSrc
  match streamStart p i src with
  | none => true
  | some s =>
    let k := if src == 8 then 0 else (nth (nth p.chan i).ddcs src).setting.k
    let len := blockLen * inputPeriod (pairedFeed p i) * 2 ^ k
    let first := if (p.engine i).fromBlock then s + ((len * ceilDiv (from_ - s).toNat len : Nat) : Int) else max s from_
    decide (t ≤ first)

/-- A disabled engine ends once every frame whose span started before the disable is done, or can no longer be completed because its
input is gone (R126). -/
def endIfDue (i : Nat) (p : Piece) : Piece :=
  let x := p.engine i
  match x.ending with
  | some e =>
    let t := T16.ofTick e
    let over_ := match x.from_ with
      | some f => beginsAfter p i f t
      | none => decide (t ≤ x.head) || (x.incoming.isSome && decide (x.buffer.length < x.setting.size))
    when over_ (endGrid i) p
  | none => p

/-! ### A transform frame (R128 to R133) -/

/-- The windowed transform of R128 at one index, times 2⁸¹. -/
def transformAt (len : Nat) (weighted : List (Int × Int)) (k : Nat) : Int × Int :=
  let terms := weighted.mapIdx fun n (x : Int × Int) =>
    let c := cosTurn (k * n % len) len
    let s := sinTurn (k * n % len) len
    (x.1 * c + x.2 * s, x.2 * c - x.1 * s)
  ((terms.map (·.1)).sum, (terms.map (·.2)).sum)

/-- Every bin of a frame in the order of R119, times 2⁸¹. -/
def transform (real : Bool) (q : List Int) (samples : List XSample) : List (Int × Int) :=
  let len := samples.length
  let weighted := List.zipWith (fun w (s : XSample) => (w * s.re, w * s.im)) q samples
  (List.range (if real then len / 2 else len)).map fun j =>
    transformAt len weighted (if real then j else (j + len / 2) % len)

/-- A component rounded half up at an exponent (R129). -/
def mantissaAt (e : Int) (x : Int) : Int := rnd x (81 + e).toNat

/-- Every component fits in 18 bits at an exponent. -/
def fitsAt (e : Int) (xs : List (Int × Int)) : Bool :=
  let fits (x : Int) : Bool := decide (-131072 ≤ mantissaAt e x) && decide (mantissaAt e x ≤ 131071)
  xs.all fun x => fits x.1 && fits x.2

/-- The smallest exponent from −8 upwards at which a frame fits (R129). -/
def frameExponent (xs : List (Int × Int)) : Int :=
  (((List.range 64).map fun (k : Nat) => (k : Int) - 8).find? fun e => fitsAt e xs).getD 55

/-- A radix stage may shift: the magnitudes of the weighted samples could together leave the 18-bit range at the lowest exponent. Where
they cannot, no component of any stage leaves it and nothing is rounded (R128). -/
def stagesShift (q : List Int) (samples : List XSample) : Bool :=
  decide (131071 * 2 ^ 9 < (List.zipWith (fun w (s : XSample) => (w * s.re).natAbs + (w * s.im).natAbs) q samples).sum)

/-- The highest exponent that occurs (R129). -/
def topExponent (real : Bool) : Int := if real then 13 else 17

/-- A component as the stages leave it: off the exact value by their rounding, within the range of the highest exponent (R128, R129;
log entry 10). -/
def staged (free part : Nat) (real : Bool) (x : Int) : Int :=
  let scale : Int := 2 ^ (81 + topExponent real).toNat
  max (-131072 * scale) (min (131071 * scale) (x + Config.mantissaDeviation free part))

/-- Exponent, mantissas and ZERO of a frame: the stages leave the components, and the normalisation follows (R128, R129). -/
def blockFloat (free : Nat) (real shifts : Bool) (xs : List (Int × Int)) : Int × List (Int × Int) × Bool :=
  let ys := if shifts then xs.mapIdx fun k x => (staged free (2 * k) real x.1, staged free (2 * k + 1) real x.2) else xs
  let e := frameExponent ys
  let ms := ys.map fun y => (mantissaAt e y.1, mantissaAt e y.2)
  if ms.all fun m => m.1 == 0 && m.2 == 0 then (-8, ms, true) else (e, ms, false)

/-- p_k of a bin (R130): REF is 2,048 × N × CG / 2, or 16,384 × N × CG; `sum` is N × CG × 2¹⁷. -/
def binPower (real : Bool) (sum e : Int) (m : Int × Int) : Rat :=
  let ref : Rat := (sum : Rat) / 2 ^ 17 * (if real then 1024 else 16384)
  ((m.1 * m.1 + m.2 * m.2 : Int) : Rat) * (4 : Rat) ^ e / (ref * ref)

/-- The next frame of an engine whose samples have come: it is transformed and handed to its consumers (R128 to R142). -/
def doFrame (i : Nat) (p : Piece) : Piece :=
  let x := p.engine i
  let s := x.setting
  let samples := x.buffer.take s.size
  let p := applyDetectors i (x.head + x.span (s.size - 1)) p
  let (p, free) := draw p
  let real := x.input.src == 8
  let q := windowTable s.window s.kaiser s.size (x.custom.getD [])
  let (e, ms, zero) := blockFloat free real (stagesShift q samples) (transform real q samples)
  let ps := ms.map (binPower real (windowSum q) e)
  let mark := gateMark p x.head
  let post := x.postDue || ((samples.head?).map (·.post)).getD false
  let memErr := samples.any (·.mem)
  let flags : FrameFlags :=
    { zero := zero, cfgChange := x.cfgChange, hand := samples.any (·.hand), coast := mark.coast, post := post
      cal := samples.any (·.cal), sat := samples.any (·.sat), tainted := samples.any (·.bad) || memErr, memErr := memErr }
  let item : SpectrumItem :=
    { src := 0, seq := x.frameSeq, mint := (T16.tick x.head).toNat, label := mark.label, flags := flags
      values := ps.mapIdx fun k w => centibels (Config.powerDeviation free k) w }
  let sent := (item.values.drop s.binFirst).take s.binCount
  let data := if s.complexKind
    then ((ms.drop s.binFirst).take s.binCount).flatMap fun m => leBytes 4 (twos 32 m.1) ++ leBytes 4 (twos 32 m.2)
    else sent.flatMap fun v => leBytes 2 (twos 16 v)
  let record := exportHeader i x (flag s.complexKind 0) 0 1 s.binFirst sent.length x.frameSeq (if s.complexKind then e else 0) item ++ data
  let p := when (bitAt s.route 2 && x.frameSeq % s.every == 0) (sendExport i x record) p
  let p := when (s.maskSrc == 1) (compareMask i item x.head) p
  let p := routeItem i s.route item p
  let p := (List.range 4).foldl (fun p n => feedDetector i n item x.head ps p) p
  onXform i (fun x =>
    dropSamples s.hop true
      { x with frameSeq := wrap32 x.frameSeq 1, lastSeq := x.frameSeq, lastMint := item.mint, lastExp := e, cfgChange := false
               postDue := false
               tainted := sat32 x.tainted (if flags.tainted then 1 else 0)
               overFrames := sat32 x.overFrames (if flags.sat then 1 else 0) }) p

/-- TRANSFORM_FRAME: the next frame of the grid whose samples have all come; a restart that is due comes first, and an engine
that is to end ends after its last frame (R125, R126, R128). -/
def execTransformFrame (engine : Fin 4) : State → Out := inIsland (0x18 + engine.val) fun p =>
  let p := restartGrid engine p
  let x := p.engine engine
  let ended := match x.ending with
    | some t => decide (T16.ofTick t ≤ x.head)
    | none => false
  if x.en && x.from_.isNone && !ended && decide (x.setting.size ≤ x.buffer.length) then endIfDue engine (doFrame engine p)
  else endIfDue engine p

/-! ### XFORM_CONFIGURE (R462) -/

/-- The settings in a body. -/
def xformSettingOf (b : Bytes) : XformSetting :=
  { len := u b 2 1, window := u b 3 1 % 8, kaiser := u b 3 1 / 16, overlap := u b 4 1 % 4, maskSrc := u b 5 1 % 8
    complexKind := bitAt (u b 1 1) 3, route := u b 1 1 % 8, streamCh := u b 6 1, startMint := u b 8 8, every := u b 16 2
    binFirst := u b 20 4, binCount := u b 24 4 }

/-- A STREAM_CH that a STREAM route can use (R462). -/
def streamUsable (p : Piece) (ch : Nat) : Bool := decide (ch < 64) && (p.streamCh ch).state != .closed

/-- An engine's input as commanded is real (R117). -/
def realInput (p : Piece) (i : Nat) : Bool := (commandedRoutes (nth p.chan i)).2 == 8

/-- What a body of XFORM_CONFIGURE may not hold (R462). -/
def xformRange (p : Piece) (i : Nat) (b : Bytes) : Bool :=
  let s := xformSettingOf b
  let real := realInput p i
  decide (s.len < 8) || decide ((if real then 17 else 16) < s.len) || decide (6 ≤ s.window) || decide (6 ≤ s.maskSrc) ||
  (decide (2 ≤ s.maskSrc) && (commandedDetector (p.detector i (s.maskSrc - 2))).type == 8) ||
  (decide (63 < s.streamCh) && s.streamCh != 0xFF) ||
  (bitAt s.route 2 && decide (binsOf real s.len < s.binFirst + s.binCount)) ||
  field (u b 1 1) 4 3 != 0 || bitAt (u b 3 1) 3 || u b 4 1 / 4 != 0 || u b 5 1 / 8 != 0 ||
  u b 7 1 != 0 || u b 18 2 != 0 || u b 28 4 != 0

/-- A change of the grid (R125). -/
def gridChange (a b : XformSetting) : Bool :=
  a.len != b.len || a.window != b.window || a.kaiser != b.kaiser || a.overlap != b.overlap

/-- Changes the last grid of an engine that has been commanded: its settings, those of its restarts too, and its disable. -/
def onLastGrid (f : XformSetting → XformSetting) (push : List (XformSetting × Nat)) (ending : Option Nat) (x : Xform) : Xform :=
  let restarts (l : List (XformSetting × Nat)) : List (XformSetting × Nat) := l.map (fun e => (f e.1, e.2)) ++ push
  match x.after.getLast? with
  | some g =>
    { x with after := x.after.dropLast ++ [{ g with setting := f g.setting, next := restarts g.next, ending := ending }] }
  | none => { x with setting := f x.setting, next := restarts x.next, ending := ending }

/-- Settings with the grid of others (R125). -/
def withGridOf (s g : XformSetting) : XformSetting :=
  { s with len := g.len, window := g.window, kaiser := g.kaiser, overlap := g.overlap }

/-- The last grid of an engine that has been commanded has begun. -/
def lastBegun (now : Nat) (x : Xform) : Bool :=
  match x.after.getLast? with
  | some g => decide (g.from_ ≤ T16.ofTick now)
  | none => x.from_.isNone

/-- The time from which on a grid begins that XFORM_CONFIGURE commands (R124). -/
def gridFrom (s : XformSetting) (tick : Nat) : T16 := T16.ofTick (if s.startMint == 0 then tick else s.startMint)

/-- XFORM_CONFIGURE's own work. -/
def actXform : Act := simple fun f p =>
  let b := f.body
  let i := u b 0 1
  let x := p.engine i
  let en := bitAt (u b 1 1) 7
  let s := xformSettingOf b
  let tick := p.now + 32
  let running := engineRuns x
  let streams := bitAt s.route 2 || x.detectors.any fun d => (commandedDetector d).en && bitAt (commandedDetector d).route 2
  let grid : NextGrid := { setting := s, from_ := gridFrom s tick, fromBlock := s.startMint == 0 }
  let q := onXform i (fun x =>
    if running then onLastGrid id [(s, tick)] none x
    else if x.en then { x with after := x.after ++ [grid] }
    else { x with en := en, ending := none, setting := s }) p
  guarded
    [ (s.len == 0 || (bitAt s.route 2 && (s.every == 0 || s.binCount == 0)), stZero),
      (xformRange p i b, stRange),
      (s.window == 5 && (x.custom.map (·.length)) != some s.size || (running && en && s.startMint != (commandedXform x).startMint) ||
        (streams && !streamUsable p s.streamCh), stState),
      (en && !running && calibrating p, stBusy),
      (en && (overloaded q i || decide (engineLimit < exportRate q i) || rowsTooFast q i), stNoResource) ] p
    (if !en then
      if !running then
        (if x.en then onXform i (fun x => { x with parked := some s }) p
         else settleMask i (onXform i (fun x => { x with setting := s }) p), doneWith stOk x.lastMint)
      else
        let p := onXform i (onLastGrid id [] (some tick)) p
        if (match x.from_ with | some f => x.after.isEmpty && beginsAfter p i f (T16.ofTick tick) | none => false)
        then (endGrid i p, .done stOk [low32 x.lastMint, high32 x.lastMint, x.lastSeq])
        else (p, .wait .xformEnd (lastGridKey i x) [])
    else if !running then
      if x.en then
        (onXform i (fun x => { x with after := x.after ++ [grid], parked := none }) p, .wait .xformGrid (lastGridKey i x + 4) [])
      else
        (settleMask i (onXform i (fun x => { x with
          en := true, setting := s, next := [], from_ := some grid.from_, fromBlock := grid.fromBlock, frameSeq := 0, buffer := []
          incoming := none, cfgChange := false, postDue := false }) p), .wait .xformGrid (lastGridKey i x) [])
    else if !lastBegun p.now x then
      (settleMask i (onXform i (onLastGrid (fun _ => s) [] none) p), .wait .xformGrid (lastGridKey i x) [])
    else if gridChange (commandedXform x) s then
      (onXform i (onLastGrid id [(s, tick)] none) p, .wait .xformGrid (lastGridKey i x) [])
    else
      let m := (T16.tick x.head).toNat
      (settleMask i (onXform i (onLastGrid (withGridOf s) [] none) p), .done stOk [low32 m, high32 m, x.frameSeq]))

def execXformConfigure (c : Cmd) : State → Out := effect (runCommand 0x0401 c actXform)

/-! ### XFORM_WINDOW_LOAD (R463) and DETECTOR_SET (R464) -/

/-- k of a table of 2^k coefficients. -/
def tableLog (count : Nat) : Option Nat := ((List.range 10).map (· + 8)).find? fun k => 2 ^ k == count

/-- XFORM_WINDOW_LOAD's own work (R122). -/
def actWindowLoad : Act := fun f host p =>
  let b := f.body
  let i := u b 0 1
  let count := u b 4 4
  let a := u b 8 8
  let x := p.engine i
  guarded
    [ (count == 0, stZero),
      ((tableLog count).isNone || u b 1 3 != 0 || !tableAddrOk p.dmc a (4 * count), stRange),
      (x.en && (x.setting.window == 5 || (commandedXform x).window == 5 || x.next.any (·.1.window == 5) ||
        x.after.any fun g => g.setting.window == 5 || g.next.any (·.1.window == 5)), stState) ] p
    (withTable p a (4 * count) host fun bs =>
      let q := words bs
      if q.any fun w => decide (2 ^ 18 ≤ w) then (p, .done stRange [])
      else (onXform i (fun x => { x with custom := some q }) p, .done stOk [(tableLog count).getD 0]))

def execXformWindowLoad (c : Cmd) : State → Out := effect (runCommand 0x0402 c actWindowLoad)

/-- A SPEC binding takes a source of an engine (R297). -/
def specBound (p : Piece) (i src : Nat) : Bool :=
  p.tally.contexts.any fun x => x.cls == .spec && x.binding == 0x2000 + 4 * src + i

/-- DETECTOR_SET's own work. -/
def actDetector : Act := simple fun f p =>
  let b := f.body
  let i := u b 0 1
  let n := u b 1 1
  let type := u b 2 1
  let s : DetectorSetting :=
    { en := bitAt (u b 4 1) 7, type := type, alpha := u b 3 1, route := u b 4 1 % 8, count := u b 8 2 }
  let x := p.engine i
  let named := (commandedXform x).maskSrc == n + 2 || (fedChannels p i).any (fun ch => (nth p.density.channels ch).src == n + 1) ||
    specBound p i (n + 1)
  let q := onDetector i n (fun d => { d with next := d.next ++ [(s, p.now + 32)] }) p
  guarded
    [ (s.count == 0, stZero),
      (decide (3 < n) || decide (8 < type) || (type == 5 && decide (16 < s.alpha)) || (type == 8 && (s.count == 1 || named)) ||
        field (u b 4 1) 3 4 != 0 || u b 5 3 != 0 || !isZero (slice b 10 6), stRange),
      (s.en && bitAt s.route 2 && !streamUsable p (commandedXform x).streamCh, stState),
      (s.en && (decide (engineLimit < exportRate q i) || rowsTooFast q i), stNoResource) ] p
    (if engineRuns x then (q, .wait .detector (4 * i + n) [])
    else (setDetector i n s p, .done stOk [x.frameSeq]))

def execDetectorSet (c : Cmd) : State → Out := effect (runCommand 0x0403 c actDetector)

/-! ### The XFORM window (R144) -/

/-- XFORM_STATUS. -/
def xformStatus (p : Piece) (i : Nat) : Nat :=
  let x := p.engine i
  let src := (nth p.chan i).xformSrc
  twos 8 x.lastExp * 2 ^ 24 + src * 2 ^ 16 + flag (pairedFeed p i) 3 + flag (src == 8) 2 + flag x.custom.isSome 1 + flag x.en 0

/-- XFORM_CONFIG. -/
def xformConfig (x : Xform) : Nat :=
  let s := x.setting
  s.kaiser * 2 ^ 24 + s.maskSrc * 2 ^ 18 + s.overlap * 2 ^ 16 + s.window * 2 ^ 12 + flag s.complexKind 11 + s.route * 2 ^ 8 + s.len

/-- XFORM_LOAD: the load in 1/1,024 of 20.48 G points/s, 0 while the engine does not run. -/
def xformLoad (p : Piece) (i : Nat) : Nat :=
  let x := p.engine i
  match commandedFeed p i with
  | some f => if x.en then (engineLoad f x.setting.overlap * 1024 / engineLimit).floor.toNat else 0
  | none => 0

/-- XFORM_DETn_CFG. -/
def detectorConfig (d : Detector) : Nat :=
  let s := d.setting
  flag s.en 31 + s.route * 2 ^ 28 + s.type * 2 ^ 24 + s.alpha % 32 * 2 ^ 16 + s.count

end Sys2Proof.Machine
end

