-- ==== Sys2Proof/Machine/ChanFam.lean ====
section
/-! DEFINITION. CHAN: routing, the mixers and decimation chains of the DDCs, DDC blocks, the crossing sources (04);
CHAN_CONFIGURE and CHAN_FILTER_LOAD (19 R460, R461). -/

namespace Sys2Proof.Machine

/-- A CHAN instance. -/
def Piece.chanOf (p : Piece) (i : Nat) : Chan := nth p.chan i

/-- A DDC. -/
def Piece.ddc (p : Piece) (i n : Nat) : Ddc := nth (p.chanOf i).ddcs n

/-! ### Coefficients (R101, R104, R105) -/

/-- A set of coefficients with the last one that gives it unity DC gain. -/
def unityFrom (l : List Int) : List Int := l ++ [2 ^ 17 - l.sum]

/-- The active set of a DDC, weights 2⁻¹⁷. -/
def activeSet (d : Ddc) : List Int :=
  match nth d.banks d.bank with
  | some l => l
  | none => unityFrom ((List.range 63).map Config.defaultSet)

/-- A coefficient of the fixed half-band set: one half in the middle, 0 at even distances from it, and at odd distances eight values,
the same on both sides, that give unity DC gain (R101; log entry 11). -/
def halfBandTap (k : Nat) : Int :=
  let far := max k 15 - min k 15
  if far == 0 then 2 ^ 16
  else if far % 2 == 0 then 0
  else if far == 15 then 2 ^ 15 - ((List.range 7).map Config.halfBand).sum
  else Config.halfBand (far / 2)

/-- The fixed half-band set of 31 taps (R101). -/
def halfBandSet : List Int := (List.range 31).map halfBandTap

/-- The loaded bank becomes active (R104, R108): the span of the incoming set, and SWAP in the next block. -/
def swapBank (d : Ddc) : Ddc :=
  let d := { d with bank := 1 - d.bank, swapAt := none, swapDue := true }
  { d with spans := d.spans ++ [(activeTaps d - 1, 9)] }

/-! ### The chain (R98, R101, R103) -/

/-- An input sample times e^(−j2πφ/2⁴⁸), times 2⁶⁴ (R98; log entry 9). -/
def mix (phase : Nat) (x : Int) (reason : Nat) (ends : Option T16) (hand cal : Bool) : Tap :=
  let q := phase % 2 ^ 48
  { re := x * cosTurn q (2 ^ 48), im := -(x * sinTurn q (2 ^ 48)), reason := reason, ends := ends, hand := hand, cal := cal }

/-- Of two taps the one whose span ends later, the lower code on a tie; a span of unknown end is the latest (R86). -/
def laterTap (a b : Tap) : Tap :=
  if a.reason == 0 then b
  else if b.reason == 0 then a
  else
    match a.ends, b.ends with
    | none, some _ => a
    | some _, none => b
    | some x, some y => if y < x || (decide (x = y) && a.reason ≤ b.reason) then a else b
    | none, none => if a.reason ≤ b.reason then a else b

/-- The output of a filter whose newest input is first; HANDOVER and CAL come from the `fresh` newest inputs, so that each
marks one output (R109). An output is invalid with any input of its support (R107), with the reason of the span that ends latest
(R86). -/
def filterAt (set : List Int) (fresh : Nat) (h : List Tap) : Tap :=
  let hs := h.take set.length
  let last := hs.foldl laterTap {}
  { re := (List.zipWith (fun c (t : Tap) => c * t.re) set hs).sum
    im := (List.zipWith (fun c (t : Tap) => c * t.im) set hs).sum
    reason := last.reason
    ends := last.ends
    hand := (h.take fresh).any (·.hand)
    cal := (h.take fresh).any (·.cal) }

/-- A stage that gives an output at inputs 0, 2, 4 and so on of a run (`decimate`), or at every input: delay line and
outputs. -/
def runStage (set : List Int) (decimate : Bool) (h : List Tap) (xs : List Tap) : List Tap × List Tap :=
  let step (acc : List Tap × List Tap × Bool) (x : Tap) : List Tap × List Tap × Bool :=
    let (h, out, on) := acc
    let h := (x :: h).take (max set.length 2)
    (h, if on then filterAt set (if decimate then 2 else 1) h :: out else out, if decimate then !on else true)
  let (h, out, _) := xs.foldl step (h, [], true)
  (h, out.reverse)

/-- The half-band stages in a row: their delay lines and the outputs of the last (R101). -/
def runStages : List (List Tap) → List Tap → List (List Tap) × List Tap
  | [], xs => ([], xs)
  | h :: hs, xs =>
    let (h, ys) := runStage halfBandSet true h xs
    let (hs, zs) := runStages hs ys
    (h :: hs, zs)

/-- A component of the output: the stage sum times 16, rounded half up, and saturated; the sum carries 2^(64 + 17 s) for s
stages (R103). -/
def outputComponent (stages : Nat) (x : Int) : Int × Bool :=
  let y := rnd (x * 16) (64 + 17 * stages)
  (satW 16 y, decide (satW 16 y ≠ y))

/-- An output sample of a DDC: I and Q, and which of them saturated. DESIGN CHOICE: INVERT takes the conjugate before the rounding
and the saturation; the spec does not say (log entry 60). -/
def outputSample (invert : Bool) (stages : Nat) (t : Tap) : (Int × Int) × Bool × Bool :=
  let (i, si) := outputComponent stages t.re
  let (q, sq) := outputComponent stages (if invert then -t.im else t.im)
  ((i, q), si, sq)

/-! ### Crossings (R111 to R113) -/

/-- A sample as the crossing source sees it: arms the hysteresis. -/
def armXing (hyst : Nat) (y : Int) (c : Chan) : Chan :=
  { c with riseArmed := c.riseArmed || decide (y ≤ -(hyst : Int)), fallArmed := c.fallArmed || decide ((hyst : Int) ≤ y) }

/-- A crossing between two samples: its direction, where there is one that is armed; it ends the arming (R111). -/
def crossing (c : Chan) (a b : Int) : Option Bool :=
  if a < 0 && 0 ≤ b && c.riseArmed then some true
  else if 0 < a && b ≤ 0 && c.fallArmed then some false
  else none

/-- The time of a crossing to 2⁻¹⁶ of the output period (R111). -/
def crossingTime (a b : XingSample) : T16 :=
  let frac := roundDiv (-a.y * 65536 * (if a.y < b.y then 1 else -1)) (b.y - a.y).natAbs
  a.time + roundDiv ((b.time - a.time) * frac) 65536

/-- A detected crossing is emitted, suppressed or dropped (R112). -/
def emitCrossing (i : Nat) (a b : XingSample) (rising cal : Bool) (p : Piece) : Piece :=
  let c := p.chanOf i
  if a.invalid || b.invalid then
    markSource (16 + i) 2 (onChan i (fun c => { c with suppressed := sat32 c.suppressed 1 }) p)
  else
    let t := crossingTime a b
    let near := match c.lastCrossing with
      | some l => decide ((t - l) * 1000 < 268435456)
      | none => false
    if near then onChan i (fun c => { c with crowded := sat32 c.crowded 1, crowdDue := true }) p
    else
      let flags := flag c.crowdDue 3 + flag (a.sat || b.sat) 5 + flag cal 6
      pushSource (16 + i) t rising flags 0
        (onChan i (fun c => { c with lastCrossing := some t, crowdDue := false, xingCount := wrap32 c.xingCount 1 }) p)

/-- SLOPE takes a crossing. -/
def slopeCode (slope : Nat) (rising : Bool) : Bool := slope == 2 || (slope == 0) == rising

/-- One output sample reaches the crossing source; `cal` is due to the first crossing of a block carrying CAL, and the second
part says whether it still is. -/
def xingSample (i : Nat) (b : XingSample) (cal : Bool) (p : Piece) : Piece × Bool :=
  let c := p.chanOf i
  let hit := match c.last with
    | some a => (crossing c a.y b.y).map fun r => (a, r)
    | none => none
  let p := match hit with
    | some (_, r) => onChan i (fun c => if r then { c with riseArmed := false } else { c with fallArmed := false }) p
    | none => p
  let (p, cal) := match hit with
    | some (a, r) =>
      if slopeCode c.xing.slope r then
        let q := emitCrossing i a b r cal p
        (q, cal && (q.chanOf i).xingCount == c.xingCount)
      else (p, cal)
    | none => (p, cal)
  (onChan i (fun c => { armXing c.xing.hyst b.y c with last := some b }) p, cal)

/-- New settings of the crossing source take effect: arming restarts, its counter slots see the change (R113, R279). -/
def setXing (i : Nat) (x : Xing) (p : Piece) : Piece :=
  let old := (p.chanOf i).xing
  let p := onChan i (fun c => { c with xing := x, riseArmed := false, fallArmed := false, last := none }) p
  let p := when (old != x) (markSource (16 + i) 5) p
  when (old.en && !x.en) (loseSource (16 + i) 6) p

/-- The settings that are due take effect in the order of their commands, at most k of them: the block of the selected DDC in the
making is one under the setting, or the DDC does not run (R113). -/
def applyXings (i : Nat) : Nat → Piece → Piece
  | 0, p => p
  | k + 1, p =>
    match (p.chanOf i).xingNext with
    | (x, seq) :: rest =>
      if !(p.ddc i x.ddc).en || decide (seq ≤ (p.ddc i x.ddc).seq) then
        applyXings i k (setXing i x (onChan i (fun c => { c with xingNext := rest }) p))
      else p
    | [] => p

/-- XING_SETTING_APPLY: the next block of the selected DDC has begun, or the DDC does not run (R113). -/
def execXingSettingApply (chan : Fin 4) : State → Out := inIsland (0x10 + chan.val) fun p =>
  applyXings chan (p.chanOf chan).xingNext.length p

/-- Every sample of a block reaches the crossing source that selects its DDC; the settings of the block are in force. -/
def xingBlock (i n : Nat) (xs : List XingSample) (cal : Bool) (p : Piece) : Piece :=
  if (p.chanOf i).xing.en && (p.chanOf i).xing.ddc == n then
    (xs.foldl (fun (x : Piece × Bool) b => xingSample i b x.2 x.1) (p, cal)).1
  else p

/-! ### Changes at block boundaries (R99, R100, R105) -/

/-- The stream of a DDC ends: acquisitions that take it end, a crossing source that selects it falls silent and has no sample
before its next one (R113, R220). -/
def ddcLost (i n : Nat) (p : Piece) : Piece :=
  let c := p.chanOf i
  when (c.xing.en && c.xing.ddc == n) (loseSource (16 + i) 6)
    (when (c.xing.ddc == n) (onChan i fun c => { c with last := none }) (streamLost i n p))

/-- A DDC stops (R105); a swap that is due takes place, and the first block after it carries SWAP (R104). -/
def stopDdc (i n : Nat) (p : Piece) : Piece :=
  let stop (d : Ddc) : Ddc :=
    let d := { d with en := false, fifo := [], stages := [], final := [], spans := [] }
    if d.swapAt.isSome then { swapBank d with spans := [] } else d
  when (p.ddc i n).en (ddcLost i n) (onDdc i n stop p)

/-- A DDC starts at an input block (R99, R108): its phase there, empty delay lines, the span of the enable. -/
def startDdc (i n : Nat) (s : DdcSetting) (start : T16) (p : Piece) : Piece :=
  let per := inputPeriod (pairedFeed p i)
  let since : Int := if s.startMint == 0 then 0 else (start - T16.ofTick s.startMint) / (per : Nat)
  let phase := (((s.phase * 2 ^ 32 : Nat) : Int) + s.ftw * since) % (2 ^ 48 : Nat)
  onDdc i n (fun d => { d with en := true, setting := s, acc := phase.toNat, head := start, fifo := [], final := []
                               stages := List.replicate (s.k - 1) [], spans := [(4 * activeTaps d, 8)] }) p

/-- New K, INVERT and routes at an output block (R105, R108); a lost ACQ route ends the acquisitions that take the DDC
(R220). -/
def shapeDdc (i n : Nat) (s : DdcSetting) (p : Piece) : Piece :=
  let old := (p.ddc i n).setting
  let p := onDdc i n (fun d =>
    let d := { d with setting := { s with ftw := d.setting.ftw } }
    if s.k == old.k then d
    else { d with stages := List.replicate (s.k - 1) [], final := [], spans := d.spans ++ [(4 * activeTaps d, 8)] }) p
  when (bitAt old.route 0 && !bitAt s.route 0) (streamLost i n) p

/-- A change of a DDC is due, with the input block in the making or the output block in the making. -/
def changeDue (p : Piece) (i n : Nat) (c : DdcChange) : Bool :=
  let r := nth p.rfin (feedOf p i)
  match c with
  | .enable _ t => r.conv != .idle && decide (t ≤ T16.tick r.start)
  | .tune _ t => decide (t ≤ T16.tick r.start)
  | .shape _ seq => decide (seq ≤ (p.ddc i n).seq)
  | .disable seq => decide (seq ≤ (p.ddc i n).seq)

/-- A new FTW of a DDC that waits for its start is the FTW it starts with (R100). -/
def retune (ftw : Nat) (c : DdcChange) : DdcChange :=
  match c with
  | .enable s t => .enable { s with ftw := ftw } t
  | .tune f t => .tune f t
  | .shape s q => .shape s q
  | .disable q => .disable q

/-- The swap of a DDC is due with the block in the making (R104); its command completes. -/
def swapIfDue (i n : Nat) (p : Piece) : Piece :=
  match (p.ddc i n).swapAt with
  | some seq => when (decide (seq ≤ (p.ddc i n).seq)) (onDdc i n swapBank) p
  | none => p

/-- A change of a DDC takes effect. A swap of the same block comes before a new K, whose span is then that of the incoming set
(R108). -/
def applyDdc (i n : Nat) (c : DdcChange) (p : Piece) : Piece :=
  match c with
  | .enable s _ => startDdc i n s (nth p.rfin (feedOf p i)).start p
  | .tune ftw _ => onDdc i n (fun d =>
      if d.en then { d with setting := { d.setting with ftw := ftw } } else { d with changes := d.changes.map (retune ftw) }) p
  | .shape s _ => shapeDdc i n s (swapIfDue i n p)
  | .disable _ => stopDdc i n p

/-- The first change of a list that is due. Nothing passes a disable that waits, and only a new FTW passes an enable that waits
(R25, R100, R105). -/
def nextChange (p : Piece) (i n : Nat) : List DdcChange → Option DdcChange
  | [] => none
  | c :: cs =>
    if changeDue p i n c then some c
    else match c with
      | .disable _ => none
      | .enable _ _ => cs.find? fun x => match x with
        | .tune _ _ => changeDue p i n x
        | .enable _ _ | .shape _ _ | .disable _ => false
      | .tune _ _ | .shape _ _ => nextChange p i n cs

/-- The changes that are due take effect in the order of their commands, at most k of them. -/
def applyDdcs (i n : Nat) : Nat → Piece → Piece
  | 0, p => p
  | k + 1, p =>
    match nextChange p i n (p.ddc i n).changes with
    | some c => applyDdcs i n k (applyDdc i n c (onDdc i n (fun d => { d with changes := d.changes.erase c }) p))
    | none => p

/-- DDC_CHANGE_APPLY (R99, R100, R105). -/
def execDdcChangeApply (chan : Fin 4) (ddc : Fin 8) : State → Out := inIsland (0x10 + chan.val) fun p =>
  applyDdcs chan ddc (p.ddc chan ddc).changes.length p

/-- COEFFICIENT_SWAP (R104). -/
def execCoefficientSwap (chan : Fin 4) (ddc : Fin 8) : State → Out := inIsland (0x10 + chan.val) (swapIfDue chan ddc)

/-! ### Blocks -/

/-- The samples of a raw block reach a DDC that runs (R98, R99); `ends`: the end of the block's invalid span. -/
def mixBlock (i n : Nat) (codes : List Int) (reason firstValid : Nat) (ends : Option T16) (hand cal : Bool) (p : Piece) : Piece :=
  let p := applyDdcs i n (p.ddc i n).changes.length p
  let d := p.ddc i n
  if !d.en then p
  else
    let taps := codes.mapIdx fun k x =>
      mix (d.acc + d.setting.ftw * k) x (if k < firstValid then reason else 0) ends (hand && k == 0) (cal && k == 0)
    onDdc i n (fun d => { d with fifo := d.fifo ++ taps, acc := (d.acc + d.setting.ftw * codes.length) % 2 ^ 48 }) p

/-- CHAN's own span that ends latest, as samples left and reason, the lower code on a tie (R86, R108). -/
def ownSpan (spans : List (Nat × Nat)) : Nat × Nat :=
  spans.foldl (fun best s => if best.1 < s.1 || (best.1 == s.1 && s.2 < best.2) then s else best) (0, 0)

/-- The index of the first output that a span of the input does not reach any more, from the block whose inputs begin at `head`: an
output depends on `supp` inputs, the last of them `step` after that of the output before (R107). -/
def spanEnd (head ends : T16) (period step supp : Nat) : Nat :=
  let w := ceilDiv (ends - head).toNat period
  if w == 0 then 0 else (supp + w - 2) / step + 1

/-- INVALID_FROM, FIRST_VALID and REASON of a DDC block (R86, R108, R109): `outs` are its outputs with the spans they inherit, `own`
is the span of CHAN's own, and `reach` gives the output at which an inherited span ends. -/
def ddcSpan (outs : List Tap) (own : Nat × Nat) (reach : T16 → Nat) : Nat × Nat × Nat :=
  let bad := (outs.mapIdx fun k t => if t.reason != 0 || k < own.1 then [k] else []).flatten
  match bad.head?, bad.getLast? with
  | some a, some b =>
    let last := nth outs b
    let reason :=
      if last.reason == 0 then own.2
      else if own.1 ≤ b then last.reason
      else match last.ends with
        | none => last.reason
        | some t =>
          if own.1 < reach t then last.reason
          else if reach t < own.1 then own.2
          else min last.reason own.2
    (a, b + 1, reason)
  | _, _ => (0, 0, 0)

/-- DDC_BLOCK's own work on a DDC that runs and holds the inputs of a block (R101 to R113). -/
def doDdcBlock (i n : Nat) (p : Piece) : Piece :=
  let d := p.ddc i n
  let paired := pairedFeed p i
  let s := d.setting
  let count := blockLen * 2 ^ s.k
  let start := ddcBlockStart p i n
  let (stages, mid) := runStages d.stages (d.fifo.take count)
  let (final, outs) := runStage (activeSet d) (s.k != 0) d.final mid
  let results := outs.map (outputSample s.invert (d.stages.length + 1))
  let samples := results.map (·.1)
  let sats := (results.map fun x => flag x.2.1 0 + flag x.2.2 0).sum
  let period := inputPeriod paired * 2 ^ s.k
  let own := ownSpan d.spans
  let (from_, valid, reason) := ddcSpan outs own fun t =>
    spanEnd d.head t (inputPeriod paired) (2 ^ s.k) (support s.k (activeTaps d))
  let hand := outs.any (·.hand)
  let cal := outs.any (·.cal)
  let mark := gateMark p start
  let post := postJumpDue p d.postJump start
  let flags := flag (decide (0 < sats)) 7 + flag d.swapDue 6 + flag cal 5 + flag post 4 + flag mark.coast 3 + flag hand 1 +
    flag (decide (from_ < valid)) 0
  let header := leBytes 4 (d.seq % 2 ^ 32) ++ leBytes 1 (n * 32 + flag s.invert 4 + flag paired 3 + i) ++ leBytes 1 flags ++
    leBytes 2 from_ ++ leBytes 2 valid ++ leBytes 1 reason ++ leBytes 1 s.k ++ leBytes 8 (T16.tick start).toNat ++
    labelBytes mark.label ++ leBytes 2 (min 65535 sats)
  let data := samples.flatMap fun x => leBytes 2 (twos 16 x.1) ++ leBytes 2 (twos 16 x.2)
  let block : AcqBlock :=
    { header := header, data := data, seq := d.seq, samples := samples, start := start, period := period, invalidFrom := from_
      firstValid := valid
      flags := flag hand 0 + flag mark.coast 1 + flag post 2 + flag cal 3 + flag (decide (0 < sats)) 8 }
  let bad (k : Nat) : Bool := decide (from_ ≤ k) && decide (k < valid)
  let p := onDdc i n (fun d => { d with
    fifo := d.fifo.drop count, head := d.head + ((count * inputPeriod paired : Nat) : Int), stages := stages, final := final
    spans := (d.spans.map fun x => (x.1 - blockLen, x.2)).filter fun x => x.1 != 0
    seq := d.seq + 1, lastSeq := d.seq, swapDue := false, postJump := d.postJump && !post }) p
  let p := onChan i (fun c => { c with satBlocks := sat32 c.satBlocks (if 0 < sats then 1 else 0) }) p
  let xs : List XingSample := results.mapIdx fun k x =>
    { y := x.1.1, invalid := bad k, sat := x.2.1, time := start + ((k * period : Nat) : Int) }
  let p := xingBlock i n xs cal p
  let p := when (bitAt s.route 0) (feedAcq i n block) p
  let p := when (bitAt s.route 2) (feedTrigger i n block) p
  let p := when (bitAt s.route 1) (sendStream
    { channel := 4 + 8 * i + n, kind := 0x10, panelType := 0x04, inst := i, sub := n, record := header ++ data
      samples := samples.flatMap fun x => [x.1, x.2], complex := true, time := start, period := period
      invalidFrom := from_, firstValid := valid }) p
  when ((p.chanOf i).xformSrc == n) (feedXform i { src := n, paired := paired, period := period } start
    (samples.mapIdx fun k x =>
      { re := x.1, im := x.2, bad := bad k, hand := hand, cal := cal, sat := decide (0 < sats), post := post && k == 0 })) p

/-- DDC_BLOCK: a DDC completes an output block; what is due at its start comes first (R104, R105, R110). -/
def execDdcBlock (chan : Fin 4) (ddc : Fin 8) : State → Out := inIsland (0x10 + chan.val) fun p =>
  let p := applyCellsDue p
  let p := when (p.ddc chan ddc).en (swapIfDue chan ddc) p
  let p := applyDdcs chan ddc (p.ddc chan ddc).changes.length p
  let p := applyXings chan (p.chanOf chan).xingNext.length p
  let d := p.ddc chan ddc
  when (d.en && decide (blockLen * 2 ^ d.setting.k ≤ d.fifo.length)) (doDdcBlock chan ddc) p

/-! ### CHAN_CONFIGURE (R460) -/

/-- The greatest NTAPS for a K (R102); none where K is out of range (R101). -/
def maxTaps (paired : Bool) (k : Nat) : Option Nat :=
  if 16 < k || (paired && k == 0) then none else some (min 256 (if paired then 32 * 2 ^ k else 64 * 2 ^ k))

/-- A number of taps suits a K. -/
def tapsOk (paired : Bool) (k taps : Nat) : Bool :=
  match maxTaps paired k with
  | some m => decide (taps ≤ m)
  | none => false

/-- The DDC setting in a record of the body. -/
def ddcSettingOf (r : Bytes) : DdcSetting :=
  { invert := bitAt (u r 0 1) 6, route := u r 0 1 % 8, k := u r 1 1, phase := u r 2 2, ftw := u r 4 6, startMint := u r 12 8 }

/-- Record n of a body. -/
def ddcRecord (b : Bytes) (n : Nat) : Bytes := slice b (16 + 24 * n) 24

/-- A record enables its DDC. -/
def recordEn (r : Bytes) : Bool := bitAt (u r 0 1) 7

/-- What a record may not hold (R101, R102, R460). -/
def ddcRange (p : Piece) (i : Nat) (d : Ddc) (r : Bytes) : Bool :=
  let s := ddcSettingOf r
  field (u r 0 1) 3 3 != 0 || u r 10 2 != 0 || u r 20 4 != 0 ||
  !tapsOk (commandedPaired p i) s.k (activeTaps d)

/-- The next input block boundary at or after a tick (R99, R100). DESIGN CHOICE: a tick that is past gives the boundary that began the
block in the making; the spec does not say at which block a DDC starts whose START_MINT is past when the command arrives (log entry
60). -/
def inputBoundary (p : Piece) (i tick : Nat) : Nat :=
  let r := nth p.rfin (feedOf p i)
  let len := blockLen * inputPeriod (pairedFeed p i)
  let k := ceilDiv (T16.ofTick tick - r.start).toNat len
  (T16.tick (r.start + ((k * len : Nat) : Int))).toNat

/-- The first output block at or after a moment, from a boundary (its time, BLOCK_SEQ and K) on and over the changes that lie ahead: a
start begins the blocks, and a new K alters their length (R105). -/
def blockAt (t : T16) (period : Nat) : List DdcChange → T16 → Nat → Nat → Nat
  | [], head, seq, k => seq + ceilDiv (t - head).toNat (blockLen * period * 2 ^ k)
  | c :: cs, head, seq, k =>
    match c with
    | .enable s tick => blockAt t period cs (T16.ofTick tick) seq s.k
    | .tune _ _ | .disable _ => blockAt t period cs head seq k
    | .shape s q =>
      let len := blockLen * period * 2 ^ k
      let ahead := seq + ceilDiv (t - head).toNat len
      if ahead ≤ q then ahead else blockAt t period cs (head + (((q - seq) * len : Nat) : Int)) q s.k

/-- The first output block of a DDC that starts at or after a tick (R105). -/
def outputBoundary (p : Piece) (i n tick : Nat) : Nat :=
  let d := p.ddc i n
  blockAt (T16.ofTick tick) (inputPeriod (pairedFeed p i)) d.changes d.head d.seq d.setting.k

/-- A record's changes of its DDC are noted (R99, R100, R105). -/
def stageDdc (i n tick : Nat) (r : Bytes) (p : Piece) : Piece :=
  let (on, old) := commandedDdc (p.ddc i n)
  let s := ddcSettingOf r
  let add (c : DdcChange) (p : Piece) : Piece := onDdc i n (fun d => { d with changes := d.changes ++ [c] }) p
  match on, recordEn r with
  | false, true => add (.enable s (inputBoundary p i (if s.startMint == 0 then p.now else s.startMint))) p
  | true, true =>
    let p := when (decide (s.ftw ≠ old.ftw)) (add (.tune s.ftw (inputBoundary p i tick))) p
    when (decide (s.k ≠ old.k) || s.invert != old.invert || decide (s.route ≠ old.route))
      (add (.shape { s with phase := old.phase, startMint := old.startMint } (outputBoundary p i n tick))) p
  | true, false => add (.disable (outputBoundary p i n tick)) p
  | false, false => onDdc i n (fun d => if d.en || !d.changes.isEmpty then d else { d with setting := s }) p

/-- Routes of an instance take effect (R96, R220). -/
def setRoutes (i raw src : Nat) (p : Piece) : Piece :=
  let lost := bitAt (p.chanOf i).rawRoute 0 && !bitAt raw 0
  when lost (streamLost i 8) (onChan i (fun c => { c with rawRoute := raw, xformSrc := src }) p)

/-- The routes that wait for a block boundary take effect with a block that begins at a time (R460). -/
def applyRoutes (i : Nat) (start : T16) (p : Piece) : Piece :=
  let due := (p.chanOf i).routes.filter fun r => decide ((r.2.2 : Int) ≤ T16.tick start)
  let p := onChan i (fun c => { c with routes := c.routes.filter fun r => !decide ((r.2.2 : Int) ≤ T16.tick start) }) p
  due.foldl (fun p r => setRoutes i r.1 r.2.1 p) p

/-- CHAN_CONFIGURE's changes are noted: those of its records, of the routes and of the crossing source. -/
def stageChan (b : Bytes) (p : Piece) : Piece :=
  let i := u b 0 1
  let tick := p.now + 32
  let idle := (nth p.rfin (feedOf p i)).conv == .idle
  let mask := u b 5 1
  let p := (maskIndices 8 mask).foldl (fun p n => stageDdc i n tick (ddcRecord b n) p) p
  let p := when (bitAt (u b 1 1) 0) (fun p =>
    if idle then setRoutes i (u b 2 1) (u b 3 1) p
    else onChan i (fun c => { c with routes := c.routes ++ [(u b 2 1, u b 3 1, inputBoundary p i tick)] }) p) p
  when (bitAt (u b 1 1) 1) (fun p =>
    let x : Xing := { en := bitAt (u b 4 1) 7, slope := field (u b 4 1) 5 2, ddc := u b 4 1 % 8, hyst := u b 6 2 }
    let p := onChan i (fun c => { c with xingNext := c.xingNext ++ [(x, (p.ddc i x.ddc).seq + 1)] }) p
    applyXings i (p.chanOf i).xingNext.length p) p

/-- CHAN_CONFIGURE's own work. -/
def actChan : Act := simple fun f p =>
  let b := f.body
  let i := u b 0 1
  let apply := u b 1 1
  let mask := u b 5 1
  let records := (maskIndices 8 mask).map fun n => (n, ddcRecord b n)
  let routing := bitAt apply 0
  let xing := bitAt apply 1
  let q := stageChan b p
  let xddc := u b 4 1 % 8
  let enables := records.any fun (n, r) => !(commandedDdc (p.ddc i n)).1 && recordEn r
  guarded
    [ (apply == 0 && mask == 0, stZero),
      (decide (3 < apply) || u b 8 8 != 0 || (routing && (decide (3 < u b 2 1) || decide (8 < u b 3 1))) ||
        (xing && (field (u b 4 1) 5 2 == 3 || field (u b 4 1) 3 2 != 0 || bitAt (u b 6 2) 15)) ||
        records.any (fun (n, r) => ddcRange p i (p.ddc i n) r), stRange),
      (records.any (fun (n, r) =>
          let (on, s) := commandedDdc (p.ddc i n)
          on && recordEn r && (decide ((ddcSettingOf r).phase ≠ s.phase) || decide ((ddcSettingOf r).startMint ≠ s.startMint))) ||
        (xing && bitAt (u b 4 1) 7 && records.any (fun (n, r) => n == xddc && !recordEn r)), stState),
      (enables && calibrating p, stBusy),
      (routedTooFast q i || overloaded q i || rowsTooFast q i, stNoResource) ] p
    (if (nth p.rfin (feedOf p i)).conv == .idle then (q, doneWith stOk p.now)
     else (q, doneWith stOk (inputBoundary p i (p.now + 32))))

def execChanConfigure (c : Cmd) : State → Out := effect (runCommand 0x0303 c actChan)

/-! ### CHAN_FILTER_LOAD (R461) -/

/-- The block at which a swap takes place: the next one, or the one that carries SWAP_SEQ where it has not started. DESIGN CHOICE: a
number counts as started once BLOCK_SEQ has given it since its last wrap (R104; log entry 60). -/
def swapBlock (d : Ddc) (seq : Nat) : Nat :=
  let now := d.seq % 2 ^ 32
  if seq ≤ now then d.seq + 1 else d.seq + (seq - now)

/-- CHAN_FILTER_LOAD's own work: the inactive bank is written; the swap is due at the next boundary, or at SWAP_SEQ (R104). -/
def actFilterLoad : Act := fun f host p =>
  let b := f.body
  let i := u b 0 1
  let n := u b 1 1
  let taps := u b 2 2
  let a := u b 8 8
  let d := p.ddc i n
  let s := (commandedDdc d).2
  guarded
    [ (taps == 0, stZero),
      (decide (7 < n) || decide (taps < 16) || decide (256 < taps) || !tableAddrOk p.dmc a (4 * taps) ||
        !tapsOk (commandedPaired p i) s.k taps, stRange),
      (d.swapAt.isSome, stBusy) ] p
    (withTable p a (4 * taps) host fun bs =>
      let ws := words bs
      if ws.any fun w => decide (2 ^ 18 ≤ w) then (p, .done stRange [])
      else
        let set := ws.map (signed 18)
        let load (d : Ddc) : Ddc := { d with banks := put d.banks (1 - d.bank) (some set) }
        if !d.en then (onDdc i n (fun d => { load d with bank := 1 - d.bank, swapDue := true }) p, .done stOk [0xFFFFFFFF])
        else
          let at_ := swapBlock d (u b 4 4)
          (onDdc i n (fun d => { load d with swapAt := some at_ }) p, .done stOk [low32 at_]))

def execChanFilterLoad (c : Cmd) : State → Out := effect (runCommand 0x0304 c actFilterLoad)

/-! ### The CHAN window (R115) -/

/-- CHAN_STATUS. -/
def chanStatus (p : Piece) (i : Nat) : Nat :=
  let c := p.chanOf i
  flag (pairedFeed p i) 20 + c.xformSrc * 2 ^ 16 + flag c.xing.en 15 + c.xing.slope * 2 ^ 13 + c.xing.ddc * 2 ^ 10 +
  c.rawRoute * 2 ^ 8 + maskOf 8 fun n => (p.ddc i n).en

/-- CHAN_DDCn_CFG. -/
def ddcConfig (d : Ddc) : Nat :=
  flag d.en 31 + flag d.setting.invert 30 + d.bank * 2 ^ 29 + flag d.swapAt.isSome 28 + d.setting.route * 2 ^ 24 +
  d.setting.k * 2 ^ 16 + activeTaps d

end Sys2Proof.Machine
end

