-- ==== Sys2Proof/WellFormed.lean ====
section
/-! DEFINITION. What operands a row can carry, beyond what their types say: every meaning refuses a command that fails this. -/

namespace Sys2Proof

/-- A converter code of 12 bits, signed (R82). -/
def isCode (c : Int) : Bool := decide (-2048 ≤ c) && decide (c ≤ 2047)

/-- Every command whose operands the row can carry: a sample block has 512 codes of 12 bits (R82); a bus access carries as
many bytes as it writes, and one of BAR2 lies in its 64 GiB (R377); a message of the Net has its size (R559, R560, R565, R568). -/
def Instr.wellFormed : Instr → Bool
  | .sampleBlock _ codes => codes.length == 512 && codes.all isCode
  | .bar2Access write address length bytes => decide (address + length ≤ 2 ^ 36) && (!write || bytes.length == length)
  | .hdmAccess write _ length bytes => !write || bytes.length == length
  | .timeMessageReceive _ _ bytes => bytes.length == 32
  | .announcementReceive _ bytes => bytes.length == 16
  | .crossTriggerReceive _ bytes => bytes.length == 16
  | .alarmSummaryReceive _ bytes => bytes.length == 8
  | _ => true

end Sys2Proof
end

