-- ==== Sys2Proof/Machine/RfFam.lean ====
section
/-! DEFINITION. RFIN: front-end changes, sample blocks, invalid spans, slices and their handover, takeover and rotation
(03 R69 to R88, 12 R321); RFIN_CONFIGURE and RFIN_SELECT_SOURCE (19 R458, R459). -/

namespace Sys2Proof.Machine

/-- An input. -/
def Piece.rf (p : Piece) (i : Nat) : Rfin := nth p.rfin i

/-- The length of a block in 2⁻¹⁶ tick (R82). -/
def Rfin.blockSpan (r : Rfin) : Nat := blockLen * inputPeriod r.paired

/-- The end of the block that is being sampled. -/
def Rfin.blockEnd (r : Rfin) : T16 := r.start + (r.blockSpan : Int)

/-- A span of n samples of the stream from a moment, at the rate of the pair for either input of a pair (R85). -/
def Rfin.spanOf (r : Rfin) (n reason : Nat) (start : T16) : Span :=
  { start := start, stop := some (start + ((n * inputPeriod (r.paired || r.partner) : Nat) : Int)), reason := reason }

/-- Opens a span of n samples from a moment. -/
def Rfin.openSpan (n reason : Nat) (start : T16) (r : Rfin) : Rfin := { r with spans := r.spans ++ [r.spanOf n reason start] }

/-! ### Front end (R69 to R76) -/

/-- The front end that an input has as last commanded. -/
def commandedFront (r : Rfin) : FrontEnd := ((r.changes.getLast?).map (·.front)).getD r.front

/-- BLOCK_SEQ of the first block boundary at or after a moment, from a boundary (its time, BLOCK_SEQ and pairing) on and over
the pairing changes that lie ahead (R72). -/
def boundarySeq (t : T16) : List FrontChange → T16 → Nat → Bool → Nat
  | [], start, seq, paired => seq + ceilDiv (t - start).toNat (blockLen * inputPeriod paired)
  | c :: cs, start, seq, paired =>
    let len := blockLen * inputPeriod paired
    let k := ceilDiv (t - start).toNat len
    if seq + k ≤ c.seq then seq + k
    else boundarySeq t cs (start + (((c.seq - seq) * len : Nat) : Int)) c.seq c.paired

/-- Every DDC of a CHAN instance ends, with every acquisition of its streams (R114, R220). -/
def endChan (i : Nat) (p : Piece) : Piece :=
  let p := (List.range 8).foldl (fun p n => onDdc i n (fun d => { d with changes := [] }) (stopDdc i n p)) p
  streamLost i 8 p

/-- Pairing begins or ends at a moment: both CHAN instances lose their DDCs; the partner stops, or resumes there; 65,536
samples of both are invalid (R75, R76, R85, R114). DESIGN CHOICE: BLOCK_SEQ of the partner goes on, when pairing ends, from the number
it held before pairing; the spec does not say (log entry 35). -/
def changePairing (i : Nat) (on : Bool) (t : T16) (p : Piece) : Piece :=
  let p := endChan (i + 1) (endChan i p)
  let p := onRfin i (fun r => { r with paired := on }) p
  let p := onRfin i (Rfin.openSpan 65536 4 t) p
  onRfin (i + 1) (fun r => Rfin.openSpan 65536 4 t { r with partner := on, paired := false, start := if on then r.start else t }) p

/-- A front-end change takes effect at a moment: its spans open there (R72, R85). -/
def changeFront (i : Nat) (c : FrontChange) (t : T16) (p : Piece) : Piece :=
  let old := (p.rf i).front
  let p := when (c.paired != (p.rf i).paired) (changePairing i c.paired t) p
  let open_ (b : Bool) (n reason : Nat) (p : Piece) : Piece := when b (onRfin i (Rfin.openSpan n reason t)) p
  let p := open_ (decide (old.att ≠ c.front.att)) 96 1 p
  let p := open_ (old.high != c.front.high) 256 2 p
  let p := open_ (old.tone != c.front.tone) 512 3 p
  onRfin i (fun r => { r with front := c.front, frontSeq := some r.seq }) p

/-- The partner of a pair that is to begin has completed its blocks up to the boundary. -/
def partnerReady (p : Piece) (i : Nat) (c : FrontChange) : Bool :=
  !c.paired || (p.rf i).paired || decide ((p.rf i).start ≤ (p.rf (i + 1)).start)

/-- The changes that take effect with the block in the making (R72); each command completes with its BLOCK_SEQ. -/
def applyFront (i : Nat) : Nat → Piece → Piece
  | 0, p => p
  | k + 1, p =>
    let r := p.rf i
    match r.changes with
    | c :: cs =>
      if r.seq < c.seq || !partnerReady p i c then p
      else applyFront i k (finishWaiting .frontEnd i stOk (fun _ => [low32 c.seq])
        (changeFront i c r.start (onRfin i (fun r => { r with changes := cs }) p)))
    | [] => p

/-- FRONT_END_CHANGE_APPLY (R72). -/
def execFrontEndChangeApply (input : Fin 4) : State → Out := inIsland (0x10 + input.val) fun p =>
  applyFront input (p.rf input).changes.length p

/-! ### Slices (R77 to R83) -/

/-- The boundary at which a block of an input in the making began: the input itself, or the pair that it is the partner of. -/
def feeding (p : Piece) (i : Nat) : Rfin := p.rf (feedOf p i)

/-- SLICE_MAP of the block of an input (R83). -/
def sliceMap (p : Piece) (i : Nat) : Nat :=
  let own := (p.rf i).map
  if (p.rf i).paired then
    let other := (p.rf (i + 1)).map
    8 + nth own 0 + (12 + nth other 0) * 16 + (8 + nth own 1) * 256 + (12 + nth other 1) * 4096
  else 8 + nth own 0 + (8 + nth own 1) * 16

/-- One slice takes the phase of another. -/
def swapSlice (out in_ : Nat) (map : List Nat) : List Nat := map.map fun j => if j == out then in_ else j

/-- S can take a phase: it is neither retired nor under test. -/
def spareReady (p : Piece) (i : Nat) : Bool :=
  let r := p.rf i
  !bitAt r.retired 2 && !(p.safety.tests.any fun t => t.element == sliceElement i 2)

/-- A slice that S stands in for can return to its phase: it is neither retired, nor under test, nor faulted (R81). -/
def mayReturn (p : Piece) (i k : Nat) : Bool :=
  let r := p.rf i
  !bitAt r.retired k && !(p.safety.tests.any fun t => t.element == sliceElement i k) && !(r.faulted.any (·.1 == k))

/-- S takes the phase of a faulted slice; where it stands in for the other slice, that slice returns to its own phase at the same
boundary. A fault of S where it stands in returns the absent slice (R80, R81). -/
def takeOverOne (i : Nat) (start : T16) (p : Piece) (fault : Nat × Nat) : Piece :=
  let r := p.rf i
  let j := fault.1
  let absent := (List.range 2).find? fun k => nth r.map k == 2
  let covers := j != 2 && spareReady p i && !(r.faulted.any (·.1 == 2)) && absent.all (mayReturn p i)
  let returns := j == 2 && absent.any (mayReturn p i)
  when (decide (T16.ofTick (fault.2 + ticksPerUs) ≤ start) && (covers || returns)) (onRfin i fun r =>
    let home := r.map.mapIdx fun k x => if x == 2 then k else x
    clearFault j start { r with map := if j == 2 then home else swapSlice j 2 home, rotation := none }) p

/-- What is due for the faulted slices of an input at the first block boundary at least 1 µs after detection (R80, R81). -/
def takeOver (i : Nat) (p : Piece) : Piece :=
  let start := (feeding p i).start
  (p.rf i).faulted.foldl (takeOverOne i start) p

/-- SLICE_TAKEOVER (R80, R81). -/
def execSliceTakeover (input : Fin 4) : State → Out := inIsland (0x10 + input.val) (takeOver input)

/-- A detected fault of a slice: in an active one the samples are invalid from now on until it is dealt with; a rotation that needs
the slice ends (R80, R81). -/
def failSlice (i slice : Nat) (p : Piece) : Piece :=
  let r := p.rf i
  let active := r.map.contains slice
  let span : Span := { start := T16.ofTick p.now, stop := none, reason := 6 }
  let p := when (active && !(r.faulted.any (·.1 == slice))) (onRfin i fun r =>
    { r with faulted := r.faulted ++ [(slice, p.now)], spans := if r.faulted.isEmpty then r.spans ++ [span] else r.spans }) p
  when (active || slice == 2) (onRfin i fun r => { r with rotation := none }) p

/-- SLICE_FAULT: the monitor of a slice detects a fault (R80, R594). -/
def execSliceFault (input : Fin 4) (slice : Fin 3) : State → Out := inIsland (0x10 + input.val) fun p =>
  let i := input.val
  when (!bitAt (p.rf i).retired slice && (feeding p i).conv != .idle) (fun p =>
    detectError (sliceElement i slice) (raiseAlarm 0x0400 0x03 i (failSlice i slice p))) p

/-- The residuals of two slices meet the limits of R78. -/
def residualsMeet (x : SliceTrim) : Bool :=
  decide (x.offset.natAbs ≤ 64) && decide (x.gain.natAbs ≤ 230) && decide (x.skew.natAbs ≤ 20)

/-- Of the spans that touch the block in the making the one that ends latest, of those the one of the lower code (R86). -/
def lastSpan (r : Rfin) : Option Span :=
  let touching := r.spans.filter fun s =>
    decide (s.start < r.blockEnd) && (match s.stop with | some e => decide (r.start < e) | none => true)
  let later (a b : Span) : Bool := match a.stop, b.stop with
    | none, some _ => true
    | some x, some y => decide (y < x) || (decide (x = y) && decide (a.reason < b.reason))
    | none, none => decide (a.reason < b.reason)
    | some _, none => false
  touching.foldl (fun (best : Option Span) s => match best with
    | some b => if later s b then some s else some b
    | none => some s) none

/-- FIRST_VALID and REASON of the block in the making (R85, R86); `unusable`: R81. DESIGN CHOICE: a span that opens inside a block and
outlasts it gives 512, which marks the earlier samples too, because FIRST_VALID cannot express it (log entry 35). -/
def blockSpanOf (r : Rfin) (unusable : Bool) : Nat × Nat :=
  if unusable then (512, 6)
  else
    match lastSpan r with
    | none => (0, 0)
    | some s => match s.stop with
      | none => (512, s.reason)
      | some e => (min 512 (ceilDiv (e - r.start).toNat (inputPeriod r.paired)), s.reason)

/-- An input of a feed is unusable (R81). -/
def feedUnusable (p : Piece) (i : Nat) : Bool := (p.rf i).unusable || ((p.rf i).paired && (p.rf (i + 1)).unusable)

/-- The input of a feed with the spans of its partner beside its own. -/
def feedSpans (p : Piece) (i : Nat) : Rfin :=
  let r := p.rf i
  if r.paired then { r with spans := r.spans ++ (p.rf (i + 1)).spans } else r

/-- A handover may take place at the boundary of the block in the making: it is neither invalid nor the block of a front-end
change, made or still waiting (R79). -/
def boundaryClear (p : Piece) (i : Nat) : Bool :=
  let f := feedOf p i
  let r := p.rf f
  (blockSpanOf (feedSpans p f) (feedUnusable p f)).1 == 0 && !(r.changes.any fun c => decide (c.seq ≤ r.seq)) &&
    r.frontSeq != some r.seq

/-- The trim set in which a slice stands in a phase (R77). -/
def trimSet (slice phase : Nat) : Nat := if slice == 2 then 2 + phase else slice

/-- CALMGR sets the trims of a slice in a phase, unless an override holds them (R77, R78, R326). -/
def setTrim (i slice phase : Nat) (t : SliceTrim) (p : Piece) : Piece :=
  when (!bitAt p.cal.sliceOverrides (3 * i + slice)) (onRfin i fun r => { r with trims := put r.trims (trimSet slice phase) t }) p

/-- SLICE_HANDOVER: the incoming slice has shadowed for 256 blocks and meets the limits with the trims to which CALMGR has adjusted
it (R78, R321). -/
def execSliceHandover (input : Fin 4) (residuals : SliceTrim) (s : State) (trim : SliceTrim := default) : Out :=
  inIsland (0x10 + input.val) (fun p =>
  let i := input.val
  match (p.rf i).rotation with
  | some t =>
    when ((t.step == 1 || t.step == 3) && decide (256 ≤ t.blocks) && residualsMeet residuals && boundaryClear p i) (fun p =>
      let back := t.step == 3
      let p := setTrim i (if back then t.slice else 2) t.slice trim p
      let p := onRfin i (fun r =>
        { r with map := if back then swapSlice 2 t.slice r.map else swapSlice t.slice 2 r.map
                 handovers := sat32 r.handovers 1, handoverDue := true
                 rotation := if back then none else some { slice := t.slice, step := 2, began := p.now } }) p
      when (back && !t.returns) (onCal fun c => { c with sliceRotations := sat32 c.sliceRotations 1 }) p) p
  | none => p) s

/-- HANDOVER_ABANDON: 65,536 blocks have not met the limits; the incoming slice receives the tone test (R79, R321). -/
def execHandoverAbandon (input : Fin 4) : State → Out := inIsland (0x10 + input.val) fun p =>
  let i := input.val
  match (p.rf i).rotation with
  | some t =>
    when ((t.step == 1 || t.step == 3) && decide (65536 ≤ t.blocks)) (fun p =>
      detectError (sliceElement i (if t.step == 1 then 2 else t.slice))
        (onRfin i (fun r => { r with rotation := none, matchFail := sat32 r.matchFail 1 }) p)) p
  | none => p

/-- The slice of an input that a rotation can send out: neither retired, nor under test, nor faulted. -/
def mayLeave (p : Piece) (i j : Nat) : Bool :=
  (p.rf i).map.contains j && !(p.safety.tests.any fun t => t.element == sliceElement i j) && (p.rf i).faulted.isEmpty

/-- SLICE_ROTATION_START (R321, R326). -/
def execSliceRotationStart (input : Fin 4) : State → Out := effect fun p =>
  let i := input.val
  let r := p.rf i
  let due := match r.rotated with
    | some t => decide (t + p.cal.slicePeriod * ticksPerMs / 2 ≤ p.now)
    | none => true
  when (p.cal.mode != .startup && !p.cal.running && bitAt p.cal.sliceEn i && (feeding p i).conv == .running && !r.unusable &&
      r.rotation.isNone && spareReady p i && !r.map.contains 2 && mayLeave p i r.nextOut && due)
    (onRfin i fun r => { r with rotation := some { slice := r.nextOut, step := 1, began := p.now }, rotated := some p.now
                                nextOut := 1 - r.nextOut }) p

/-- SLICE_AWAY_END: SLICE_AWAY is over; the slice, with the trims to which CALMGR has refreshed it, shadows S (R321). -/
def execSliceAwayEnd (input : Fin 4) (s : State) (trim : SliceTrim := default) : Out :=
  effect (fun p =>
  match (p.rf input).rotation with
  | some t => when (t.step == 2 && decide (t.began + p.cal.sliceAway * ticksPerMs ≤ p.now))
      (fun p => onRfin input (fun r => { r with rotation := some { t with step := 3, began := p.now, blocks := 0 } })
        (setTrim input t.slice t.slice trim p)) p
  | none => p) s

/-! ### Sample blocks (R82 to R86) -/

/-- Steps 2 and 3 of a full calibration run the input with SOURCE TONE: the switch and the return at a block boundary, and
invalid blocks between (R317; log entry 34). -/
def calTone (i : Nat) (p : Piece) : Piece :=
  let r := p.rf i
  let at_ : Int := T16.tick r.start
  let on := p.cal.running && decide ((p.cal.began + 50 * ticksPerMs : Nat) ≤ at_) && decide (at_ < (p.cal.began + 650 * ticksPerMs : Nat))
  match r.saved with
  | none => when on (onRfin i fun r =>
      { r with saved := some r.front, front := { r.front with tone := true }
               spans := r.spans ++ [{ start := r.start, stop := none, reason := 3 }] }) p
  | some f => when (!on) (onRfin i fun r =>
      let ended := r.spans.map fun s => if s.reason == 3 && s.stop.isNone then { s with stop := some r.start } else s
      let r := { r with saved := none, front := f, spans := ended }
      if f.tone then r else r.openSpan 512 3 r.start) p

/-- The bytes of a block: samples of 12 bits, two to three bytes (R84). -/
def packSamples (codes : List Int) : Bytes :=
  (chunks 2 codes.length codes).flatMap fun c => leBytes 3 (twos 12 (nth c 0) + twos 12 (nth c 1) * 4096)

/-- A span has ended by a moment. -/
def Span.endedBy (t : T16) (s : Span) : Bool :=
  match s.stop with
  | some e => decide (e ≤ t)
  | none => false

/-- One rotation sees a further block of its input. -/
def countShadow (r : Rfin) : Rfin := { r with rotation := r.rotation.map fun t => { t with blocks := t.blocks + 1 } }

/-- A completed block goes to a CHAN instance that takes the stream: its routes, its DDCs (R75, R96); `ends`: the end of its invalid
span, where it is known. -/
def feedChan (j : Nat) (codes : List Int) (b : AcqBlock) (reason : Nat) (ends : Option T16) (paired : Bool) (p : Piece) : Piece :=
  let p := applyRoutes j b.start p
  let c := p.chanOf j
  let hand := bitAt b.flags 0
  let cal := bitAt b.flags 3
  let p := when (bitAt c.rawRoute 0) (feedAcq j 8 b) p
  let p := feedTrigger j 8 b p
  let p := when (bitAt c.rawRoute 1) (sendStream
    { channel := j, kind := 0x10, panelType := 0x04, inst := j, sub := 8, record := b.header ++ b.data, samples := codes
      time := b.start, period := b.period, invalidFrom := b.invalidFrom, firstValid := b.firstValid }) p
  let p := when (c.xformSrc == 8) (feedXform j { src := 8, paired := paired, period := b.period } b.start
    (codes.mapIdx fun k x =>
      { re := x, bad := decide (k < b.firstValid), hand := hand, cal := cal, sat := bitAt b.flags 8
        post := bitAt b.flags 2 && k == 0 })) p
  (List.range 8).foldl (fun p n => mixBlock j n codes reason b.firstValid ends hand cal p) p

/-- RFIN completes the block in the making with its header and hands it on (R82 to R86). -/
def doSampleBlock (i : Nat) (codes : List Int) (p : Piece) : Piece :=
  let r := p.rf i
  let q := p.rf (i + 1)
  let (valid, reason) := blockSpanOf (feedSpans p i) (feedUnusable p i)
  let ends := if feedUnusable p i then none else (lastSpan (feedSpans p i)).bind (·.stop)
  let clipped := (codes.filter fun x => x == -2048 || x == 2047).length
  let hand := r.handoverDue || (r.paired && q.handoverDue)
  let cal := r.calDue || (r.paired && q.calDue)
  let mark := gateMark p r.start
  let post := postJumpDue p r.postJump r.start
  let flags := flag cal 5 + flag post 4 + flag mark.coast 3 + flag (decide (0 < clipped)) 2 + flag hand 1 + flag (valid != 0) 0
  let front := r.front.att / 2 * 16 + flag r.front.high 3 + flag r.front.tone 2
  let header := leBytes 4 (r.seq % 2 ^ 32) ++ leBytes 1 (flag r.paired 2 + i) ++ leBytes 1 flags ++ leBytes 2 valid ++
    leBytes 8 (T16.tick r.start).toNat ++ labelBytes mark.label ++ leBytes 1 reason ++ leBytes 1 front ++
    leBytes 2 (sliceMap p i) ++ leBytes 2 (min 65535 clipped)
  let b : AcqBlock :=
    { header := header, data := packSamples codes, seq := r.seq, samples := codes.map fun x => (x, 0), start := r.start
      period := inputPeriod r.paired, invalidFrom := 0, firstValid := valid
      flags := flag hand 0 + flag mark.coast 1 + flag post 2 + flag cal 3 + flag (decide (0 < clipped)) 8 }
  let p := (if r.paired then [i, i + 1] else [i]).foldl (fun p j => feedChan j codes b reason ends r.paired p) p
  let p := onRfin i (fun r =>
    let stop := r.blockEnd
    let starting := r.spans.any fun s => s.reason == 5 && !s.endedBy stop
    countShadow { r with
      seq := r.seq + 1, start := stop, lastSeq := r.seq, overBlocks := sat32 r.overBlocks (if 0 < clipped then 1 else 0)
      handoverDue := false, calDue := false, postJump := r.postJump && !post, spans := r.spans.filter fun s => !s.endedBy stop
      conv := if r.conv == .starting && !starting then .running else r.conv }) p
  when r.paired (onRfin (i + 1) fun q =>
    let starting := q.spans.any fun s => s.reason == 5 && !s.endedBy r.blockEnd
    countShadow { q with handoverDue := false, calDue := false, spans := q.spans.filter fun s => !s.endedBy r.blockEnd
                         conv := if q.conv == .starting && !starting then .running else q.conv }) p

/-- SAMPLE_BLOCK: the block in the making has ended; what is due at its start comes first (R72, R80, R82). -/
def execSampleBlock (input : Fin 4) (codes : List Int) : State → Out :=
  inIslandIf (Instr.wellFormed (.sampleBlock input codes)) (0x10 + input.val) fun p =>
    let i := input.val
    let p := applyFront i (p.rf i).changes.length (applyCellsDue p)
    let p := calTone i (takeOver i p)
    let p := when (p.rf i).paired (takeOver (i + 1)) p
    let r := p.rf i
    let waits := r.changes.any fun c => decide (c.seq ≤ r.seq)
    when (r.conv != .idle && !r.partner && !waits && decide (r.blockEnd ≤ T16.ofTick p.now)) (doSampleBlock i codes) p

/-! ### Converter start and the synthesizer (R85, R88) -/

/-- The converters of an input start at a lock declaration: 1,024 samples are invalid (R82, R85, R88). DESIGN CHOICE: at a return to
LOCKED the block grid and BLOCK_SEQ run on; the spec does not say (log entry 35). -/
def startConverter (t : T16) (r : Rfin) : Rfin :=
  if r.conv == .idle then
    Rfin.openSpan 1024 5 t { r with conv := .starting, start := t, seq := 0, frontSeq := none }
  else
    Rfin.openSpan 1024 5 t { r with
      conv := .starting
      spans := (r.spans.map fun s => if s.reason == 7 && s.stop.isNone then { s with stop := some t } else s) }

/-- The synthesizer is locked: every converter starts (R85, R88). -/
def startConverters (p : Piece) : Piece := { p with rfin := p.rfin.map (startConverter (T16.ofTick p.now)) }

/-- The synthesizer FAILED: every block carries SYNTH_UNLOCK (R85). -/
def failConverters (p : Piece) : Piece :=
  { p with rfin := (p.rfin.map fun r =>
      if r.conv == .idle then r
      else { r with conv := .failed, spans := r.spans ++ [{ start := r.start, stop := none, reason := 7 }] }) }

/-! ### RFIN_CONFIGURE and RFIN_SELECT_SOURCE (R458, R459) -/

/-- A front-end change is noted with the block at which it takes effect; with the converters IDLE it takes effect at once
(R72). -/
def stageFront (i : Nat) (front : FrontEnd) (paired : Bool) (p : Piece) : Piece × Verdict :=
  let r := p.rf i
  if r.conv == .idle then (changeFront i { front := front, paired := paired, seq := 0 } r.start p, .done stOk [0])
  else
    let seq := boundarySeq (T16.ofTick (p.now + 32)) r.changes r.start r.seq r.paired
    (onRfin i (fun r => { r with changes := r.changes ++ [{ front := front, paired := paired, seq := seq }] }) p,
      .wait .frontEnd i [low32 seq])

/-- The input is, or is to be, the partner of a pair (R76). -/
def isPartner (p : Piece) (i : Nat) : Bool := (p.rf i).partner || (i % 2 == 1 && commandedPaired p i)

/-- An input's pairing as commanded. -/
def pairingOf (p : Piece) (i : Nat) : Bool := i % 2 == 0 && commandedPaired p i

/-- An enabled engine of a pair could not bear the paired stream (R123). -/
def pairOverloads (p : Piece) (i : Nat) : Bool :=
  [i, i + 1].any fun j => engineRuns (p.engine j) && realInput p j && decide (2 ≤ (commandedXform (p.engine j)).overlap)

/-- The rows of an engine's spectrogram would come too fast at the paired rate (R161). -/
def pairRows (p : Piece) (i : Nat) : Bool :=
  let q := onRfin i (fun r => { r with changes := r.changes ++ [{ front := commandedFront r, paired := true, seq := 0 }] }) p
  [i, i + 1].any fun j => realInput p j && rowsTooFast q j

/-- RFIN_CONFIGURE's own work. -/
def actRfin : Act := simple fun f p =>
  let b := f.body
  let i := u b 0 1
  let att := u b 1 1
  let paired := u b 3 1 == 1
  let front := { commandedFront (p.rf i) with att := att, high := u b 2 1 == 1 }
  guarded
    [ (att % 2 != 0 || decide (30 < att) || decide (1 < u b 2 1) || decide (1 < u b 3 1) || (paired && i % 2 == 1) || u b 4 4 != 0,
        stRange),
      (isPartner p i, stState),
      (calibrating p, stBusy),
      (paired && !pairingOf p i && (pairOverloads p i || pairRows p i), stNoResource) ] p
    (stageFront i front paired p)

def execRfinConfigure (c : Cmd) : State → Out := effect (runCommand 0x0301 c actRfin)

/-- RFIN_SELECT_SOURCE's own work. -/
def actSource : Act := simple fun f p =>
  let b := f.body
  let i := u b 0 1
  let tone := u b 1 1 == 1
  let n := u b 2 2
  let old := commandedFront (p.rf i)
  guarded
    [ (tone && n == 0, stZero),
      (decide (1 < u b 1 1) || decide (511 < n) || u b 4 4 != 0, stRange),
      (isPartner p i, stState),
      (calibrating p, stBusy) ] p
    (stageFront i { old with tone := tone, toneN := if n == 0 then old.toneN else n } (pairingOf p i) p)

def execRfinSelectSource (c : Cmd) : State → Out := effect (runCommand 0x0302 c actSource)

/-! ### The RFIN window (R87) -/

/-- RFIN_STATUS. -/
def rfinStatus (r : Rfin) : Nat :=
  let conv := match r.conv with
    | .idle => 0
    | .starting => 1
    | .running => 2
    | .failed => 3
  r.front.att / 2 * 2 ^ 16 + flag r.front.high 15 + flag r.front.tone 14 + flag r.paired 13 + flag r.partner 12 +
  flag (bitAt r.retired 2) 11 + flag (bitAt r.retired 1) 10 + flag (bitAt r.retired 0) 9 + flag r.unusable 8 + conv

end Sys2Proof.Machine
end

