-- ==== Sys2Proof/Machine/Binary64.lean ====
section
/-! DEFINITION. Numbers of the binary64 format as the counter and the tally write and read them: a rational rounded to the
nearest number of the format, ties to even; the value that a bit pattern holds; roots (10 R286, 11 R303; log entry 14). -/

namespace Sys2Proof.Machine

/-- A positive quotient rounded to the nearest natural number, ties to even. -/
def roundEven (a b : Nat) : Nat :=
  let q := a / b
  let r := a % b
  if 2 * r < b then q else if b < 2 * r then q + 1 else q + q % 2

/-- The exponent e of a positive rational a / b with 2^e ≤ a / b < 2^(e+1). -/
def binaryExponent (a b : Nat) : Int :=
  let e : Int := (Nat.log2 a : Int) - Nat.log2 b
  let below := if 0 ≤ e then decide (a < b * 2 ^ e.toNat) else decide (a * 2 ^ (-e).toNat < b)
  if below then e - 1 else e

/-- The bits of a positive rational a / b, infinity where it exceeds the format. -/
def encodeMagnitude (a b : Nat) : Nat :=
  let e := max (binaryExponent a b) (-1022)
  let shift := e - 52
  let m := if 0 ≤ shift then roundEven a (b * 2 ^ shift.toNat) else roundEven (a * 2 ^ (-shift).toNat) b
  if m < 2 ^ 52 then m
  else min ((e + 1022).toNat * 2 ^ 52 + m) (2047 * 2 ^ 52)

/-- The bits of the binary64 number nearest to a rational. -/
def encode64 (q : Rat) : Nat :=
  if q = 0 then 0 else flag (decide (q < 0)) 63 + encodeMagnitude q.num.natAbs q.den

/-- A bit pattern holds a finite number. -/
def finite64 (bits : Nat) : Bool := field bits 52 11 != 2047

/-- The value of a bit pattern; zero for what is not finite. -/
def decode64 (bits : Nat) : Rat :=
  let e := field bits 52 11
  let m := field bits 0 52
  let x : Rat :=
    if e = 2047 then 0
    else if e = 0 then (m : Rat) / 2 ^ 1074
    else if 1075 ≤ e then ((2 ^ 52 + m) * 2 ^ (e - 1075) : Nat)
    else ((2 ^ 52 + m : Nat) : Rat) / 2 ^ (1075 - e)
  if bitAt bits 63 then -x else x

/-- The bits of the binary64 number nearest to the root of a rational that is not negative: the integer root of its multiple
by 4^k with at least 56 bits, and half a unit for what the integer root leaves. -/
def encodeSqrt (q : Rat) : Nat :=
  if q ≤ 0 then 0
  else
    let a := q.num.natAbs
    let k := (56 + Nat.log2 q.den)
    let n := a * 4 ^ k / q.den
    let r := Nat.sqrt n
    let exact := decide (r * r * q.den = a * 4 ^ k)
    encode64 ((if exact then (r : Rat) else r + 1 / 2) / 2 ^ k)

end Sys2Proof.Machine
end

