-- ==== Sys2Proof/Machine/CountFam.lean ====
section
/-! DEFINITION. The counter: slots, gates, the ordering stage, acceptance windows, measurement functions, result records and
statistics (10 R256 to R294); COUNT_START, COUNT_STOP, COUNT_READ, TI_WINDOW_SET (19 R479 to R482). -/

namespace Sys2Proof.Machine

/-- A slot. -/
def Piece.slot (p : Piece) (s : Nat) : CountSlot := nth p.tally.slots s

/-- Single-source functions (R269). -/
def CountSetting.single (s : CountSetting) : Bool := decide (s.function ≤ 4)

/-- A moment in fs / 65,536. -/
def fine (t : T16) : Int := t * 390625

/-- Seconds between two moments. -/
def secondsOf (d : T16) : Rat := (d : Rat) / (65536 * ticksPerSecond : Nat)

/-- The wait of the ordering stage: 16 µs (R267). -/
def orderingWait : Nat := 16 * ticksPerUs

/-- The released order has reached a moment by the clock (R266, R267). -/
def tapReached (p : Piece) (t : T16) : Bool := decide (t + T16.ofTick orderingWait ≤ T16.ofTick p.now)

/-- The first tally-island cycle that falls at least 16 cycles on (R261). -/
def sixteenCycles (now : Nat) : Nat := (now + 33) / 2 * 2

/-- The tick at which a slot ends by COUNT_STOP, loss or fault, with its STOP_CAUSE and INVALID_CAUSE (R280, R291). -/
def CountSlot.ending (c : CountSlot) : Option (Nat × Nat × Nat) :=
  match c.stopAt, c.lossAt with
  | some s, some (l, cause) => if l < s then some (l, cause - 3, cause) else some (s, 2, 0)
  | some s, none => some (s, 2, 0)
  | none, some (l, cause) => some (l, cause - 3, cause)
  | none, none => none

/-! ### Acceptance window (R270 to R272) -/

/-- An ARM_SRC stamp opens an opening, which ends the one before (R271). -/
def addOpening (t : T16) (c : CountSlot) : CountSlot :=
  let start := fine t + (c.window.openDelay : Int) * 65536
  let old := match c.openings.getLast? with
    | some o => c.openings.dropLast ++ [{ o with stop := min o.stop start }]
    | none => []
  { c with openings := old ++ [{ start := start, stop := start + (c.window.width : Int) * 65536 }] }

/-- The start of the opening in which a moment lies; with ARM_SRC NONE the window is always open (R271). -/
def openingAt (c : CountSlot) (t : T16) : Option Int :=
  if c.window.armSrc == 0xFF then some 0
  else (c.openings.reverse.find? fun o => decide (o.start ≤ fine t) && decide (fine t ≤ o.stop)).map (·.start)

/-- A gate contains a moment (R265). -/
def Gate.contains (g : Gate) (t : T16) : Bool :=
  decide (g.b0 ≤ t) && match g.b1 with
    | some b => decide (t < b)
    | none => true

/-- Changes the gate that contains a moment. What belongs to a gate that has closed under R266 is reported in none (R646; log
entry 62). -/
def atGate (t : T16) (f : Gate → Gate) (c : CountSlot) : CountSlot :=
  { c with gates := (c.gates.map fun g => if g.contains t then f g else g) }

/-- The counts of an opening are decided at its close (R275, R646). -/
def decideOpening (o : Opening) (c : CountSlot) : CountSlot :=
  let at_ : T16 := o.stop / 390625
  match o.first, o.second with
  | some _, some _ => atGate at_ (fun g => { g with rejected := g.rejected + 1 }) c
  | some _, none => atGate at_ (fun g => { g with noStop := g.noStop + 1 }) c
  | none, _ => if o.seenStop then atGate at_ (fun g => { g with noStart := g.noStart + 1 }) c else c

/-- Decides every opening that has closed before a moment in fs / 65,536. -/
def decideOpenings (before : Int) (c : CountSlot) : CountSlot :=
  let due (o : Opening) : Bool := !o.done && decide (o.stop < before)
  let c' := (c.openings.filter due).foldl (fun c o => decideOpening o c) c
  { c' with openings := (c.openings.map fun o => if due o then { o with done := true } else o) }

/-! ### Boundaries (R262, R263) -/

/-- Another gate may be opened. -/
def mayOpen (c : CountSlot) (seq : Nat) : Bool :=
  c.setting.continuous || decide (seq < c.setting.gates)

/-- Opens a gate at a boundary; in TIME mode its ends are known. -/
def openGate (p : Piece) (seq : Nat) (b0 : T16) (c : CountSlot) : CountSlot :=
  if !mayOpen c seq then c
  else
    let mark := gateMark p b0
    let time := c.setting.mode == 0
    let g := T16.ofTick c.setting.gate
    { c with gateSeq := seq
             gates := c.gates ++ [{ seq := seq, b0 := b0, b1 := if time then some (b0 + g) else none
                                    b2 := if time then some (b0 + 2 * g) else none
                                    first := some mark, flags := flag mark.coast 0 }] }

/-- A boundary ends the open nominal spans: it is B_{g+1} of the latest gate and B_{g+2} of the one before (R262). -/
def endSpan (p : Piece) (t : T16) (g : Gate) : Gate :=
  let mark := gateMark p t
  match g.b1 with
  | none => { g with b1 := some t, last := some (g.last.getD mark), flags := g.flags ||| flag mark.coast 0 }
  | some _ => { g with b2 := some (g.b2.getD t) }

/-- A boundary that a stamp makes (EVENTS, EXTERNAL). -/
def pushBoundary (p : Piece) (t : T16) (c : CountSlot) : CountSlot :=
  openGate p (c.gateSeq + 1) t { c with gates := c.gates.map (endSpan p t) }

/-- A GATE_SRC stamp (R262, R263). -/
def externalBoundary (p : Piece) (t : T16) (c : CountSlot) : CountSlot :=
  match c.gates.getLast? with
  | none => if c.gateSeq == 0 then openGate p 0 t c else c
  | some g =>
    if g.b1.getD g.b0 + T16.ofTick ticksPerUs ≤ t then pushBoundary p t c
    else atGate t (fun g => { g with merged := true }) { c with merged := sat32 c.merged 1 }

/-- An accepted stamp in EVENTS mode: the first begins gate 0; one at or beyond the next multiple of GATE is a boundary
(R262). -/
def eventBoundary (p : Piece) (s : Stamp) (c : CountSlot) : CountSlot :=
  match c.eventSeq with
  | none => openGate p 0 s.time { c with eventSeq := some s.seq, eventCount := 0, multiple := c.setting.gate }
  | some last =>
    let n := c.eventCount + (s.seq + 2 ^ 32 - last) % 2 ^ 32
    let c := { c with eventSeq := some s.seq, eventCount := n }
    if n < c.multiple then c
    else pushBoundary p s.time { c with multiple := (n / c.setting.gate + 1) * c.setting.gate }

/-- The time tap passes a nominal boundary of a TIME slot: it is labelled at its own tick, and the next gate begins (R262,
R284). -/
def passBoundary (p : Piece) (c : CountSlot) : CountSlot :=
  if c.state != .running || c.setting.mode != 0 then c
  else
    match c.gates.getLast? with
    | none => c
    | some g =>
      let now := T16.ofTick p.now
      let g := if g.stamps.isEmpty && decide (now = g.b0) then
          let mark := gateMark p g.b0
          { g with first := some mark, flags := g.flags ||| flag mark.coast 0 }
        else g
      let c := { c with gates := c.gates.dropLast ++ [g] }
      match g.b1 with
      | some b =>
        if b ≤ now then
          let mark := gateMark p b
          let last := if g.stamps.isEmpty then some (g.last.getD mark) else g.last
          openGate p (g.seq + 1) b { c with gates := c.gates.dropLast ++
            [{ g with last := last, flags := g.flags ||| flag mark.coast 0 }] }
        else c
      | none => c

/-! ### Single-source functions (R264) -/

/-- A gate takes an accepted stamp: as a member, or as its end stamp. -/
def takeInto (p : Piece) (s : Stamp) (missing crowd : Nat) (g : Gate) : Gate :=
  let t := s.time
  let fits := !g.endTaken && match g.b2 with
    | some b => decide (t < b)
    | none => true
  let ends := match g.b1 with
    | some b => decide (b ≤ t)
    | none => false
  if decide (t < g.b0) || !fits then g
  else
    let mark := gateMark p t
    let more := !g.stamps.isEmpty
    { g with stamps := g.stamps ++ [s], endTaken := ends
             first := if more then g.first else some mark, last := some mark
             flags := g.flags ||| s.flags
             gap := g.gap + (if more then missing else 0)
             crowd := g.crowd + (if more then crowd else 0) + (if bitAt s.flags 3 then 1 else 0) }

/-- A released stamp of the source of a single-source function (R264, R272). -/
def singleStamp (p : Piece) (s : Stamp) (missing : Nat) (c : CountSlot) : CountSlot :=
  if c.setting.function != 4 && (openingAt c s.time).isNone then
    atGate s.time (fun g => { g with outwin := g.outwin + 1 })
      { c with passedGap := c.passedGap + missing, passedCrowd := c.passedCrowd + (if bitAt s.flags 3 then 1 else 0) }
  else
    let gap := missing + c.passedGap
    let crowd := c.passedCrowd
    let c := { c with passedGap := 0, passedCrowd := 0 }
    let c := if c.setting.mode == 1 then eventBoundary p s c else c
    { c with gates := c.gates.map (takeInto p s gap crowd) }

/-! ### Item functions (R275 to R277) -/

/-- An item belongs to the gate that contains its completing stamp (R265). -/
def addItem (t : T16) (x : Rat) : CountSlot → CountSlot := atGate t fun g => { g with items := g.items ++ [x] }

/-- Counts at the gate that contains a moment. -/
def countNoStop (t : T16) : CountSlot → CountSlot := atGate t fun g => { g with noStop := g.noStop + 1 }
def countNoStart (t : T16) : CountSlot → CountSlot := atGate t fun g => { g with noStart := g.noStart + 1 }
def countRejected (t : T16) : CountSlot → CountSlot := atGate t fun g => { g with rejected := g.rejected + 1 }

/-- A stop of TI with ARM_SRC NONE (R275). -/
def freeStop (s : Stamp) (c : CountSlot) : CountSlot :=
  match c.held with
  | [] => countNoStart s.time c
  | a :: _ =>
    let d := s.time - a.time
    if fine d < c.window.winMin * 65536 then countRejected s.time c
    else
      let c := { c with held := [] }
      if c.window.winMax * 65536 < fine d then countNoStart s.time (countNoStop s.time c)
      else addItem s.time (secondsOf d) c

/-- A start of TI with ARM_SRC NONE (R275). -/
def freeStart (s : Stamp) (c : CountSlot) : CountSlot :=
  let c := if c.held.isEmpty then c else countNoStop s.time c
  { c with held := [s] }

/-- An opening takes a start or a stop: the first of each, the stop at or after the start unless SIGNED (R275). -/
def Opening.take (signed_ start : Bool) (s : Stamp) (o : Opening) : Opening :=
  if start then { o with first := some (o.first.getD s) }
  else
    let takes := o.second.isNone && (signed_ || o.first.isSome)
    { o with seenStop := true, second := if takes then some s else o.second }

/-- A start or stop of TI in an opening; the item is formed once both are there (R275). -/
def armedStamp (start : Bool) (s : Stamp) (at_ : Int) (c : CountSlot) : CountSlot :=
  match c.openings.find? (·.start == at_) with
  | none => c
  | some o =>
    let o' := o.take c.setting.signed start s
    let put (o' : Opening) (c : CountSlot) : CountSlot :=
      { c with openings := (c.openings.map fun x => if x.start == at_ then o' else x) }
    match o'.first, o'.second with
    | some a, some b =>
      let d := b.time - a.time
      let accept := decide (c.window.winMin * 65536 ≤ fine d) && decide (fine d ≤ c.window.winMax * 65536)
      if o.done || (o.first.isSome && o.second.isSome) || !accept then put o' c
      else addItem b.time (secondsOf d) (put { o' with done := true } c)
    | _, _ => put o' c

/-- A released stamp of TI (R275). -/
def tiStamp (s : Stamp) (at_ : Int) (c : CountSlot) : CountSlot :=
  let t := c.setting
  let start := s.source == t.src && s.rising == t.startEdge
  let stop := s.source == t.stopSrc && s.rising == t.stopEdge
  if start then (if c.window.armSrc == 0xFF then freeStart s c else armedStamp true s at_ c)
  else if stop then (if c.window.armSrc == 0xFF then freeStop s c else armedStamp false s at_ c)
  else c

/-- Two records follow one another (R276). -/
def consecutive (a b : Stamp) : Bool := b.seq == wrap32 a.seq 1 && !bitAt b.flags 3

/-- A released stamp of WIDTH or DUTY: the run held and this record form an item, or go on, or the run is rejected and this
record begins a new one where it can (R276). -/
def runStamp (s : Stamp) (at_ : Int) (c : CountSlot) : CountSlot :=
  let lead := !c.setting.negative
  let joins (a : Stamp) : Bool := consecutive a s && openingAt c a.time == some at_
  let begin_ (c : CountSlot) : CountSlot :=
    if s.rising == lead then { c with held := [s] } else countRejected s.time { c with held := [] }
  match c.held with
  | [a] =>
    if joins a && s.rising != lead then
      if c.setting.function == 7 then addItem s.time (secondsOf (s.time - a.time)) { c with held := [] }
      else { c with held := [a, s] }
    else if s.rising == lead then begin_ (countRejected a.time c)
    else countRejected s.time { c with held := [] }
  | [a, b] =>
    if joins b && openingAt c a.time == some at_ && s.rising == lead then
      addItem s.time (secondsOf (b.time - a.time) / secondsOf (s.time - a.time)) { c with held := [s] }
    else if s.rising == lead then begin_ (countRejected b.time c)
    else countRejected s.time { c with held := [] }
  | _ => begin_ c

/-- A stamp of source B of PHASE brackets the stamps of A held since the one before (R277). -/
def phaseB (s : Stamp) (c : CountSlot) : CountSlot :=
  let c' : CountSlot := { c with held := [], heldB := some s }
  match c.heldB with
  | some b =>
    if consecutive b s then
      c.held.foldl (fun c a => addItem s.time (360 * secondsOf (a.time - b.time) / secondsOf (s.time - b.time)) c) c'
    else c.held.foldl (fun c a => countRejected a.time c) c'
  | none => c'

/-- A stamp of source A of PHASE waits for its bracket; before the first of B it has none (R277). -/
def phaseA (s : Stamp) (c : CountSlot) : CountSlot :=
  if c.heldB.isNone then countRejected s.time c else { c with held := c.held ++ [s] }

/-- A released stamp of a measured source of an item function (R272, R275 to R277). -/
def itemStamp (p : Piece) (s : Stamp) (missing : Nat) (c : CountSlot) : CountSlot :=
  let t := c.setting
  let isB := t.function == 6 && s.source == t.stopSrc
  let used := t.function != 5 || (s.source == t.src && s.rising == t.startEdge) || (s.source == t.stopSrc && s.rising == t.stopEdge)
  let opening := openingAt c s.time
  let c := if t.mode == 1 && opening.isSome then eventBoundary p s c else c
  let inGate (g : Gate) : Gate :=
    if g.contains s.time then
      { g with gap := g.gap + missing, crowd := g.crowd + (if bitAt s.flags 3 then 1 else 0)
               flags := if used && (isB || opening.isSome) then g.flags ||| s.flags else g.flags
               outwin := g.outwin + (if used && !isB && opening.isNone then 1 else 0) }
    else g
  let c := { c with gates := c.gates.map inGate }
  if isB then phaseB s c
  else if !used then c
  else
    match opening with
    | none => c
    | some at_ =>
      if t.function == 5 then tiStamp s at_ c
      else if t.function == 6 then phaseA s c
      else runStamp s at_ c

/-! ### The ordering stage (R267) -/

/-- The numbers missing before a record of a source, and the source's latest number noted. -/
def noteSeq (s : Stamp) (c : CountSlot) : Nat × CountSlot :=
  let missing := match lookup c.lastSeqs s.source with
    | some prev => (s.seq + 2 ^ 32 - prev - 1) % 2 ^ 32
    | none => 0
  (missing, { c with lastSeqs := insert' c.lastSeqs s.source s.seq })

/-- A released stamp: as an arm, as a gate, as a stamp of a measured source. -/
def releaseStamp (p : Piece) (s : Stamp) (c : CountSlot) : CountSlot :=
  let t := s.time
  let beyond := match c.ending with
    | some (tick, _, _) => decide (T16.ofTick tick ≤ t) && !(decide (t = T16.ofTick tick) && c.gates.any fun g => g.b1 == some t)
    | none => false
  if decide (t < T16.ofTick c.effectAt) || beyond then c
  else
    let c := decideOpenings (fine t) c
    let c := if s.source == c.window.armSrc && s.rising == c.window.armEdge then addOpening t c else c
    let c := if c.setting.mode == 2 && s.source == c.setting.gateSrc && s.rising == c.setting.gateEdge then
        externalBoundary p t c
      else c
    if !c.measures s.source then c
    else
      let (missing, c) := noteSeq s c
      if c.setting.single then singleStamp p s missing c else itemStamp p s missing c

/-- The rank of a stamp among those of one time: gates and arms, then A before B, but B before A for PHASE. -/
def stampRank (c : CountSlot) (s : Stamp) : Nat :=
  if !c.measures s.source then 0
  else if s.source == c.setting.src then (if c.setting.function == 6 then 2 else 1)
  else (if c.setting.function == 6 then 1 else 2)

/-- The order of time in a slot's ordering stage. -/
def stampBefore (c : CountSlot) (a b : Stamp) : Bool :=
  decide (a.time < b.time) || (decide (a.time = b.time) && decide (stampRank c a < stampRank c b))

/-- A slot takes a source of the fabric: measured, gate or arm. -/
def slotTakes (c : CountSlot) (source : Nat) : Bool :=
  c.state == .running && (c.measures source || (c.setting.mode == 2 && c.setting.gateSrc == source) || c.window.armSrc == source)

/-- A stamp enters the ordering stages of the slots that take its source (R267). -/
def orderStamp (s : Stamp) : Piece → Piece :=
  mapSlots fun c => if slotTakes c s.source then { c with ordering := insertBy (stampBefore c) s c.ordering } else c

/-- The moment at which the oldest gate closes by the clock: B_{g+2}, or B_{g+1} of an item function (R266). -/
def timedClose (c : CountSlot) : Option T16 :=
  match c.gates with
  | g :: _ => if c.setting.single then g.b2 else g.b1
  | [] => none

/-- The released order has reached a moment: no stamp before it waits (R266). -/
def orderReached (p : Piece) (c : CountSlot) (t : T16) : Bool :=
  tapReached p t && match c.ordering with
    | s :: _ => decide (t ≤ s.time)
    | [] => true

/-- A close tied to a time comes before a stamp. -/
def closeFirst (c : CountSlot) (s : Stamp) : Bool :=
  match timedClose c with
  | some b => decide (b ≤ s.time)
  | none => false

/-- ORDERING_RELEASE: the earliest stamp of a slot is released 16 µs after its time, behind the closes that come before it
(R266, R267). -/
def execOrderingRelease (slot : Fin 32) : State → Out := inIsland 0x20 fun p =>
  let c := p.slot slot
  match c.ordering with
  | s :: rest =>
    when (c.startAt.isNone && tapReached p s.time && !closeFirst c s)
      (onSlot slot fun c => releaseStamp p s { c with ordering := rest }) p
  | [] => p

/-! ### Results (R274 to R287) -/

/-- A value of a result, as binary64 bits: known, or one that the spec leaves without a value (log entry 14). -/
abbrev Known := Option Nat

/-- The five values of a result: VALUE, AUX, STDDEV, MIN, MAX. -/
structure GateValues where
  value : Known := some 0
  aux : Known := some 0
  dev : Known := some 0
  least : Known := some 0
  greatest : Known := some 0
  deriving DecidableEq, Repr, Inhabited

/-- The mean of numbers. -/
def mean (l : List Rat) : Rat := l.sum / l.length

/-- The sample deviation as bits; 0 for fewer than two numbers (R278). -/
def deviationBits (l : List Rat) : Nat :=
  if l.length < 2 then 0
  else
    let m := mean l
    encodeSqrt ((l.map fun x => (x - m) * (x - m)).sum / (l.length - 1 : Nat))

/-- Edge indices and times in seconds from the first stamp, by the PRESCALE in force at that stamp (R274). -/
def indexed (l : List Stamp) : List (Rat × Rat) :=
  match l with
  | [] => []
  | a :: _ => l.map fun s => (((s.seq + 2 ^ 32 - a.seq) % 2 ^ 32 * 2 ^ a.prescale : Nat), secondsOf (s.time - a.time))

/-- PRESCALE of a source. -/
def prescaleOf (p : Piece) (source : Nat) : Nat := if source == 21 then 0 else (settingOf p source).prescale

/-- A quotient, where its divisor is not zero. -/
def quotient (a b : Rat) : Option Rat := if b = 0 then none else some (a / b)

/-- AUX of a frequency function from its frequency (R274). -/
def deviationFrom (nominal : Nat) (f : Option Rat) : Known :=
  if decode64 nominal = 0 then some 0 else f.map fun f => encode64 (f / decode64 nominal - 1)

/-- The values of FREQ_REGR and PERIOD_REGR (R274). -/
def regression (freq : Bool) (nominal : Nat) (l : List (Rat × Rat)) : GateValues :=
  if l.length < 2 then
    { value := none, aux := deviationFrom nominal none, dev := none, least := none, greatest := none }
  else
    let xm := mean (l.map (·.1))
    let tm := mean (l.map (·.2))
    let sxx : Rat := (l.map fun (x, _) => (x - xm) * (x - xm)).sum
    let b : Rat := (l.map fun (x, t) => (x - xm) * (t - tm)).sum / sxx
    let rs : List Rat := l.map fun (x, t) => t - tm - b * (x - xm)
    let ssr : Rat := (rs.map fun r => r * r).sum
    let f := quotient 1 b
    let s2 : Rat := ssr / (l.length - 2 : Nat)
    let enough := decide (3 ≤ l.length)
    { value := if freq then f.map encode64 else some (encode64 b)
      aux := deviationFrom nominal f
      dev := if !enough then none
        else if freq then f.map fun f => encodeSqrt (f * f * f * f * s2 / sxx) else some (encodeSqrt (s2 / sxx))
      least := if enough then some (encodeSqrt s2) else none
      greatest := some (encode64 (rs.foldl (fun m r => max m (max r (-r))) 0)) }

/-- The values of FREQ_RECIP and PERIOD_RECIP (R274). -/
def reciprocal (freq : Bool) (nominal : Nat) (l : List (Rat × Rat)) : GateValues :=
  match l.getLast? with
  | some (x, t) =>
    if l.length < 2 then { value := none, aux := deviationFrom nominal none }
    else { value := if freq then (quotient x t).map encode64 else some (encode64 (t / x))
           aux := deviationFrom nominal (quotient x t) }
  | none => { value := none, aux := deviationFrom nominal none }

/-- PHASE items unwrapped to within ±180 of the first (R277). -/
def unwrap (l : List Rat) : List Rat :=
  match l with
  | [] => []
  | a :: _ => l.map fun x => x - 360 * ((x - a + 180) / 360).floor

/-- The values of an item function (R278). -/
def itemValues (l : List Rat) : GateValues :=
  match l with
  | [] => { value := none, least := none, greatest := none }
  | a :: _ => { value := some (encode64 (mean l)), dev := some (deviationBits l)
                least := some (encode64 (l.foldl min a)), greatest := some (encode64 (l.foldl max a)) }

/-- N of a gate. -/
def gateCount (t : CountSetting) (g : Gate) : Nat := if t.single then g.stamps.length else g.items.length

/-- The values of a gate (R274 to R278). -/
def gateValues (t : CountSetting) (g : Gate) : GateValues :=
  let l := indexed g.stamps
  match t.function with
  | 0 => regression true t.nominal l
  | 1 => reciprocal true t.nominal l
  | 2 => regression false t.nominal l
  | 3 => reciprocal false t.nominal l
  | 4 => { value := some (encode64 ((l.getLast?.map (·.1)).getD 0)) }
  | 6 => itemValues (unwrap g.items)
  | _ => itemValues g.items

/-- The least N of a function (R274, R278). -/
def minimumN : Nat → Nat
  | 0 | 2 => 3
  | 1 | 3 => 2
  | 4 => 0
  | _ => 1

/-- A mark lies in a gate's span (R279). -/
def SlotMark.touches (m : SlotMark) (first last : T16) : Bool :=
  let a := T16.ofTick m.start
  match m.stop with
  | some s => if s = m.start then decide (first ≤ a) && decide (a < last) else decide (a < last) && decide (first < T16.ofTick s)
  | none => decide (a < last)

/-- An opening overlaps a gate's nominal span (R272). -/
def hasOpening (c : CountSlot) (b0 : T16) (b1 : T16) : Bool :=
  c.openings.any fun o => decide (o.start < fine b1) && decide (fine b0 ≤ o.stop)

/-- The flags of the stamps of a gate as result flags (R284, R285). -/
def stampFlags (flags : Nat) : Nat := flag (bitAt flags 0) 1 + flag (bitAt flags 2) 5 + flag (bitAt flags 6) 6 + flag (bitAt flags 5) 7

/-- The highest of the causes that apply (R279). -/
def highest (l : List (Bool × Nat)) : Nat := (l.filter (·.1)).foldl (fun m x => max m x.2) 0

/-- The end of a gate's nominal span, as far as it is known. -/
def nominalEnd (p : Piece) (g : Gate) : T16 := g.b1.getD (T16.ofTick p.now)

/-- The result of a gate that closes, `truncated` and `loss` as R280 and R291 say; free values replace values that the spec
leaves open. -/
def resultOf (p : Piece) (c : CountSlot) (g : Gate) (truncated : Bool) (loss : Nat) : CountResult × GateValues :=
  let t := c.setting
  let first := g.first.getD (gateMark p g.b0)
  let last := g.last.getD (gateMark p (nominalEnd p g))
  let n := gateCount t g
  let v := gateValues t g
  let marks := c.marks.filter (·.touches first.time last.time)
  let caused (k : Nat) : Bool := marks.any (·.cause == k)
  let noWindow := t.function != 4 && c.window.armSrc != 0xFF && !hasOpening c g.b0 (nominalEnd p g)
  let cause := highest
    [ (decide (n < minimumN t.function), 1), (t.single && (decide (0 < g.crowd) || caused 2), 2), (noWindow, 3),
      (decide (t.function < 4) && caused 4, 4), (caused 5, 5), (loss != 0, loss) ]
  let flags := flag (cause == 0) 0 + stampFlags g.flags + flag (first.steps != last.steps) 2 + flag (decide (0 < g.crowd)) 3 +
    flag (decide (0 < g.gap)) 4 + flag (caused 4) 8 + flag noWindow 9 + flag truncated 10 + flag g.merged 11
  let m := mappingAt p.ledger first.time
  let d := last.time - first.time
  let rate : Rat := if d = 0 then ((m.rho + m.sigma : Int) : Rat) / 2 ^ 64 else ((last.rate - first.rate : Int) : Rat) / d / 2 ^ 64
  let known (k : Known) (i : Nat) : Rat := decode64 (k.getD (Config.freeWord (p.free + i)).toNat)
  ({ gateSeq := g.seq % 2 ^ 32, flags := flags, cause := cause, startMint := (T16.tick first.time).toNat
     startLabel := first.label, endMint := (T16.tick last.time).toNat, epoch := last.epoch % 256
     length := decode64 (encode64 (secondsOf d)), value := known v.value 0, aux := known v.aux 1
     rate := decode64 (encode64 rate), crowd := sat32 g.crowd 0, gap := sat32 g.gap 0, noStop := sat32 g.noStop 0
     noStart := sat32 g.noStart 0, rejected := sat32 g.rejected 0, outwin := sat32 g.outwin 0 }, v)

/-- The 128 bytes of a record; RESULTS_LOST is filled in at its issue (R286). -/
def recordBytes (slot : Nat) (r : CountResult) (function n : Nat) (value aux dev least greatest : Nat) (stats : Bool) : Bytes :=
  leBytes 4 r.gateSeq ++ leBytes 1 slot ++ leBytes 1 (flag stats 7 + function) ++ leBytes 2 r.flags ++ leBytes 8 r.startMint ++
  labelBytes r.startLabel ++ leBytes 1 r.cause ++ leBytes 1 r.epoch ++ leBytes 4 (low32 n) ++ leBytes 8 (encode64 r.length) ++
  leBytes 8 value ++ leBytes 8 aux ++ leBytes 8 dev ++ leBytes 8 least ++ leBytes 8 greatest ++ leBytes 8 (encode64 r.rate) ++
  leBytes 4 r.crowd ++ leBytes 4 r.gap ++ leBytes 4 r.noStop ++ leBytes 4 r.noStart ++ leBytes 4 r.rejected ++
  leBytes 4 r.outwin ++ leBytes 8 r.endMint ++ zeros 4 ++ leBytes 4 (if stats then 0 else high32 n)

/-- The pairs of y of consecutive gates (R287). -/
def yPairs (ys : List (Nat × Rat)) : List (Rat × Rat) :=
  ys.filterMap fun (n, y) => (ys.find? fun z => z.1 == wrap32 n 1).map fun z => (y, z.2)

/-- AUX of a statistics record: the two-sample deviation (R287). -/
def sigmaY (t : CountSetting) (l : List CountResult) : Nat :=
  if 3 < t.function then 0
  else
    let valid := l.filter fun r => bitAt r.flags 0
    let ok := valid.filter fun r => !bitAt r.flags 10 && !bitAt r.flags 11
    let freq (r : CountResult) : Rat := if t.function < 2 then r.value else 1 / r.value
    let m := mean (valid.map freq)
    let y (r : CountResult) : Rat := if decode64 t.nominal = 0 then freq r / m - 1 else r.aux
    let ps := yPairs (ok.map fun r => (r.gateSeq, y r))
    if ps.isEmpty then 0
    else encodeSqrt ((ps.map fun (a, b) => (b - a) * (b - a)).sum / (2 * ps.length : Nat))

/-- The statistics record over a block of results (R287). -/
def statsRecord (slot : Nat) (t : CountSetting) (l : List CountResult) : Bytes :=
  let valid := l.filter fun r => bitAt r.flags 0
  let n := valid.length
  let vs := valid.map (·.value)
  let first := l.headD default
  let last := l.getLastD default
  let total : Rat := (valid.map (·.length)).sum
  let sum (f : CountResult → Nat) : Nat := sat32 ((l.map f).sum) 0
  let r : CountResult :=
    { gateSeq := last.gateSeq
      flags := (l.foldl (fun m r => m ||| r.flags) 0) / 2 * 2 + flag (decide (0 < n)) 0
      cause := if n == 0 then l.foldl (fun m r => max m r.cause) 0 else 0
      startMint := first.startMint, startLabel := first.startLabel, endMint := last.endMint, epoch := last.epoch
      length := if n == 0 then 0 else total / n
      rate := if total = 0 then 0 else ((valid.map fun r => r.rate * r.length).sum : Rat) / total
      crowd := sum (·.crowd), gap := sum (·.gap), noStop := sum (·.noStop), noStart := sum (·.noStart)
      rejected := sum (·.rejected), outwin := sum (·.outwin) }
  let extreme (f : Rat → Rat → Rat) : Nat := match vs with
    | [] => 0
    | a :: _ => encode64 (vs.foldl f a)
  recordBytes slot r t.function n (if n == 0 then 0 else encode64 (mean vs)) (sigmaY t l) (deviationBits vs)
    (extreme min) (extreme max) true

/-- A record that cannot be issued in time, or that a route cannot take, is counted (R288, R289). -/
def countLost (slot : Nat) (p : Piece) : Piece :=
  let p := onSlot slot (fun c => { c with lost := sat32 c.lost 1, lostSince := sat32 c.lostSince 1 }) p
  { p with tally := { p.tally with resultsLost := sat32 p.tally.resultsLost 1 } }

/-- The tick at which a record that falls due now can be issued, at one record per 500 ns behind those that wait (R288). -/
def issueTick (p : Piece) : Nat :=
  let next := match p.tally.issuedAt with
    | some t => max p.now (t + 1280)
    | none => p.now
  next + 1280 * p.tally.results.length

/-- A record falls due; it is dropped where its turn would come more than 20 µs after now (R288). -/
def pushRecord (slot : Nat) (bytes : Bytes) (stats : Bool) (p : Piece) : Piece :=
  if p.now + 20 * ticksPerUs < issueTick p then countLost slot p
  else
    { p with tally := { p.tally with results := p.tally.results ++
        [{ slot := slot, closed := p.now, record := bytes, stats := stats }] } }

/-- The statistics record of the results collected so far falls due. -/
def pushStats (slot : Nat) (p : Piece) : Piece :=
  let c := p.slot slot
  if c.block.isEmpty then p
  else onSlot slot (fun c => { c with block := [] }) (pushRecord slot (statsRecord slot c.setting c.block) true p)

/-- A gate closes: its record falls due, and after STATS_N results a statistics record (R266, R286, R287). -/
def recordGate (slot : Nat) (g : Gate) (truncated : Bool) (loss : Nat) (p : Piece) : Piece :=
  let c := p.slot slot
  let (r, v) := resultOf p c g truncated loss
  let n := gateCount c.setting g
  let bits (k : Known) (i : Nat) : Nat := k.getD (Config.freeWord (p.free + i)).toNat
  let bytes := recordBytes slot r c.setting.function n (bits v.value 0) (bits v.aux 1) (bits v.dev 2) (bits v.least 3)
    (bits v.greatest 4) false
  let p := pushRecord slot bytes false { p with free := p.free + 5 }
  let p := onSlot slot (fun c =>
    { c with invalid := if r.cause == 0 then c.invalid else sat32 c.invalid 1
             block := if c.setting.statsN == 0 then [] else c.block ++ [r] }) p
  when (c.setting.statsN != 0 && decide (c.setting.statsN ≤ (p.slot slot).block.length)) (pushStats slot) p

/-! ### Closing and stopping (R266, R280, R291) -/

/-- A COUNT_STOP completes once every slot it names has closed its gate; word 0 names those it stopped (R480). -/
def settleStops (p : Piece) : Piece :=
  let done (mask : Nat) : Bool := (maskIndices 32 mask).all fun s => (p.slot s).state != .running
  let masks := p.transport.flights.filterMap fun f =>
    match f.progress with
    | .waiting .countStop mask _ => if done mask then some mask else none
    | _ => none
  masks.foldl (fun p mask => finishWaiting .countStop mask stOk (fun r =>
    maskOf 32 (fun s => bitAt mask s && (p.slot s).cause == 2) :: r) p) p

/-- A slot stops (R266, R280, R291): the last of all lets the firmware kernels halt (R350). -/
def stopSlot (slot cause : Nat) (p : Piece) : Piece :=
  let p := onSlot slot (fun c =>
    { c with state := .stopped, cause := cause, ordering := [], gates := [], held := [], heldB := none, openings := [],
             marks := [], stopAt := none, lossAt := none, startAt := none }) p
  let p := when (cause == 2) (pushStats slot) p
  let p := when (p.tally.slots.all fun c => c.state != .running)
    (fun p => { p with gythen := { p.gythen with idleSince := some p.now } }) p
  settleStops p

/-- The oldest gate closes, with its record; openings and marks that lie before the next gate go (R266). -/
def closeOldest (slot : Nat) (truncated : Bool) (loss : Nat) (p : Piece) : Piece :=
  match (p.slot slot).gates with
  | [] => p
  | g :: rest =>
    let p := recordGate slot g truncated loss p
    let from_ := match rest with
      | n :: _ => n.b0
      | [] => g.b1.getD g.b0
    onSlot slot (fun c =>
      { c with gates := rest
               openings := c.openings.filter fun o => decide (fine from_ ≤ o.stop + fine (T16.ofTick orderingWait))
               marks := c.marks.filter fun m => match m.stop with
                 | some s => decide (from_ ≤ T16.ofTick s)
                 | none => true }) p

/-- The last of GATES gates has closed: the slot stops (R266). -/
def afterClose (slot seq : Nat) (p : Piece) : Piece :=
  let c := p.slot slot
  when (c.state == .running && !mayOpen c (seq + 1)) (stopSlot slot 1) p

/-- A slot's end at a tick: gates that end at or before it close as they stand; the gate in progress closes there, truncated but
where COUNT_STOP ends a MANUAL gate; a gate that would begin there is none (R280, R291). -/
def closeAtEnd (slot tick cause loss : Nat) (p : Piece) : Piece :=
  let t := T16.ofTick tick
  let step (p : Piece) (g : Gate) : Piece :=
    if t ≤ g.b0 then p
    else
      let inside := match g.b1 with
        | some b => decide (t < b)
        | none => true
      if inside then
        let mark := gateMark p t
        let g := { g with b1 := some t, last := if g.stamps.isEmpty then some mark else g.last }
        recordGate slot g (loss != 0 || (p.slot slot).setting.mode != 3) loss p
      else recordGate slot g false 0 p
  let p := onSlot slot (decideOpenings (fine t)) p
  let begun := (p.slot slot).gates.filter fun g => decide (g.b0 < t)
  let p := onSlot slot (fun c => { c with gateSeq := (begun.getLast?.map (·.seq)).getD c.gateSeq }) p
  stopSlot slot cause ((p.slot slot).gates.foldl step p)

/-- GATE_CLOSE: the oldest gate whose close has come closes, or the slot ends (R266). -/
def execGateClose (slot : Fin 32) : State → Out := inIsland 0x20 fun p =>
  let n := slot.val
  let c := p.slot n
  let endTick := c.ending
  let beforeEnd (b : T16) : Bool := match endTick with
    | some (t, _, _) => decide (b ≤ T16.ofTick t)
    | none => true
  if c.state != .running then p
  else
    let g := c.gates.headD {}
    let closes := !c.gates.isEmpty && ((c.setting.single && g.endTaken) ||
      match timedClose c with
      | some b => beforeEnd b && orderReached p c b
      | none => false)
    if closes then
      let upTo : Int := match g.b1 with
        | some b => fine b
        | none => 0
      afterClose n g.seq (closeOldest n false 0 (onSlot n (decideOpenings upTo) p))
    else
      match endTick with
      | some (t, cause, loss) => when (orderReached p c (T16.ofTick t)) (closeAtEnd n t cause loss) p
      | none => p

/-! ### Delivery (R288, R289) -/

/-- Records that were not issued in their 20 µs are dropped (R288). -/
def dropLate (p : Piece) : Piece :=
  let late (r : CountRecord) : Bool := decide (r.closed + 20 * ticksPerUs < p.now)
  let q := { p with tally := { p.tally with results := p.tally.results.filter fun r => !late r } }
  (p.tally.results.filter late).foldl (fun p r => countLost r.slot p) q

/-- A record is issued: it carries the drops before it, is kept as the slot's latest, and goes to its routes (R288 to R290,
R496). -/
def issueRecord (r : CountRecord) (p : Piece) : Piece :=
  let c := p.slot r.slot
  let bytes := r.record.take 120 ++ leBytes 4 c.lostSince ++ r.record.drop 124
  let p := onSlot r.slot (fun c =>
    let c := { c with lostSince := 0, issued := true }
    if r.stats then { c with lastStats := some bytes }
    else { c with last := some bytes, lastFlags := u bytes 6 2, lastCause := u bytes 26 1 }) p
  let p := when c.setting.eventRing (fun p =>
    { p with transport := { p.transport with raised := p.transport.raised ++
        [{ kind := 0x04, mint := u bytes 8 8, label := u bytes 16 4 * 2 ^ 48 + u bytes 20 6, panelType := 0x0B, inst := 0
           body := bytes }] } }) p
  when c.setting.stream (fun p =>
    { p with stream := { p.stream with arrivals := p.stream.arrivals ++
        [{ channel := c.setting.streamCh, kind := 0x12, panelType := 0x0B, sub := r.slot, record := bytes }] } }) p

/-- RESULT_ISSUE: the oldest record in order of closing is issued, at most one in 500 ns (R288). -/
def execResultIssue : State → Out := inIsland 0x20 fun p =>
  let p := dropLate p
  let free := match p.tally.issuedAt with
    | some t => decide (t + 1280 ≤ p.now)
    | none => true
  match p.tally.results with
  | r :: rest =>
    when free (fun p => issueRecord r { p with tally := { p.tally with results := rest, issuedAt := some p.now } }) p
  | [] => p

/-! ### Commands -/

/-- The settings in a COUNT_START body (R479). -/
def countSettingOf (b : Bytes) : CountSetting :=
  let o := u b 4 1
  { function := u b 1 1, src := u b 2 1, stopSrc := u b 3 1
    startEdge := bitAt o 7, stopEdge := bitAt o 6, gateEdge := bitAt o 5, negative := bitAt o 4, signed := bitAt o 3
    align := bitAt o 2, continuous := bitAt o 1
    mode := u b 5 1, gateSrc := u b 6 1, gate := u b 8 8, startMint := u b 16 8, gates := u b 24 4, statsN := u b 28 2
    eventRing := bitAt (u b 7 1) 7, stream := bitAt (u b 7 1) 6, streamCh := u b 7 1 % 64, nominal := u b 32 8 }

/-- Two-source functions. -/
def CountSetting.two (s : CountSetting) : Bool := s.function == 5 || s.function == 6

/-- What of R260 and R479 makes ST_RANGE. -/
def countRange (p : Piece) (b : Bytes) (w : CountWindow) : Bool :=
  let s := countSettingOf b
  let ti := s.function == 5
  let srcBad := decide (22 < s.src) || (s.two && decide (22 < s.stopSrc)) || (!s.two && s.stopSrc != 0xFF)
  let gateBad := match s.mode with
    | 0 => decide (s.gate < 2560) || decide (2560000000000 < s.gate)
    | 1 => decide (2 ^ 32 ≤ s.gate)
    | _ => s.gate != 0
  let unused := bitAt (u b 4 1) 0 || (!ti && (s.startEdge || s.stopEdge || s.signed)) || (s.mode != 2 && s.gateEdge) ||
    (s.function != 7 && s.function != 8 && s.negative) || (s.mode != 0 && s.align)
  let gateSrcBad := if s.mode == 2 then decide (23 < s.gateSrc) || s.gateSrc == s.src || (s.two && s.gateSrc == s.stopSrc)
    else s.gateSrc != 0xFF
  let nominalBad := !finite64 s.nominal || decide (decode64 s.nominal < 0)
  decide (8 < s.function) || decide (3 < s.mode) || decide (31 < u b 0 1) || srcBad || gateBad || nominalBad || unused || gateSrcBad ||
  (s.mode == 1 && s.two) || (s.mode == 3 && decide (1 < s.gates) && !s.continuous) ||
  (ti && s.src == s.stopSrc && s.startEdge == s.stopEdge) || (s.signed && w.armSrc == 0xFF) ||
  (s.align && p.ledger.state == .unset) || (s.startMint != 0 && decide (s.startMint < sixteenCycles p.now)) ||
  (!s.stream && s.streamCh != 0) || u b 30 2 != 0 ||
  (w.armSrc != 0xFF && (w.armSrc == s.src || (s.two && w.armSrc == s.stopSrc)))

/-- A source is enabled, without FAULT_ACTIVE (R260). -/
def sourceReady (p : Piece) (source : Nat) : Bool :=
  if source < 16 then (p.input source).setting.en && !(p.input source).faultActive
  else if source < 20 then (nth p.chan (source - 16)).xing.en
  else if source < 22 then (nth p.fabric.aux (source - 16)).en
  else true

/-- The slope of a source (R268). -/
def sourceSlope (p : Piece) (source : Nat) : Slope :=
  if source < 16 then (p.input source).setting.slope
  else if source < 20 then
    match (nth p.chan (source - 16)).xing.slope with
    | 0 => .rising
    | 1 => .falling
    | _ => .both
  else .rising

/-- The source slopes suit the function (R268). -/
def slopesSuit (p : Piece) (s : CountSetting) : Bool :=
  let a := sourceSlope p s.src
  let b := sourceSlope p s.stopSrc
  match s.function with
  | 5 => a.passes s.startEdge && b.passes s.stopEdge
  | 6 => a != .both && b != .both
  | 7 | 8 => a == .both && prescaleOf p s.src == 0
  | _ => a != .both

/-- The committed rate of TIME slots in records per second, with a further gate length (R288). -/
def committedRate (p : Piece) (gate : Nat) : Rat :=
  let gates := (p.tally.slots.filter fun c => c.state == .running && c.setting.mode == 0).map (·.setting.gate)
  ((if gate == 0 then gates else gate :: gates).map fun (g : Nat) => (ticksPerSecond : Rat) / (g : Rat)).sum

/-- A user kernel runs on the counter's cores (R258). -/
def userKernels (p : Piece) : Bool :=
  [12, 13, 14, 15].any fun j => (nth p.gythen.cores j).state == .running && !(nth p.gythen.cores j).firmware

/-- The contexts of a slot (R257). -/
def slotContexts (slot : Nat) : Nat := 0xFF000 + 128 * slot

/-- The working sums of a gate: N, the sums over x and t, or over the items, and its counts (R264, R274, R278, R286). -/
def gateSums (t : CountSetting) (g : Gate) : List Rat :=
  let l : List (Rat × Rat) := if t.single then indexed g.stamps else g.items.map fun x => (1, x)
  [((g.seq : Nat) : Rat), ((gateCount t g : Nat) : Rat), (l.map (·.1)).sum, (l.map (·.2)).sum, (l.map fun x => x.1 * x.1).sum,
   (l.map fun x => x.1 * x.2).sum, (l.map fun x => x.2 * x.2).sum] ++
  [g.noStop, g.noStart, g.rejected, g.outwin, g.crowd, g.gap, g.flags].map fun (n : Nat) => (n : Rat)

/-- The working sums of the slots that run (R257). -/
def slotSums (p : Piece) : List (Option (List Rat)) :=
  p.tally.slots.map fun c => if c.state == .running then some (c.gates.flatMap (gateSums c.setting)) else none

/-- Steward firmware loads its kernels into cores 12 to 15 while no slot runs (R350). -/
def loadFirmwareKernels (p : Piece) : Piece :=
  let load (j : Nat) (c : Core) : Core :=
    if 12 ≤ j && !c.firmware then
      { state := .running, firmware := true, queue := c.queue, posts := c.posts, denied := c.denied, refused := c.refused }
    else c
  { p with gythen := { p.gythen with idleSince := none, cores := p.gythen.cores.mapIdx load } }

/-- COUNT_START (R259 to R261, R479). -/
def actCountStart : Act := simple fun f p =>
  let b := f.body
  let s := countSettingOf b
  let slot := u b 0 1
  let c := p.slot slot
  let owned (x : Context) : Bool := decide (slotContexts slot ≤ x.index) && decide (x.index < slotContexts slot + 128)
  guarded
    [ ((decide (s.mode < 2) && s.gate == 0) || (!s.continuous && s.gates == 0), stZero),
      (countRange p b c.window, stRange),
      (c.state == .running || !sourceReady p s.src || (s.two && !sourceReady p s.stopSrc) || !slopesSuit p s ||
        (s.stream && (nth p.stream.channels s.streamCh).state == .closed), stState),
      (calibrating p || p.tally.contexts.any owned, stBusy),
      ((s.mode == 0 && decide (2000000 < committedRate p s.gate)) || userKernels p, stNoResource) ] p
    (onSlot slot (fun c =>
      { c with setting := s, state := .running, cause := 0, startAt := some (sixteenCycles p.now), effectAt := sixteenCycles p.now,
               ordering := [], gates := [], gateSeq := 0, eventSeq := none, eventCount := 0, multiple := 0, lastSeqs := [],
               passedGap := 0, passedCrowd := 0, held := [], heldB := none, openings := [], stopAt := none, lossAt := none,
               marks := [], block := [], issued := false })
      (loadFirmwareKernels p), .wait .countStart slot [])

def execCountStart (c : Cmd) : State → Out := effect (runCommand 0x0703 c actCountStart)

/-- The first tick at or after a tick whose label lies at or after the next whole second (R262). -/
def alignedTick (p : Piece) (tick : Nat) : Nat :=
  let m := p.ledger.current
  let l := roundLabel (m.exact (T16.ofTick tick))
  let second := (l + (2 ^ 48 - 1 : Nat)) / (2 ^ 48 : Nat) * (2 ^ 48 : Nat)
  if second = l then tick
  else
    -- the label reaches the second where L ≥ second − 1/2 unit, as it is rounded (R53)
    let d := (2 * second - 1) * labelUnits - 2 * m.exact (T16.ofTick tick)
    let rate := 2 * (65536 : Int) * (2 ^ 64 + m.rho + m.sigma)
    tick + ((d + rate - 1) / rate).toNat

/-- B₀ of a TIME or MANUAL slot (R262). -/
def firstBoundary (p : Piece) (s : CountSetting) (tick : Nat) : Nat :=
  if s.mode == 0 then (if s.startMint != 0 then s.startMint else if s.align then alignedTick p tick else tick) else tick

/-- COUNT_START_APPLY: the start takes effect; the completion returns B₀, or the tick where B₀ waits on a stamp (R261, R479). -/
def execCountStartApply (slot : Fin 32) : State → Out := inIsland 0x20 fun p =>
  let n := slot.val
  let c := p.slot n
  match c.startAt with
  | some t =>
    when (decide (t ≤ p.now)) (fun p =>
      let waits := c.setting.mode == 1 || c.setting.mode == 2
      let b0 := firstBoundary p c.setting t
      let marks := if freqValid p then c.marks else { start := t, stop := none, cause := 4 } :: c.marks
      let p := onSlot n (fun c =>
        let c := { c with startAt := none, marks := marks }
        if waits then c else openGate p 0 (T16.ofTick b0) c) p
      let r := if waits then t else b0
      finishWaiting .countStart n stOk (fun _ => [low32 r, high32 r, if waits then 1 else 0]) p) p
  | none => p

/-- COUNT_STOP (R291, R480). -/
def actCountStop : Act := simple fun f p =>
  let mask := u f.body 0 4
  let t := sixteenCycles p.now
  guarded [ (mask == 0, stZero), (u f.body 4 4 != 0, stRange) ] p
    (let running := maskOf 32 fun s => bitAt mask s && (p.slot s).state == .running
     let stop (s : Nat) (c : CountSlot) : CountSlot :=
       if bitAt running s then { c with stopAt := some (c.stopAt.getD t) } else c
     let p := { p with tally := { p.tally with slots := p.tally.slots.mapIdx stop } }
     if running == 0 then (p, .done stOk [0, low32 t, high32 t])
     else (p, .wait .countStop running [low32 t, high32 t]))

def execCountStop (c : Cmd) : State → Out := effect (runCommand 0x0704 c actCountStop)

/-- COUNT_READ (R290, R481): a store that holds no record yet reads as zeros. -/
def actCountRead : Act := simple fun f p =>
  let b := f.body
  let dest := u b 8 8
  let c := p.slot (u b 0 1)
  let last := pad 128 (c.last.getD [])
  let words := [u last 0 4, u last 6 2 * 2 ^ 16 + u last 26 1 * 2 ^ 8 + u last 5 1, u last 40 4, u last 44 4, u last 48 4, u last 52 4]
  guarded
    [ (decide (31 < u b 0 1) || u b 1 7 != 0 || (dest != 0 && !destOk p.dmc dest 256), stRange),
      (!c.issued, stState) ] p
    (if dest == 0 then (p, .done stOk words)
     else
       match pieceWrite dest (last ++ pad 128 (c.lastStats.getD [])) p with
       | (p, .ok) => (p, .done stOk words)
       | (p, t) => (p, .done (transferStatus t) []))

def execCountRead (c : Cmd) : State → Out := effect (runCommand 0x0705 c actCountRead)

/-- TI_WINDOW_SET (R270, R482). -/
def actTiWindow : Act := simple fun f p =>
  let b := f.body
  let slot := u b 0 1
  let w : CountWindow :=
    { armSrc := u b 1 1, armEdge := bitAt (u b 2 1) 0, openDelay := u b 8 8, width := u b 16 8
      winMin := sgn b 24 8, winMax := sgn b 32 8 }
  let none_ := w.armSrc == 0xFF
  guarded
    [ (!none_ && w.width == 0, stZero),
      (decide (31 < slot) || (!none_ && decide (23 < w.armSrc)) || decide (1 < u b 2 1) || u b 3 5 != 0, stRange),
      (decide (10 ^ 18 < w.openDelay) || (w.width != 0 && decide (w.width < 1000)) || decide (10 ^ 18 < w.width), stRange),
      (decide (w.winMin < -(10 ^ 10)) || decide (w.winMax ≤ w.winMin) || decide (10 ^ 18 < w.winMax), stRange),
      ((p.slot slot).state == .running, stState) ] p
    (onSlot slot (fun c => { c with window := w }) p, .done stOk [])

def execTiWindowSet (c : Cmd) : State → Out := effect (runCommand 0x0706 c actTiWindow)

/-! ### Registers (R294) -/

/-- TALLY_CNTn_CFG. -/
def countConfig (c : CountSlot) : Nat :=
  let s := c.setting
  let state := match c.state with
    | .idle => 0
    | .running => 1
    | .stopped => 2
  state * 2 ^ 30 + c.cause % 8 * 2 ^ 27 + s.mode % 4 * 2 ^ 25 + flag s.align 24 + flag s.continuous 23 + flag s.stream 22 +
  flag s.eventRing 21 + flag s.signed 20 + flag (c.window.armSrc != 0xFF) 19 + flag s.negative 18 + flag s.stopEdge 17 +
  flag s.startEdge 16 + flag s.gateEdge 15 + s.function % 16

/-- TALLY_CNTn_SOURCES. -/
def countSources (c : CountSlot) : Nat :=
  c.setting.gateSrc % 256 * 2 ^ 24 + c.window.armSrc % 256 * 2 ^ 16 + c.setting.stopSrc % 256 * 2 ^ 8 + c.setting.src % 256

/-- TALLY_CNT_RATE. -/
def countRate (p : Piece) : Nat := (committedRate p 0).floor.toNat % 2 ^ 22

end Sys2Proof.Machine
end

