-- ==== Sys2Proof/Machine/DensityFam.lean ====
section
/-! DEFINITION. DENSITY: histograms, their snapshots, spectrogram rows (06); DENSITY_CONFIGURE, DENSITY_SNAPSHOT and
SPECTROGRAM_CONFIGURE (19 R465 to R467). -/

namespace Sys2Proof.Machine

/-- A channel. -/
def Piece.densityCh (p : Piece) (i : Nat) : DensityChannel := nth p.density.channels i

/-! ### Geometry and counts (R148 to R150) -/

/-- v_j: the value of column j of an item (R148). -/
def columnValue (c : DensityChannel) (values : List Int) (j : Nat) : Int :=
  if c.colShift < 0 then values.getD (c.binLo + j / 2 ^ (-c.colShift).toNat) (-32768)
  else
    let w := 2 ^ c.colShift.toNat
    ((values.drop (c.binLo + j * w)).take w).foldl max (-32768)

/-- The column values of an item. -/
def columns (c : DensityChannel) (values : List Int) : List Int := (List.range 4096).map (columnValue c values)

/-- r_j: the row of a column value (R149). -/
def rowOf (c : DensityChannel) (v : Int) : Nat := (max 0 (min 1023 ((c.top - v) / (c.step : Nat)))).toNat

/-- A cell of a bank: undefined until DENSITY_CONFIGURE has cleared the store (R165; log entry 7). -/
def cellCount (i : Nat) (c : DensityChannel) (bank cell : Nat) : Nat :=
  (lookup c.cells (bank, cell)).getD (if c.cleared then 0 else (Config.densityCell i cell).toNat)

/-- One item counts in every column (R149, R150). -/
def countItem (i : Nat) (item : SpectrumItem) (c : DensityChannel) : DensityChannel :=
  let cells := (columns c item.values).mapIdx fun j v => rowOf c v * 4096 + j
  let counts := cells.map fun x => (x, min 65535 (cellCount i c c.bank x + 1))
  { c with cells := counts.foldl (fun m x => insert' m (c.bank, x.1) x.2) c.cells
           sat := c.sat || counts.any fun x => x.2 == 65535
           items := wrap32 c.items 1
           firstMint := if c.items == 0 then item.mint else c.firstMint
           lastMint := item.mint }

/-! ### Spectrogram rows (R160 to R163) -/

/-- A row: header and column values (R163). -/
def rowBytes (i : Nat) (c : DensityChannel) (item : SpectrumItem) : Bytes :=
  let f := item.flags
  let flags := flag f.part 6 + flag f.cfgChange 5 + flag f.cal 4 + flag f.post 3 + flag f.coast 2 + flag f.hand 1 + flag f.sat 0
  leBytes 4 c.rowSeq ++ leBytes 1 i ++ leBytes 1 flags ++ zeros 2 ++ leBytes 8 item.mint ++ labelBytes item.label ++
  leBytes 1 (twos 8 c.colShift) ++ zeros 1 ++ leBytes 4 item.seq ++ leBytes 4 c.binLo ++ zeros 28 ++
  (columns c item.values).flatMap fun v => leBytes 2 (twos 16 v)

/-- The next write of a ring of rows; a staged length takes effect at the wrap (R162, R538). -/
def advanceRows (c : DensityChannel) : DensityChannel :=
  let wraps := (wrap32 c.rowSeq 1) % c.ringRows == 0
  { c with rowSeq := wrap32 c.rowSeq 1
           ringRows := if wraps then c.rowsPending.getD c.ringRows else c.ringRows
           rowsPending := if wraps then none else c.rowsPending }

/-- Every E-th accepted item writes a row; while the DMC refuses writes the row is discarded (R160, R162). -/
def acceptRow (i : Nat) (item : SpectrumItem) (p : Piece) : Piece :=
  let c := p.densityCh i
  if c.ringRows == 0 then p
  else
    let n := c.accepted + 1
    let p := onDensityCh i (fun c => { c with accepted := if n % c.every == 0 then 0 else n }) p
    if n % c.every != 0 then p
    else if dmcRefuses p.dmc then onDensityCh i (fun c => { c with rowsDropped := sat32 c.rowsDropped 1 }) p
    else onDensityCh i advanceRows (dramWrite (deviceAddr c.ringBase + c.rowSeq % c.ringRows * 8256) (rowBytes i c item) p)

/-! ### Snapshots (R153 to R158) -/

/-- The cut of a readout: what the header holds is taken, counting starts anew, a PINGPONG pair swaps its banks
(R153, R155 to R157). -/
def cutDensity (c : DensityChannel) : DensityChannel :=
  match c.readout with
  | some r =>
    if r.cut then c
    else
      let r := { r with cut := true, snapSeq := c.snapSeq, items := c.items, missed := c.missed, firstMint := c.firstMint
                        lastMint := c.lastMint, bank := c.bank
                        flags := flag c.geomFault 3 + flag c.cfgChange 2 + flag c.memErr 1 + flag c.sat 0 }
      { c with readout := some r, snapSeq := wrap32 c.snapSeq 1, items := 0, missed := 0, firstMint := 0, lastMint := 0
               cfgChange := false, memErr := false, sat := false, bank := if c.pingpong then 1 - c.bank else c.bank }
  | none => c

/-- DENSITY_SNAPSHOT_CUT (R153). -/
def execDensitySnapshotCut (channel : Fin 4) : State → Out := inIsland 0x20 (onDensityCh channel cutDensity)

/-- DENSITY_ITEM_ACCEPT: the oldest item on its way is accepted, rejected or discarded (R146, R152, R155, R160); a ring that
DENSITY_CONFIGURE with EN = 0 left running still takes its rows (R465), and both rings of a PINGPONG pair take theirs (R156). -/
def execDensityItemAccept (channel : Fin 4) : State → Out := inIsland 0x20 fun p =>
  let i := channel.val
  match (p.densityCh i).arrivals with
  | [] => p
  | item :: rest =>
    let p := onDensityCh i (fun c => { cutDensity c with arrivals := rest }) p
    let c := p.densityCh i
    if !c.live || item.src != c.src then p
    else if item.flags.tainted || c.geomFault then onDensityCh i (fun c => { c with rejected := sat32 c.rejected 1 }) p
    else
      let blind := c.readout.isSome && !c.pingpong
      let rows := fun p => when c.pingpong (acceptRow (i + 1) item) (acceptRow i item p)
      rows (onDensityCh i (fun c =>
        if !c.en then c
        else if blind then { c with missed := sat32 c.missed 1, missedTotal := sat32 c.missedTotal 1 }
        else countItem i item c) p)

/-- The header of a readout (R157). -/
def densityHeader (i : Nat) (c : DensityChannel) (r : DensityReadout) (aborted : Bool) : Bytes :=
  leBytes 4 r.snapSeq ++ leBytes 1 (flag c.pingpong 2 + i) ++ leBytes 1 (r.flags + flag aborted 4) ++ leBytes 1 r.decay ++
  leBytes 1 (twos 8 c.colShift) ++ leBytes 4 r.items ++ leBytes 4 r.missed ++ leBytes 8 r.firstMint ++ leBytes 8 r.lastMint ++
  leBytes 4 c.binLo ++ leBytes 2 (twos 16 c.top) ++ leBytes 1 c.step ++ leBytes 1 c.src ++ zeros 24

/-- Cells of a histogram. -/
def densityCells : Nat := 4194304

/-- The counts of a bank, row by row (R153). -/
def densityCounts (i : Nat) (c : DensityChannel) (bank : Nat) : Bytes :=
  (List.range densityCells).flatMap fun x => leBytes 2 (cellCount i c bank x)

/-- What a read cell becomes (R154, R156). -/
def writeBackCount (r : DensityReadout) (pingpong : Bool) (n : Nat) : Nat :=
  if r.clear || pingpong then 0 else if r.decay == 0 then n else n - ceilDiv n (2 ^ r.decay)

/-- The write-back of the first `lines` lines of a readout (R154, R158). -/
def writeBackCells (r : DensityReadout) (lines : Nat) (c : DensityChannel) : DensityChannel :=
  let back (e : (Nat × Nat) × Nat) : (Nat × Nat) × Nat :=
    if e.1.1 == r.bank && e.1.2 / 32 < lines then (e.1, writeBackCount r c.pingpong e.2) else e
  { c with cells := (c.cells.map back).filter (·.2 != 0), readout := none }

/-- DENSITY_READOUT_DONE: the last line is written, or the DMC refuses (R153, R154, R158). -/
def execDensityReadoutDone (channel : Fin 4) (refusedAt : Option Nat) : State → Out := effect fun p =>
  let i := channel.val
  let p := onDensityCh i cutDensity p
  let c := p.densityCh i
  match c.readout with
  | some r =>
    let bs := densityHeader i c r (dmcRefuses p.dmc) ++ densityCounts i c r.bank
    let (p, st, written) := readoutWrite true r.dest bs refusedAt p
    let lines := written / 64 - 1
    finishWaiting .densityReadout i st (fun _ => [lines, r.snapSeq]) (onDensityCh i (writeBackCells r lines) p)
  | none => p

/-! ### Commands -/

/-- Bins of a frame of an engine as commanded (R118). -/
def commandedBins (p : Piece) (i : Nat) : Nat := binsOf (realInput p i) (commandedXform (p.engine i)).len

/-- DENSITY_CONFIGURE's own work (R148 to R151, R156, R161, R465). Items on their way are accepted after it and count under it. -/
def actDensity : Act := simple fun f p =>
  let b := f.body
  let i := u b 0 1
  let fl := u b 1 1
  let pingpong := bitAt fl 6
  let src := fl % 16
  let old := p.densityCh i
  let new : DensityChannel :=
    { old with en := bitAt fl 7, pingpong := pingpong, src := src, colShift := sgn b 2 1, step := u b 3 1, top := sgn b 4 2
               binLo := u b 8 4, cleared := true, cells := [], bank := 0, sat := false, geomFault := false, cfgChange := false
               memErr := false, items := 0, missed := 0, firstMint := 0, lastMint := 0, snapSeq := 0 }
  let second := p.densityCh (i + 1)
  let install (p : Piece) : Piece :=
    let p := onDensityCh i (fun _ => new) p
    if pingpong then
      onDensityCh (i + 1) (fun c => { new with ringBase := c.ringBase, ringRows := c.ringRows, every := c.every
                                               rowsPending := c.rowsPending, accepted := c.accepted, rowSeq := c.rowSeq
                                               rowsDropped := c.rowsDropped, missedTotal := c.missedTotal, rejected := c.rejected
                                               arrivals := [] }) p
    else when (i % 2 == 0 && old.pingpong) (onDensityCh (i + 1) fun c => { c with en := false, pingpong := false }) p
  guarded
    [ (new.step == 0, stZero),
      (decide (3 < i) || field fl 4 2 != 0 || decide (4 < src) || (pingpong && i % 2 == 1) || decide (new.colShift < -5) ||
        decide (4 < new.colShift) || decide (64 < new.step) || !densityFits new (commandedBins p i) ||
        (src != 0 && (commandedDetector (p.detector i (src - 1))).type == 8) || u b 6 2 != 0 || u b 12 4 != 0, stRange),
      (pingpongSecond p i, stState),
      (old.readout.isSome || (i % 2 == 0 && pingpong != old.pingpong && second.readout.isSome), stBusy),
      (rowsTooFast (install p) i || (pingpong != old.pingpong && rowsTooFast (install p) (i + 1)), stNoResource) ] p
    (install p, .done stOk [])

def execDensityConfigure (c : Cmd) : State → Out := effect (runCommand 0x0404 c actDensity)

/-- DENSITY_SNAPSHOT's own work (R153, R154, R466). -/
def actDensitySnapshot : Act := simple fun f p =>
  let b := f.body
  let i := u b 0 1
  let clear := bitAt (u b 1 1) 7
  let decay := u b 2 1
  let dest := u b 8 8
  let c := p.densityCh i
  guarded
    [ (decide (3 < i) || u b 1 1 % 128 != 0 || decide (16 < decay) || (clear && decay != 0) || (c.pingpong && decay != 0) ||
        u b 3 5 != 0 || !dramRegion p.dmc dest (64 + 2 * densityCells), stRange),
      (!c.en || pingpongSecond p i, stState),
      (c.readout.isSome, stBusy),
      (dmcRefuses p.dmc, stFault) ] p
    (onDensityCh i (fun c => { c with readout := some { dest := dest, decay := decay, clear := clear } }) p,
      .wait .densityReadout i [])

def execDensitySnapshot (c : Cmd) : State → Out := effect (runCommand 0x0405 c actDensitySnapshot)

/-- SPECTROGRAM_CONFIGURE's own work (R160 to R162, R467). -/
def actSpectrogram : Act := simple fun f p =>
  let b := f.body
  let i := u b 0 1
  let every := u b 2 2
  let rows := u b 4 4
  let base := u b 8 8
  let c := p.densityCh i
  let q := onDensityCh i (fun c => { c with ringRows := rows, rowsPending := none, every := every }) p
  guarded
    [ (rows != 0 && every == 0, stZero),
      (decide (3 < i) || u b 1 1 != 0 || (rows != 0 && !dramRegion p.dmc base (rows * 8256)), stRange),
      (pingpongSecond p i, stState),
      (rows != 0 && rowsTooFast q i, stNoResource) ] p
    (if rows == 0 then
      (onDensityCh i (fun c => { c with ringRows := 0, rowsPending := none }) p, .done stOk [0])
    else if c.ringRows != 0 && base == c.ringBase then
      let staged := decide (rows ≠ c.ringRows)
      (onDensityCh i (fun c => { c with every := every, accepted := 0, rowsPending := if staged then some rows else none }) p,
        .done stOk [if staged then 1 else 0])
    else
      (onDensityCh i (fun c => { c with ringBase := base, ringRows := rows, rowsPending := none, every := every, accepted := 0
                                        rowSeq := 0 }) p, .done stOk [0]))

def execSpectrogramConfigure (c : Cmd) : State → Out := effect (runCommand 0x0406 c actSpectrogram)

/-! ### The DENSITY window (R164) -/

/-- DENSITY_STATUS. -/
def densityStatus (p : Piece) : Nat :=
  (maskOf 4 fun i => (p.densityCh i).readout.isSome) * 16 + maskOf 4 fun i => (p.densityCh i).en

/-- DENSITY_CHn_CFG. -/
def densityConfig (c : DensityChannel) : Nat :=
  flag c.en 31 + flag c.pingpong 30 + flag (c.ringRows != 0) 29 + flag c.rowsPending.isSome 28 + flag c.sat 27 +
  flag c.readout.isSome 26 + flag c.geomFault 25 + c.bank * 2 ^ 24 + c.src * 2 ^ 16 + twos 4 c.colShift * 2 ^ 8 + c.step

end Sys2Proof.Machine
end

