-- ==== Sys2Proof/Machine/DmcFam.lean ====
section
/-! DEFINITION. DMC: refresh, activate counting, error correction, freeze, panic and promotion (15 R387 to R399). -/

namespace Sys2Proof.Machine

/-- Changes DMC. -/
def onDmc (f : Dmc → Dmc) (p : Piece) : Piece := { p with dmc := f p.dmc }

/-- The steward starts a dump, unless one is held or being written, which is counted; a halted steward writes none
(R610). -/
def startDump (cause code : Nat) (p : Piece) : Piece :=
  if p.transport.state == .halted then p
  else if p.safety.dump.isSome || p.safety.dumpPending.isSome then
    { p with safety := { p.safety with dumpsSuppressed := sat32 p.safety.dumpsSuppressed 1 } }
  else { p with safety := { p.safety with
      dumpPending := some { cause := cause, mint := p.now, label := p.label, code := code } } }

/-- The DMC freezes and drops every queued request (R395): cause 1 an uncorrectable data error, 2 a command or address parity
error. -/
def freezeDmc (cause address : Nat) (p : Piece) : Piece :=
  if p.dmc.frozen then p
  else
    let p := onDmc (fun d =>
      { d with frozen := true, selfRefresh := true, subs := List.replicate 8 {}, freezeCause := cause, freezeAddr := address % 2 ^ 38
               ueCount := if cause == 1 then sat32 d.ueCount 1 else d.ueCount }) p
    startDump 1 0x0501 (raiseAlarm 0x0501 0x0F 0 { p with safety := { p.safety with releaseArmed := false } })

/-- DRAM_CORRECTED_ERROR: the corrected data is returned and written back; the error is counted with its address (R394). -/
def execDramCorrectedError (address : Nat) : State → Out := effect fun p =>
  when (!dmcRefuses p.dmc) (onDmc fun d =>
    { d with ceCount := sat32 d.ceCount 1, lastCeAddr := address % 2 ^ 38 }) p

/-- PATROL_SCRUB: every line is read and what is found is corrected; contents stay, and each error found is a row of its own
(R394). -/
def execPatrolScrub : State → Out := effect fun p => p

/-- REFRESH_DUE: made between lines, which pays an interval of debt; postponed while the running burst uses the bank; forced
and counted at four intervals of debt (R392; log entry 26). -/
def execRefreshDue (busy : Bool) : State → Out := effect fun p =>
  when (!dmcRefuses p.dmc) (onDmc fun d =>
    if !busy then { d with refreshDebt := d.refreshDebt - 1 }
    else if d.refreshDebt < 4 then { d with refreshDebt := d.refreshDebt + 1 }
    else { d with refreshForced := sat32 d.refreshForced 1 }) p

/-- The tables with one row of a bank at count zero; a full table gives up the entry with the lowest count (R393). -/
def actReset (bank row : Nat) (t : List ActEntry) : List ActEntry :=
  let mine := t.filter fun e => e.bank == bank && e.row != row
  let others := t.filter (·.bank != bank)
  let mine := if mine.length < 16 then mine
    else
      let low := mine.foldl (fun m e => min m e.count) (mine.headD default).count
      match mine.find? (·.count == low) with
      | some e => mine.filter (·.row != e.row)
      | none => mine
  others ++ mine ++ [{ bank := bank, row := row, count := 0 }]

/-- An activate of a row counts in its bank's table: a tracked row's entry goes up; with the table full the entry with the lowest count
gives way, and the row starts from that count plus 1. An entry stands at ACT_THRESHOLD until its neighbours are refreshed (R393). -/
def countActivate (bank row limit : Nat) (t : List ActEntry) : List ActEntry :=
  let mine := t.filter fun e => e.bank == bank
  if mine.any (·.row == row) then
    t.map fun e => if e.bank == bank && e.row == row then { e with count := min limit (e.count + 1) } else e
  else if mine.length < 16 then t ++ [{ bank := bank, row := row, count := 1 }]
  else
    let low := mine.foldl (fun m e => min m e.count) (mine.headD default).count
    match mine.find? (·.count == low) with
    | some e => t.erase e ++ [{ bank := bank, row := row, count := min limit (low + 1) }]
    | none => t

/-- The column accesses that a bank serves at most to an open row before the pointer passes it (R390). -/
def columnLimit : Nat := 16

/-- Requests that wait for a place enter the bank queues as far as these have room. -/
def Subchannel.refill (s : Subchannel) : Subchannel :=
  s.waiting.foldl (fun s r => s.request r) { s with waiting := [] }

/-- The bank at which the pointer stops next: of those with requests the first after the present one, cyclically (R390). -/
def Subchannel.nextBank (s : Subchannel) : Option Nat :=
  let banks := s.queued.map (·.bank)
  let least (l : List Nat) : Option Nat := l.foldl (fun m b => some (min b (m.getD b))) none
  match least (banks.filter fun b => decide (s.pointer < b)) with
  | some b => some b
  | none => least banks

/-- One column access of a subchannel: to the open row that is served, as long as its bank has a request for it and fewer than 16 have
been made; else the pointer moves on and the next bank's oldest request activates its row. The second part is that row (R390). -/
def Subchannel.serve (s : Subchannel) : Subchannel × Option (Nat × Nat) :=
  let stays := s.serving.filter fun x => decide (x.2.2 < columnLimit) && s.queued.any fun r => r.bank == x.1 && r.row == x.2.1
  match stays with
  | some (bank, row, n) =>
    (Subchannel.refill { s with queued := s.queued.erase { bank := bank, row := row }, serving := some (bank, row, n + 1) }, none)
  | none =>
    match s.nextBank.bind fun b => s.queued.find? (·.bank == b) with
    | some r =>
      (Subchannel.refill { s with queued := s.queued.erase r, pointer := r.bank, serving := some (r.bank, r.row, 1) },
        some (r.bank, r.row))
    | none => ({ s with serving := none }, none)

/-- Every subchannel makes a column access; what it activates is counted, the banks of subchannel k under 8 b + k (R390, R393; log
entry 61). -/
def serveBanks (d : Dmc) : Dmc :=
  let served := d.subs.map Subchannel.serve
  let act := (served.mapIdx fun k x => (k, x.2)).foldl (fun t x =>
    match x.2 with
    | some (bank, row) => countActivate (8 * bank + x.1) row d.actThreshold t
    | none => t) d.act
  { d with subs := served.map (·.1), act := act }

/-- NEIGHBOUR_REFRESH: an entry reached ACT_THRESHOLD; its neighbours are refreshed and it is reset to 0 (R393). -/
def execNeighbourRefresh (bank row : Nat) : State → Out := effect fun p =>
  when (!dmcRefuses p.dmc) (onDmc fun d =>
    { d with neighbourRefresh := sat32 d.neighbourRefresh 1, act := actReset bank row d.act }) p

/-- ACT_WINDOW_CLEAR: the tables clear at the start of each 32 ms refresh window (R393). -/
def execActWindowClear : State → Out := effect (onDmc fun d => { d with act := [] })

/-- BULK_PROMOTION: a bulk port that has waited 10 µs is promoted; the raw stamp log (port 0) never is (R389). -/
def execBulkPromotion (port : Fin 5) : State → Out := effect fun p =>
  when (port.val != 0) (onDmc fun d =>
    { d with promoted := if d.promoted.contains port.val then d.promoted else d.promoted ++ [port.val] }) p

/-- The level of a capture FIFO is one at which its port raises panic, from half full on, or clears it, below one quarter (R204, R391).
The other ports' buffers belong to their readers and writers outside the model's state. -/
def panicLevel (p : Piece) (port : Nat) (raise : Bool) : Bool :=
  let level := ((nth p.acq.acqs port).fifo.map fun w => w.header.length + w.data.length).sum
  decide (16 ≤ port) || (if raise then decide (2 ^ 19 ≤ level) else decide (level < 2 ^ 18))

/-- PANIC_RAISE: a real-time port raises panic, which DMC counts, and ACQ where it is a capture port, or clears it (R391). -/
def execPanicRaise (port : Fin 20) (raise : Bool) : State → Out := effect (fun p => when (panicLevel p port raise) (fun p =>
  let active := bitAt p.dmc.panicActive port
  let p := when (raise && !active && decide (port.val < 16)) (fun p => { p with acq := { p.acq with
    panics := sat32 p.acq.panics 1 } }) p
  onDmc (fun d =>
    if raise && !active then { d with panicActive := d.panicActive + 2 ^ port.val, panicCount := sat32 d.panicCount 1 }
    else if !raise && active then { d with panicActive := d.panicActive - 2 ^ port.val }
    else d) p) p)

/-- DRAM_INIT_DONE: every line has been written with zero (R645). -/
def execDramInitDone : State → Out := effect fun p =>
  when (!dmcRefuses p.dmc && !p.dmc.initDone) (onDmc fun d => { d with initDone := true, dram := [] }) p

/-- DMC_STATUS (R398). -/
def dmcStatus (p : Piece) : Nat :=
  let d := p.dmc
  flag d.frozen 31 + flag d.selfRefresh 30 + flag p.safety.releaseArmed 29 + d.freezeCause % 4 * 2 ^ 27 +
  d.chUp % 16 * 2 ^ 20 + d.speed % 4 * 2 ^ 16

end Sys2Proof.Machine
end

