-- ==== Sys2Proof/Machine/FabricFam.lean ====
section
/-! DEFINITION. The stamp fabric: its rotation, labels and consumers, the raw stamp log (09 R242, R249 to R253, 10 R273); one
idle tick of the piece. -/

namespace Sys2Proof.Machine

/-- A stamp record of 16 bytes (R249). -/
def stampBytes (s : Stamp) : Bytes :=
  leBytes 4 s.seq ++ leBytes 1 (flag s.rising 7 + s.flags % 128) ++ leBytes 1 s.source ++
  leBytes 6 (labelFraction s.label) ++ leBytes 4 (labelSeconds s.label)

/-- A running slot with ARM_SRC set takes a source under its window (R272, R273). -/
def windowed (c : CountSlot) (source : Nat) : Bool :=
  c.state == .running && c.window.armSrc != 0xFF && c.setting.function != 4 &&
  (c.setting.src == source || (c.setting.function == 5 && c.setting.stopSrc == source))

/-- A record of the raw log lies outside the acceptance window (R273). -/
def outsideWindow (p : Piece) (s : Stamp) : Bool :=
  let cs := p.tally.slots.filter fun c => windowed c s.source
  !cs.isEmpty && cs.all fun c => (openingAt c s.time).isNone

/-- Sends a record of the raw log to its channel; a crossing record never carries OUTWIN (R112, R253, R273). -/
def sendRaw (ch : Nat) (s : Stamp) (p : Piece) : Piece :=
  let crossing := decide (16 ≤ s.source) && decide (s.source ≤ 19)
  let s := if outsideWindow p s && !crossing then { s with flags := s.flags ||| 16 } else s
  { p with stream := { p.stream with arrivals := p.stream.arrivals ++
      [{ channel := ch, record := stampBytes s, rawLog := true }] } }

/-- Sends the records of the raw log that have waited 16 µs, in order of merging (R273). -/
def flushRaw (p : Piece) : Piece :=
  let due (x : Stamp × Nat × Nat) : Bool := decide (x.2.1 + orderingWait ≤ p.now)
  let q := { p with fabric := { p.fabric with rawHeld := p.fabric.rawHeld.filter fun x => !due x } }
  (p.fabric.rawHeld.filter due).foldl (fun p x => sendRaw x.2.2 x.1 p) q

/-- The settings of STAMP_RAW_STREAM that have fallen due (R478). -/
def applyRaw (p : Piece) : Piece :=
  match p.fabric.rawNext with
  | some (mask, ch, t) =>
    when (decide (t ≤ p.now)) (fun p => { p with fabric := { p.fabric with rawMask := mask, rawChannel := ch, rawNext := none } }) p
  | none => p

/-- A merged record enters the raw log, for the channel in force: at once, or held 16 µs while any slot has ARM_SRC set (R253,
R273). -/
def logRaw (s : Stamp) (p : Piece) : Piece :=
  if !bitAt p.fabric.rawMask s.source then p
  else if !p.fabric.rawHeld.isEmpty || p.tally.slots.any fun c => c.window.armSrc != 0xFF then
    { p with fabric := { p.fabric with rawHeld := p.fabric.rawHeld ++ [(s, p.now, p.fabric.rawChannel)] } }
  else sendRaw p.fabric.rawChannel s p

/-- A source holds records for the fabric. -/
def holdsRecord (p : Piece) (source : Nat) : Bool :=
  if source < 16 then !(p.input source).fifo.isEmpty else !(nth p.fabric.aux (source - 16)).waiting.isEmpty

/-- A source may be granted now: it holds a record and is eligible; a marker of source 22 took its permit at its issue; an input
with FAULT_ACTIVE delivers none (R192, R232, R242, R248). -/
def mayGrant (p : Piece) (source : Nat) : Bool :=
  holdsRecord p source && (source == 22 || eligible p source) && !(decide (source < 16) && (p.input source).faultActive)

/-- The source that the rotation serves next (R242). -/
def nextGrant (p : Piece) : Option Nat :=
  ((List.range 24).map fun i => (p.fabric.pointer + 1 + i) % 24).find? (mayGrant p)

/-- Takes the oldest record of a source; the second part says whether it is labelled already. -/
def takeRecord (source : Nat) (p : Piece) : Option (Stamp × Bool × Piece) :=
  if source < 16 then
    match (p.input source).fifo with
    | r :: rest => some (r.stamp, r.labelled, onInput source (fun i => { i with fifo := rest }) p)
    | [] => none
  else
    match (nth p.fabric.aux (source - 16)).waiting with
    | r :: rest => some (r.stamp, r.labelled, onAux source (fun a => { a with waiting := rest }) p)
    | [] => none

/-- Labels a record at its own time; COAST and POSTJUMP as they stand, but a marker has its own (R241, R250). -/
def labelStamp (s : Stamp) (p : Piece) : Stamp × Piece :=
  let label := labelAt p s.time
  if s.source == 22 then ({ s with label := label }, p)
  else
    let post := postJumpDue p (nth p.fabric.postJump s.source) s.time
    let mark := gateMark p s.time
    ({ s with label := label, flags := s.flags ||| (flag mark.coast 0 + flag post 1) },
      when post (fun p => { p with fabric := { p.fabric with postJump := put p.fabric.postJump s.source false } }) p)

/-- A context takes stamps of a source (R298, R303). -/
def Context.takesSource (x : Context) (source : Nat) : Bool :=
  (x.binding / 4096 == 1 && x.binding % 256 == source) || (x.cls == .pair && field x.param 8 8 == source)

/-- A record goes to its consumers: TRIGGER, the counter slots, TALLY, the firmware kernels of cores 12 to 15, the raw log
(R249, R350). -/
def deliverStamp (s : Stamp) (p : Piece) : Piece :=
  let coinc := p.trigger.cells.any fun c => c.setting.en && c.setting.source == 6 && bitAt (c.setting.par 8 4) s.source
  let p := when coinc (fun p => { p with trigger := { p.trigger with stamps := p.trigger.stamps ++ [s] } }) p
  let p := orderStamp s p
  let p := when (p.tally.contexts.any (·.takesSource s.source))
    (fun p => { p with tally := { p.tally with stamps := p.tally.stamps ++ [s] } }) p
  let feed (j : Nat) (c : Core) : Core :=
    if 12 ≤ j && c.firmware && p.tally.slots.any (fun c => slotTakes c s.source) then { c with stamps := c.stamps ++ [s] } else c
  logRaw s { p with gythen := { p.gythen with cores := p.gythen.cores.mapIdx feed } }

/-- FABRIC_GRANT: the source whose turn it is hands one record to the fabric; at most two records a tally-island cycle
(R242). -/
def execFabricGrant (source : Fin 24) : State → Out := effect fun p =>
  let p := (List.range 16).foldl (fun p n => expireInput n p) (flushRaw (applyRaw p))
  let cycle := tallyCycle p.now
  let n := if p.fabric.granted.1 == cycle then p.fabric.granted.2 else 0
  if nextGrant p != some source.val || 2 ≤ n then p
  else
    match takeRecord source p with
    | some (s, labelled, p) =>
      let p := when (source.val != 22) (grantPermit source) p
      let p := { p with fabric := { p.fabric with pointer := source, granted := (cycle, n + 1) } }
      let (s, p) := if labelled then (s, p) else labelStamp s p
      deliverStamp s p
    | none => p

/-- One bit of the VCXO_TUNE stream: a first-order sigma-delta modulator over the 20-bit tune code, once in 64 ticks (R52; its
accumulator starts at zero, log entry 58). -/
def tuneStep (code : Nat) (c : Clocks) : Clocks :=
  { c with tuneAcc := (c.tuneAcc + code) % 2 ^ 20, tuneBit := decide (2 ^ 20 ≤ c.tuneAcc + code) }

/-- A step with no command waiting: one Mint tick passes where the Mint counts; VCXO_TUNE takes its next bit each 64 ticks; the
steward's heartbeat advances each millisecond while its firmware runs; boundaries of the counter's TIME gates are passed; held
records of the raw log leave; the banks of device DRAM serve their queues (R45, R52, R262, R273, R390, R413; log entries 1 and
61). -/
def idle (p : Piece) : Piece :=
  if p.clocks.mintRun then
    let m := p.clocks.mint + 1
    let beat := m % ticksPerMs == 0 && p.transport.state == .running
    let code := p.ledger.tuneCode
    let p := onClocks (fun c => { (if m % 64 == 0 then tuneStep code c else c) with mint := m }) p
    let p := when beat (fun p => { p with transport := { p.transport with heartbeat := wrap32 p.transport.heartbeat 1 } }) p
    onDmc serveBanks (flushRaw (mapSlots (passBoundary p) p))
  else p

end Sys2Proof.Machine
end

