-- ==== Sys2Proof/Machine/TallyFam.lean ====
section
/-! DEFINITION. TALLY: contexts and their updates, binding, clearing, snapshots (11); TALLY_BIND, TALLY_SNAPSHOT and TALLY_CLEAR
(19 R483 to R485). -/

namespace Sys2Proof.Machine

/-! ### Sticky bits and saturating fields (R298, R305) -/

abbrev stickyCrowd : Nat := 2
abbrev stickyGap : Nat := 4
abbrev stickyCoast : Nat := 8
abbrev stickyPost : Nat := 16
abbrev stickySat : Nat := 32
abbrev stickyDropped : Nat := 64
abbrev stickyMem : Nat := 128

/-- Sets sticky bits. -/
def Context.stick (bits : Nat) (x : Context) : Context := { x with sticky := x.sticky ||| bits }

/-- A signed field of w bits. -/
def clampS (w : Nat) (x : Int) : Int := max (-(2 ^ (w - 1))) (min (2 ^ (w - 1) - 1) x)

/-- An unsigned field of w bits. -/
def clampU (w : Nat) (x : Nat) : Nat := min (2 ^ w - 1) x

/-- Takes new data, setting SAT where a field met its limit. -/
def Context.take (d : TallyData) (sat : Bool) (x : Context) : Context :=
  let x := { x with data := d }
  if sat then x.stick stickySat else x

/-! ### Updates (R299 to R304) -/

/-- COUNT, SUM, SUMSQ, MIN and MAX take a value: a COUNT of `w` bits (R300, R303, R305). -/
def takeSum (w : Nat) (v : Int) (x : Context) : Context :=
  let d := x.data
  if d.count == 2 ^ w - 1 then x.stick stickySat
  else
    let sum := clampS 96 (d.sum + v)
    let sq := clampU 128 (d.sumSq + (v * v).toNat)
    x.take { d with count := d.count + 1, sum := sum, sumSq := sq
                    least := if d.count == 0 then v else min d.least v
                    greatest := if d.count == 0 then v else max d.greatest v }
      (decide (sum ≠ d.sum + v) || decide (sq ≠ d.sumSq + (v * v).toNat))

/-- A HIST8 context takes a value (R301). -/
def takeHist (v : Int) (x : Context) : Context :=
  let d := x.data
  let b := (v - d.base) / 2 ^ (x.param % 64)
  if v < d.base then x.take { d with under := clampU 32 (d.under + 1) } (d.under == 2 ^ 32 - 1)
  else if 8 ≤ b then x.take { d with above := clampU 32 (d.above + 1) } (d.above == 2 ^ 32 - 1)
  else
    let n := nth d.buckets b.toNat
    x.take { d with buckets := put d.buckets b.toNat (clampU 40 (n + 1)) } (n == 2 ^ 40 - 1)

/-- A SUM or HIST8 context takes a value. -/
def takeValue (v : Int) (x : Context) : Context :=
  match x.cls with
  | .sum => takeSum 64 v x
  | .hist => takeHist v x
  | _ => x

/-- The sticky bits a stamp sets of itself (R299). -/
def stampSticks (s : Stamp) : Nat :=
  (if bitAt s.flags 0 then stickyCoast else 0) + (if bitAt s.flags 1 then stickyPost else 0)

/-- A SUM or HIST8 context takes a stamp: the interval from the stamp before (R299). -/
def takeInterval64 (s : Stamp) (x : Context) : Context :=
  let next := { x with ref := some (s.seq, s.time) }
  match x.ref with
  | none => if bitAt s.flags 3 then next.stick (stickyCrowd + stampSticks s) else next.stick (stampSticks s)
  | some (seq, t) =>
    if s.seq != wrap32 seq 1 then next.stick (stickyGap + stampSticks s)
    else if bitAt s.flags 3 then next.stick (stickyCrowd + stampSticks s)
    else takeValue (clampS 48 (s.time - t)) (next.stick (stampSticks s))

/-- A REGR context takes a stamp (R302). -/
def takeRegr (s : Stamp) (x : Context) : Context :=
  let d := x.data
  let d := if d.began then d else { d with began := true, seq0 := s.seq, t0 := s.time, prescale := s.prescale, lastSeq := s.seq }
  let gap := d.count != 0 && s.seq != wrap32 d.lastSeq 1
  let ext := if d.count == 0 then s.seq else d.lastSeq + (s.seq + 2 ^ 32 - d.lastSeq % 2 ^ 32) % 2 ^ 32
  let x' := x.stick ((if gap then stickyGap else 0) + (if bitAt s.flags 3 then stickyCrowd else 0) + stampSticks s)
  if d.count == 2 ^ 48 - 1 then x'.stick stickySat
  else
    let n := (ext - d.seq0) * 2 ^ d.prescale
    let dev := roundDiv ((s.time - d.t0) * 65536 - ((d.period * n : Nat) : Int)) 65536
    let sx := clampU 96 (d.sumX + n)
    let sd := clampS 96 (d.sum + dev)
    let sxx := clampU 128 (d.sumXX + n * n)
    let sxd := clampS 128 (d.sumXD + n * dev)
    let sdd := clampU 128 (d.sumDD + (dev * dev).toNat)
    let m := clampS 48 dev
    x'.take { d with count := d.count + 1, lastSeq := ext, sumX := sx, sum := sd, sumXX := sxx, sumXD := sxd, sumDD := sdd
                     least := if d.count == 0 then m else min d.least m
                     greatest := if d.count == 0 then m else max d.greatest m }
      (decide (m ≠ dev) || decide (sx ≠ d.sumX + n) || decide (sd ≠ d.sum + dev) || decide (sxx ≠ d.sumXX + n * n) ||
        decide (sxd ≠ d.sumXD + n * dev) || decide (sdd ≠ d.sumDD + (dev * dev).toNat))

/-- A PAIR context takes a start stamp (R303). -/
def takeStart (s : Stamp) (x : Context) : Context :=
  let d := x.data
  let lost := d.start.isSome
  x.take { d with start := some s.time, noStop := clampU 16 (d.noStop + if lost then 1 else 0) } (lost && d.noStop == 65535)

/-- A PAIR context takes a stop stamp (R303). -/
def takeStop (s : Stamp) (x : Context) : Context :=
  let d := x.data
  match d.start with
  | none => x.take { d with noStart := clampU 16 (d.noStart + 1) } (d.noStart == 65535)
  | some t =>
    let x := { x with data := { d with start := none } }
    if 2 ^ 47 ≤ s.time - t then x.take { x.data with noStop := clampU 16 (d.noStop + 1) } (d.noStop == 65535)
    else takeSum 32 (s.time - t) x

/-- The greatest r below 2^k + r with r^1000 at most n, bit by bit. -/
def rootBits (n : Nat) : Nat → Nat → Nat
  | 0, r => r
  | k + 1, r => let c := r + 2 ^ k; rootBits n k (if c ^ 1000 ≤ n then c else r)

/-- 10^(P / 1,000) as binary64 bits, rounded to nearest, ties to even (R304). -/
def centibelPower (v : Int) : Nat :=
  let n := if 0 ≤ v then 10 ^ v.toNat * 2 ^ 170000 else 2 ^ 170000 / 10 ^ (-v).toNat
  let r := rootBits n 288 0
  let exact := decide (0 ≤ v) && r ^ 1000 == n
  encode64 (((r : Rat) + (if exact then 0 else 1 / 2)) / 2 ^ 170)

/-- A sum of binary64 numbers. -/
def add64 (a b : Nat) : Nat := if finite64 a && finite64 b then encode64 (decode64 a + decode64 b) else 2047 * 2 ^ 52

/-- A SPEC context takes its bin of an item (R304). -/
def takeBin (item : SpectrumItem) (v : Int) (x : Context) : Context :=
  let d := x.data
  if d.count == 2 ^ 32 - 1 then x.stick stickySat
  else
    let q := centibelPower v
    let sum := clampS 64 (d.sum + v)
    x.take { d with count := d.count + 1, s1 := add64 d.s1 q, s2 := add64 d.s2 (encode64 (decode64 q * decode64 q)), sum := sum
                    least := if d.count == 0 then v else min d.least v
                    greatest := if d.count == 0 then v else max d.greatest v
                    firstMint := if d.count == 0 then item.mint else d.firstMint
                    lastMint := item.mint
                    firstSeq := if d.count == 0 then item.seq else d.firstSeq }
      (decide (sum ≠ d.sum + v))

/-! ### Snapshots beside updates (R310, R311) -/

/-- The empty values of a context's data: what binding gave it stays (R308, R311). -/
def Context.emptied (x : Context) : Context :=
  { x with sticky := 0, data := { base := x.data.base, period := x.data.period } }

/-- A snapshot covers an index. -/
def TallySnap.covers (n : TallySnap) (index : Nat) : Bool := decide (n.first ≤ index) && decide (index < n.first + n.count)

/-- An update of one context at a time, beside one snapshot: the context on its live side, and the snapshot (R310, R311). -/
def updateBeside (time : T16) (f : Context → Context) (x : Context) (n : TallySnap) : Context × TallySnap :=
  let share := n.share && x.cls == .regr
  let onFrozen (n : TallySnap) : TallySnap := { n with frozen := n.frozen.map fun y => if y.index == x.index then f y else y }
  let held := n.frozen.any (·.index == x.index)
  let freeze (n : TallySnap) : TallySnap := { n with frozen := n.frozen ++ [x] }
  let shareNow (n : TallySnap) : TallySnap :=
    if share && !n.shared.contains x.index then { onFrozen n with shared := x.index :: n.shared } else n
  if n.cut then (f x, shareNow n)
  else if n.cutMint == 0 then (f x, n)
  else if time < T16.ofTick n.cutMint then (if held && n.clear then x else f x, if held then onFrozen n else n)
  else
    let n := { n with marks := x.binding :: n.marks }
    let live := if !held && n.clear then x.emptied else x
    (f live, shareNow (if held then n else freeze n))

/-- An update of one context at a time. -/
def updateContext (time : T16) (f : Context → Context) (x : Context) (p : Piece) : Piece :=
  let t := p.tally
  let hit : Option Nat := (List.range 4).find? fun k => match nth t.snaps k with
    | some n => n.covers x.index
    | none => false
  let (y, snaps) := match hit with
    | some k => match nth t.snaps k with
      | some n => let (y, n) := updateBeside time f x n; (y, put t.snaps k (some n))
      | none => (f x, t.snaps)
    | none => (f x, t.snaps)
  onTally (fun t => { t with snaps := snaps, contexts := t.contexts.map fun z => if z.index == x.index then y else z }) p

/-- An update of every context that takes it and whose bind has taken effect (R306). -/
def updateAll (time : T16) (takes : Context → Bool) (f : Context → Context) (p : Piece) : Piece :=
  (p.tally.contexts.filter fun x => takes x && decide (x.from_ ≤ p.now)).foldl (fun p x => updateContext time f x p) p

/-! ### The updates' own commands -/

/-- A stamp has an edge that a context's key takes (R298). -/
def Context.takesEdge (x : Context) (rising : Bool) : Bool := bitAt x.binding (if rising then 8 else 9)

/-- A context other than PAIR takes a stamp. -/
def takesStamp (s : Stamp) (x : Context) : Bool :=
  x.cls != .pair && x.binding / 4096 == 1 && x.binding % 256 == s.source && x.takesEdge s.rising

/-- A PAIR context takes a stamp as a start, or as a stop (R303). -/
def takesStart (s : Stamp) (x : Context) : Bool :=
  x.cls == .pair && x.binding % 256 == s.source && x.takesEdge s.rising && bitAt x.param 6 == s.rising
def takesStop (s : Stamp) (x : Context) : Bool :=
  x.cls == .pair && field x.param 8 8 == s.source && bitAt x.param 7 == s.rising

/-- A stamp updates the contexts that take it at once (R299, R302). -/
def updateStamp (s : Stamp) (p : Piece) : Piece :=
  updateAll s.time (takesStamp s) (fun x => if x.cls == .regr then takeRegr s x else takeInterval64 s x) p

/-- The PAIR contexts take the stamps whose 16 µs are over, a stop before a start of one time (R267, R303). -/
def releasePairs : Nat → Piece → Piece
  | 0, p => p
  | n + 1, p =>
    match p.tally.pairStamps with
    | s :: rest =>
      if tapReached p s.time then
        let p := onTally (fun t => { t with pairStamps := rest }) p
        releasePairs n (updateAll s.time (takesStart s) (takeStart s) (updateAll s.time (takesStop s) (takeStop s) p))
      else p
    | [] => p

/-- TALLY_STAMP_UPDATE: the oldest stamp on its way updates its contexts; ordered stamps reach the PAIR contexts (R297 to
R303). -/
def execTallyStampUpdate : State → Out := inIsland 0x20 fun p =>
  let p := match p.tally.stamps with
    | s :: rest =>
      let p := updateStamp s (onTally (fun t => { t with stamps := rest }) p)
      when (p.tally.contexts.any fun x => takesStart s x || takesStop s x)
        (onTally fun t => { t with pairStamps := insertBy (fun (a b : Stamp) => decide (a.time < b.time)) s t.pairStamps }) p
    | [] => p
  releasePairs p.tally.pairStamps.length p

/-- The committed XFORM rate in updates per second (R307). -/
def specRate (p : Piece) : Rat :=
  ((p.tally.contexts.filter fun x => x.cls == .spec).map fun x =>
    itemRate p (x.binding % 4) (field x.binding 2 3) 1).sum

/-- The limit of the committed rate. -/
def specLimit : Rat := 30720000000

/-- TALLY_XFORM_UPDATE: the oldest item on its way updates its SPEC range, or is dropped whole where the rate exceeds the
capacity (R304, R307; log entry 36). -/
def execTallyXformUpdate : State → Out := inIsland 0x20 fun p =>
  match p.tally.items with
  | [] => p
  | it :: rest =>
    let p := onTally (fun t => { t with items := rest }) p
    let mine (x : Context) : Bool := x.cls == .spec && x.binding == 0x2000 + 4 * it.item.src + it.inst
    if !p.tally.contexts.any mine then p
    else
      let (p, free) := draw p
      if specLimit < specRate p && Config.freeBit free then
        onTally (fun t => { t with specDropped := sat32 t.specDropped 1
                                   contexts := t.contexts.map fun x => if mine x then x.stick stickyDropped else x }) p
      else
        let takes (x : Context) : Bool := mine x && decide (x.param < it.item.values.length)
        updateAll (T16.ofTick it.item.mint) takes (fun x => takeBin it.item (nth it.item.values x.param) x) p

/-- TALLY_POST_UPDATE: the oldest post on its way updates its context, or is rejected (R309). -/
def execTallyPostUpdate : State → Out := inIsland 0x20 fun p =>
  match p.tally.posts with
  | [] => p
  | t :: rest =>
    when (decide (t.at_ ≤ p.now)) (fun p =>
      let p := onTally (fun t => { t with posts := rest }) p
      let takes (x : Context) : Bool :=
        x.index == t.context && x.binding / 4096 == 3 && (x.cls == .sum || x.cls == .hist) && decide (x.from_ ≤ p.now)
      if p.tally.contexts.any takes then updateAll (T16.ofTick t.at_) takes (takeValue t.value) p
      else onTally (fun t => { t with postRejected := sat32 t.postRejected 1 }) p) p

/-- TALLY_STORE_CLEAR_DONE: every context is FREE with zero data (R312). -/
def execTallyStoreClearDone : State → Out := inIsland 0x20 (onTally fun t => { t with clearing := false })

/-! ### Contexts as they read (R298 to R304) -/

/-- CLASS. -/
def classCode : TallyClass → Nat
  | .sum => 1
  | .regr => 2
  | .hist => 3
  | .pair => 4
  | .spec => 5
  | .ext => 6

/-- The first four bytes of a context. -/
def contextHead (cls : Nat) (x : Context) : Bytes := leBytes 1 cls ++ leBytes 1 x.sticky ++ leBytes 2 x.binding

/-- The 64 bytes of a context. -/
def contextBytes (x : Context) : Bytes :=
  let d := x.data
  let head := contextHead (classCode x.cls) x ++ leBytes 4 x.param
  let edge (w : Nat) (zero : Int) (v : Int) : Bytes := leBytes w (twos (8 * w) (if d.count == 0 then zero else v))
  match x.cls with
  | .sum => head ++ leBytes 8 d.count ++ leBytes 12 (twos 96 d.sum) ++ zeros 4 ++ leBytes 16 d.sumSq ++
      edge 8 (2 ^ 63 - 1) d.least ++ edge 8 (-(2 ^ 63)) d.greatest
  | .hist => head ++ leBytes 8 (twos 64 d.base) ++ leBytes 4 d.under ++ leBytes 4 d.above ++ d.buckets.flatMap (leBytes 5)
  | .pair =>
    let start := match d.start with
      | some t => 2 ^ 63 + (t % (2 ^ 63 : Nat)).toNat
      | none => 0
    head ++ leBytes 8 start ++ leBytes 4 d.count ++ leBytes 2 d.noStop ++ leBytes 2 d.noStart ++ leBytes 12 (twos 96 d.sum) ++
      leBytes 16 d.sumSq ++ edge 6 (2 ^ 47 - 1) d.least ++ edge 6 (-(2 ^ 47)) d.greatest
  | .spec => head ++ leBytes 4 d.count ++ edge 2 32767 d.least ++ edge 2 (-32768) d.greatest ++ leBytes 8 d.s1 ++
      leBytes 8 d.s2 ++ leBytes 8 (twos 64 d.sum) ++ leBytes 8 d.firstMint ++ leBytes 8 d.lastMint ++ leBytes 4 d.firstSeq ++ zeros 4
  | .regr | .ext => contextHead 2 x ++ leBytes 4 (d.seq0 % 2 ^ 32) ++ leBytes 8 (T16.tick d.t0).toNat ++
      leBytes 2 (d.t0 % 65536).toNat ++ leBytes 1 d.prescale ++ zeros 1 ++ leBytes 6 d.count ++ leBytes 4 (d.lastSeq % 2 ^ 32) ++
      zeros 2 ++ leBytes 8 d.period ++ leBytes 12 d.sumX ++ leBytes 12 (twos 96 d.sum)

/-- The 64 bytes of the odd context of a REGR pair (R302). -/
def extBytes (x : Context) : Bytes :=
  let d := x.data
  let edge (zero v : Int) : Bytes := leBytes 6 (twos 48 (if d.count == 0 then zero else v))
  contextHead 6 x ++ edge (2 ^ 47 - 1) d.least ++ edge (-(2 ^ 47)) d.greatest ++ leBytes 16 d.sumXX ++
    leBytes 16 (twos 128 d.sumXD) ++ leBytes 16 d.sumDD

/-- The 64 bytes of a context that a running slot owns: they show its working sums, in a layout the spec does not give (R257; log
entry 36). -/
def slotBytes (sums : List Rat) (index : Nat) : Bytes :=
  (List.range 8).flatMap fun i => leBytes 8 (Config.slotContext sums (8 * (index % 128) + i)).toNat

/-- The bytes of a context by its index, among contexts and the working sums of the running slots; FREE reads zero. -/
def indexBytes (sums : List (Option (List Rat))) (l : List Context) (index : Nat) : Bytes :=
  match (if 0xFF000 ≤ index then nth sums ((index - 0xFF000) / 128) else none) with
  | some s => slotBytes s index
  | none =>
    match l.find? (·.index == index) with
    | some x => contextBytes x
    | none =>
      match l.find? fun x => x.cls == .regr && x.index + 1 == index with
      | some x => extBytes x
      | none => zeros 64

/-! ### TALLY_BIND and TALLY_CLEAR (R306, R308, R483, R485) -/

/-- The class of a code. -/
def classOf (n : Nat) : Option TallyClass :=
  match n with
  | 1 => some .sum
  | 2 => some .regr
  | 3 => some .hist
  | 4 => some .pair
  | 5 => some .spec
  | _ => none

/-- A class, binding and PARAM that go together, with the number of contexts (R297 to R306). -/
def bindOk (p : Piece) (cls : TallyClass) (binding param base first count : Nat) : Bool :=
  let key := binding % 4096
  let stampKey := field key 10 2 == 0 && field key 8 2 != 0 && decide (key % 256 ≤ 22)
  let baseless := base == 0
  match cls, binding / 4096 with
  | .sum, 1 => stampKey && count == 1 && param == 0 && baseless
  | .sum, 3 => key == 0 && param == 0 && baseless
  | .hist, 1 => stampKey && count == 1 && decide (param ≤ 47)
  | .hist, 3 => key == 0 && decide (param ≤ 47)
  | .regr, 1 => stampKey && count == 2 && first % 2 == 0 && param == 0
  | .pair, 1 => stampKey && count == 1 && field param 16 16 == 0 && param % 64 == 0 && decide (field param 8 8 ≤ 22) && baseless
  | .spec, 2 =>
    let src := field key 2 3
    field key 5 7 == 0 && decide (src ≤ 4) && decide (param + count ≤ 65536) && baseless &&
    (src == 0 || (commandedDetector (p.detector (key % 4) (src - 1))).type != 8)
  | _, _ => false

/-- A stored context lies in a range; a REGR pair with either of its indices. -/
def Context.within (first count : Nat) (x : Context) : Bool :=
  let last := if x.cls == .regr then x.index + 1 else x.index
  decide (x.index < first + count) && decide (first ≤ last)

/-- A range holds a context of a running slot. -/
def rangeOwned (p : Piece) (first count : Nat) : Bool :=
  (List.range 32).any fun s => (p.slot s).state == .running && decide (first < slotContexts s + 128) && decide (slotContexts s < first + count)

/-- A range overlaps a running snapshot. -/
def overlapsSnap (p : Piece) (first count : Nat) : Bool :=
  p.tally.snaps.any fun n => match n with
    | some n => decide (n.first < first + count) && decide (first < n.first + n.count)
    | none => false

/-- The fan-out entries of a stamp source (R298). -/
def fanOut (p : Piece) (source : Nat) : Nat :=
  (p.tally.contexts.filter (·.takesSource source)).length +
  (p.tally.slots.filter fun c => c.state == .running && c.measures source).length

/-- The bind would pass the fan-out table or the SPEC rate (R298, R306, R307). -/
def bindFull (p : Piece) (cls : TallyClass) (binding param count : Nat) : Bool :=
  let key := binding % 4096
  match cls with
  | .spec =>
    (p.tally.contexts.any fun x => x.cls == .spec && x.binding == binding) ||
    decide (specLimit < specRate p + count * itemRate p (key % 4) (field key 2 3) 1)
  | .pair => decide (8 ≤ fanOut p (key % 256)) || decide (8 ≤ fanOut p (field param 8 8))
  | _ => binding / 4096 == 1 && decide (8 ≤ fanOut p (key % 256))

/-- The contexts of a bind. -/
def boundContexts (cls : TallyClass) (binding param base first count from_ : Nat) : List Context :=
  let one (m : Nat) : Context :=
    { index := first + m, cls := cls, binding := binding, param := if cls == .spec then param + m else param, from_ := from_
      data := { base := if cls == .hist then signed 64 base else 0, period := if cls == .regr then base else 0 } }
  if cls == .regr then [one 0] else (List.range count).map one

/-- TALLY_BIND's own work. -/
def actTallyBind : Act := simple fun f p =>
  let b := f.body
  let first := u b 0 4
  let count := u b 4 4
  let cls := u b 8 1
  let watch := u b 9 1
  let binding := u b 10 2
  let param := u b 12 4
  let base := u b 16 8
  let bad := match classOf cls with
    | some c => !bindOk p c binding param base first count
    | none => cls != 0 || param != 0 || base != 0
  let tick := sixteenCycles p.now
  let full := match classOf cls with
    | some c => bindFull p c binding param count
    | none => false
  guarded
    [ (count == 0, stZero),
      (decide (2 ^ 20 < first + count) || bitAt watch 6 || bad, stRange),
      (cls != 0 && p.tally.contexts.any (Context.within first count), stState),
      (rangeOwned p first count || p.tally.clearing, stBusy),
      (full, stNoResource) ] p
    (let w := watch % 64
     let contexts := match classOf cls with
       | some c => boundContexts c binding param base first count tick
       | none => []
     let rest := if cls == 0 then p.tally.contexts.filter fun x => !x.within first count else p.tally.contexts
     let watches := if !bitAt watch 7 then p.tally.watch
       else if cls == 0 then p.tally.watch.filter (·.1 != w) else insert' p.tally.watch w first
     (onTally (fun t => { t with contexts := rest ++ contexts, watch := watches }) p, doneWith stOk tick))

def execTallyBind (c : Cmd) : State → Out := effect (runCommand 0x0801 c actTallyBind)

/-- TALLY_CLEAR's own work: the data take their empty values; the reference of R299 stays. -/
def actTallyClear : Act := simple fun f p =>
  let first := u f.body 0 4
  let count := u f.body 4 4
  guarded
    [ (count == 0, stZero),
      (decide (2 ^ 20 < first + count), stRange),
      (rangeOwned p first count || overlapsSnap p first count || p.tally.clearing, stBusy) ] p
    (onTally (fun t => { t with contexts := t.contexts.map fun x => if x.within first count then x.emptied else x }) p,
      doneWith stOk p.now)

def execTallyClear (c : Cmd) : State → Out := effect (runCommand 0x0803 c actTallyClear)

/-! ### Snapshots (R310, R311, R484) -/

/-- Changes one running snapshot. -/
def onSnap (k : Nat) (f : TallySnap → TallySnap) (p : Piece) : Piece :=
  onTally (fun t => { t with snaps := upd t.snaps k (Option.map f) }) p

/-- The cut of a snapshot is made: every context of its range that has not been frozen is; with CLEAR each starts again. -/
def cutSnap (k : Nat) (p : Piece) : Piece :=
  match nth p.tally.snaps k with
  | some n =>
    if n.cut then p
    else
      let fresh (x : Context) : Bool := x.within n.first n.count && !(n.frozen.any (·.index == x.index))
      let at_ := if n.cutMint == 0 then p.now else n.cutMint
      let frozen := n.frozen ++ p.tally.contexts.filter fresh
      let p := onTally (fun t => { t with contexts := t.contexts.map fun x => if n.clear && fresh x then x.emptied else x }) p
      onSnap k (fun n => { n with frozen := frozen, sums := slotSums p, cut := true, cutAt := at_, label := labelAt p (T16.ofTick at_) }) p
  | none => p

/-- The cut of a snapshot is final: an arrival cut at once; else every source bound into the range has delivered an update at
or after CUT_MINT, or 16 µs have passed (R310). -/
def cutFinal (p : Piece) (n : TallySnap) : Bool :=
  n.cutMint == 0 || tapReached p (T16.ofTick n.cutMint) ||
  (decide (n.cutMint ≤ p.now) &&
    (p.tally.contexts.filter fun x => x.within n.first n.count && x.binding / 4096 != 3).all fun x => n.marks.contains x.binding)

/-- TALLY_SNAPSHOT_CUT (R310). -/
def execTallySnapshotCut (snapshot : Fin 4) : State → Out := inIsland 0x20 fun p =>
  match nth p.tally.snaps snapshot with
  | some n => when (cutFinal p n) (cutSnap snapshot) p
  | none => p

/-- The header of a snapshot (R311). -/
def snapHeader (n : TallySnap) (aborted : Bool) : Bytes :=
  let mem := n.frozen.any fun x => bitAt x.sticky 7
  leBytes 4 n.seq ++ leBytes 4 n.first ++ leBytes 4 n.count ++
  leBytes 4 (flag aborted 3 + flag mem 2 + flag n.share 1 + flag n.clear 0) ++ leBytes 8 n.cutAt ++ labelBytes n.label ++ zeros 30

/-- TALLY_SNAPSHOT_DONE: the last line is written, or a write is refused (R311). -/
def execTallySnapshotDone (snapshot : Fin 4) (refusedAt : Option Nat) : State → Out := effect fun p =>
  match nth p.tally.snaps snapshot with
  | some n =>
    if !n.cut then p
    else
      let dram := isDevice n.dest
      let bs := snapHeader n (dram && dmcRefuses p.dmc) ++
        (List.range n.count).flatMap fun m => indexBytes n.sums n.frozen (n.first + m)
      let (p, st, written) := readoutWrite dram n.dest bs refusedAt p
      finishWaiting .tallySnapshot snapshot st (fun _ => [n.seq, written / 64 - 1])
        (onTally (fun t => { t with snaps := put t.snaps snapshot none }) p)
  | none => p

/-- TALLY_SNAPSHOT's own work. -/
def actTallySnapshot : Act := simple fun f p =>
  let b := f.body
  let first := u b 0 4
  let count := u b 4 4
  let clear := bitAt (u b 8 1) 7
  let share := bitAt (u b 8 1) 6
  let cut := u b 16 8
  let dest := u b 24 8
  let mixed := (p.tally.contexts.filter (Context.within first count)).any fun x => x.cls != .regr
  let slot := (List.range 4).find? fun k => (nth p.tally.snaps k).isNone
  guarded
    [ (count == 0, stZero),
      (decide (65536 < count) || decide (2 ^ 20 < first + count) || u b 8 1 % 64 != 0 || u b 9 7 != 0 ||
        !destOk p.dmc dest (64 + 64 * count) || (share && (!clear || mixed)) ||
        (cut != 0 && (decide (cut < p.now + 32) || decide (p.now + 10 * ticksPerSecond < cut))), stRange),
      (slot.isNone || overlapsSnap p first count || (clear && rangeOwned p first count), stBusy) ] p
    (match slot with
     | some k =>
       let n : TallySnap := { seq := p.tally.snapSeq, first := first, count := count, clear := clear, share := share, dest := dest
                              cutMint := cut }
       (onTally (fun t => { t with snapSeq := wrap32 t.snapSeq 1, snaps := put t.snaps k (some n) }) p, .wait .tallySnapshot k [])
     | none => (p, .done stBusy []))

def execTallySnapshot (c : Cmd) : State → Out := effect (runCommand 0x0802 c actTallySnapshot)

/-! ### The TALLY window (R314) -/

/-- TALLY_STATUS. -/
def tallyStatus (p : Piece) : Nat := (maskOf 4 fun k => (nth p.tally.snaps k).isSome) * 16 + flag p.tally.clearing 0

/-- TALLY_BOUND: contexts that are not FREE. -/
def tallyBound (p : Piece) : Nat := (p.tally.contexts.map fun x => if x.cls == .regr then 2 else 1).sum

end Sys2Proof.Machine
end

