-- ==== Sys2Proof/Machine/CalFam.lean ====
section
/-! DEFINITION. CALMGR: modes, full calibration, policy and overrides (12); CAL_POLICY_SET, CAL_RUN and CAL_STATUS (20 R517,
R518); the start of a monitor frame, at which CALMGR looks at the die temperature (03 R90, 12 R318). -/

namespace Sys2Proof.Machine

/-- The engines are idle (R316). -/
def enginesIdle (p : Piece) : Bool :=
  !(p.chan.any fun c => c.ddcs.any fun d => d.en || !d.changes.isEmpty) && !(p.xform.any (·.en)) &&
  !(p.acq.acqs.any acqActive) && !(p.stamp.any fun m => m.inputs.any (·.setting.en)) &&
  !(p.tally.slots.any fun c => c.state == .running)

/-- The code of a mode. -/
def modeCode : CalMode → Nat
  | .startup => 0
  | .service => 1
  | .test => 2
  | .recovery => 3

/-- The CALIBRATION event record (R496). -/
def calEvent (ended : Bool) (p : Piece) : Piece :=
  raiseEvent 0x0A 0x16 0 (leBytes 1 (modeCode p.cal.mode) ++ leBytes 1 (if ended then 1 else 0) ++ leBytes 2 (dieTemp p) ++
    leBytes 8 p.cal.lastFull) p

/-- The distance of two temperature codes. -/
def apart (a b : Nat) : Nat := max a b - min a b

/-- Background visits end at once: an away slice or interpolator returns to its own position with its previous constants
(R320). -/
def endVisits (p : Piece) : Piece :=
  let home (r : Rfin) : Rfin :=
    match r.rotation with
    | some t => if t.returns then r else { r with rotation := none, map := r.map.mapIdx fun k j => if j == 2 then k else j }
    | none => r
  (List.range 4).foldl (fun p k => endVisit k true p) { p with rfin := p.rfin.map home }

/-- A full calibration starts: background visits end first (R317, R320). -/
def beginFull (p : Piece) : Piece :=
  onCal (fun c => { c with running := true, began := p.now, beganTemp := dieTemp p, startDue := false }) (endVisits p)

/-- MONITOR_FRAME_START: the slots of the frame have passed, `empty` of them empty; CALMGR compares the die temperature with LAST_FULL (R90, R318). -/
def execMonitorFrameStart (s : State) (empty : Nat := 0) : Out :=
  effect (fun p =>
  if !(p.boot.released && p.monitor.running && frameOver p.monitor empty) then p
  else
  let p := startFrame p
  let c := p.cal
  if c.fullCount == 0 || c.running || apart (dieTemp p) c.lastTemp ≤ c.deltaT then p
  else match c.mode with
    | .test | .recovery =>
      if enginesIdle p then onCal (fun c => { c with startDue := true }) p else onCal (fun c => { c with rerunDue := true }) p
    | .service => onCal (fun c => { c with rerunDue := true }) p
    | .startup => p) s

/-- FULL_CAL_START: a run that fell due starts once the engines are idle (R318, R319). -/
def execFullCalStart : State → Out := effect fun p =>
  let c := p.cal
  let due := c.startDue || (c.rerunDue && (c.mode == .test || c.mode == .recovery))
  when (due && !c.running && enginesIdle p) beginFull p

/-- The duration of a full calibration in ticks (R317). -/
def fullTicks : Nat := 1200 * ticksPerMs

/-- FULL_STEP at a tick of a run (R317). -/
def fullStep (p : Piece) : Nat :=
  if !p.cal.running then 0
  else
    let ms := (p.now - p.cal.began) / ticksPerMs
    if ms < 50 then 1 else if ms < 450 then 2 else if ms < 650 then 3 else if ms < 900 then 4 else if ms < 1100 then 5 else 6

/-- The trims of an input that a run measured: those of A, of B, of S in the place of A and of S in the place of B (R77, R317). -/
def trimsOf (o : CalOutcome) (i : Nat) : List SliceTrim :=
  (List.range 4).map fun j =>
    let x := o.slices.getD (4 * i + j) (0, 0, 0)
    { offset := x.1, gain := x.2.1, skew := x.2.2 }

/-- The comparator that R231 selects for a source from the jitters and threshold offsets in µV that a run measured: the one with
the lowest jitter among those not retired whose offset lies within ±1 mV, the lowest number of equals (log entry 58). -/
def selectComp (o : CalOutcome) (source retired : Nat) : Option Nat :=
  let m (c : Nat) : Nat × Int := o.comps.getD (4 * source + c) (0, 0)
  ((List.range 4).filter fun c => !bitAt retired c && decide ((m c).2.natAbs ≤ 1000)).foldl
    (fun best c => match best with
      | some b => if (m c).1 < (m b).1 then some c else some b
      | none => some c) none

/-- What a run leaves in a stamp input: a new epoch, CAL due, the comparator it selected, overrides ended (R231, R317,
R326). -/
def calibrateInput (selected : Option Nat) (i : StampInput) : StampInput :=
  { i with epoch := i.epoch + 1, interpEpoch := i.interpEpoch + 1, pathEpoch := i.pathEpoch + 1, calDue := true, compHeld := 0, table := none
           compSel := selected.getD i.compSel }

/-- The elements that fail in a run are detected errors (R317, R598). -/
def calFailures (o : CalOutcome) : List Element :=
  (o.sliceFails.map fun x => sliceElement (x / 3) (x % 3)) ++ (o.interpFails.map fun x => interpElement (x / 5) (x % 5)) ++
  o.compFails.map fun x => compElement (x / 4) (x % 4)

/-- The replacement that covers an element from the error on: S, the spare interpolator, the next comparator (R80, R232, R247). -/
def coverFailed (e : Element) (p : Piece) : Piece :=
  match e.test with
  | 1 => if e.element == 4 then faultSpare e.inst p else faultInterp e.inst e.element p
  | 2 => failSlice e.inst e.element p
  | 3 => onInput (4 * e.inst + e.element / 4) (fun i =>
      if i.compSel == e.element % 4 then nextComp { i with compHeld := i.compHeld ||| 2 ^ i.compSel } else i) p
  | _ => p

/-- In STARTUP a run whose end lies too far from its start in temperature is repeated, up to the third (R319). -/
def judgeStartup (p : Piece) : Piece :=
  if p.cal.mode != .startup then p
  else
    let p := onCal (fun c => { c with startupRuns := c.startupRuns + 1 }) p
    if apart (dieTemp p) p.cal.beganTemp ≤ p.cal.deltaT then p
    else if p.cal.startupRuns < 3 then onCal (fun c => { c with startDue := true }) p
    else raiseAlarm 0x0900 0x16 0 (onCal (fun c => { c with unstable := true }) p)

/-- FULL_CAL_END: LAST_FULL is recorded, the epochs change, overrides end, a waiting CAL_RUN completes (R317, R319, R326). -/
def execFullCalEnd (outcome : CalOutcome) : State → Out := effect fun p =>
  when (p.cal.running && decide (p.cal.began + fullTicks ≤ p.now)) (fun p =>
    let temp := dieTemp p
    let p := { p with
      rfin := p.rfin.mapIdx fun i r => { r with trims := trimsOf outcome i, calDue := true }
      stamp := p.stamp.mapIdx fun k m =>
        { m with inputs := m.inputs.mapIdx fun n i => calibrateInput (selectComp outcome (4 * k + n) i.compRetired) i
                 spareEpoch := m.spareEpoch + 1, spareTable := none } }
    let p := onCal (fun c =>
      { c with running := false, rerunDue := false, lastFull := p.now, lastTemp := temp, fullCount := sat32 c.fullCount 1
               epoch := c.epoch + 1, sliceOverrides := 0, interpOverrides := 0 }) p
    let p := judgeStartup ((calFailures outcome).foldl (fun p e => detectError e (coverFailed e p)) p)
    finishAllWaiting .calRun 0 stOk (fun _ => [low32 p.cal.lastFull, high32 p.cal.lastFull, temp]) (calEvent true p)) p

/-! ### Registers (R327) -/

/-- CALMGR_STATUS. -/
def calStatus (p : Piece) : Nat :=
  let c := p.cal
  flag c.unstable 7 + flag c.rerunDue 6 + flag c.running 5 + fullStep p * 4 + modeCode c.mode

/-- CALMGR_POLICY. -/
def calPolicy (c : Cal) : Nat := c.deltaT * 2 ^ 16 + c.interpEn * 2 ^ 8 + c.sliceEn

/-- CALMGR_OVERRIDES. -/
def calOverrides (c : Cal) : Nat :=
  (maskOf 4 fun k => field c.interpOverrides (5 * k) 5 != 0) * 2 ^ 16 + c.sliceOverrides

/-! ### Commands (R517, R518) -/

/-- The constants of a slice in an override. -/
def overrideTrim (b : Bytes) : SliceTrim := { offset := sgn b 0 4, gain := sgn b 4 4, skew := sgn b 8 4 }

/-- A slice's constants are fixed (R326); those of S, of which R517 gives one set, stand in both of its positions (log entry 35). -/
def overrideSlice (i j : Nat) (t : SliceTrim) (p : Piece) : Piece :=
  let p := onRfin i (fun r =>
    { r with calDue := true, trims := if j == 2 then put (put r.trims 2 t) 3 t else put r.trims j t }) p
  onCal (fun c => { c with sliceOverrides := c.sliceOverrides ||| 2 ^ (3 * i + j), epoch := c.epoch + 1
                           sliceEn := c.sliceEn &&& (15 - 2 ^ i) }) p

/-- An interpolator's table is fixed (R326). -/
def overrideInterp (k n : Nat) (table : List Nat) (p : Piece) : Piece :=
  let p := onInput (4 * k + n) (fun i => { i with table := some table, calDue := true, epoch := i.epoch + 1, interpEpoch := i.interpEpoch + 1 }) p
  onCal (fun c => { c with interpOverrides := c.interpOverrides ||| 2 ^ (5 * k + n)
                           interpEn := c.interpEn &&& (15 - 2 ^ k) }) p

/-- CAL_POLICY_SET's own work (R326, R517). -/
def actCalPolicy : Act := fun f host p =>
  let b := f.body
  let period := u b 0 4
  let away := u b 4 2
  let rot := u b 8 4
  let delta := u b 12 1
  let ovr := u b 15 1
  let a := u b 16 8
  let interp := bitAt ovr 6
  let element := ovr % 64
  let size := if interp then 512 else 16
  let policy := onCal fun c =>
    { c with slicePeriod := period, sliceAway := away, rotInterval := rot, deltaT := delta, sliceEn := u b 13 1, interpEn := u b 14 1 }
  guarded
    [ (period == 0 || away == 0 || rot == 0 || delta == 0, stZero),
      (decide (period < 10) || decide (10000 < period) || decide (50 < away) || decide (rot < 1000) || decide (1000000 < rot) ||
        decide (delta < 4) || decide (160 < delta) || u b 6 2 != 0 || decide (15 < u b 13 1) || decide (15 < u b 14 1) ||
        (if bitAt ovr 7 then decide ((if interp then 16 else 12) ≤ element) || !tableAddrOk p.dmc a size else a != 0), stRange) ] p
    (if !bitAt ovr 7 then (policy p, .done stOk [])
     else withTable p a size host fun bs =>
       if interp then
         (overrideInterp (element / 4) (element % 4) ((List.range 256).map fun i => u bs (2 * i) 2) (policy p), .done stOk [])
       else if u bs 12 4 != 0 then (p, .done stRange [])
       else (overrideSlice (element / 3) (element % 3) (overrideTrim bs) (policy p), .done stOk []))

def execCalPolicySet (c : Cmd) : State → Out := effect (runCommand 0x0D01 c actCalPolicy)

/-- CAL_RUN's own work (R315, R316, R518). -/
def actCalRun : Act := simple fun f p =>
  let b := f.body
  let action := u b 0 1
  guarded
    [ (decide (3 < action) || u b 1 7 != 0, stRange),
      (p.cal.mode == .startup || (action == 0 && !p.cal.running && !enginesIdle p), stState),
      (action == 0 && p.cal.running, stBusy) ] p
    (if action == 0 then (beginFull p, .wait .calRun 0 [])
     else
       let mode : CalMode := if action == 1 then .service else if action == 2 then .test else .recovery
       (calEvent false (onCal (fun c => { c with mode := mode }) p), .done stOk []))

def execCalRun (c : Cmd) : State → Out := effect (runCommand 0x0D02 c actCalRun)

/-- CAL_STATUS's own work (R518). -/
def actCalStatus : Act := simple fun f p =>
  guarded [ (!isZero f.body, stRange) ] p
    (p, .done stOk [calStatus p, calPolicy p.cal, low32 p.cal.lastFull, high32 p.cal.lastFull, p.cal.lastTemp, p.cal.matchFail])

def execCalStatus (c : Cmd) : State → Out := effect (runCommand 0x0D03 c actCalStatus)

end Sys2Proof.Machine
end

