-- ==== Sys2Proof/Machine/GythenAlu.lean ====
section
/-! DEFINITION. Slots X and Y of the Gythen cores: vector, accumulator and scalar operations (14 R353 to R372). -/

namespace Sys2Proof.Machine

/-- Fault causes (R351). -/
abbrev fBounds : Nat := 1
abbrev fAlign : Nat := 2
abbrev fRange : Nat := 3
abbrev fIllegal : Nat := 4
abbrev fLoopDepth : Nat := 5
abbrev fLoopEnd : Nat := 6
abbrev fMemErr : Nat := 7

/-- Bits of SR (R357). -/
abbrev srSats : Nat := 0x10
abbrev srSatv : Nat := 0x20
abbrev srSata : Nat := 0x40

/-- What a slot does: the registers it reads, those it reads only to accumulate, those it writes, and its effect once both
slots have read their operands (R342). -/
structure SlotEffect where
  uses : List Reg := []
  chains : List Reg := []
  writes : List Reg := []
  /-- Distances of the written registers: any use, and a further accumulation. -/
  distance : Nat := 1
  chain : Nat := 1
  act : Core → Core := id

/-- A slot's outcome: its effect, or a fault with the data address. -/
abbrev SlotResult := Except (Nat × Nat) SlotEffect

/-- An illegal slot (R354). -/
def illegal : SlotResult := .error (fIllegal, 0)

/-- The lanes of a vector as signed numbers, 32 of 16 bits or 16 of 32 bits (R335). -/
def lanes (w v : Nat) : List Int := (List.range (512 / w)).map fun i => signed w (field v (i * w) w)

/-- A vector of lanes. -/
def pack (w : Nat) (ls : List Int) : Nat := (ls.mapIdx fun i x => twos w x * 2 ^ (w * i)).sum

/-- Sets sticky bits. -/
def sticky (mask : Nat) (on : Bool) (c : Core) : Core := if on then { c with flags := c.flags ||| mask } else c

/-- Writes a vector from lanes saturated to w bits, with SATV where the clamp changed one (R356). -/
def writeSat (w d : Nat) (ls : List Int) (c : Core) : Core :=
  sticky srSatv (ls.any fun x => satW w x != x) { c with v := put c.v d (pack w (ls.map (satW w))) }

/-- Writes a vector from lanes that wrap. -/
def writeWrap (w d : Nat) (ls : List Int) (c : Core) : Core := { c with v := put c.v d (pack w ls) }

/-- Writes a scalar. -/
def writeS (d n : Nat) (c : Core) : Core := { c with s := put c.s d (n % 2 ^ 32) }

/-- R(x): leading bits equal to the sign bit, minus 1, in w bits (R362). -/
def leading (w : Nat) (x : Int) : Nat :=
  let m := if x < 0 then -x - 1 else x
  w - 1 - (if m = 0 then 0 else Nat.log2 m.toNat + 1)

/-- NORM(x) in w bits (R362). -/
def norm (w : Nat) (x : Int) : Int := signed w (twos w (x * 2 ^ leading w x))

/-- The width of an accumulator's lanes by its tag, and the class width of its values. -/
def accBits (wide : Bool) : Nat := if wide then 72 else 40

/-- The least of a list of numbers. -/
def least (ls : List Int) : Int := ls.tail.foldl min (ls.headD 0)

/-- Writes an accumulator, saturated with SATA (R359). -/
def writeAcc (n : Nat) (wide : Bool) (ls : List Int) (c : Core) : Core :=
  let k := accBits wide
  sticky srSata (ls.any fun x => satW k x != x)
    { c with acc := put c.acc n (ls.map (satW k))
             wide := if wide then c.wide ||| 2 ^ n else c.wide - flag (bitAt c.wide n) n }

/-- Complex products of lanes 2i, 2i + 1 (R360). -/
def complexProducts (conj : Bool) : List Int → List Int → List Int
  | ar :: ai :: a, br :: bi :: b =>
    let bi' := if conj then -bi else bi
    (ar * br - ai * bi') :: (ar * bi' + ai * br) :: complexProducts conj a b
  | _, _ => []

/-- A lane operation of two vectors. -/
def vector2 (c : Core) (va vb d : Nat) (act : Core → Core) : SlotResult :=
  let _ := c
  .ok { uses := [.v va, .v vb], writes := [.v d], distance := 2, act := act }

/-- Slot X (R358 to R362, R366). `c` is the core before the bundle. -/
def slotX (x : Nat) (c : Core) : SlotResult :=
  let op := field x 26 6
  let wide := bitAt x 25
  let w := if wide then 32 else 16
  let f := bitAt x 24
  let (d, va, vb, n, k) := (field x 20 4, field x 16 4, field x 12 4, field x 10 2, field x 5 5)
  let a := lanes w (nth c.v va)
  let b := lanes w (nth c.v vb)
  let acc := nth c.acc n
  let tag := bitAt c.wide n
  let zero (fs : List Nat) : Bool := fs.all (· == 0)
  let res := field x 0 5 == 0
  let fN := if f then 1 else 0
  let vec (ok : Bool) (act : Core → Core) : SlotResult := if res && ok then vector2 c va vb d act else illegal
  let vec1 (ok : Bool) (act : Core → Core) : SlotResult :=
    if res && ok && vb == 0 then .ok { uses := [.v va], writes := [.v d], distance := 2, act := act } else illegal
  let mac (ok : Bool) (reads : Bool) (ls : List Int) : SlotResult :=
    if res && ok && zero [fN, d, k] && (!reads || tag == wide) then
      .ok { uses := [.v va, .v vb], chains := if reads then [.acc n] else [], writes := [.acc n], distance := 3, chain := 1,
            act := writeAcc n wide ls }
    else illegal
  match op with
  | 0x00 => if x == 0 then .ok {} else illegal
  | 0x01 => vec (zero [n, k]) ((if f then writeSat else writeWrap) w d (List.zipWith (· + ·) a b))
  | 0x02 => vec (zero [n, k]) ((if f then writeSat else writeWrap) w d (List.zipWith (· - ·) a b))
  | 0x03 => vec (zero [fN, n, k]) (writeWrap w d (List.zipWith min a b))
  | 0x04 => vec (zero [fN, n, k]) (writeWrap w d (List.zipWith max a b))
  | 0x05 => vec1 (zero [fN, n, k]) (writeSat w d (a.map fun y => (y.natAbs : Int)))
  | 0x06 => vec (zero [fN, n, k]) fun c' => { c' with v := put c'.v d (nth c.v va &&& nth c.v vb) }
  | 0x07 => vec (zero [fN, n, k]) fun c' => { c' with v := put c'.v d (nth c.v va ||| nth c.v vb) }
  | 0x08 => vec (zero [fN, n, k]) fun c' => { c' with v := put c'.v d (nth c.v va ^^^ nth c.v vb) }
  | 0x09 => vec1 (zero [n]) ((if f then writeSat else writeWrap) w d (a.map fun y => y * 2 ^ k))
  | 0x0A => vec1 (zero [n]) (writeWrap w d (a.map fun y => if f then rnd y k else y / 2 ^ k))
  | 0x0B => vec (zero [fN, n, k]) (writeSat w d (List.zipWith (fun y z => rnd (y * z) (w - 1)) a b))
  | 0x0C =>
    if res && zero [fN, va, vb, n] then
      .ok { uses := [.s k], writes := [.v d], distance := 2
            act := writeWrap w d (List.replicate (512 / w) (signed w (nth c.s k))) }
    else illegal
  | 0x10 => mac true false (List.zipWith (· * ·) a b)
  | 0x11 => mac true true (List.zipWith (· + ·) acc (List.zipWith (· * ·) a b))
  | 0x12 => mac true true (List.zipWith (· - ·) acc (List.zipWith (· * ·) a b))
  | 0x13 => mac true false (complexProducts false a b)
  | 0x14 => mac true true (List.zipWith (· + ·) acc (complexProducts false a b))
  | 0x15 => mac true true (List.zipWith (· + ·) acc (complexProducts true a b))
  | 0x18 =>
    let r : Int := if f then max (-63) (min 63 (signed 32 (nth c.s k))) else k
    let ls := acc.map fun y => if 0 ≤ r then rnd y r.toNat else y * 2 ^ (-r).toNat
    if res && zero [va, vb] && tag == wide then
      .ok { uses := if f then [.acc n, .s k] else [.acc n], writes := [.v d], distance := 2, act := writeSat w d ls }
    else illegal
  | 0x19 =>
    if res && zero [fN, d, va, vb, k] then
      .ok { writes := [.acc n], distance := 3, chain := 1, act := writeAcc n wide (List.replicate (512 / w) 0) }
    else illegal
  | 0x1C => vec1 (zero [fN, n, k]) (writeWrap w d (a.map fun y => (leading w y : Int)))
  | 0x1D => vec1 (zero [fN, n, k]) (writeWrap w d (a.map (norm w)))
  | 0x1E =>
    if res && zero [fN, d, vb, n] then
      .ok { uses := [.v va], writes := [.s k], distance := 2
            act := writeS k (twos 32 (least (a.map fun y => (leading w y : Int)))) }
    else illegal
  | 0x1F =>
    if res && zero [fN, va, vb, k] && tag == wide then
      .ok { uses := [.acc n], writes := [.v d], distance := 2
            act := writeWrap w d (acc.map fun y => (leading (accBits tag) y : Int) - 8) }
    else illegal
  | 0x20 =>
    if res && zero [fN, d, va, vb] && tag == wide then
      .ok { uses := [.acc n], writes := [.s k], distance := 2
            act := writeS k (twos 32 (least (acc.map fun y => (leading (accBits tag) y : Int) - 8))) }
    else illegal
  | _ => illegal

/-! ### Slot Y: scalar operations, moves, addresses -/

/-- Z, N, C, V as bits [3:0] of SR. -/
def flagsOf (r : Nat) (carry v : Bool) : Nat := flag (r == 0) 0 + flag (bitAt r 31) 1 + flag carry 2 + flag v 3

/-- SR with its low four bits replaced. -/
def setFlags (fl : Nat) (c : Core) : Core := { c with flags := c.flags / 16 * 16 + fl }

/-- SR with Z and N replaced. -/
def setZN (r : Nat) (c : Core) : Core :=
  { c with flags := c.flags / 4 * 4 + flag (r == 0) 0 + flag (bitAt r 31) 1 }

/-- S[A] ± S[B]: result in 32 bits, exact signed result, carry. -/
def addSub (sub : Bool) (x y : Nat) : Nat × Int × Bool :=
  if sub then ((x + 2 ^ 32 - y) % 2 ^ 32, signed 32 x - signed 32 y, decide (y ≤ x))
  else ((x + y) % 2 ^ 32, signed 32 x + signed 32 y, decide (2 ^ 32 ≤ x + y))

/-- A signed overflow of 32 bits. -/
def over32 (e : Int) : Bool := satW 32 e != e

/-- ALU (R364). -/
def alu (d a b fn : Nat) (c : Core) : SlotResult :=
  let (x, y) := (nth c.s a, nth c.s b)
  let (sx, sy) := (signed 32 x, signed 32 y)
  let n := y % 64
  let out (r : Nat) (f : Core → Core) : SlotResult :=
    .ok { uses := [.s a, .s b], writes := [.s d], act := fun c' => f (writeS d r c') }
  let arith (sub sat : Bool) : SlotResult :=
    let (r, e, cy) := addSub sub x y
    let r' := if sat then twos 32 (satW 32 e) else r
    out r' fun c' => sticky srSats (sat && over32 e) (setFlags (flagsOf r' cy (over32 e)) c')
  let logic (r : Nat) : SlotResult := out r (setFlags (flagsOf r false false))
  match fn with
  | 0x000 => arith false false
  | 0x001 => arith true false
  | 0x002 => arith false true
  | 0x003 => arith true true
  | 0x004 => logic (x &&& y)
  | 0x005 => logic (x ||| y)
  | 0x006 => logic (x ^^^ y)
  | 0x007 => out (x * 2 ^ n) id
  | 0x008 => out (x / 2 ^ n) id
  | 0x009 => out (twos 32 (sx / 2 ^ n)) id
  | 0x00A => out (twos 32 (rnd sx n)) id
  | 0x00B => out (twos 32 (sx * sy)) id
  | 0x00C => out (twos 32 (sx * sy / 2 ^ 32)) id
  | 0x00D => out (twos 32 (min sx sy)) id
  | 0x00E => out (twos 32 (max sx sy)) id
  | 0x00F =>
    let e : Int := sx.natAbs
    let r := twos 32 (satW 32 e)
    out r fun c' => sticky srSats (over32 e) (setZN r c')
  | 0x010 =>
    let (r, e, cy) := addSub true x y
    if d == 0 then .ok { uses := [.s a, .s b], act := setFlags (flagsOf r cy (over32 e)) } else illegal
  | 0x011 => out (leading 32 sx) id
  | 0x012 => out (twos 32 (norm 32 sx)) id
  | _ => illegal

/-- SR as read (R357). -/
def srValue (c : Core) : Nat :=
  (maskOf 8 fun n => (nth c.staged n).isSome) * 2 ^ 24 + c.levels.length * 2 ^ 16 + c.wide * 2 ^ 8 + c.flags

/-- The largest register number of a class plus one (R365). -/
def classSize : Nat → Nat
  | 0 => 32
  | 5 => 4
  | 6 => 1
  | _ => 8

/-- Reads a register of a class. -/
def readClass (cls n : Nat) (c : Core) : Nat :=
  match cls with
  | 0 => nth c.s n
  | 1 => nth c.a n
  | 2 => nth c.o n
  | 3 => nth c.b n
  | 4 => (nth c.staged n).getD (nth c.l n)
  | 5 => nth c.lc n
  | _ => srValue c

/-- The register of a class and number. -/
def regOf (cls n : Nat) : Reg :=
  match cls with
  | 0 => .s n
  | 1 => .a n
  | 2 => .o n
  | 3 => .b n
  | 4 => .l n
  | 5 => .lc n
  | _ => .sr

/-- Writes to Bn, Ln, On and LCd are seen by address generation and loop ends from the second bundle on (R343). -/
def later (r : Reg) (v : Nat) (c : Core) : Core := { c with late := c.late ++ [{ reg := r, value := v }] }

/-- A write of Ln (R339): at once, or staged. -/
def writeLength (n v : Nat) (c : Core) : Core :=
  let an := nth c.a n
  let bn := nth c.b n
  let inside := decide (bn ≤ an) && decide (an < bn + v)
  if v == 0 || inside then later (.l n) v { c with staged := put c.staged n none }
  else { c with staged := put c.staged n (some v) }

/-- A write of An or Bn cancels a staged length, which then takes effect (R339). -/
def cancelStaged (n : Nat) (c : Core) : Core :=
  match nth c.staged n with
  | some v => later (.l n) v { c with staged := put c.staged n none }
  | none => c

/-- Writes a register of a class (R365). -/
def writeClass (cls n v : Nat) (c : Core) : Core :=
  match cls with
  | 0 => writeS n v c
  | 1 => cancelStaged n { c with a := put c.a n v }
  | 2 => later (.o n) v c
  | 3 => cancelStaged n (later (.b n) v c)
  | 4 => writeLength n v c
  | 5 => later (.lc n) v c
  | _ => { c with flags := v % 128 }

/-- MOV (R365). -/
def movY (d a fn : Nat) (c : Core) : SlotResult :=
  let (dc, sc) := (field fn 8 3, field fn 5 3)
  if field fn 0 5 != 0 || dc == 7 || sc == 7 || !(decide (d < classSize dc)) || !(decide (a < classSize sc)) then illegal
  else
    let v := readClass sc a c
    .ok { uses := [regOf sc a], writes := [regOf dc d], distance := if dc == 1 then 2 else 1, act := writeClass dc d v }

/-- The address that an access uses (R336). -/
def accessAddress (c : Core) (an mode om : Nat) (imm : Int) : Nat :=
  let base := nth c.a an
  match mode with
  | 1 => twos 32 (base + imm)
  | 4 => (base + nth c.o om) % 2 ^ 32
  | _ => base

/-- An after a post-modifying access (R336, R337, R339); none: the update faults with RANGE (R338). -/
def updateAddress (an : Nat) (delta : Int) (c : Core) : Option Core :=
  let (a, b, len) := (nth c.a an, nth c.b an, nth c.l an)
  if len == 0 then some { c with a := put c.a an (twos 32 (a + delta)) }
  else if 0x100000 < len then none
  else
    let off : Int := (a : Int) + delta - b
    let wraps := decide (off < 0) || decide ((len : Int) ≤ off)
    let c := { c with a := put c.a an (twos 32 (b + off % len)) }
    if wraps then
      match nth c.staged an with
      | some v => some { c with l := put c.l an v, staged := put c.staged an none }
      | none => some c
    else some c

/-- The fault of a data access, if it has one (R330, R338). -/
def accessFault (c : Core) (an mode addr size : Nat) : Option Nat :=
  let len := nth c.l an
  let b := nth c.b an
  let circular := len != 0 && (mode == 2 || mode == 3)
  let port := decide (0x100000 ≤ addr) && decide (addr < 0x100100)
  if circular && decide (0x100000 < len) then some fRange
  else if circular && (len % 4 != 0 || (size == 64 && (len % 64 != 0 || b % 64 != 0))) then some fAlign
  else if addr % size != 0 || (port && size != 4) then some fAlign
  else if len != 0 && decide (addr < b + len) && decide (b + len < addr + size) then some fBounds
  else if !(decide (addr < 0x100000) || port) then some fBounds
  else none

/-- A branch condition (R368). -/
def condHolds (fl cond : Nat) : Bool :=
  let z := bitAt fl 0
  let n := bitAt fl 1
  let cy := bitAt fl 2
  let v := bitAt fl 3
  match cond with
  | 0 => true
  | 1 => z
  | 2 => !z
  | 3 => n != v
  | 4 => n == v
  | 5 => !z && n == v
  | 6 => z || n != v
  | 7 => !cy
  | 8 => cy
  | 9 => n
  | _ => !n

end Sys2Proof.Machine
end

