-- ==== Sys2Proof/Machine/GythenFam.lean ====
section
/-! DEFINITION. GYTHEN: bundles of a core with both slots, faults, fetches, posts and the firmware kernels (13, 14); KERNEL_LOAD,
KERNEL_START and KERNEL_STOP (19 R486). -/

namespace Sys2Proof.Machine

/-- Changes one core. -/
def onCore (core : Nat) (f : Core → Core) (p : Piece) : Piece :=
  { p with gythen := { p.gythen with cores := upd p.gythen.cores core f } }

/-- A core. -/
def Piece.core (p : Piece) (core : Nat) : Core := nth p.gythen.cores core

/-- STATE as a code (R351). -/
def CoreState.code : CoreState → Nat
  | .idle => 0
  | .loaded => 1
  | .running => 2
  | .done => 3
  | .stopped => 4
  | .fault => 5

/-- The KERNEL_END record of a core (R345, R371, R496). -/
def kernelEnd (core : Nat) (p : Piece) : Piece :=
  let c := p.core core
  raiseEvent 0x05 0x0C (core / 4)
    ([BitVec.ofNat 8 core, BitVec.ofNat 8 c.state.code, BitVec.ofNat 8 c.cause, 0] ++ leBytes 4 (nth c.s 1) ++
      leBytes 4 (c.lastPc % 2 ^ 18) ++ leBytes 4 c.faultAddr) p

/-- A core stops at a fault (R345). -/
def coreFault (core cause addr : Nat) (p : Piece) : Piece :=
  kernelEnd core (onCore core (fun c =>
    { c with state := .fault, cause := cause, faultAddr := addr, lastPc := c.pc }) p)

/-! ### Data memory -/

/-- A byte of a core's data memory; one that nothing has written is free (R331; log entry 7). -/
def dataByte (core : Nat) (c : Core) (a : Nat) : Byte := (lookup c.dmem a).getD (Config.dataMemory core a)

/-- Bytes of a core's data memory. -/
def dataRead (core : Nat) (c : Core) (a n : Nat) : Bytes := (List.range n).map fun i => dataByte core c (a + i)

/-- Writes bytes to a core's data memory. -/
def dataWrite (a : Nat) (bs : Bytes) (c : Core) : Core :=
  { c with dmem := (bs.mapIdx fun i b => (a + i, b)) ++
             c.dmem.filter fun e => decide (e.1 < a) || decide (a + bs.length ≤ e.1) }

/-! ### Ports (R332 to R334, R350) -/

/-- What a bundle's surroundings give it: the core's number, the tick, and the place of the next free value. -/
structure CoreEnv where
  core : Nat
  now : Nat
  free : Nat

/-- A stamp as STAMP_POP returns it (R350). -/
def stampWords (s : Stamp) : Bytes :=
  leBytes 8 (T16.tick s.time).toNat ++ leBytes 2 (s.time % 65536).toNat ++ leBytes 1 s.source ++
  leBytes 1 (flag s.rising 7 + s.flags % 128) ++ leBytes 4 s.seq

/-- The next word of STAMP_POP, free while no stamp waits (R350 states none). -/
def popStamp (free : Nat) (c : Core) : Nat × Core :=
  match c.stamps with
  | [] =>
    ((Config.freeWord free).toNat % 2 ^ 32, c)
  | s :: rest =>
    let v := u (stampWords s) (4 * c.popped) 4
    (v, if c.popped == 3 then { c with stamps := rest, popped := 0 } else { c with popped := c.popped + 1 })

/-- Reads a port: its value and what the read does. -/
def portRead (e : CoreEnv) (port : Nat) (c : Core) : Nat × (Core → Core) :=
  match port with
  | 0x00 => (e.core, id)
  | 0x04 => (low32 e.now, fun c => { c with timeHi := some (high32 e.now) })
  | 0x08 => (c.timeHi.getD (high32 e.now), fun c => { c with timeHi := none })
  | 0x10 => (c.fetchCtx, id)
  | 0x14 => (c.fetchCount, id)
  | 0x18 => (c.fetchDest, id)
  | 0x20 => (c.fetchDone * 16 + c.fetches.length, fun c => { c with fetchDone := 0 })
  | 0x30 => ((popStamp e.free c).1, fun c => (popStamp e.free c).2)
  | _ => (0, id)

/-- Writes a port other than FETCH_GO. -/
def portWrite (port v : Nat) (c : Core) : Core :=
  match port with
  | 0x10 => { c with fetchCtx := v % 2 ^ 20 }
  | 0x14 => { c with fetchCount := v % 2 ^ 7 }
  | 0x18 => { c with fetchDest := v / 64 * 64 }
  | _ => c

/-- The fault of a write of FETCH_GO, if it has one (R334); a firmware kernel has no declared range (log entry 37). -/
def fetchFault (c : Core) : Option (Nat × Nat) :=
  let inside := match c.image with
    | some i => decide (i.fetchFirst ≤ c.fetchCtx) && decide (c.fetchCtx + c.fetchCount ≤ i.fetchFirst + i.fetchCount)
    | none => c.firmware
  if c.fetchCount == 0 || decide (64 < c.fetchCount) then some (fRange, 0x10001C)
  else if !inside || decide (0x100000 < c.fetchDest + 64 * c.fetchCount) then some (fBounds, 0x10001C)
  else none

/-- A fetch is issued, or ignored and counted while two are outstanding; its cut is taken at once (R333). -/
def issueFetch (core : Nat) (p : Piece) : Piece :=
  let c := p.core core
  if 2 ≤ c.fetches.length then onCore core (fun c => { c with refused := sat32 c.refused 1 }) p
  else
    let data := (List.range c.fetchCount).flatMap fun i => indexBytes (slotSums p) p.tally.contexts (c.fetchCtx + i)
    onCore core (fun c => { c with fetches := c.fetches ++ [{ dest := c.fetchDest, data := data }] }) p

/-! ### Slot Y (R363 to R372) -/

/-- What a bundle does to the flow of control, and beyond the core. -/
inductive Flow where
  | next
  | jump (target : Nat)
  | rep (count stop : Nat)
  | halt
  | fetch
  /-- A post that the sandbox takes, or denies. -/
  | post (e : PostEntry)
  | denied
  deriving DecidableEq, Repr, Inhabited

/-- A slot's effect with its flow. -/
abbrev YResult := Except (Nat × Nat) (SlotEffect × Flow)

/-- An illegal slot Y. -/
def illegalY : YResult := .error (fIllegal, 0)

/-- A slot Y that only flows. -/
def flowOnly (uses : List Reg) (f : Flow) : YResult := .ok ({ uses := uses }, f)

/-- Access sizes of OP 0x08 to 0x0F (R363). -/
def accessSize (op : Nat) : Nat :=
  match op with
  | 0x0A | 0x0D => 4
  | 0x0B | 0x0E | 0x0F => 64
  | _ => 2

/-- The 64 bytes of part `part` of an accumulator (R366). -/
def accPart (c : Core) (n part : Nat) : Bytes :=
  let w := if bitAt c.wide n then 16 else 8
  (List.range (64 / w)).flatMap fun i => leBytes w (twos (8 * w) (nth (nth c.acc n) (part * (64 / w) + i)))

/-- Loads and stores (R330, R336 to R338, R363, R366). -/
def memoryY (e : CoreEnv) (op x : Nat) (c : Core) : YResult :=
  let mode := field x 16 2 * 2 + field x 15 1
  let (r, an, om) := (field x 21 5, field x 18 3, field x 12 3)
  let z := accessSize op
  let imm := signed 12 x * z
  let vector := op == 0x0B || op == 0x0E
  if 4 < mode || (vector && bitAt r 4) || (op == 0x0F && bitAt r 4) then illegalY
  else
    let addr := accessAddress c an mode om imm
    let port := addr - 0x100000
    let isPort := decide (0x100000 ≤ addr)
    match accessFault c an mode addr z with
    | some f => .error (f, addr)
    | none =>
      if isPort && port == 0x30 && !c.firmware then .error (fBounds, addr)
      else
        let delta : Int := if mode == 2 then imm else signed 32 (nth c.o om)
        match (if mode == 2 || mode == 3 then updateAddress an delta c else some c) with
        | none => .error (fRange, addr)
        | some c1 =>
          let step (c' : Core) : Core :=
            { c' with a := put c'.a an (nth c1.a an), l := put c'.l an (nth c1.l an),
                      staged := put c'.staged an (nth c1.staged an) }
          let uses := if mode == 3 || mode == 4 then [Reg.a an, Reg.o om] else [Reg.a an]
          let loadS (v dist : Nat) (more : Core → Core) : YResult :=
            .ok ({ uses := uses, writes := [.s r], distance := dist, act := fun c' => writeS r v (more (step c')) }, .next)
          let bs := dataRead e.core c addr z
          let store (src : Reg) (out : Bytes) : YResult :=
            .ok ({ uses := src :: uses, act := fun c' => dataWrite addr out (step c') }, .next)
          match op with
          | 0x08 => loadS (twos 32 (signed 16 (leNat bs))) 3 id
          | 0x09 => loadS (leNat bs) 3 id
          | 0x0A =>
            if isPort then
              let (v, more) := portRead e port c
              loadS v 4 more
            else loadS (leNat bs) 3 id
          | 0x0B => .ok ({ uses := uses, writes := [.v r], distance := 3
                           act := fun c' => { step c' with v := put c'.v r (leNat bs) } }, .next)
          | 0x0C => store (.s r) (leBytes 2 (nth c.s r))
          | 0x0D =>
            if !isPort then store (.s r) (leBytes 4 (nth c.s r))
            else if port == 0x1C then
              match fetchFault c with
              | some f => .error f
              | none => .ok ({ uses := .s r :: uses, act := step }, .fetch)
            else .ok ({ uses := .s r :: uses, act := fun c' => portWrite port (nth c.s r) (step c') }, .next)
          | 0x0E => store (.v r) (leBytes 64 (nth c.v r))
          | _ => store (.acc (field r 0 2)) (accPart c (field r 0 2) (field r 2 2))

/-- The code length of the loaded image. -/
def Core.codeLen (c : Core) : Nat := (c.image.map (·.codeLen)).getD 0

/-- A branch or jump to a target (R369). -/
def jumpTo (c : Core) (uses : List Reg) (target : Nat) (writes : List Reg) (act : Core → Core) : YResult :=
  if target % 8 != 0 then .error (fAlign, 0)
  else if c.codeLen ≤ target then .error (fRange, 0)
  else .ok ({ uses := uses, writes := writes, act := act }, .jump target)

/-- The target of a relative branch, in the 18 bits of PC. -/
def relative (c : Core) (x : Nat) : Nat := twos 18 ((c.pc : Int) + 8 * signed 16 x)

/-- The body of a REP bundle (R340, R341, R370): slot X holds EXT. -/
def repY (x ext : Nat) (c : Core) : YResult :=
  let src := bitAt x 21
  let reg := field x 16 5
  let stop := c.pc + 8 * (field x 0 16 + 1)
  let count := if src then nth c.s reg else field ext 0 16
  if field x 22 4 != 0 || field ext 26 6 != 0x3F || field ext 16 10 != 0 || (src && field ext 0 16 != 0) ||
      (!src && reg != 0) then illegalY
  else if c.codeLen ≤ stop then .error (fRange, 0)
  else if count != 0 && c.levels.length == 4 then .error (fLoopDepth, 0)
  else flowOnly (if src then [.s reg] else []) (.rep count stop)

/-- Posts (R344, R372): a post that the sandbox denies takes no entry. -/
def postY (op d a b fn : Nat) (p : Piece) (c : Core) : YResult :=
  let i := c.image.getD {}
  if d != 0 || fn != 0 then illegalY
  else if op == 0x18 then
    let ctx := nth c.s a
    flowOnly [.s a, .s b]
      (if decide (i.postFirst ≤ ctx) && decide (ctx < i.postFirst + i.postCount) then .post (.tally ctx (nth c.s b))
       else .denied)
  else if b != 0 then illegalY
  else
    flowOnly [.v (a % 16)]
      (if i.streamCh < 64 && (p.streamCh i.streamCh).state != .closed then
        .post (.stream i.streamCh (leBytes 64 (nth c.v (a % 16))))
       else .denied)

/-- Slot Y; `x` is the slot, `ext` the bundle's slot X, `c` the core before the bundle. -/
def slotY (e : CoreEnv) (x ext : Nat) (p : Piece) (c : Core) : YResult :=
  let op := field x 26 6
  let (d, a, b, fn) := (field x 21 5, field x 16 5, field x 11 5, field x 0 11)
  let imm := signed 16 x
  let simpleY (r : SlotResult) : YResult := r.map fun s => (s, Flow.next)
  match op with
  | 0x00 => if x == 0 then .ok ({}, .next) else illegalY
  | 0x01 => simpleY (alu d a b fn c)
  | 0x02 =>
    let (r, v, cy) := addSub false (nth c.s a) (twos 32 imm)
    .ok ({ uses := [.s a], writes := [.s d], act := fun c' => setFlags (flagsOf r cy (over32 v)) (writeS d r c') }, .next)
  | 0x03 => if a == 0 then .ok ({ writes := [.s d], act := writeS d (twos 32 imm) }, .next) else illegalY
  | 0x04 =>
    if a == 0 then
      .ok ({ uses := [.s d], writes := [.s d], act := writeS d (field x 0 16 * 65536 + nth c.s d % 65536) }, .next)
    else illegalY
  | 0x05 => if b == 0 then simpleY (movY d a fn c) else illegalY
  | 0x08 | 0x09 | 0x0A | 0x0B | 0x0C | 0x0D | 0x0E | 0x0F => memoryY e op x c
  | 0x10 =>
    let cond := field x 22 4
    if field x 16 6 != 0 || 10 < cond then illegalY
    else if condHolds c.flags cond then jumpTo c [] (relative c x) [] id
    else .ok ({}, .next)
  | 0x11 =>
    if field x 16 10 != 0 then illegalY else jumpTo c [] (relative c x) [.s 31] (writeS 31 (c.pc + 8))
  | 0x12 => if d != 0 || b != 0 || fn != 0 then illegalY else jumpTo c [.s a] (nth c.s a) [] id
  | 0x14 => repY x ext c
  | 0x18 | 0x19 => postY op d a b fn p c
  | 0x3E => if field x 0 26 == 0 then flowOnly [] .halt else illegalY
  | _ => illegalY

/-! ### A bundle (R340 to R345) -/

/-- A late write becomes visible (R343). -/
def applyLate (w : LateWrite) (c : Core) : Core :=
  match w.reg with
  | .o n => { c with o := put c.o n w.value }
  | .b n => { c with b := put c.b n w.value }
  | .l n => { c with l := put c.l n w.value }
  | .lc n => { c with lc := put c.lc n w.value }
  | _ => c

/-- The writes that this bundle sees, and those that the next one will. -/
def ageLate (c : Core) : Core :=
  let due := c.late.filter (!·.waits)
  due.foldl (fun c w => applyLate w c) { c with late := (c.late.filter (·.waits)).map fun w => { w with waits := false } }

/-- The loop end check of levels d − 1 down to 0 (R340). -/
def endCheck (at_ : Nat) : Nat → Core → Core
  | 0, c => c
  | d + 1, c =>
    if (nth c.levels d).stop != at_ then c
    else
      let n := nth c.lc d
      if 1 < n then { c with lc := put c.lc d (n - 1), pc := (nth c.levels d).start }
      else endCheck at_ d { c with lc := put c.lc d 0, levels := c.levels.take d }

/-- Closes the levels whose body does not contain a target (R341). -/
def closeLevels (target : Nat) (c : Core) : Core :=
  let keep := c.levels.takeWhile fun l => decide (l.start ≤ target) && decide (target ≤ l.stop)
  { c with levels := keep
           lc := c.lc.mapIdx fun i n => if keep.length ≤ i && i < c.levels.length then 0 else n }

/-- The cycle at which the operands of a bundle are ready (R342). -/
def readyCycle (c : Core) (uses chains : List Reg) : Nat :=
  c.ready.foldl (fun t r =>
    let t := if uses.contains r.reg then max t r.cycle else t
    if chains.contains r.reg then max t r.chain else t) c.cycles

/-- Notes when the results of a slot are ready. -/
def noteReady (t : Nat) (e : SlotEffect) (c : Core) : Core :=
  { c with ready := (e.writes.map fun r => { reg := r, cycle := t + e.distance, chain := t + e.chain }) ++
             c.ready.filter fun r => !e.writes.contains r.reg && decide (t < max r.cycle r.chain) }

/-- Where the core goes on, once both slots have acted (R340, R341, R371). -/
def follow (pc : Nat) (f : Flow) (c : Core) : Core :=
  let c := { c with pc := pc + 8 }
  match f with
  | .jump target => { closeLevels target c with pc := target, cycles := c.cycles + 2 }
  | .rep count stop =>
    let c := if count == 0 then { c with pc := stop + 8, cycles := c.cycles + 2 }
      else { c with lc := put c.lc c.levels.length count, levels := c.levels ++ [{ start := pc + 8, stop := stop }] }
    endCheck pc c.levels.length c
  | .halt => { c with pc := pc, halted := true, exit := nth c.s 1 }
  | .post e => endCheck pc c.levels.length { c with queue := c.queue ++ [e], posts := wrap32 c.posts 1 }
  | .denied => endCheck pc c.levels.length { c with denied := sat32 c.denied 1 }
  | _ => endCheck pc c.levels.length c

/-- A taken branch on the END of an open level (R341). -/
def loopEnd (c : Core) : Flow → Bool
  | .jump _ => c.levels.any (·.stop == c.pc)
  | _ => false

/-- A post meets a full queue (R372). -/
def stalls (c : Core) : Flow → Bool
  | .post _ => decide (16 ≤ c.queue.length)
  | _ => false

/-- Both slots of a bundle: their effects, or the fault, slot X's first (log entry 37). -/
def decodeBundle (e : CoreEnv) (bundle : Nat) (p : Piece) (c : Core) : Except (Nat × Nat) (SlotEffect × SlotEffect × Flow) :=
  let (x, y) := (field bundle 0 32, field bundle 32 32)
  match (if field y 26 6 == 0x14 then (.ok {} : SlotResult) else slotX x c), slotY e y x p c with
  | .error f, _ => .error f
  | .ok _, .error f => .error f
  | .ok sx, .ok (sy, flow) =>
    if sx.writes.any sy.writes.contains then .error (fIllegal, 0)
    else if loopEnd c flow then .error (fLoopEnd, 0)
    else .ok (sx, sy, flow)

/-- A running core issues its bundle (R342). -/
def issueBundle (core : Nat) (p : Piece) : Piece :=
  let c := ageLate (p.core core)
  if c.memErr then coreFault core fMemErr 0 p
  else if c.codeLen ≤ c.pc then coreFault core fRange 0 p
  else
    let bundle := (lookup c.imem (c.pc / 8)).getD (Config.instructionMemory core (c.pc / 8)).toNat
    match decodeBundle { core := core, now := p.now, free := p.free } bundle p c with
    | .error (cause, addr) => coreFault core cause addr p
    | .ok (sx, sy, flow) =>
      if stalls c flow then onCore core (fun c => { c with cycles := c.cycles + 1 }) p
      else
        let t := readyCycle c (sx.uses ++ sy.uses) (sx.chains ++ sy.chains)
        let c' := noteReady t sy (noteReady t sx (sy.act (sx.act { c with cycles := t + 1 })))
        let p := onCore core (fun _ => follow c.pc flow c') { p with free := p.free + 1 }
        when (flow == .fetch) (issueFetch core) p

/-- The core issues a user kernel's bundles: RUNNING, started, not halted; a firmware kernel's program is the firmware's own. -/
def issues (p : Piece) (c : Core) : Bool :=
  c.state == .running && !c.halted && !c.firmware && decide (c.startAt ≤ p.now)

/-- GYTHEN_BUNDLE. -/
def execGythenBundle (core : Fin 16) : State → Out := inIsland (0x28 + core.val / 4) fun p =>
  when (issues p (p.core core)) (issueBundle core) p

/-- KERNEL_DONE: after HALT the core is DONE once its post queue is empty (R349, R371). -/
def execKernelDone (core : Fin 16) : State → Out := inIsland (0x28 + core.val / 4) fun p =>
  let c := p.core core
  when (c.state == .running && c.halted && c.queue.isEmpty)
    (fun p => kernelEnd core (onCore core (fun c => { c with state := .done, lastPc := c.pc, cause := 0 }) p)) p

/-- POST_QUEUE_DRAIN: the first entry leaves toward TALLY or STREAM (R372). -/
def execPostQueueDrain (core : Fin 16) : State → Out := inIsland (0x28 + core.val / 4) fun p =>
  match (p.core core).queue with
  | [] => p
  | e :: rest =>
    let p := onCore core (fun c => { c with queue := rest }) p
    match e with
    | .tally ctx v =>
      onTally (fun t => { t with posts := t.posts ++ [{ core := core, context := ctx, value := signed 32 v, at_ := p.now }] }) p
    | .stream ch data =>
      sendStream { channel := ch, kind := 0x13, panelType := 0x0C, inst := core, record := data } p

/-- FETCH_GO: a firmware kernel's write of the port; a user kernel's is its ST.W too (R333, R334). -/
def execFetchGo (core : Fin 16) : State → Out := inIsland (0x28 + core.val / 4) fun p =>
  let c := p.core core
  when (c.state == .running && !c.halted) (fun p =>
    match fetchFault c with
    | some (cause, addr) => coreFault core cause addr p
    | none => issueFetch core p) p

/-- FETCH_COMPLETE: the oldest fetch lands in data memory (R333). -/
def execFetchComplete (core : Fin 16) : State → Out := inIsland (0x28 + core.val / 4) fun p =>
  match (p.core core).fetches with
  | [] => p
  | f :: rest =>
    onCore core (fun c => dataWrite f.dest f.data { c with fetches := rest, fetchDone := min 15 (c.fetchDone + 1) }) p

/-- TIME_LO_READ: a running kernel's read of the port captures the high word (R332). -/
def execTimeLoRead (core : Fin 16) : State → Out := inIsland (0x28 + core.val / 4) fun p =>
  when ((p.core core).state == .running) (onCore core fun c => { c with timeHi := some (high32 p.now) }) p

/-- STAMP_POP: a firmware kernel reads the next word; a user kernel faults (R332, R350). -/
def execStampPop (core : Fin 16) : State → Out := inIsland (0x28 + core.val / 4) fun p =>
  let c := p.core core
  when (c.state == .running && !c.halted) (fun p =>
    if c.firmware then onCore core (fun c => (popStamp p.free c).2) { p with free := p.free + 1 }
    else coreFault core fBounds 0x100030 p) p

/-- FIRMWARE_KERNEL_HALT: after the last slot has stopped, cores 12 to 15 become IDLE with no image (R350). -/
def execFirmwareKernelHalt : State → Out := effect fun p =>
  when p.gythen.idleSince.isSome (fun p =>
    let halt (c : Core) : Core :=
      if c.firmware then
        { c with state := .idle, firmware := false, image := none, halted := false, stamps := [], popped := 0, lastPc := c.pc }
      else c
    { p with gythen := { idleSince := none, cores := p.gythen.cores.map halt } }) p

/-! ### Commands -/

/-- The cores of a mask of an instance. -/
def namedCores (b : Bytes) : List Nat := (maskIndices 4 (u b 1 1)).map fun i => 4 * u b 0 1 + i

/-- A counter slot runs. -/
def slotRuns (p : Piece) : Bool := p.tally.slots.any (·.state == .running)

/-- Some named core shows a state. -/
def anyCore (p : Piece) (b : Bytes) (f : Core → Bool) : Bool := (namedCores b).any fun i => f (p.core i)

/-- The rules on the shared 8 bytes. -/
def maskRules (b : Bytes) (more : Bool) : List (Bool × Nat) :=
  [ (u b 1 1 % 16 == 0, stZero), (decide (3 < u b 0 1) || u b 1 1 / 16 != 0 || !isZero (slice b 2 6) || more, stRange) ]

/-- A field of an image header outside its range, IMAGE_LEN among them (R346, R347, R486). -/
def headerBad (h : Bytes) (imageLen : Nat) : Bool :=
  let (entry, code, data, addr, blank) := (u h 8 4, u h 12 4, u h 16 4, u h 20 4, u h 24 4)
  let outside (first count : Nat) : Bool := decide (0xFF000 < first + count)
  imageLen != 64 + code + data || u h 6 2 != 0 || entry % 8 != 0 || decide (code ≤ entry) || code % 8 != 0 ||
  decide (262144 < code) || addr % 64 != 0 || decide (0x100000 < addr + data + blank) ||
  outside (u h 28 4) (u h 32 4) || outside (u h 36 4) (u h 40 4) || (u h 44 1 != 0xFF && decide (63 < u h 44 1)) ||
  !isZero (slice h 45 3) || !isZero (slice h 52 12)

/-- The whole image's CRC with the field taken as zero (R346). -/
def imageCrc (img : Bytes) : Nat := crc32c (img.take 48 ++ zeros 4 ++ img.drop 52)

/-- The image is written into a core (R347). -/
def loadCore (img : Bytes) (c : Core) : Core :=
  let h := img.take 64
  let (code, data, addr, blank) := (u h 12 4, u h 16 4, u h 20 4, u h 24 4)
  let bundles := ((chunks 8 code (slice img 64 code)).map leNat).mapIdx fun i b => (i, b)
  let image : Image := { entry := u h 8 4, codeLen := code, postFirst := u h 28 4, postCount := u h 32 4,
                         fetchFirst := u h 36 4, fetchCount := u h 40 4, streamCh := u h 44 1, crc := u h 48 4 }
  dataWrite addr (slice img (64 + code) data ++ zeros blank)
    { c with state := .loaded, image := some image, memErr := false, firmware := false
             imem := bundles ++ c.imem.filter fun x => decide (code / 8 ≤ x.1) }

/-- KERNEL_LOAD (R347, R486). -/
def actKernelLoad : Act := fun f host p =>
  let b := f.body
  let a := u b 8 8
  let len := u b 16 4
  let counted := slotRuns p && (namedCores b).any (decide <| 12 ≤ ·)
  guarded (maskRules b (u b 20 4 != 0 || a % 64 != 0 || !rangeOk p.dmc a len) ++
      [ (anyCore p b (·.state == .running), stState), (counted, stNoResource) ]) p
    (withTable p a 64 host fun h =>
      guarded [(u h 12 4 == 0, stZero), (headerBad h len, stRange)] p
        (withTable p a len host fun img =>
          guarded [(u img 0 4 != 0x4E524B47 || u img 4 2 != 1 || imageCrc img != u img 48 4, stCheck)] p
            ((namedCores b).foldl (fun p i => onCore i (loadCore img) p) p, .done stOk [u img 48 4])))

def execKernelLoad (c : Cmd) : State → Out := effect (runCommand 0x0901 c actKernelLoad)

/-- The first Gythen-island cycle at least 16 cycles of 1.6 GHz later, as a tick (R348). -/
def kernelTick (now : Nat) : Nat := (ceilDiv (now * 5) 8 + 16) * 8 / 5

/-- A core starts at ENTRY with the registers of R335. -/
def startCore (args : List Nat) (at_ : Nat) (c : Core) : Core :=
  { c with state := .running, startAt := at_, pc := (c.image.map (·.entry)).getD 0, cause := 0, faultAddr := 0,
           s := 0 :: args ++ List.replicate 27 0, v := List.replicate 16 0, acc := List.replicate 4 (List.replicate 32 0),
           wide := 0, flags := 0, a := List.replicate 8 0, o := List.replicate 8 0, b := List.replicate 8 0,
           l := List.replicate 8 0, staged := List.replicate 8 none, lc := List.replicate 4 0, levels := [], late := [],
           halted := false, cycles := 0, ready := [] }

/-- KERNEL_START (R348, R486). -/
def actKernelStart : Act := simple fun f p =>
  let b := f.body
  let t := kernelTick p.now
  let args := (List.range 4).map fun i => u b (8 + 4 * i) 4
  guarded (maskRules b false ++
      [ (anyCore p b fun c => c.image.isNone || c.state == .running, stState),
        (slotRuns p && (namedCores b).any (decide <| 12 ≤ ·), stNoResource) ]) p
    ((namedCores b).foldl (fun p i => onCore i (startCore args t) p) p, doneWith stOk t)

def execKernelStart (c : Cmd) : State → Out := effect (runCommand 0x0902 c actKernelStart)

/-- KERNEL_STOP: a core whose HALT has issued goes on to DONE (R349, R372). -/
def actKernelStop : Act := simple fun f p =>
  let b := f.body
  let stopped := (namedCores b).filter fun i => (p.core i).state == .running && !(p.core i).halted
  guarded (maskRules b false ++ [ (anyCore p b (·.firmware), stNoResource) ]) p
    (stopped.foldl (fun p i => onCore i (fun c => { c with state := .stopped, lastPc := c.pc }) p) p,
      .done stOk [maskOf 4 fun i => stopped.contains (4 * u b 0 1 + i)])

def execKernelStop (c : Cmd) : State → Out := effect (runCommand 0x0903 c actKernelStop)

/-! ### GYTHEN window (R351) -/

/-- GYTHEN_STATUS of an instance. -/
def gythenStatus (p : Piece) (inst : Nat) : Nat :=
  let mask (f : Core → Bool) : Nat := maskOf 4 fun i => f (p.core (4 * inst + i))
  mask (·.firmware) * 2 ^ 12 + mask (·.state == .fault) * 2 ^ 8 + mask (·.image.isSome) * 2 ^ 4 + mask (·.state == .running)

/-- GYTHEN_COREc_STATE. -/
def Core.stateWord (c : Core) : Nat := c.exit % 256 * 2 ^ 16 + c.cause * 2 ^ 8 + flag c.firmware 3 + c.state.code

/-- A reset of a GYTHEN panel (R352): the memories keep what they hold. -/
def resetGythen (inst : Nat) (p : Piece) : Piece :=
  (List.range 4).foldl (fun p i => onCore (4 * inst + i) (fun c => { dmem := c.dmem, imem := c.imem }) p) p

end Sys2Proof.Machine
end

