-- ==== Sys2Proof/Machine/HostLink.lean ====
section
/-! DEFINITION. HOSTIF: the link, its removal and return, host access to device DRAM (15 R373 to R386, R396, R397). -/

namespace Sys2Proof.Machine

/-- Changes HOSTIF. -/
def onHostif (f : Hostif → Hostif) (p : Piece) : Piece := { p with hostif := f p.hostif }

/-- The channels of a function (R414). -/
def channelsOf (fn : Nat) : List Nat := if fn == 0 then List.range 16 else [16, 17, 18, 19]

/-- Disables a ring (R384). -/
def disableRing (r : Ring) : Ring := { r with entries := 0, stagedEntries := none }

/-- Disables the completion and event rings of the sessions of a function and its channels' default rings (R384). -/
def disableRings (fn : Nat) (p : Piece) : Piece :=
  let chs := channelsOf fn
  let t := p.transport
  { p with transport := { t with
      sessions := (t.sessions.map fun s =>
        if chs.contains s.channel then
          { s with ring := some (disableRing (s.ring.getD {})), eventRing := s.eventRing.map disableRing }
        else s)
      channels := (t.channels.mapIdx fun i c =>
        if chs.contains i then { c with ring := disableRing c.ring } else c) } }

/-- The descriptor of a chain channel that lies in device DRAM names a host address (R534). -/
def descriptorAtHost (p : Piece) (a : Nat) : Bool :=
  if isDevice a then
    let b := memRead p.dmc.dram (deviceAddr a) 40
    !isDevice (u b 0 8) || !isDevice (u b 8 8) || (u b 32 8 % 2 == 0 && !isDevice (u b 32 8))
  else true

/-- A stream channel that uses a host address (R384, R534, R539). -/
def usesHost (p : Piece) (c : StreamChannel) : Bool :=
  if c.source then c.ring.length != 0 && !isDevice c.ring.base
  else (c.state == .running || c.state == .parked) && descriptorAtHost p c.desc

/-- Stops the stream channels of a function's sessions that use host addresses (R384, R534, R539). -/
def stopStreams (fn : Nat) (p : Piece) : Piece :=
  let owned (c : StreamChannel) : Bool := p.transport.sessions.any fun s => s.id == c.owner && channelFn s.channel == fn
  { p with stream := { p.stream with channels := (p.stream.channels.map fun c =>
      if c.state != .closed && owned c && usesHost p c then { c with state := .stopped } else c) } }

/-- Drops the host transactions of a function that are in flight; the fetches of its channels fail (R384, R435). -/
def dropTransactions (fn : Nat) (p : Piece) : Piece :=
  let mine (r : HostRequest) : Bool :=
    match r.use with
    | .commandFetch ch => channelFn ch == fn
    | _ => fn == 0
  let n := (p.hostif.requests.filter mine).length
  let p := (channelsOf fn).foldl (fun p ch =>
    ((p.channel ch).fetching.filter fun x => !isDevice x.address).foldl (fun p _ => fetchFails ch p) p) p
  onHostif (fun h => { h with requests := h.requests.filter (!mine ·), droppedReads := sat32 h.droppedReads n }) p

/-- What removal does for one function (R384, R427, R431). -/
def removeFunction (fn : Nat) (p : Piece) : Piece :=
  let p := dropTransactions fn p
  let p := bumpEpoch (if fn == 0 then .host0 else .host1) p
  let p := (channelsOf fn).foldl (fun p ch => receiverReset ch false p) p
  let p := stopStreams fn (disableRings fn p)
  settle (when (fn == 0) (releaseLocks fun _ o => o == 0x01) p)

/-- The host link is removed (R384). -/
def removeLink (p : Piece) : Piece :=
  if p.hostif.linkUp then
    removeFunction 1 (removeFunction 0 (onHostif (fun h =>
      { h with linkUp := false, rate := 0, width := 0, linkDownCount := sat32 h.linkDownCount 1 }) p))
  else p

/-- HOST_LINK_REMOVAL (R384). -/
def execHostLinkRemoval : State → Out := effect removeLink

/-- MSI-X of a function at its reset values (R638, under the PCI Express definition). -/
def resetMsix (fn : Nat) (p : Piece) : Piece :=
  { p with regs := if fn == 0 then { p.regs with msix0 := List.replicate 64 {} }
                   else { p.regs with msix1 := List.replicate 64 {} } }

/-- HOSTIF and the link at their reset values, after the effects of removal (R384, R397). -/
def resetHostif (p : Piece) : Piece := resetMsix 1 (resetMsix 0 { removeLink p with hostif := {} })

/-- PERST_N: the link and HOSTIF reset, and the link counts as removed (R384, R616). -/
def execPerstN : State → Out := effect resetHostif

/-- FUNCTION_LEVEL_RESET: removal for one function, with the link up (R378). -/
def execFunctionLevelReset (function : Fin 2) : State → Out := effect fun p =>
  resetMsix function (removeFunction function p)

/-- HOST_LINK_UP: function 1 takes the secure channels from the management port, whose epoch increments (R415, R425). -/
def execHostLinkUp (rate : Fin 8) (width : Fin 32) (cxl cache : Bool) : State → Out := effect fun p =>
  when (!p.hostif.linkUp && !islandDead p 0x40) (fun p => bumpEpoch .mgmt (onHostif (fun h =>
    { h with linkUp := true, rate := rate.val, width := width.val, cxl := cxl, cacheEn := cxl && cache }) p)) p

/-- LINK_RETRAIN: HOSTIF_STATUS shows the new rate and width (R374). -/
def execLinkRetrain (rate : Fin 8) (width : Fin 32) : State → Out := effect fun p =>
  when p.hostif.linkUp (onHostif fun h => { h with rate := rate.val, width := width.val }) p

/-- A request leaves flight with an answer for its requester. -/
def answerRequest (id : Nat) (a : Answer) (p : Piece) : Piece :=
  match p.hostif.requests.find? (·.id == id) with
  | some r => onHostif (fun h =>
      { h with requests := h.requests.filter (·.id != id), answers := h.answers ++ [(r, a)] }) p
  | none => p

/-- HOST_REQUEST_TIMEOUT: no completion within 10 ms (R375). -/
def execHostRequestTimeout (request : Nat) : State → Out := effect (answerRequest request .timeout)

/-- HOST_READ_COMPLETION: data or an error status returns to the requester (R375). -/
def execHostReadCompletion (request : Nat) (answer : Answer) : State → Out := effect (answerRequest request answer)

/-- Counts a host write that the DMC refused (R396). -/
def countHostRefused (p : Piece) : Piece :=
  { p with dmc := { p.dmc with hostRefused := sat32 p.dmc.hostRefused 1 } }

/-- A host access to device DRAM: `refusedRead` answers a read that the DMC refuses; during initialisation the access waits
(R396, R645; log entry 3); beyond the capacity there is nothing (log entry 25). -/
def hostDram (refusedRead : Output) (write : Bool) (a n : Nat) (bs : Bytes) (p : Piece) : Piece :=
  if dmcRefuses p.dmc then
    if write then countHostRefused p else emit refusedRead p
  else if !p.dmc.initDone then p
  else if capacity p.dmc < a + n then emit (if write then .busDropped else .busUnsupported) p
  else if write then dramWrite a bs p
  else emit (.busData (memRead p.dmc.dram a n)) p

/-- BAR2_ACCESS: served while the HDM decoder is not committed, else refused and counted (R377). -/
def execBar2Access (write : Bool) (address length : Nat) (bytes : Bytes) : State → Out :=
  effectIf (Instr.bar2Access write address length bytes).wellFormed fun p =>
    if !p.hostif.linkUp then p
    else if p.hostif.hdmCommitted then
      emit (if write then .busDropped else .busUnsupported)
        (onHostif (fun h => { h with bar2Refused := sat32 h.bar2Refused 1 }) p)
    else hostDram .busAbort write address length bytes p

/-- HDM_ACCESS: host physical address H in the committed range is device address H − base (R382, R396). -/
def execHdmAccess (write : Bool) (hostAddress length : Nat) (bytes : Bytes) : State → Out :=
  effectIf (Instr.hdmAccess write hostAddress length bytes).wellFormed fun p =>
    let h := p.hostif
    when (h.linkUp && h.hdmCommitted && decide (h.hdmBase ≤ hostAddress) &&
        decide (hostAddress + length ≤ h.hdmBase + capacity p.dmc))
      (hostDram .busPoisoned write (hostAddress - h.hdmBase) length bytes) p

/-- HDM_DECODER_COMMIT: the whole capacity, 1-way, or the error status (R382). -/
def execHdmDecoderCommit (base size ways : Nat) : State → Out := effect fun p =>
  when (p.hostif.linkUp && p.hostif.cxl) (fun p =>
    if size == capacity p.dmc && ways == 1 && size != 0 then
      onHostif (fun h => { h with hdmCommitted := true, hdmBase := base, hdmError := false }) p
    else onHostif (fun h => { h with hdmError := true }) p) p

/-- HOSTIF_STATUS (R397). -/
def hostifStatus (h : Hostif) : Nat :=
  h.rate % 8 * 2 ^ 13 + h.width % 32 * 2 ^ 8 + flag (h.linkUp && !h.hdmCommitted) 4 + flag h.hdmCommitted 3 +
  flag h.cacheEn 2 + flag h.cxl 1 + flag h.linkUp 0

end Sys2Proof.Machine
end

