-- ==== Sys2Proof/Machine/NetFam.lean ====
section
/-! DEFINITION. NET: ports, joining, time transfer, cross-triggers, alarm summaries, node loss (22), and the Net commands
(20 R512, R513). -/

namespace Sys2Proof.Machine

/-! ### Ports (R553, R554) -/

/-- ROLE and STATE codes (R553, R554). -/
def PortRole.code : PortRole → Nat
  | .disabled => 0
  | .up => 1
  | .down => 2
  | .standby => 3

def PortState.code : PortState → Nat
  | .off => 0
  | .noSignal => 1
  | .training => 2
  | .linked => 3
  | .active => 4
  | .blocked => 5
  | .fault => 6

/-- The state byte of a port (R554). -/
def NetPort.byte (q : NetPort) : Nat := q.role.code * 64 + flag q.calibrated 5 + q.state.code

/-- The port holds its link. -/
def NetPort.up (q : NetPort) : Bool := q.state == .linked || q.state == .active || q.state == .blocked

/-- The port in the role UP. -/
def upPort (p : Piece) : Option Nat := (List.range 4).find? fun i => (p.portOf i).role == .up

/-- The entry of a delay table that applies to a peer (R562). -/
def delayEntry (q : NetPort) : DelayEntry :=
  ((q.table.find? fun e => e.peer == q.peerNode).or (q.table.find? (·.anyPeer))).getD {}

/-- CALIBRATED: an entry applies to the peer of a linked port (R562). -/
def calibrate (q : NetPort) : NetPort :=
  { q with calibrated := q.up && q.table.any fun e => e.peer == q.peerNode || e.anyPeer }

/-- The state of a port that holds its link, by its role (R554): a DOWN port of a joined piece carries Net traffic, an UP port of
a joined piece that is not DETACHED does. -/
def linkedState (n : Net) (r : PortRole) : PortState :=
  match r with
  | .standby => .blocked
  | .down => if n.joined then .active else .linked
  | .up => if n.joined && !n.detached then .active else .linked
  | .disabled => .off

/-- Exchanges and queued cross-triggers of a link end with it (R570). -/
def endLink (q : NetPort) : NetPort :=
  { q with departures := [], rxSeq := none, goodR := [], goodRun := 0, badRun := 0, queue := [], childJoined := false,
           calibrated := false, peerJoined := false, peerDetached := false }

/-- A management message leaves a port that is linked. -/
def manage (port : Nat) (name : String) (operands : List Int) (p : Piece) : Piece :=
  when (p.portOf port).up (emit (.netMessage port name operands)) p

/-- The same on the UP port. -/
def manageUp (name : String) (operands : List Int) (p : Piece) : Piece :=
  match upPort p with
  | some i => manage i name operands p
  | none => p

/-- The same on every ACTIVE DOWN port. -/
def manageDown (name : String) (operands : List Int) (p : Piece) : Piece :=
  (List.range 4).foldl (fun p i =>
    when ((p.portOf i).role == .down && (p.portOf i).state == .active) (manage i name operands) p) p

/-- A NET event record (R496, R572): change 0 joined, 1 left, 2 re-parented, 3 lost. -/
def netEvent (node port change : Nat) (p : Piece) : Piece :=
  raiseEvent 0x09 0x12 0 (leBytes 2 node ++ leBytes 1 port ++ leBytes 1 change ++ zeros 4) p

/-- The NET time source is lost (R563). -/
def loseNetSource (p : Piece) : Piece := onNet (fun n => { n with sourcePresent := false }) p

/-! ### Loss of the parent and of a child (R570 to R572) -/

/-- A STANDBY port that can take over: BLOCKED, its peer joined and not DETACHED, 16 good exchanges (R570). -/
def standbyOk (q : NetPort) : Bool :=
  q.role == .standby && q.state == .blocked && q.peerJoined && !q.peerDetached && decide (16 ≤ q.goodR.length)

/-- The first usable STANDBY port, other than one. -/
def usableStandby (p : Piece) (but : Nat) : Option Nat := (List.range 4).find? fun i => i != but && standbyOk (p.portOf i)

/-- The piece becomes DETACHED (R571). -/
def becomeDetached (p : Piece) : Piece :=
  if p.net.detached then p
  else raiseAlarm 0x0802 0x12 0 (onNet (fun n => { n with detached := true, reparentSince := none }) p)

/-- A STANDBY port becomes UP and ACTIVE; the port it replaces stands by (R570; log entry 38). -/
def promote (old new : Nat) (p : Piece) : Piece :=
  let p := onPort old (fun q => if q.role == .up then { q with role := .standby } else q) p
  let p := onPort new (fun q => { q with role := .up, state := .active }) p
  onNet (fun n => { n with parent := (nth n.ports new).peerNode }) p

/-- The piece lost its parent: a STANDBY port takes over and a re-parent request leaves, or the piece is DETACHED and its source
is lost (R563, R570, R571). A root, and a piece that is not joined, have no parent. -/
def loseParent (port : Nat) (p : Piece) : Piece :=
  if !p.net.joined || p.net.root then loseNetSource p
  else
    match usableStandby p port with
    | some i =>
      let p := promote port i p
      manageUp "reparent" [p.net.nodeId, p.net.path] (onNet (fun n => { n with reparentSince := some p.now }) p)
    | none => becomeDetached (loseNetSource p)

/-- A child is lost, with the nodes below it: locks of their stewards are released, the root hears of it, a record is written
(R572). -/
def loseChild (port : Nat) (p : Piece) : Piece :=
  let q := p.portOf port
  let gone := (p.net.members.filter (·.port == port)).map (·.node)
  let p := onNet (fun n =>
    { n with members := n.members.filter (·.port != port)
             nodes := if n.root then n.nodes - gone.length else n.nodes
             joins := n.joins.filter (·.port != port), reparents := n.reparents.filter (·.port != port) }) p
  let held (i owner : Nat) : Bool :=
    owner == 0x40 && ((lookup p.transport.lockNodes i).map gone.contains).getD false
  let p := releaseLocks held p
  let p := when (p.net.joined && !p.net.root && !gone.isEmpty) (manageUp "lost" (gone.map fun (n : Nat) => (n : Int))) p
  when q.childJoined (netEvent q.peerNode port 3) p

/-- A port's link is gone: by role, the parent or a child is lost. -/
def dropLink (port : Nat) (state : PortState) (p : Piece) : Piece :=
  let q := p.portOf port
  let close : Piece → Piece := onPort port fun q => { endLink q with state := state }
  match q.role with
  | .up => loseParent port (close p)
  | .down => close (loseChild port p)
  | _ => close p

/-- NET_LINK_LOSS: a port that held its link, or was gaining it, lost block lock, met 64 invalid blocks, or heard no time message
for 4 ms (R554, R594, R598). -/
def linkLoss (port : Nat) (p : Piece) : Piece :=
  when (p.portOf port).up
    (fun p => detectError (portElement port) (raiseAlarm 0x0800 0x12 port (dropLink port .noSignal p))) p

def execNetLinkLoss (port : Fin 4) : State → Out := effect (linkLoss port)

/-- The piece asks its new parent to be taken in again, with its own node ID (R571). -/
def rejoin (port : Nat) (p : Piece) : Piece :=
  manage port "join" [p.net.nodeId, p.net.path] (onNet (fun n =>
    { n with joinSince := some p.now, joinNode := n.nodeId }) p)

/-- PORT_LINKED: block lock and identities (R554); a DETACHED piece whose UP link returns rejoins (R571). -/
def execPortLinked (port : Fin 4) (peer : NetPeer) : State → Out := effect fun p =>
  let q := p.portOf port
  when (q.role != .disabled && q.state != .fault && !q.up && !islandDead p (0x48 + port.val)) (fun p =>
    let p := onPort port (fun q => calibrate { endLink q with
      state := linkedState p.net q.role, peerNode := peer.node, peerJoined := peer.joined, peerDetached := peer.detached }) p
    when (q.role == .up && p.net.detached && peer.joined && !peer.detached) (rejoin port) p) p

/-- SFP_MODULE_READ: what the module reports (R552). -/
def execSfpModuleRead (port : Fin 4) (present lossOfSignal txFault : Bool) : State → Out :=
  effect (onPort port fun q => { q with modulePresent := present, lossOfSignal := lossOfSignal, txFault := txFault })

/-! ### Time transfer (R560 to R563) -/

/-- fs in units of 2⁻⁴⁸ s. -/
def fsUnits (fs : Int) : Rat := (fs : Rat) * 2 ^ 48 / 10 ^ 15

/-- Units of 2⁻⁴⁸ s in fs. -/
def unitsFs (x : Rat) : Int := roundRat (x * 10 ^ 15 / 2 ^ 48)

/-- The exact Ledger time of a moment in 2⁻⁴⁸ s. -/
def exactLabel (p : Piece) (t : T16) : Rat := ((mappingAt p.ledger t).exact t : Rat) / labelUnits

/-- DETACHED of what the piece sends down (R571). -/
def sendsDetached (p : Piece) : Bool :=
  p.net.detached || ((upPort p).map fun i => (p.portOf i).peerDetached).getD false

/-- Bytes of a label of a time message: seconds, then fraction. -/
def timeBytes (x : Rat) : Bytes := labelBytes (twos 80 (roundRat x))

/-- A time message (R560). -/
def timeMessage (p : Piece) (q : NetPort) (departure : Rat) : Bytes :=
  let b := leBytes 1 0xB1 ++ leBytes 1 q.txSeq ++ leBytes 1 (flag (coasting p) 7 + flag (sendsDetached p) 6) ++
    leBytes 1 (q.rxSeq.getD 0) ++ timeBytes departure ++ (if q.rxSeq.isSome then timeBytes q.rxLabel else zeros 10) ++ zeros 4
  b ++ leBytes 4 (crc32c b)

/-- TIME_MESSAGE_SEND: an ACTIVE or BLOCKED port sends its message, whose first block departs at a moment (R560). -/
def execTimeMessageSend (port : Fin 4) (departure : T16) : State → Out := effect fun p =>
  let q := p.portOf port
  when (q.state == .active || q.state == .blocked) (fun p =>
    let d := exactLabel p departure + fsUnits (delayEntry q).dTx
    emit (.netFrame port (timeMessage p q d)) (onPort port (fun q =>
      { q with txSeq := (q.txSeq + 1) % 256, departures := ((q.txSeq, d, departure) :: q.departures).take 16 }) p)) p

/-- The difference of two labels of 80 bits nearest to zero. -/
def labelDiff (a : Rat) (b : Nat) : Rat := (signed 80 (twos 80 (roundRat a - b)) : Rat) + (a - roundRat a)

/-- What an exchange measures (R561), in 2⁻⁴⁸ s: the round trip, the offset of the child over its parent; and the moment of this
piece's departure. None: this piece has not sent the message that is echoed. -/
def exchange (q : NetPort) (arrival : Rat) (b : Bytes) : Option (Rat × Rat × T16) :=
  (q.departures.find? (·.1 == u b 3 1)).map fun (_, depart, t) =>
    let tx := u b 4 4 * 2 ^ 48 + u b 8 6
    let echo := u b 14 4 * 2 ^ 48 + u b 18 6
    let there := labelDiff arrival tx
    let back := -labelDiff depart echo
    let r := there + back
    let e := delayEntry q
    let a : Rat := fsUnits e.asymFixed + (e.asymRatio : Rat) * r / 10 ^ 12
    let theta := if q.role == .down then (back - there) / 2 else (there - back - a) / 2
    (r, theta, t)

/-- The median of some round trips; of an even number the mean of the middle two. -/
def median (l : List Rat) : Rat :=
  let s := sortBy (fun (x y : Rat) => decide (x < y)) l
  let n := s.length
  if n % 2 == 1 then nth s (n / 2) else (nth s (n / 2 - 1) + nth s (n / 2)) / 2

/-- ±10 ns in 2⁻⁴⁸ s. -/
def tenNs : Rat := 10 * 2 ^ 48 / 10 ^ 9

/-- A message of this moment belongs to an exchange that spans a step at either end (R564). -/
def spansStep (p : Piece) (from_ to_ : T16) : Bool :=
  let inside (m : Option Nat) : Bool := match m with
    | some s => decide (from_ < T16.ofTick s) && decide (T16.ofTick s ≤ to_)
    | none => false
  inside p.ledger.stepTick || inside p.net.epochTick

/-- A good exchange (R563): runs count, the latest 16 round trips are kept. -/
def goodExchange (port : Nat) (r theta : Rat) (p : Piece) : Piece :=
  onPort port (fun q =>
    { q with r := unitsFs r, theta := roundRat theta, goodR := (r :: q.goodR).take 16, goodRun := q.goodRun + 1,
             badRun := 0, good := sat32 q.good 1 }) p

/-- A bad or missing exchange; the fourth in a row on the UP port loses the source (R563). -/
def badExchange (port : Nat) (p : Piece) : Piece :=
  let p := onPort port (fun q => { q with goodRun := 0, badRun := q.badRun + 1, bad := sat32 q.bad 1 }) p
  when ((p.portOf port).role == .up && decide (4 ≤ (p.portOf port).badRun)) loseNetSource p

/-- The measurement of a good exchange for the Ledger (R57, R62, R561). -/
def netMeasure (t : T16) (theta : Rat) (p : Piece) : Piece :=
  if p.ledger.source != .net then p
  else if p.ledger.state == .jumpPending then onLedger (fun l => { l with lastDelta := roundRat (-theta) }) p
  else if p.ledger.sourcePresent then discipline t (-theta / 2 ^ 48) p
  else p

/-- The exchange of a message whose CRC holds is judged (R561, R563). -/
def judgeExchange (port : Nat) (t : T16) (arrival : Rat) (follows : Bool) (b : Bytes) (p : Piece) : Piece :=
  let q := p.portOf port
  match exchange q arrival b with
  | none => badExchange port p
  | some (r, theta, sent) =>
    if spansStep p sent t then p
    else
      let m := if q.goodR.isEmpty then r else median q.goodR
      if !follows || decide (tenNs < max (r - m) (m - r)) then badExchange port p
      else
        let p := goodExchange port r theta p
        if q.role != .up then p
        else
          let present := decide (16 ≤ (p.portOf port).goodRun) && !q.peerDetached
          netMeasure t theta (when present (onNet fun n => { n with sourcePresent := true }) p)

/-- A STANDBY port became usable on a DETACHED piece: it becomes UP and the piece rejoins (R571). -/
def recover (port : Nat) (p : Piece) : Piece :=
  when (p.net.joined && p.net.detached && p.net.joinSince.isNone && standbyOk (p.portOf port)) (fun p =>
    let p := match upPort p with
      | some old => promote old port p
      | none => promote port port p
    rejoin port (onPort port (fun q => { q with state := .linked }) p)) p

/-- TIME_MESSAGE_RECEIVE: a message of the peer whose first block arrives at a moment (R560, R561, R563). -/
def execTimeMessageReceive (port : Fin 4) (arrival : T16) (bytes : Bytes) : State → Out :=
  effectIf (bytes.length == 32) fun p =>
    let q := p.portOf port
    when (q.up && u bytes 0 1 == 0xB1) (fun p =>
      if crc32c (bytes.take 28) != u bytes 28 4 then badExchange port p
      else
        let a := exactLabel p arrival - fsUnits (delayEntry q).dRx
        let follows := match q.rxSeq with
          | some s => u bytes 1 1 == (s + 1) % 256
          | none => true
        let detached := bitAt (u bytes 2 1) 6
        let p := onPort port (fun q =>
          { q with rxSeq := some (u bytes 1 1), rxLabel := a, peerDetached := detached }) p
        let p := when (detached && q.role == .up) loseNetSource p
        recover port (judgeExchange port arrival a follows bytes p)) p

/-! ### Announcements (R559) -/

/-- An announcement (R559). -/
def announcement (detached rootValid : Bool) (root horizon epoch path nodes : Nat) : Bytes :=
  leBytes 1 0xA1 ++ leBytes 1 (flag detached 7 + flag rootValid 6) ++ leBytes 2 root ++ leBytes 2 horizon ++
  leBytes 1 epoch ++ zeros 1 ++ leBytes 4 path ++ leBytes 4 nodes

/-- Sends an announcement through each ACTIVE DOWN port. -/
def announce (bs : Bytes) (p : Piece) : Piece :=
  (List.range 4).foldl (fun p i =>
    when ((p.portOf i).role == .down && (p.portOf i).state == .active) (emit (.netFrame i bs)) p) p

/-- ANNOUNCEMENT_SEND: the root's, every 1 ms. -/
def execAnnouncementSend : State → Out := effect fun p =>
  let n := p.net
  when (n.joined && n.root)
    (announce (announcement n.detached (timeValid p) n.nodeId n.horizon n.epoch 0 n.nodes)) p

/-- PATH of a child: its parent's, half the hop's round trip, 7.8 ns; in ns, rounded half up (R558; log entry 38). -/
def childPath (parentPath : Nat) (r : Int) : Nat := (roundRat ((parentPath : Rat) + (r : Rat) / 2000000 + 78 / 10)).toNat

/-- ANNOUNCEMENT_RECEIVE: a child takes the parent's announcement and relays it. -/
def execAnnouncementReceive (port : Fin 4) (bytes : Bytes) : State → Out := effectIf (bytes.length == 16) fun p =>
  let q := p.portOf port
  when (q.role == .up && q.up && u bytes 0 1 == 0xA1) (fun p =>
    let detached := bitAt (u bytes 1 1) 7
    let p := onPort port (fun q => { q with peerDetached := detached }) p
    let p := onNet (fun n =>
      { n with rootNode := u bytes 2 2, horizon := u bytes 4 2, epoch := u bytes 6 1, nodes := u bytes 12 4,
               path := childPath (u bytes 8 4) q.r, rootTimeValid := bitAt (u bytes 1 1) 6 }) p
    let p := when detached loseNetSource p
    when p.net.joined (fun p => announce (announcement (sendsDetached p) p.net.rootTimeValid p.net.rootNode p.net.horizon
      p.net.epoch p.net.path p.net.nodes) p) p) p

/-! ### Cross-triggers (R565 to R567) -/

/-- A cross-trigger with HOPS incremented; the CRC changes with it, so that one that did not hold does not come to hold. -/
def hopOn (b : Bytes) : Bytes :=
  let b' := b.take 4 ++ leBytes 1 (u b 4 1 + 1) ++ slice b 5 10
  let change := crc8 (b.take 15) ^^^ crc8 b'
  b' ++ leBytes 1 (u b 15 1 ^^^ change)

/-- A NET cell takes a cross-trigger (R180). -/
def takesCode (s : CellSetting) (code : Nat) : Bool :=
  s.en && s.source == 8 && (code &&& s.par 9 1) == (s.par 8 1 &&& s.par 9 1)

/-- A cross-trigger reaches TRIGGER (R180, R567). -/
def deliverXtrig (code node label : Nat) (p : Piece) : Piece :=
  (List.range 16).foldl (fun p n =>
    when (takesCode (p.cell n).setting code) (issueCond
      { cell := n, source := 8, time := timeOfLabel p label, cycle := tallyCycle p.now, net := true, node := node,
        label := some label, detail := code }) p) p

/-- CROSS_TRIGGER_RECEIVE: forwarded before the check; delivered when its CRC holds and it is not late (R565 to R567). -/
def execCrossTriggerReceive (port : Fin 4) (bytes : Bytes) : State → Out := effectIf (bytes.length == 16) fun p =>
  when (p.net.joined && carries (p.portOf port) && u bytes 0 1 == 0xC1) (fun p =>
    let p := when (u bytes 4 1 != 255) (spreadXtrig (some port.val) (hopOn bytes)) p
    let now := p.label
    let secs : Nat := (nearest 16 (labelSeconds now) (u bytes 12 2)).toNat % 2 ^ 32
    let label : Nat := secs * 2 ^ 48 + u bytes 6 6
    let age := signed 80 (twos 80 ((now : Int) - label))
    if crc8 (bytes.take 15) != u bytes 15 1 then onNet (fun n => { n with xtrigCrc := sat32 n.xtrigCrc 1 }) p
    else if decide ((p.net.horizon : Int) * 2 ^ 48 < age * 10 ^ 6) then
      onNet (fun n => { n with xtrigLate := sat32 n.xtrigLate 1 }) p
    else deliverXtrig (u bytes 1 1) (u bytes 2 2) label p) p

/-- CROSS_TRIGGER_SEND: the first of a port's queue enters the frame (R555, R566). -/
def execCrossTriggerSend (port : Fin 4) : State → Out := effect fun p =>
  match (p.portOf port).queue with
  | [] => p
  | b :: rest => when (carries (p.portOf port)) (fun p => emit (.netFrame port b) (onPort port (fun q => { q with queue := rest }) p)) p

/-! ### Alarm summaries (R568, R569) -/

/-- A summary of 8 bytes (R568). -/
def summaryBytes (e : Summary) : Bytes :=
  let b := leBytes 1 0xD1 ++ leBytes 2 e.origin ++ leBytes 2 e.groups ++ leBytes 1 e.fresh ++ leBytes 1 e.seq
  b ++ leBytes 1 (crc8 b)

/-- An entry may be sent: it holds news, and 100 µs have passed since the last of its origin. -/
def summaryDue (now : Nat) (e : Summary) : Bool :=
  e.due && (match e.lastSent with | some m => decide (m + 100 * ticksPerUs ≤ now) | none => true)

/-- ALARM_SUMMARY_SEND: the first entry that may be sent goes up the ACTIVE UP port. -/
def execAlarmSummarySend : State → Out := effect fun p =>
  match upPort p, p.net.table.find? (summaryDue p.now) with
  | some i, some e =>
    when (p.net.joined && (p.portOf i).state == .active) (fun p =>
      emit (.netFrame i (summaryBytes e)) (onNet (fun n => { n with table := n.table.map fun x =>
        if x.origin == e.origin then { x with groups := 0, fresh := 0, due := false, lastSent := some p.now } else x }) p)) p
  | _, _ => p

/-- ALARM_SUMMARY_RECEIVE: a summary from below merges into the entry of its origin. -/
def execAlarmSummaryReceive (port : Fin 4) (bytes : Bytes) : State → Out := effectIf (bytes.length == 8) fun p =>
  when ((p.portOf port).role == .down && carries (p.portOf port) && u bytes 0 1 == 0xD1 &&
      crc8 (bytes.take 7) == u bytes 7 1)
    (onNet fun n => { n with table := mergeSummary n.table (u bytes 1 2) (u bytes 3 2) (u bytes 5 1) (u bytes 6 1),
                             summaries := wrap32 n.summaries 1, latest := lastN 16 (n.latest ++ [bytes]) }) p

/-! ### Joining and leaving (R556 to R558) -/

/-- The piece is joined: its linked ports carry Net traffic. -/
def activate (p : Piece) : Piece :=
  onNet (fun n => { n with ports := n.ports.map fun q => if q.up then { q with state := linkedState n q.role } else q }) p

/-- A node is kept with the port it lies behind. -/
def addMember (m : NetNode) (p : Piece) : Piece :=
  onNet (fun n => { n with members := n.members.filter (·.node != m.node) ++ [m] }) p

/-- The joined child at a port, if the node is the port's peer. -/
def markChild (m : NetNode) (change : Nat) (p : Piece) : Piece :=
  let direct := (p.portOf m.port).peerNode == m.node
  let p := when direct (onPort m.port fun q => { q with childJoined := change != 1 }) p
  when (direct || p.net.root) (netEvent m.node m.port change) p

/-- A joined node's request crosses this piece or ends here. -/
def hasNode (n : Net) (node : Nat) : Bool := n.nodeId == node || n.members.any (·.node == node)

/-- JOIN_REQUEST_RECEIVE: the root accepts or refuses, any other piece forwards it (R556, R558). -/
def execJoinRequestReceive (port : Fin 4) (node : Fin 65536) (path : Nat) : State → Out := effect fun p =>
  let m : NetNode := { node := node, port := port, path := path }
  when (p.net.joined && (p.portOf port).role == .down && (p.portOf port).up) (fun p =>
    if !p.net.root then
      manageUp "join" [node.val, path] (onNet (fun n => { n with joins := n.joins ++ [m] }) p)
    else if hasNode p.net node then manage port "joinRefusedNode" [node.val] p
    else if p.net.horizon * 1000 < 2 * path then manage port "joinRefusedHorizon" [node.val] p
    else manage port "joinAccepted" [node.val]
      (markChild m 0 (addMember m (onNet (fun n => { n with nodes := n.nodes + 1 }) p)))) p

/-- This piece's own join is answered (R556). -/
def finishJoin (response : JoinResponse) (p : Piece) : Piece :=
  let p := onNet (fun n => { n with joinSince := none }) p
  match response with
  | .accepted =>
    let parent := ((upPort p).map fun i => (p.portOf i).peerNode).getD 0xFFFF
    let p := activate (onNet (fun n => { n with joined := true, root := false, detached := false, nodeId := n.joinNode,
                                                parent := parent }) p)
    finishWaiting .netJoin 0 stOk (fun _ => [parent]) p
  | .duplicate => finishWaiting .netJoin 0 stBusy (fun _ => []) p
  | .horizon => finishWaiting .netJoin 0 stNoResource (fun _ => []) p

/-- JOIN_RESPONSE_RECEIVE: the answer to this piece's request, or to the oldest it has forwarded. -/
def execJoinResponseReceive (response : JoinResponse) : State → Out := effect fun p =>
  if p.net.joinSince.isSome then finishJoin response p
  else
    match p.net.joins with
    | [] => p
    | m :: rest =>
      let p := onNet (fun n => { n with joins := rest }) p
      match response with
      | .accepted => manage m.port "joinAccepted" [m.node] (markChild m 0 (addMember m p))
      | .duplicate => manage m.port "joinRefusedNode" [m.node] p
      | .horizon => manage m.port "joinRefusedHorizon" [m.node] p

/-- One horizon has passed since a tick. -/
def horizonPast (p : Piece) (since : Option Nat) : Bool :=
  match since with
  | some s => decide (s + p.net.horizon * ticksPerUs ≤ p.now)
  | none => false

/-- JOIN_TIMEOUT (R556). -/
def execJoinTimeout : State → Out := effect fun p =>
  when (horizonPast p p.net.joinSince)
    (fun p => finishWaiting .netJoin 0 stTimeout (fun _ => []) (onNet (fun n => { n with joinSince := none }) p)) p

/-- The piece is unjoined: its DOWN ports stay LINKED and carry nothing, the NET source is lost (R557). -/
def unjoin (p : Piece) : Piece :=
  onNet (fun n =>
    { n with joined := false, root := false, detached := false, parent := 0xFFFF, members := [], joins := [], reparents := [],
             nodes := 0, path := 0, horizonExceeded := false, leaveSince := none, reparentSince := none,
             sourcePresent := false, rootTimeValid := false
             ports := n.ports.map fun q => if q.state == .active then { q with state := .linked, childJoined := false } else q }) p

/-- LEAVE_NOTICE_RECEIVE: the parent leaves, which is its loss (R557). -/
def execLeaveNoticeReceive (port : Fin 4) : State → Out := effect fun p =>
  let q := p.portOf port
  when (q.role == .up && q.up) (fun p => loseParent port (onPort port (fun q => { q with state := .linked, peerJoined := false }) p)) p

/-- LEAVE_REQUEST_RECEIVE: the parent confirms; the request goes on to the root (R557, R572). -/
def execLeaveRequestReceive (port : Fin 4) (node : Fin 65536) : State → Out := effect fun p =>
  when (p.net.joined && (p.portOf port).role == .down && hasNode p.net node) (fun p =>
    let direct := (p.portOf port).peerNode == node.val
    let p := markChild { node := node, port := port, path := 0 } 1 p
    let p := onNet (fun n => { n with members := n.members.filter (·.node != node.val)
                                      nodes := if n.root then n.nodes - 1 else n.nodes }) p
    let p := when direct (manage port "leaveConfirmed" [node.val]) p
    when (!p.net.root) (manageUp "leave" [node.val]) p) p

/-- LEAVE_CONFIRM: the parent confirmed, or one horizon passed; a root waits for the horizon (R557). -/
def execLeaveConfirm (reparented : Nat) : State → Out := effect fun p =>
  when (p.net.leaveSince.isSome && (!p.net.root || horizonPast p p.net.leaveSince))
    (fun p => finishWaiting .netLeave 0 stOk (fun _ => [reparented]) (unjoin p)) p

/-! ### Epochs (R564) and re-parenting (R570, R571) -/

/-- EPOCH_MESSAGE_RECEIVE: Δ is applied where the time source is NET; every piece writes a source-23 mark. -/
def execEpochMessageReceive (delta : Int) (epoch : Fin 256) : State → Out := effect fun p =>
  when (p.net.joined && !p.net.root) (fun p =>
    let p := manageDown "epoch" [delta, epoch.val] (onNet (fun n => { n with epoch := epoch, epochTick := some p.now }) p)
    let t := T16.ofTick p.now
    if p.ledger.source == .net then stepLedger t (p.ledger.current.exact t + delta * labelUnits) p
    else pushSource 23 t true 0 0 p) p

/-- REPARENT_REQUEST_RECEIVE: the root confirms, flagging a path beyond the horizon; any other piece forwards it (R570). -/
def execReparentRequestReceive (port : Fin 4) (node : Fin 65536) (path : Nat) : State → Out := effect fun p =>
  let m : NetNode := { node := node, port := port, path := path }
  when (p.net.joined && (p.portOf port).role == .down && (p.portOf port).up) (fun p =>
    if !p.net.root then
      manageUp "reparent" [node.val, path] (onNet (fun n => { n with reparents := n.reparents ++ [m] }) p)
    else
      let exceeds := decide (p.net.horizon * 1000 < 2 * path)
      let fresh := !hasNode p.net node
      let p := onNet (fun n => { n with nodes := if fresh then n.nodes + 1 else n.nodes
                                        horizonExceeded := n.horizonExceeded || exceeds }) p
      let p := when exceeds (raiseAlarm 0x0801 0x12 0) p
      manage port "reparentConfirmed" [node.val, if exceeds then 1 else 0] (markChild m 0 (addMember m p))) p

/-- REPARENT_CONFIRM_RECEIVE: this piece's own, or that of the oldest request it has forwarded (R570, R572). -/
def execReparentConfirmReceive (exceeded : Bool) : State → Out := effect fun p =>
  if p.net.reparentSince.isSome then
    let p := onNet (fun n => { n with reparentSince := none, horizonExceeded := n.horizonExceeded || exceeded }) p
    netEvent p.net.nodeId ((upPort p).getD 0) 2 p
  else
    match p.net.reparents with
    | [] => p
    | m :: rest =>
      manage m.port "reparentConfirmed" [m.node, if exceeded then 1 else 0]
        (markChild m 0 (addMember m (onNet (fun n => { n with reparents := rest }) p)))

/-- REPARENT_TIMEOUT (R571). -/
def execReparentTimeout : State → Out := effect fun p => when (horizonPast p p.net.reparentSince) becomeDetached p

/-! ### Commands (R512, R513) -/

/-- ROLE of a code. -/
def roleOf (n : Nat) : PortRole :=
  match n with
  | 1 => .up
  | 2 => .down
  | 3 => .standby
  | _ => .disabled

/-- A port takes a role (R553). -/
def setRole (port : Nat) (r : PortRole) (p : Piece) : Piece :=
  let q := p.portOf port
  if q.role == r then p
  else if r == .disabled then onPort port (fun q => { q with role := .disabled }) (dropLink port .off p)
  else if q.up then
    let p := when (q.role == .down) (loseChild port) p
    onPort port (fun q => { q with role := r, state := linkedState p.net r, childJoined := false }) p
  else onPort port (fun q => { q with role := r, state := if q.state == .fault then .fault else .noSignal }) p

/-- NET_PORT_SET (R553, R512). -/
def actNetPortSet : Act := simple fun f p =>
  let b := f.body
  let port := u b 0 1
  let r := roleOf (u b 1 1)
  let q := p.portOf port
  let second := r == .up && (match upPort p with | some i => i != port | none => false)
  guarded
    [ (decide (3 < port) || decide (3 < u b 1 1) || !isZero (slice b 2 6) || second, stRange),
      (p.net.joined && q.role == .up && r != .up, stState) ] p
    (let p := setRole port r p
     (p, .done stOk [(p.portOf port).byte]))

def execNetPortSet (c : Cmd) : State → Out := effect (runCommand 0x0B01 c actNetPortSet)

/-- NET_JOIN (R556, R512). -/
def actNetJoin : Act := simple fun f p =>
  let b := f.body
  let node := u b 0 2
  let root := bitAt (u b 2 1) 7
  let linked := match upPort p with | some i => (p.portOf i).up | none => false
  guarded
    [ (u b 2 1 % 128 != 0 || !isZero (slice b 3 5), stRange),
      (p.net.joined || (!root && !linked) || (root && p.ledger.source == .net), stState),
      (p.net.joinSince.isSome, stBusy) ] p
    (if root then
      (activate (onNet (fun n =>
        { n with joined := true, root := true, detached := false, nodeId := node, rootNode := node, parent := 0xFFFF, path := 0,
                 nodes := 1, horizon := n.storedHorizon.getD 200, members := [] }) p), .done stOk [0x1FFFF])
    else
      (manageUp "join" [node, p.net.path] (onNet (fun n => { n with joinSince := some p.now, joinNode := node }) p),
        .wait .netJoin 0 []))

def execNetJoin (c : Cmd) : State → Out := effect (runCommand 0x0B02 c actNetJoin)

/-- NET_LEAVE (R557, R512). -/
def actNetLeave : Act := simple fun f p =>
  guarded [ (!isZero f.body, stRange), (!p.net.joined, stState), (p.net.leaveSince.isSome, stBusy) ] p
    (manageUp "leave" [p.net.nodeId] (manageDown "leaveNotice" []
      (onNet (fun n => { n with leaveSince := some p.now }) p)), .wait .netLeave 0 [])

def execNetLeave (c : Cmd) : State → Out := effect (runCommand 0x0B03 c actNetLeave)

/-- A delay-table entry (R562). -/
def delayOf (e : Bytes) : DelayEntry :=
  { peer := u e 0 2, anyPeer := bitAt (u e 2 2) 1, dTx := sgn e 4 4, dRx := sgn e 8 4, asymFixed := sgn e 12 4,
    asymRatio := sgn e 16 4 }

/-- NET_DELAY_TABLE_LOAD (R562, R513). -/
def actDelayTable : Act := fun f host p =>
  let b := f.body
  let n := u b 1 1
  guarded
    [ (n == 0, stZero), (decide (3 < u b 0 1) || !isZero (slice b 2 6) || !tableAddrOk p.dmc (u b 8 8) (24 * n), stRange) ] p
    (withTable p (u b 8 8) (24 * n) host fun t =>
      let es := (List.range n).map fun i => slice t (24 * i) 24
      let valid := es.filter fun e => bitAt (u e 2 2) 0
      let peers := valid.map fun e => u e 0 2
      guarded [ (es.any (fun e => decide (3 < u e 2 2) || u e 20 4 != 0) || !(decide peers.Nodup), stRange) ] p
        (onPort (u b 0 1) (fun q => calibrate { q with table := valid.map delayOf }) p, .done stOk []))

def execNetDelayTableLoad (c : Cmd) : State → Out := effect (runCommand 0x0B04 c actDelayTable)

/-- NET_HORIZON_SET (R558, R512). -/
def actNetHorizon : Act := simple fun f p =>
  let h := u f.body 0 4
  let far := p.net.members.foldl (fun m n => max m n.path) 0
  let root := p.net.joined && p.net.root
  guarded
    [ (h == 0, stZero), (decide (10000 < h) || u f.body 4 4 != 0, stRange), (root && decide (h * 1000 < 2 * far), stState) ] p
    (if root then (onNet (fun n => { n with horizon := h }) p, .done stOk [h])
     else (onNet (fun n => { n with storedHorizon := some h }) p, .done stOk [p.net.horizon]))

def execNetHorizonSet (c : Cmd) : State → Out := effect (runCommand 0x0B06 c actNetHorizon)

/-- The status block of 320 bytes; `code` gives the role and state bytes, whose codes R573 does not state. -/
def netBlock (p : Piece) (code : Nat) : Bytes :=
  let n := p.net
  let port (q : NetPort) : Bytes :=
    leBytes 1 q.byte ++ zeros 1 ++ leBytes 2 q.peerNode ++ zeros 4 ++ leBytes 8 (twos 64 q.r) ++ leBytes 8 (twos 64 q.theta) ++
      leBytes 4 q.good ++ leBytes 4 q.bad
  pad 32 (leBytes 2 n.nodeId ++ leBytes 2 code ++ leBytes 2 n.parent ++ leBytes 2 n.rootNode ++ leBytes 4 n.horizon ++
    leBytes 4 n.path ++ leBytes 4 n.nodes ++ leBytes 1 n.epoch) ++
  n.ports.flatMap port ++ pad 128 n.latest.flatten ++ zeros 32

/-- NET_STATUS (R573, R512). -/
def actNetStatus : Act := simple fun f p =>
  let dest := u f.body 8 8
  guarded [ (!isZero (slice f.body 0 8) || !destOk p.dmc dest 320, stRange) ] p
    (let code := (Config.freeWord p.free).toNat % 65536
     let p := { p with free := p.free + 1 }
     let states := ((List.range 4).map fun i => (p.portOf i).byte * 256 ^ i).sum
     let words := [p.net.nodeId * 65536 + code % 256, states, p.net.nodes]
     if dest == 0 then (p, .done stOk words)
     else
       match pieceWrite dest (netBlock p code) p with
       | (p, .ok) => (p, .done stOk words)
       | (p, t) => (p, .done (transferStatus t) []))

def execNetStatus (c : Cmd) : State → Out := effect (runCommand 0x0B05 c actNetStatus)

/-! ### NET window (R574) and reset (R575) -/

/-- NET_STATE. -/
def netState (p : Piece) : Nat :=
  let n := p.net
  n.nodeId * 2 ^ 16 + n.epoch * 2 ^ 8 + flag n.horizonExceeded 4 + flag n.sourcePresent 3 + flag n.detached 2 + flag n.root 1 +
  flag n.joined 0

/-- A reset of the NET panel: the NET source is lost, the neighbours see their links fail (R575). -/
def resetNet (p : Piece) : Piece := onNet (fun _ => {}) (releaseLocks (fun _ o => o == 0x40) p)

end Sys2Proof.Machine
end

