-- ==== Sys2Proof/Machine/SafetyFam.lean ====
section
/-! DEFINITION. SAFETY: the safe state, diagnostics, self-tests, the journal's end of an incident, and the safety, journal and
firmware commands (24, 20 R519 and R521). -/

namespace Sys2Proof.Machine

/-! ### Safe state and island clocks (R592 to R595) -/

/-- A vector of both functions (R432). -/
def raiseBoth (v : Nat) (p : Piece) : Piece := raiseVector 1 v (raiseVector 0 v p)

/-- The piece enters the safe state (R592): the outputs go low, vector 33 is sent, a dump is written. -/
def enterSafe (code : Nat) (p : Piece) : Piece :=
  let p' := raiseAlarm code 0x14 0 (trackFreq (onSafety fun s => { s with safeState := true }) p)
  when (!p.safety.safeState) (fun p => startDump 2 code (raiseBoth 33 p)) p'

/-- The monitor channel of VDD_SRAM (R89). -/
def sramRail : Nat := 20

/-- RAIL_WINDOW: a rail of MONITOR channels 16 to 27 left its window (R594); with VDD_SRAM the strongroom does not survive the
next reset (R612, R628). While SYS_RESET_N is low no rail raises an alarm (R628). -/
def execRailWindow (channel : Fin 40) : State → Out := effect fun p =>
  when (decide (16 ≤ channel.val) && decide (channel.val ≤ 27)) (fun p =>
    let p := when (channel.val == sramRail) (onSafety fun s => { s with sramLost := true }) p
    when p.boot.released (enterSafe 0x0200) p) p

/-- OVER_TEMP (R594). -/
def execOverTemp (_sensor : Fin 16) : State → Out := effect (enterSafe 0x0201)

/-- OUTPUT_READBACK (R594). -/
def execOutputReadback (_ball : Fin 4) : State → Out := effect (enterSafe 0x0202)

/-- DMC_FREEZE: the acquisitions that run end in FAULT (R223, R395). -/
def execDmcFreeze (commandParity : Bool) (address : Nat) : State → Out := effect fun p =>
  when (!p.dmc.frozen) (fun p => faultAcqs (freezeDmc (if commandParity then 2 else 1) address p)) p

/-- The islands whose clock has a checker (R17, R594). -/
def checkedIslands : List Nat :=
  [0x01, 0x02, 0x03, 0x04, 0x10, 0x11, 0x12, 0x13, 0x18, 0x19, 0x1A, 0x1B, 0x20, 0x28, 0x29, 0x2A, 0x2B, 0x30, 0x38, 0x40,
   0x48, 0x49, 0x4A, 0x4B]

/-- What an island's clock fault does (R595). -/
def loseIsland (i : Nat) (p : Piece) : Piece :=
  if i < 0x10 then (List.range 4).foldl (fun p n => loseInput (4 * (i - 1) + n) p) p
  else if i < 0x18 then
    let k := i - 0x10
    streamLost k 8 ((List.range 8).foldl (fun p n => when (p.ddc k n).en (ddcLost k n) p) p)
  else if i == 0x30 then enterSafe 0x0300 p
  else if i == 0x38 then when (!p.dmc.frozen) (fun p => faultAcqs (freezeDmc 0 0 p)) p
  else if i == 0x40 then removeLink p
  else if 0x48 ≤ i then linkLoss (i - 0x48) p
  else p

/-- ISLAND_CLOCK: the fault is lasting; that of the steward island enters the safe state with this alarm (R592, R595). -/
def execIslandClock (island : Nat) : State → Out := effect fun p =>
  when (checkedIslands.contains island && !islandDead p island) (fun p =>
    let p := onSafety (fun s => { s with deadIslands := s.deadIslands ++ [island] }) p
    loseIsland island (when (island != 0x30) (raiseAlarm 0x0300 0x14 0) p)) p

/-! ### Steward resets (R412, R601) -/

/-- STATE of STEWARD_STATUS changes, which sends vector 34 (R432). -/
def setSteward (st : StewardState) (p : Piece) : Piece :=
  when (p.transport.state != st) (fun p => raiseBoth 34 { p with transport := { p.transport with state := st } }) p

/-- The steward is reset: its epoch increments, its locks are released, queued notices stay (R412, R427). -/
def resetSteward (p : Piece) : Piece :=
  let p := { p with transport := { p.transport with
    restarts := sat32 p.transport.restarts 1
    channels := p.transport.channels.map fun c => { c with fetching := [] } } }
  let p := setSteward .restarting p
  let p := releaseLocks (fun _ o => o == 0x10) (bumpEpoch .steward p)
  allChannels.foldl (fun p ch => receiverReset ch true p) p

/-- A steward reset before READY restarts bring-up at BOOT (R622). -/
def restartBringUp (p : Piece) : Piece :=
  when (!p.boot.ready) (fun p =>
    setSteward .boot { p with boot := { p.boot with phase := .boot, slot := p.boot.selector, secondTry := false
                                                    retryAt := none } }) p

/-- A divergence of the steward's cores: a reset, with bring-up from BOOT where it was running; at the fourth within 10 s the
steward halts (R601, R610, R622). -/
def lockstep (p : Piece) : Piece :=
  let log := p.now :: p.safety.lockstepLog.filter fun m => decide (p.now < m + 10 * ticksPerSecond)
  let p := raiseAlarm 0x0700 0x17 0 (onSafety (fun s => { s with lockstepLog := log }) p)
  let p := resetSteward p
  if 4 ≤ log.length then
    raiseAlarm 0x0701 0x17 0 (setSteward .halted p)
  else restartBringUp (startDump 3 0x0700 p)

/-- STEWARD_LOCKSTEP (R594, R601). -/
def execStewardLockstep : State → Out := effect fun p => when (p.transport.state != .halted) lockstep p

/-- The commands that a steward reset interrupted complete: ST_ABORTED where they had not started, else ST_FAULT (R412). -/
def endInterrupted (p : Piece) : Piece :=
  (p.transport.flights.map (·.order)).foldl (fun p o =>
    match p.transport.flights.find? (·.order == o) with
    | some f =>
      match f.progress with
      | .notStarted => finish f stAborted [] p
      | .waiting .. => finish f stFault [] p
      | .held _ => p
    | none => p) p

/-- STEWARD_RESTART: after a reset outside bring-up (R412). -/
def execStewardRestart : State → Out := effect fun p =>
  when (p.transport.state == .restarting)
    (fun p => endInterrupted (setSteward .running p)) p

/-! ### On-chip SRAM, tables (R594, R596, R597) -/

/-- What an uncorrectable error does to the owner of the store (R143, R159, R313, R331). In an engine it touches samples of the frames
to come (log entry 10). -/
def corrupt (panel inst index : Nat) (p : Piece) : Piece :=
  match panel with
  | 0x05 =>
    let (p, free) := draw p
    let touch (k : Nat) (s : XSample) : XSample := { s with mem := s.mem || Config.rowHolds free index k }
    onXform inst (fun x => { x with
      memErrors := sat32 x.memErrors 1
      buffer := x.buffer.mapIdx touch
      incoming := x.incoming.map fun y => (y.1, y.2.1, y.2.2.mapIdx fun k => touch (x.buffer.length + k)) }) p
  | 0x06 =>
    let (ch, bank, cell) := (index / 2 ^ 23 % 4, index / 2 ^ 22 % 2, index % 2 ^ 22)
    let p := onDensityCh ch (fun c => { c with memErr := true, cells := c.cells.filter fun x => x.1 != (bank, cell) }) p
    { p with density := { p.density with memErrors := sat32 p.density.memErrors 1 } }
  | 0x0B =>
    onTally (fun t => { t with
      memErrors := sat32 t.memErrors 1
      contexts := t.contexts.map fun x =>
        if x.index == index then { x with data := { base := x.data.base }, sticky := x.sticky ||| stickyMem } else x }) p
  | 0x0C =>
    let core := 4 * inst + index % 4
    if (p.core core).state == .running then coreFault core fMemErr 0 p
    else onCore core (fun c => { c with memErr := true }) p
  | _ => p

/-- A row is served by a spare row where its array of 1,024 rows has one left (R596). -/
def mapRow (e : Element) (p : Piece) : Piece :=
  when (!p.safety.mappedRows.contains e && decide (rowsMapped p e < 2))
    (onSafety fun s => { s with mappedRows := s.mappedRows ++ [e] }) p

/-- SRAM_UE: the owning chapter's reaction, the spare row, and the row march to come; an error of the steward's own SRAM is a
divergence (R594, R596, R598). -/
def execSramUe (panel instance_ index : Nat) : State → Out := effect fun p =>
  when (decide (instance_ < panelInstances panel)) (fun p =>
    let p := raiseAlarm 0x0500 panel instance_ p
    if panel == 0x17 then when (p.transport.state != .halted) lockstep p
    else
      let e := rowElement panel instance_ index
      detectError e (mapRow e (corrupt panel instance_ index p))) p

/-- SRAM_SCRUB: every row is read; each error that the scrub finds is a row of its own (R594). -/
def execSramScrub : State → Out := effect fun p => p

/-- SPARE_ROW_MARCH: the march leaves the spare rows as they are; a spare found faulty is an element of its own (R597; log entry
39). -/
def execSpareRowMarch : State → Out := effect fun p => p

/-- TABLE_CHECK: a table that mismatches is reloaded from the steward's copy (R594). -/
def execTableCheck (mismatch : Bool) : State → Out := effect fun p =>
  when (mismatch && p.transport.state == .running) (raiseAlarm 0x0601 0x17 0) p

/-! ### Self-tests (R598 to R600) -/

/-- TARGETED_SELFTEST_START: firmware starts the test that waits for an element. -/
def execTargetedSelftestStart (element : Element) : State → Out := effect fun p =>
  when (p.transport.state == .running && p.safety.tests.any fun t => t.element == element && !t.running) (onSafety fun s =>
    { s with selftests := wrap32 s.selftests 1
             tests := s.tests.map fun t => if t.element == element then { t with running := true } else t }) p

/-- The number by which a host-run test's command waits. -/
def elementIndex (e : Element) : Nat := e.test * 2 ^ 24 + e.panel * 2 ^ 16 + e.inst * 2 ^ 8 + e.element

/-- A host-run test ends: a pass changes no count, a fail is lasting; both write a SELFTEST entry (R600, R519). -/
def endHostTest (e : Element) (pass : Bool) (p : Piece) : Piece :=
  let p := writeJournal { elementEntry p e (if pass then 3 else 4) with code := 0x1001 } p
  let p := when (!pass) (retireElement e) p
  finishWaiting .selfTest (elementIndex e) stOk (fun _ => [if pass then 0 else 1]) p

/-- TARGETED_SELFTEST_END: the oldest running test ends; a new error in its course fails it (R599). -/
def execTargetedSelftestEnd (pass : Bool) : State → Out := effect fun p =>
  match p.safety.tests.find? (·.running) with
  | none => p
  | some t =>
    let pass := pass && !t.failed
    let p := onSafety (fun s => { s with tests := s.tests.filter (· != t) }) p
    if t.hostRun then endHostTest t.element pass p
    else if pass then transientElement t.element p
    else retireElement t.element p

/-- The elements of R600. -/
def elementOk (e : Element) : Bool :=
  decide (e.inst < panelInstances e.panel) &&
  match e.test with
  | 0 => [0x0B, 0x06, 0x05, 0x0C, 0x08, 0x0D, 0x07].contains e.panel && e.element == 0
  | 1 => e.panel == 0x09 && decide (e.element ≤ 4)
  | 2 => e.panel == 0x03 && decide (e.element ≤ 2)
  | 3 => e.panel == 0x09 && decide (e.element ≤ 15)
  | 4 => e.panel == 0x12 && decide (e.element ≤ 3)
  | _ => false

/-- Something is free to cover the element while it is tested; a port carries no Net traffic (R519; log entry 39). -/
def coverFree (p : Piece) (e : Element) : Bool :=
  match e.test with
  | 0 => !(p.safety.mappedRows.any fun r => r.panel == e.panel && r.inst == e.inst && decide (2 ≤ rowsMapped p r))
  | 1 =>
    let m := p.motif e.inst
    m.role == .idle && (e.element == 4 || spareOk m)
  | 2 =>
    let r := p.rf e.inst
    if r.map.contains e.element then e.element != 2 && !bitAt r.retired 2 && !r.map.contains 2 else true
  | 3 =>
    let i := p.input (4 * e.inst + e.element / 4)
    i.compSel != e.element % 4 || (List.range 4).any fun c => c != e.element % 4 && !bitAt (i.compRetired ||| i.compHeld) c
  | _ => (p.portOf e.element).state != .active

/-- SELFTEST_RUN (R519, R600). -/
def actSelftestRun : Act := simple fun f p =>
  let b := f.body
  let e : Element := { test := u b 0 1, panel := u b 1 1, inst := u b 2 1, element := u b 3 1 }
  guarded
    [ (!elementOk e || u b 4 4 != 0, stRange),
      (!coverFree p e || p.safety.tests.any (·.element == e), stState) ] p
    (onSafety (fun s => { s with selftests := wrap32 s.selftests 1
                                 tests := s.tests ++ [{ element := e, running := true, hostRun := true }] }) p,
      .wait .selfTest (elementIndex e) [])

def execSelftestRun (c : Cmd) : State → Out := effect (runCommand 0x0E03 c actSelftestRun)

/-! ### Alarm settings and journal (R604, R606 to R609) -/

/-- The requester that sent a command. -/
def flightRequester (p : Piece) (f : Flight) : Nat := (owner p f.channel).number

/-- SAFETY_CONFIGURE (R604, R519). -/
def actSafetyConfigure : Act := simple fun f p =>
  let b := f.body
  let t := u b 0 2
  guarded
    [ (decide (t < 256) || decide (8192 < t) || u b 2 2 != 0 || decide (65535 < u b 4 4) || u b 8 8 != 0, stRange) ] p
    (let p := onSafety (fun s => { s with faultMask := u b 4 4 }) (onDmc (fun d => { d with actThreshold := t }) p)
     (writeJournal { code := 0x1003, panelType := 0x14, requester := flightRequester p f } p, .done stOk []))

def execSafetyConfigure (c : Cmd) : State → Out := effect (runCommand 0x0E01 c actSafetyConfigure)

/-- A journal entry of 64 bytes (R606). -/
def JournalEntry.bytes (e : JournalEntry) : Bytes :=
  leBytes 4 e.seq ++ leBytes 2 e.code ++ leBytes 1 (flag e.persistent 7 + flag e.summary 6 + flag e.incident 5) ++
  leBytes 1 e.requester ++ leBytes 8 e.mint ++ labelBytes e.label ++ leBytes 1 e.panelType ++ leBytes 1 e.inst ++
  leBytes 1 e.element ++ leBytes 1 e.verdict ++ leBytes 1 e.transients ++ zeros 1 ++ pad 32 e.detail

/-- The entries the journal holds, in SEQ order. -/
def heldEntries (s : Safety) : List JournalEntry := ((s.incident.map (·.frozen)).getD []) ++ s.journal

/-- JOURNAL_READ (R609, R519). -/
def actJournalRead : Act := simple fun f p =>
  let b := f.body
  let (first, count, dest) := (u b 0 2, u b 2 2, u b 8 8)
  let persistent := bitAt (u b 4 1) 7
  let es := if persistent then p.safety.persistent.drop first
    else (heldEntries p.safety).filter fun e => decide ((e.seq + 65536 - first) % 65536 < 32768)
  let es := es.take count
  let next := if persistent then first + es.length else ((es.getLast?.map fun e => (e.seq + 1) % 65536).getD first)
  guarded
    [ (count == 0, stZero),
      (decide (4096 < count) || u b 4 1 % 128 != 0 || u b 5 3 != 0 || (persistent && decide (255 < first)) ||
        !destOk p.dmc dest (64 * count), stRange) ] p
    (match pieceWrite dest (es.flatMap (·.bytes)) p with
     | (p, .ok) => (p, .done stOk [es.length, next])
     | (p, t) => (p, .done (transferStatus t) []))

def execJournalRead (c : Cmd) : State → Out := effect (runCommand 0x0E02 c actJournalRead)

/-- An incident is over: 100 ms with fewer than 16 entries (R607). -/
def incidentOver (p : Piece) (i : Incident) : Bool :=
  decide (i.began + 100 * ticksPerMs ≤ p.now) &&
  match p.safety.recent[15]? with
  | some m => decide (m + 100 * ticksPerMs ≤ p.now)
  | none => true

/-- JOURNAL_INCIDENT_END: the ring holds frozen and rolling entries again, and one SUMMARY per counter is written (R607). -/
def execJournalIncidentEnd : State → Out := effect fun p =>
  match p.safety.incident with
  | none => p
  | some i =>
    when (incidentOver p i) (fun p =>
      let p := onSafety (fun s => { s with incident := none, journal := lastN 4096 (i.frozen ++ s.journal) }) p
      i.drops.foldl (fun p d => writeJournal
        { code := d.code, summary := true, panelType := 0x14
          detail := leBytes 4 d.count ++ zeros 4 ++ leBytes 8 d.firstMint ++ leBytes 8 d.lastMint } p) p) p

/-! ### Dump commands (R519, R612) -/

/-- DUMP_REGION_SET (R519). -/
def actDumpRegion : Act := simple fun f p =>
  let (a, n) := (u f.body 0 8, u f.body 8 4)
  guarded [ ((n != 0 && decide (n < 4 * 2 ^ 20)) || isDevice a || u f.body 12 4 != 0, stRange) ] p
    (onSafety (fun s => { s with regionAddr := a, regionLen := n }) p, .done stOk [])

def execDumpRegionSet (c : Cmd) : State → Out := effect (runCommand 0x0E04 c actDumpRegion)

/-- DUMP_READ (R612, R519). -/
def actDumpRead : Act := simple fun f p =>
  let dest := u f.body 0 8
  let d := p.safety.dump.getD {}
  guarded [ (!destOk p.dmc dest d.bytes.length || u f.body 8 8 != 0, stRange), (p.safety.dump.isNone, stState) ] p
    (match pieceWrite dest d.bytes p with
     | (p, .ok) =>
       (onSafety (fun s => { s with dump := none, releaseArmed := true }) p, .done stOk [d.bytes.length, p.safety.dumpSeq])
     | (p, t) => (p, .done (transferStatus t) []))

def execDumpRead (c : Cmd) : State → Out := effect (runCommand 0x0E05 c actDumpRead)

/-! ### Firmware update (R521) -/

/-- The slot that does not hold the running image. -/
def inactiveSlot (p : Piece) : Nat := 1 - p.boot.slot

/-- FW_UPDATE_BEGIN. -/
def actFwBegin : Act := simple fun f p =>
  let n := u f.body 0 4
  guarded
    [ (n == 0, stZero),
      (decide (6 * 2 ^ 20 < n) || !isZero (slice f.body 4 12), stRange), (p.boot.updateOpen, stBusy) ] p
    ({ p with boot := { p.boot with updateOpen := true, updateLen := n, updateBytes := []
                                    images := put p.boot.images (inactiveSlot p) (some []) } },
      .done stOk [inactiveSlot p])

def execFwUpdateBegin (c : Cmd) : State → Out := effect (runCommand 0x0F01 c actFwBegin)

/-- Bytes of a run put into a list in order of offset, in place of those it overlaps. -/
def putRun (off : Nat) (bs : Bytes) (l : List Host.Cell) : List Host.Cell :=
  l.filter (fun c => decide (c.1 < off)) ++ bs.mapIdx (fun i b => (off + i, b)) ++
  l.filter (fun c => decide (off + bs.length ≤ c.1))

/-- FW_UPDATE_CHUNK. -/
def actFwChunk : Act := fun f host p =>
  let (off, n, a) := (u f.body 0 4, u f.body 4 4, u f.body 8 8)
  guarded
    [ (n == 0, stZero),
      (off % 256 != 0 || decide (65536 < n) || !tableAddrOk p.dmc a n ||
        (p.boot.updateOpen && decide (p.boot.updateLen < off + n)), stRange),
      (!p.boot.updateOpen, stState) ] p
    (withTable p a n host fun bs =>
      let p := { p with boot := { p.boot with updateBytes := putRun off bs p.boot.updateBytes } }
      (p, .done stOk [p.boot.updateBytes.length]))

def execFwUpdateChunk (c : Cmd) : State → Out := effect (runCommand 0x0F02 c actFwChunk)

/-- FW_UPDATE_COMMIT: a verified image is the one to load at the next reset (R402, R521). -/
def actFwCommit : Act := simple fun f p =>
  let img := p.boot.updateBytes.map (·.2)
  guarded [ (!isZero f.body, stRange), (!p.boot.updateOpen, stState) ] p
    (if p.boot.updateBytes.length == p.boot.updateLen && Config.signatureHolds img then
      let p' := { p with boot := { p.boot with updateOpen := false, updateLen := 0, updateBytes := []
                                               images := put p.boot.images (inactiveSlot p) (some img)
                                               selector := inactiveSlot p } }
      (writeJournal { code := 0x1004, panelType := 0x17, requester := flightRequester p f } p',
        .done stOk [(Config.imageVersion img).toNat])
    else (p, .done stCheck []))

def execFwUpdateCommit (c : Cmd) : State → Out := effect (runCommand 0x0F03 c actFwCommit)

/-- KEY_HASH_QUERY. -/
def actKeyHash : Act := simple fun f p =>
  let dest := u f.body 8 8
  guarded [ (!isZero (slice f.body 0 8) || !destOk p.dmc dest 48, stRange) ] p
    (match pieceWrite dest ((List.range 48).map Config.keyHash) p with
     | (p, .ok) => (p, .done stOk [48])
     | (p, t) => (p, .done (transferStatus t) []))

def execKeyHashQuery (c : Cmd) : State → Out := effect (runCommand 0x0F04 c actKeyHash)

/-! ### SAFETY window (R614) and reset (R615) -/

/-- SAFETY_STATUS. -/
def safetyStatus (s : Safety) : Nat :=
  flag s.safeState 4 + flag s.incident.isSome 3 + flag s.dump.isSome 2 + flag s.releaseArmed 1 +
  flag (decide (256 ≤ s.persistent.length)) 0

/-- A reset of the SAFETY panel: running targeted tests end and wait again, host-run ones end with their command (R615,
R617). -/
def resetSafety (p : Piece) : Piece :=
  onSafety (fun s =>
    { s with transients := 0, selftests := 0, journalDropped := 0, dumpsSuppressed := 0
             tests := (s.tests.filter (!·.hostRun)).map fun t => { t with running := false } }) p

end Sys2Proof.Machine
end

