-- ==== Sys2Proof/Machine/BootFam.lean ====
section
/-! DEFINITION. REFIN and the synthesizer with what follows from them (02 R40 to R47), resets of the piece, boot and bring-up
(25 R616 to R622), DDR5 training (15 R387), power-down (26 R627). -/

namespace Sys2Proof.Machine

/-- Changes the bring-up state. -/
def onBoot (f : Boot → Boot) (p : Piece) : Piece := { p with boot := f p.boot }

/-! ### Reset of the piece (R612, R616) -/

/-- What the strongroom holds for the next start-up (R612). -/
def strongroomOf (s : Safety) : Option Dump := if s.sramLost then none else s.dump.orElse fun _ => s.strongroom

/-- The piece at its reset values, with the board's flash as it is; the strongroom is kept where `dump` says so (R612, R616).
The counters of the model's own go on. -/
def resetPiece (dump : Bool) (p : Piece) : Piece :=
  { free := p.free, out := p.out
    boot := { images := p.boot.images, selector := p.boot.selector }
    safety := if dump then { strongroom := strongroomOf p.safety, dumpSeq := p.safety.dumpSeq } else {} }

/-- POWER_ON keeps nothing of the piece (R616). -/
def execPowerOn : State → Out := effect (resetPiece false)

/-- SYS_RESET_ASSERT: a low pulse of at least 1 µs resets the piece, one shorter than 100 ns never does; between the two either
may happen (R616). -/
def execSysResetAssert (widthNs : Nat) : State → Out := effect fun p =>
  if 1000 ≤ widthNs then resetPiece true p
  else if widthNs < 100 then p
  else
    let (p, n) := draw p
    when (Config.freeBit n) (resetPiece true) p

/-- SYS_RESET_RELEASE: the steward island leaves reset, the monitor sequencer starts, the boot ROM reads the slot selector
(R91, R618). -/
def execSysResetRelease : State → Out := effect fun p =>
  when (!p.boot.released) (fun p =>
    onMonitor (fun m => { m with running := true, slot := 0, slotBegan := p.now })
      (onBoot (fun b => { b with released := true, phase := .boot, slot := b.selector, secondTry := false }) p)) p

/-- POWER_DOWN: every output goes to its safe level and nothing is kept (R590, R616, R627). -/
def execPowerDown : State → Out := effect (resetPiece false)

/-! ### Bring-up (R618 to R622) -/

/-- Firmware writes a journal entry whose code the spec does not give (log entry 41). -/
def writeFirmwareEntry (panelType : Nat) (persistent : Bool) (p : Piece) : Piece :=
  let (p, n) := draw p
  writeJournal { code := (Config.freeWord n).toNat % 65536, panelType := panelType, persistent := persistent } p

/-- A phase begins (R619). -/
def setPhase (ph : Phase) (p : Piece) : Piece := onBoot (fun b => { b with phase := ph }) p

/-- CALIBRATE begins: a full calibration falls due (R317, R619). -/
def enterCalibrate (p : Piece) : Piece :=
  setPhase .calibrate (onCal (fun c => { c with startDue := !c.running, startupRuns := 0 }) p)

/-- The factory band table (R43, R620; log entry 19). -/
def factoryBands : List Band :=
  (List.range 64).map fun i =>
    let (lo, hi, slope) := Config.factoryBand i
    { valid := true, fLow := lo, fHigh := hi, tempSlope := slope }

/-- SYNTH: the factory band table is loaded and the synthesizer started; where no band qualifies, SYNTH_UNLOCK latches and
firmware tries again in WAIT_REF after 100 ms. A synthesizer that runs already is left as it is (R44, R620, R622). -/
def enterSynth (p : Piece) : Piece :=
  match p.clocks.synth with
  | .off =>
    let q := onClocks (fun c => { c with bands := factoryBands }) p
    match startSynth 2000 q with
    | some q => setPhase .synth q
    | none => raiseAlarm 0x0102 0x02 0
        (onBoot (fun b => { b with phase := .waitRef, retryAt := some (p.now + 100 * ticksPerMs) }) q)
  | .locked => enterCalibrate p
  | _ => setPhase .synth p

/-- The frequency code among 5, 10 and 100 MHz within ±25 % of which a period lies (R620). -/
def measuredFreq (periodPs : Nat) : Option Nat := (List.range 3).find? fun f => periodGood f periodPs

/-- In WAIT_REF firmware measures REFIN and takes the nominal that fits (R620). -/
def measureRefin (periodPs : Nat) (p : Piece) : Piece :=
  match p.boot.phase, measuredFreq periodPs with
  | .waitRef, some f => onClocks (fun c => { c with refinFreq := f }) p
  | _, _ => p

/-- WAIT_REF ends once REFIN is present. -/
def leaveWaitRef (p : Piece) : Piece := when (p.boot.phase == .waitRef && p.clocks.refinPresent) enterSynth p

/-- BOOT_IMAGE_VERIFIED: the image verifies and firmware runs; or the other slot is tried once; or the steward halts. Firmware
keeps a dump that it finds in the strongroom (R612, R618). -/
def execBootImageVerified (verified : Bool) : State → Out := effect fun p =>
  let b := p.boot
  let image := (b.images[b.slot]?).getD none
  let holds := match image with
    | some img => Config.signatureHolds img
    | none => verified
  when (b.released && b.phase == .boot && p.transport.state == .boot) (fun p =>
    if holds then
      let version := match image with
        | some img => Config.imageVersion img
        | none => Config.firmwareVersion b.slot
      let p := setSteward .running { p with transport := { p.transport with fwVersion := version.toNat } }
      let p := endInterrupted (setPhase .memory (onDmc (fun d => { d with training := true }) p))
      let p := onSafety (fun s => { s with dump := s.dump.orElse fun _ => s.strongroom, strongroom := none }) p
      when b.secondTry (writeFirmwareEntry 0x17 false) p
    else if b.secondTry then setSteward .halted (setPhase .halted p)
    else onBoot (fun b => { b with slot := 1 - b.slot, secondTry := true }) p) p

/-- What a board can carry (R387). -/
def dimmsOk (gib ranks : Nat) : Bool :=
  (gib == 8 || gib == 16 || gib == 32 || gib == 64) && (ranks == 1 || ranks == 2)

/-- The highest rate that every channel passes, as its SPEED code (R387, R398). -/
def trainedSpeed (rate6400 rate5600 rate4800 : Nat) : Option Nat :=
  if rate6400 == 0xF then some 2 else if rate5600 == 0xF then some 1 else if rate4800 == 0xF then some 0 else none

/-- DDR5_TRAINING_DONE: the channels run at the highest rate that all pass, or stay untrained with CH_UP showing those that
passed; at bring-up the Pricking is complete and MEMORY ends (R387, R402, R619, R621). -/
def execDdr5TrainingDone (gib ranks : Nat) (rdimm : Bool) (rate6400 rate5600 rate4800 : Fin 16) : State → Out := effect fun p =>
  when (p.dmc.training && p.transport.state == .running && dimmsOk gib ranks) (fun p =>
    let p := match trainedSpeed rate6400 rate5600 rate4800 with
      | some s => onDmc (fun d => { d with training := false, chUp := 0xF, speed := s, gibPerChannel := gib
                                           rdimm := rdimm, ranks := ranks }) p
      | none => writeFirmwareEntry 0x0F true (onDmc (fun d =>
          { d with training := false, chUp := rate4800, speed := 0, gibPerChannel := gib, rdimm := rdimm, ranks := ranks }) p)
    when (p.boot.phase == .memory)
      (fun p => leaveWaitRef (setPhase .waitRef (onBoot (fun b => { b with pricking := true }) p))) p) p

/-- READY_ASSERT: CALIBRATE has ended and device DRAM is initialised, or is untrained; CALMGR enters SERVICE (R315, R619,
R621). -/
def execReadyAssert : State → Out := effect fun p =>
  let c := p.cal
  when (p.boot.phase == .calibrate && p.transport.state == .running && !c.running && !c.startDue &&
      (p.dmc.initDone || dmcRefuses p.dmc)) (fun p =>
    onCal (fun c => { c with mode := if c.mode == .startup then .service else c.mode })
      (onBoot (fun b => { b with phase := .ready, ready := true }) p)) p

/-! ### REFIN (R40, R42) -/

/-- REF_LOSS: the cycles are counted, and after 4 consecutive bad ones REFIN is declared lost; the count of windows within
tolerance starts again (R40, R42, R46); a retry in WAIT_REF gives way to waiting for presence (R620). -/
def execRefLoss (s : State) (cycles : List (Nat × Option Nat) := []) : Out :=
  effect (fun p =>
  let p := onClocks (measureCycles cycles) p
  when (p.clocks.refinPresent && decide (4 ≤ p.clocks.refinBad)) (fun p =>
    let p := onBoot (fun b => { b with retryAt := none }) p
    raiseAlarm 0x0100 0x02 0 (trackFreq
      (onClocks (fun c => { c with refinPresent := false, refinLossCount := sat32 c.refinLossCount 1, relockWindows := 0 })) p)) p) s

/-- REFIN_PRESENT: the cycles are counted, and after 1,024 consecutive good ones REFIN is declared present; in WAIT_REF the nominal is
the one that fits the latest cycle, and the synthesizer is started (R40, R620). -/
def execRefinPresent (cycles : List (Nat × Option Nat)) : State → Out := effect fun p =>
  when p.boot.released (fun p =>
    let p := if p.clocks.refinPresent then p else ((lastPeriod cycles).map fun t => measureRefin t p).getD p
    let p := onClocks (measureCycles cycles) p
    when (!p.clocks.refinPresent && decide (1024 ≤ p.clocks.refinGood))
      (fun p => leaveWaitRef (trackFreq (onClocks (fun c => { c with refinPresent := true })) p)) p) p

/-- WAIT_REF_RETRY: 100 ms after a failed start REFIN is measured again and the synthesizer started again (R620). -/
def execWaitRefRetry (periodPs : Nat) : State → Out := effect fun p =>
  let due := match p.boot.retryAt with
    | some t => !p.clocks.mintRun || decide (t ≤ p.now)
    | none => false
  when (due && p.boot.phase == .waitRef && p.transport.state == .running) (fun p =>
    leaveWaitRef (measureRefin periodPs (onBoot (fun b => { b with retryAt := none }) p))) p

/-! ### Synthesizer (R45, R46) -/

/-- Bring-up passes from SYNTH to CALIBRATE once the synthesizer is locked (R619). -/
def leaveSynth (p : Piece) : Piece := when (p.boot.phase == .synth) enterCalibrate p

/-- SYNTH_LOCK_DECLARE: LOCK_WAIT has passed; the converters start, and the time tap runs again (R45, R85, R181). -/
def execSynthLockDeclare : State → Out := effect fun p =>
  when (p.clocks.synth == .wait) (fun p =>
    leaveSynth (lookAtTargets (startConverters (trackFreq declareLock p)))) p

/-- SYNTH_UNLOCK: a window of 1 µs of REFIN counts other than 2,560 ± 2 ticks (R46, R85). DESIGN CHOICE: an unlock is no loss of
the time source for REF_INVALID, which outlasts the return to LOCKED; R64 does not say (log entry 58). -/
def execSynthUnlock (count : Nat) : State → Out := effect fun p =>
  when (p.clocks.synth == .locked && p.clocks.refinPresent && !windowGood count) (fun p =>
    let p := trackFreq (onClocks fun c =>
      { c with synth := .failed, relockWindows := 0, unlockCount := sat32 c.unlockCount 1, ppsPresent := false, ppsAnchor := none,
               ppsGood := 0, ppsBad := 0, ppsWindows := 0 }) p
    let p := failConverters (raiseAlarm 0x0102 0x02 0 p)
    match p.ledger.state with
    | .locked | .slewing | .jumpPending | .coast =>
      enterCoast (onLedger (fun l => { l with sourcePresent := false }) p)
    | _ => p) p

/-- SYNTH_RELOCK: the windows are counted while REFIN is present, and after 1,024 consecutive ones within tolerance SYNTH_STATE is
LOCKED again; the Ledger takes its source as regained when it is present (R46, R62, R85). -/
def execSynthRelock (s : State) (windows : List (Nat × Nat) := []) : Out :=
  effect (fun p =>
  when (p.clocks.synth == .failed && p.clocks.refinPresent) (fun p =>
    let p := onClocks (fun c => { c with relockWindows := countWindows windows c.relockWindows }) p
    when (decide (1024 ≤ p.clocks.relockWindows))
      (fun p => leaveSynth (startConverters (trackFreq (onClocks fun c => { c with synth := .locked }) p))) p) p) s

end Sys2Proof.Machine
end

