-- ==== Sys2Proof/Machine/ScanFam.lean ====
section
/-! DEFINITION. SCANOUT: mode, layers, commit and latch, frames, hot plug (23 R576 to R589; 20 R514 to R516). -/

namespace Sys2Proof.Machine

/-- Changes SCANOUT. -/
def onScan (f : Scanout → Scanout) (p : Piece) : Piece := { p with scan := f p.scan }

/-- The lane rate of a LINK_RATE in Mb/s (R578). -/
def laneRate : Nat → Nat
  | 0 => 1620
  | 1 => 2700
  | 2 => 5400
  | _ => 8100

/-- The timing in a body (R514). -/
def scanModeOf (b : Bytes) : ScanMode :=
  { en := bitAt (u b 0 1) 7, hNegative := bitAt (u b 0 1) 1, vNegative := bitAt (u b 0 1) 0, rate := u b 1 1,
    hActive := u b 2 2, vActive := u b 4 2, hFront := u b 6 2, hSync := u b 8 2, hBack := u b 10 2,
    vFront := u b 12 2, vSync := u b 14 2, vBack := u b 16 2, pixelKhz := u b 20 4 }

/-- The panel shows frames: it runs, finishes its last frame, or retrains within one (R579, R580). -/
def framesRun (s : Scanout) : Bool := s.state == .running || s.state == .stopping || s.retraining

/-- A mode begins: the ports train, or the idle pattern goes out (R577, R579). -/
def beginMode (m : ScanMode) (p : Piece) : Piece :=
  let p := onScan (fun s => { s with mode := m, next := none, stopDue := false, retraining := false, vblank := false,
                                     state := if m.en then .training else .off }) p
  when (!m.en) (finishAllWaiting .scanMode 0 stOk fun _ => []) p

/-- SCAN_MODE_SET (R514, R577 to R579). With EN = 0 the timing fields are not used and not judged (log entry 29). -/
def actScanMode : Act := simple fun f p =>
  let b := f.body
  let m := scanModeOf b
  guarded
    [ (m.en && (m.hActive == 0 || m.vActive == 0 || m.pixelKhz == 0), stZero),
      (field (u b 0 1) 2 5 != 0 || decide (3 < m.rate) || decide (3840 < m.hActive) || decide (2160 < m.vActive) ||
        u b 18 2 != 0 || !isZero (slice b 24 8) || (m.en && (decide (m.pixelKhz < 25000) || decide (600000 < m.pixelKhz))),
        stRange),
      (m.en && decide (4 * laneRate m.rate * 800 < 30 * m.pixelKhz), stNoResource) ] p
    (if framesRun p.scan then
       (onScan (fun s => { s with next := some m, state := .stopping, retraining := false }) p, .wait .scanMode 0 [])
     else if m.en then (beginMode m p, .wait .scanMode 0 [])
     else (beginMode m p, .done stOk []))

def execScanModeSet (c : Cmd) : State → Out := effect (runCommand 0x0C01 c actScanMode)

/-- DP_TRAINING_DONE: both ports have trained and the frames begin, or one has failed (R577). -/
def execDpTrainingDone (ok : Bool) : State → Out := effect fun p =>
  when (p.scan.state == .training || p.scan.retraining) (fun p =>
    if ok then
      finishAllWaiting .scanMode 0 stOk (fun _ => [])
        (onScan (fun s => { s with state := .running, retraining := false, hpd := [true, true] }) p)
    else
      finishAllWaiting .scanMode 0 stFault (fun _ => [])
        (onScan (fun s => { s with state := .fault, retraining := false, vblank := false }) p)) p

/-- SCAN_MODE_APPLY: the running frame has ended; a new mode begins, or the ports stop (R579, R580). -/
def execScanModeApply : State → Out := effect fun p =>
  when (p.scan.state == .stopping) (fun p =>
    if p.scan.stopDue then
      finishAllWaiting .scanMode 0 stFault (fun _ => [])
        (onScan (fun s => { s with state := .off, stopDue := false, next := none, vblank := false }) p)
    else
      match p.scan.next with
      | some m => beginMode m p
      | none => p) p

/-- HPD_LOSS: HPD has been low for more than 2 ms; both ports stop at the end of the frame (R580). -/
def execHpdLoss (port : Fin 2) : State → Out := effect fun p =>
  let p := onScan (fun s => { s with hpd := put s.hpd port false }) p
  if framesRun p.scan then onScan (fun s => { s with state := .stopping, stopDue := true, retraining := false }) p
  else when (p.scan.state == .training) (fun p =>
    finishAllWaiting .scanMode 0 stFault (fun _ => []) (onScan (fun s => { s with state := .off }) p)) p

/-- IRQ_HPD: firmware reads the link status and retrains both ports where the link is lost (R580). -/
def execIrqHpd (port : Fin 2) (linkLost : Bool) : State → Out := effect fun p =>
  let p := onScan (fun s => { s with hpd := put s.hpd port true }) p
  when (linkLost && p.scan.state == .running) (onScan fun s => { s with state := .training, retraining := true }) p

/-! ### Layers -/

/-- The settings of a layer in a body (R515). -/
def layerOf (b : Bytes) : Layer :=
  { en := bitAt (u b 1 1) 7, opaque_ := bitAt (u b 1 1) 6, format := u b 2 1, alpha := u b 3 1, x := u b 4 2,
    y := u b 6 2, width := u b 8 2, height := u b 10 2, stride := u b 12 4, base := u b 16 8 }

/-- Bytes per pixel of a format (R581). -/
def pixelBytes (format : Nat) : Nat := if format % 16 < 2 then 4 else 2

/-- A layer lies within a mode's whole panel (R515, R578). -/
def layerFits (m : ScanMode) (l : Layer) : Bool :=
  decide (l.x + l.width ≤ 2 * m.hActive) && decide (l.y + l.height ≤ m.vActive)

/-- The bytes from BASE to a layer's last byte (R582). -/
def layerSpan (l : Layer) : Nat :=
  if l.width == 0 || l.height == 0 then 0 else (l.height - 1) * l.stride + l.width * pixelBytes l.format

/-- The mode a new layer is judged by: the one accepted last. -/
def acceptedMode (s : Scanout) : ScanMode := s.next.getD s.mode

/-- SCAN_LAYER_SET (R515, R581 to R584). -/
def actScanLayer : Act := simple fun f p =>
  let b := f.body
  let i := u b 0 1
  let l := layerOf b
  guarded
    [ (l.en && (l.width == 0 || l.height == 0), stZero),
      (decide (3 < i) || u b 1 1 % 64 != 0 || decide (3 < l.format % 16) ||
        (l.format % 16 != 3 && l.format / 16 != 0) || l.stride % 64 != 0 || l.base % 64 != 0 || !isDevice l.base ||
        !rangeOk p.dmc l.base (layerSpan l) || !isZero (slice b 24 8) ||
        decide (l.stride < l.width * pixelBytes l.format) || !layerFits (acceptedMode p.scan) l ||
        (l.opaque_ && l.alpha != 255), stRange) ] p
    (onScan (fun s => { s with held := put s.held i l }) p, .done stOk [])

def execScanLayerSet (c : Cmd) : State → Out := effect (runCommand 0x0C02 c actScanLayer)

/-- SCAN_COMMIT: the held settings of the named layers become pending (R516, R586). -/
def actScanCommit : Act := simple fun f p =>
  let m := u f.body 0 1
  guarded
    [ (m % 16 == 0, stZero), (m / 16 != 0 || !isZero (slice f.body 1 7), stRange) ] p
    (onScan (fun s => { s with pending := (s.pending.mapIdx fun i x =>
        if bitAt m i then some (nth s.held i, p.now) else x) }) p, .wait .scanCommit 0 [])

def execScanCommit (c : Cmd) : State → Out := effect (runCommand 0x0C03 c actScanCommit)

/-- A layer as it latches: one that extends beyond the panel is disabled (R579). -/
def latchLayer (m : ScanMode) (l : Layer) : Layer := if layerFits m l then l else { l with en := false }

/-- SCAN_LATCH: the first vertical blanking line starts; settings that were committed in an earlier cycle latch, with the flip
record (R586, R587). -/
def execScanLatch : State → Out := effect fun p =>
  when (framesRun p.scan && !p.scan.vblank) (fun p =>
    let p := onScan (fun s => { s with vblank := true, latched := s.latched.map (latchLayer s.mode) }) p
    let dueNow := p.scan.pending.any fun x =>
      match x with
      | some (_, t) => decide (t < p.now)
      | none => false
    when dueNow (fun p =>
      let take (s : Scanout) (i : Nat) : Scanout :=
        match nth s.pending i with
        | some (l, t) =>
          if t < p.now then { s with latched := put s.latched i (latchLayer s.mode l), pending := put s.pending i none } else s
        | none => s
      let used := p.scan.frame + 1
      let p := onScan (fun s =>
        { (List.range 4).foldl take s with flipMint := p.now, flipLabel := p.label, flipFrame := low32 used }) p
      when (p.scan.pending.all (·.isNone))
        (finishAllWaiting .scanCommit 0 stOk fun _ => [low32 used, high32 used]) p) p) p

/-- A tile of the whole panel is covered by a layer (R584). -/
def covers (m : ScanMode) (l : Layer) (tx ty : Nat) : Bool :=
  let x1 := min (64 * (tx + 1)) (2 * m.hActive)
  let y1 := min (32 * (ty + 1)) m.vActive
  l.en && l.opaque_ && decide (l.x ≤ 64 * tx) && decide (x1 ≤ l.x + l.width) && decide (l.y ≤ 32 * ty) &&
  decide (y1 ≤ l.y + l.height)

/-- The tiles of a frame in which an enabled OPAQUE layer skips the fetch of lower layers (R584; log entry 29). -/
def skippedTiles (s : Scanout) : Nat :=
  ((List.range (ceilDiv (2 * s.mode.hActive) 64)).map fun tx =>
    ((List.range (ceilDiv s.mode.vActive 32)).filter fun ty =>
      (List.range 4).any fun i => covers s.mode (nth s.latched i) tx ty).length).sum

/-! ### Pixels (R581 to R583) -/

/-- Three components of 10 bits: R, G, B. -/
abbrev Colour := Nat × Nat × Nat

/-- The fixed ramp of the formats of one component (R581). -/
def rampColour (v : Nat) : Colour := (min 1023 (3 * v), min 1023 (3 * v - 1023), min 1023 (3 * v - 2046))

/-- The components in the low 30 bits of a pixel (R581). -/
def rgbColour (x : Nat) : Colour := (field x 20 10, field x 10 10, field x 0 10)

/-- v of a count: ⌊64 × log2(c + 1)⌋ to at most 1,023 (R581). -/
def countLevel (c : Nat) : Nat := min 1023 (Nat.log2 ((c + 1) ^ 64))

/-- v of a signed value in centibels with the parameter P of the format (R581). -/
def levelOf (P : Nat) (cb : Int) : Nat := (max 0 (min 1023 (1023 + cb / (2 ^ P : Nat)))).toNat

/-- Colour and pixel alpha of a pixel's bytes in a format (R581). -/
def pixelColour (format : Nat) (bs : Bytes) : Colour × Rat :=
  let x := u bs 0 (pixelBytes format)
  match format % 16 with
  | 0 => (rgbColour x, 1)
  | 1 => (rgbColour x, (field x 30 2 : Rat) / 3)
  | 2 => (rampColour (countLevel x), if x == 0 then 0 else 1)
  | _ => (rampColour (levelOf (format / 16) (sgn bs 0 2)), if x == 0x8000 then 0 else 1)

/-- α of a layer's pixel from its pixel alpha, which an OPAQUE layer ignores (R583, R584). -/
def layerAlpha (l : Layer) (a : Rat) : Rat := (if l.opaque_ then 1 else a) * l.alpha / 255

/-- A layer shows at a position of the whole panel (R582). -/
def showsAt (l : Layer) (x y : Nat) : Bool :=
  l.en && decide (l.x ≤ x) && decide (x < l.x + l.width) && decide (l.y ≤ y) && decide (y < l.y + l.height)

/-- out := α × src + (1 − α) × out, rounded half up (R583). -/
def blendPart (α : Rat) (src out : Nat) : Nat := (α * src + (1 - α) * out + 1 / 2).floor.toNat

/-- A layer's pixel lies over what is below it. A layer whose fetches the DMC refuses is transparent (R583, R585). -/
def blendLayer (p : Piece) (x y : Nat) (out : Colour) (l : Layer) : Colour :=
  if !showsAt l x y || dmcRefuses p.dmc then out
  else
    let n := pixelBytes l.format
    let (c, a) := pixelColour l.format (memRead p.dmc.dram (deviceAddr l.base + (y - l.y) * l.stride + (x - l.x) * n) n)
    let α := layerAlpha l a
    (blendPart α c.1 out.1, blendPart α c.2.1 out.2.1, blendPart α c.2.2 out.2.2)

/-- The layers over a black background, layer 0 at the bottom (R583). -/
def panelColour (p : Piece) (x y : Nat) : Colour := p.scan.latched.foldl (blendLayer p x y) (0, 0, 0)

/-- A pixel as the port sends it: 30 bits (R576). -/
def panelPixel (p : Piece) (x y : Nat) : Nat :=
  let c := panelColour p x y
  c.1 * 2 ^ 20 + c.2.1 * 2 ^ 10 + c.2.2

/-- The lines of the half of the panel that a port shows, from its first whole-panel column (R578). -/
def panelLines (p : Piece) (column : Nat) : List (List Nat) :=
  (List.range p.scan.mode.vActive).map fun y => (List.range p.scan.mode.hActive).map fun x => panelPixel p (column + x) y

/-- Both ports send the frame, in a link that is not being retrained; its pixels are those that DRAM holds as it starts (R578, R583;
log entry 63). -/
def sendFrame (p : Piece) : Piece :=
  when (!p.scan.retraining) (emit (.scanFrame p.scan.frame (panelLines p 0) (panelLines p p.scan.mode.hActive))) p

/-- SCAN_FRAME_START: the first active line of a frame starts (R583, R584, R587). -/
def execScanFrameStart : State → Out := effect fun p =>
  when (framesRun p.scan) (fun p => sendFrame (onScan (fun s =>
    { s with frame := (s.frame + 1) % 2 ^ 64, vblank := false, tiles := s.tilesNow, tilesNow := skippedTiles s }) p)) p

/-- SCANOUT_STATUS (R588). -/
def scanoutStatus (p : Piece) : Nat :=
  let s := p.scan
  let st := match s.state with | .off => 0 | .training => 1 | .running => 2 | .stopping => 3 | .fault => 4
  s.mode.rate % 4 * 2 ^ 18 + flag (nth s.hpd 1) 17 + flag (nth s.hpd 0) 16 +
  (maskOf 4 fun i => (nth s.pending i).isSome) * 2 ^ 12 + (maskOf 4 fun i => (nth s.latched i).en) * 2 ^ 8 +
  flag (framesRun s && dmcRefuses p.dmc) 4 + flag s.vblank 3 + st

/-- SCANOUT_Ll_CFG (R588). -/
def layerConfig (l : Layer) : Nat :=
  flag l.en 31 + flag l.opaque_ 30 + l.alpha % 256 * 2 ^ 16 + l.format % 256 * 2 ^ 8

end Sys2Proof.Machine
end

