-- ==== Sys2Proof/Machine/Windows.lean ====
section
/-! DEFINITION. The words that the registers of every panel window and fixed block show: the windows of the chapters, the
Pricking (16), identity, alarm and safety status, mailbox and lock blocks (17, 27). -/

namespace Sys2Proof.Machine

/-- The word at an offset of a list of registers; an offset that holds none reads zero (R634). -/
def tab (l : List (Nat × Nat)) (off : Nat) : Nat := (lookup l off).getD 0

/-- The word in the i-th of `count` equal banks of registers. -/
def bank (base stride count off : Nat) (regs : Nat → List (Nat × Nat)) : Nat :=
  if base ≤ off && off < base + stride * count then tab (regs ((off - base) / stride)) ((off - base) % stride) else 0

/-- A low word and its high word. -/
def pair (off value : Nat) : List (Nat × Nat) := [(off, low32 value), (off + 4, high32 value)]

/-! ### Windows -/

/-- LEDGER_STATUS (R67). -/
def ledgerStatus (p : Piece) : Nat :=
  let l := p.ledger
  let source := match l.source with
    | .none => 0
    | .ppsin => 1
    | .net => 2
  flag l.refJump 11 + flag l.refInvalid 10 + flag (timeValid p) 9 + flag l.sourcePresent 8 + flag l.slew.isSome 7 +
  flag l.rateLimit 6 + source * 2 ^ 4 + flag p.clocks.vcxo 3 + ledgerCode l.state

/-- LEDGER_COAST_TIME (R60, R67). -/
def coastTime (p : Piece) : Nat :=
  match coasting p, p.ledger.coastStart with
  | true, some s => (p.now - s) / ticksPerSecond
  | _, _ => 0

/-- The LEDGER window (R67). -/
def ledgerWindow (p : Piece) (off : Nat) : Nat :=
  let l := p.ledger
  tab (pair 0x000 p.now ++ pair 0x008 (labelFraction p.label) ++
    [(0x010, labelSeconds p.label), (0x014, ledgerStatus p), (0x018, l.epochCount)] ++
    pair 0x01C (twos 64 l.current.rho) ++ pair 0x024 (twos 64 l.lastDelta) ++
    [(0x02C, l.uncert), (0x030, coastTime p), (0x034, l.tuneCode)]) off

/-- The CLOCKS window (R67). -/
def clocksWindow (p : Piece) (off : Nat) : Nat :=
  let c := p.clocks
  tab [(0x000, clocksStatus p), (0x004, c.refinLossCount), (0x008, c.ppsinLossCount), (0x00C, c.lockWait),
       (0x010, c.tcodeErrors), (0x014, c.unlockCount)] off

/-- The RFIN windows (R87). -/
def rfinWindow (p : Piece) (i off : Nat) : Nat :=
  let r := p.rf i
  tab [(0x000, rfinStatus r), (0x004, low32 r.lastSeq), (0x008, r.overBlocks), (0x00C, r.handovers), (0x010, r.matchFail),
       (0x014, sliceMap p i), (0x018, r.front.toneN)] off

/-- The CHAN windows (R115). -/
def chanWindow (p : Piece) (i off : Nat) : Nat :=
  let c := p.chanOf i
  tab [(0x000, chanStatus p i), (0x004, c.xingCount), (0x008, c.suppressed), (0x00C, c.crowded), (0x010, c.satBlocks),
       (0x014, c.xing.hyst)] off +
  bank 0x020 16 8 off fun n =>
    let d := p.ddc i n
    pair 0x0 d.setting.ftw ++ [(0x8, ddcConfig d), (0xC, low32 d.lastSeq)]

/-- The XFORM windows (R144). -/
def xformWindow (p : Piece) (i off : Nat) : Nat :=
  let x := p.engine i
  tab [(0x000, xformStatus p i), (0x004, low32 x.lastSeq), (0x008, x.tainted), (0x00C, x.overFrames), (0x010, x.memErrors),
       (0x014, xformConfig x), (0x018, x.setting.every), (0x01C, x.setting.binFirst % 2 ^ 16), (0x020, x.setting.binCount % 2 ^ 17),
       (0x024, xformLoad p i), (0x028, (((x.custom.map (·.length)).bind tableLog).getD 0))] off +
  bank 0x040 8 4 off fun n => [(0x0, detectorConfig (p.detector i n)), (0x4, low32 (p.detector i n).lastSeq)]

/-- The DENSITY window (R164). -/
def densityWindow (p : Piece) (off : Nat) : Nat :=
  tab [(0x000, densityStatus p), (0x004, p.density.memErrors)] off +
  bank 0x040 0x20 4 off fun n =>
    let c := p.densityCh n
    [(0x00, densityConfig c), (0x04, twos 16 c.top * 2 ^ 16), (0x08, c.binLo), (0x0C, low32 c.items), (0x10, c.missedTotal),
     (0x14, c.rejected), (0x18, low32 c.rowSeq), (0x1C, c.rowsDropped)]

/-- The TRIGGER window (R197). -/
def triggerWindow (p : Piece) (off : Nat) : Nat :=
  let t := p.trigger
  tab [(0x000, triggerStatus p), (0x004, low32 t.eventSeq), (0x008, t.ringDropped), (0x00C, t.marksCrowded),
       (0x010, maskVersions p)] off +
  (bank 0x040 16 16 off fun n =>
    let c := p.cell n
    [(0x0, cellConfig c), (0x4, c.routes.acqMask), (0x8, c.fired), (0xC, c.dropped)]) +
  bank 0x140 8 4 off fun k => [(0x0, outConfig p k), (0x4, (nth t.outs k).merged)]

/-- The ACQ window (R224). -/
def acqWindow (p : Piece) (off : Nat) : Nat :=
  tab [(0x000, acqStatus p), (0x004, p.acq.panics)] off +
  bank 0x040 0x20 16 off fun n =>
    let a := p.acqOf n
    [(0x00, acqConfig a), (0x04, acqStateWord a), (0x08, a.finished.length), (0x0C, a.ignored), (0x10, a.late), (0x14, a.lost),
     (0x18, a.violCount), (0x1C, a.setting.m)]

/-- The STAMP windows (R254). -/
def stampWindow (p : Piece) (k off : Nat) : Nat :=
  let m := p.motif k
  tab [(0x000, stampStatus p k), (0x004, m.handoverCount), (0x008, m.unverified)] off +
  bank 0x040 0x20 4 off fun n =>
    let i := nth m.inputs n
    [(0x00, stampConfig i), (0x04, i.seq), (0x08, i.lostDt), (0x0C, i.overflow), (0x10, i.lostFault),
     (0x14, i.fifoHigh * 2 ^ 16 + i.fifo.length), (0x18, twos 32 i.setting.cableDelay), (0x1C, i.captured)]

/-- A word of the live mirror of the watched contexts (R312). -/
def watchWord (p : Piece) (off : Nat) : Nat :=
  match lookup p.tally.watch (off / 64) with
  | some index => u (indexBytes (slotSums p) p.tally.contexts index) (off % 64) 4
  | none => 0

/-- The gate in progress: the oldest that has not closed, for gate decisions follow the released order (R267); after a stop,
the last. -/
def gateInProgress (c : CountSlot) : Nat := (c.gates.head?.map (·.seq)).getD c.gateSeq

/-- The field of TALLY_SPEC_RATE: the committed rate in 1/1,024 of the limit; a rate that its eleven bits cannot hold reads as
the implementation leaves it (R307, R314; log entry 57). -/
def specRateField (p : Piece) : Nat :=
  let n := (specRate p * 1024 / specLimit).floor.toNat
  if n < 2 ^ 11 then n else (Config.specRateField n).toNat

/-- The TALLY window with its counter block (R294, R314). -/
def tallyWindow (p : Piece) (off : Nat) : Nat :=
  let t := p.tally
  tab ([(0x000, tallyStatus p), (0x004, tallyBound p), (0x008, specRateField p), (0x00C, t.memErrors),
        (0x010, t.specDropped), (0x014, t.postRejected), (0x018, t.snapSeq),
        (0x8000, maskOf 32 fun s => (p.slot s).state == .running), (0x8004, t.resultsLost), (0x8008, countRate p)]) off +
  (if 0x1000 ≤ off && off < 0x2000 then watchWord p (off - 0x1000) else 0) +
  (bank 0x2000 4 64 off fun w => match lookup t.watch w with
    | some index => [(0, 2 ^ 31 + index)]
    | none => []) +
  bank 0x8100 0x40 32 off fun n =>
    let c := p.slot n
    [(0x00, countConfig c), (0x04, countSources c), (0x08, low32 (gateInProgress c)), (0x0C, c.setting.statsN), (0x10, c.invalid),
     (0x14, c.merged), (0x18, c.lost), (0x1C, c.lastCause * 2 ^ 16 + c.lastFlags)] ++ pair 0x20 c.setting.gate

/-- The CALMGR window (R327). -/
def calWindow (p : Piece) (off : Nat) : Nat :=
  let c := p.cal
  tab ([(0x000, calStatus p)] ++ pair 0x004 c.lastFull ++
    [(0x00C, c.lastTemp), (0x010, c.fullCount), (0x014, c.sliceRotations), (0x018, c.rounds), (0x01C, c.overrun),
     (0x020, c.matchFail), (0x024, calPolicy c), (0x028, calOverrides c)]) off

/-- The GYTHEN windows (R351). -/
def gythenWindow (p : Piece) (inst off : Nat) : Nat :=
  tab [(0x000, gythenStatus p inst)] off +
  bank 0x040 0x20 4 off fun i =>
    let c := p.core (4 * inst + i)
    [(0x00, c.stateWord), (0x04, c.lastPc % 2 ^ 18), (0x08, c.faultAddr)] ++ pair 0x0C c.cycles ++
    [(0x14, c.posts), (0x18, c.denied), (0x1C, c.refused)]

/-- The code of a stream channel's state (R549). -/
def channelCode : ChannelState → Nat
  | .closed => 0
  | .idle => 1
  | .running => 2
  | .parked => 3
  | .halted => 4
  | .stopped => 5

/-- STREAM_CHn_STATE. -/
def streamState (c : StreamChannel) : Nat :=
  channelCode c.state * 2 ^ 29 + flag c.source 28 + flag c.vdifMode 27 + flag c.hallmark 26 + flag c.ring.staged.isSome 25 +
  flag c.extendPending 24 + c.alg % 8 * 2 ^ 21 + c.err % 4 * 2 ^ 16 + flag c.linkIssued 0

/-- The STREAM window (R549). -/
def streamWindow (p : Piece) (off : Nat) : Nat :=
  tab [(0x000, (p.stream.channels.filter (·.linkIssued)).length)] off +
  bank 0x100 0x20 64 off fun n =>
    let c := p.streamCh n
    [(0x00, streamState c)] ++ pair 0x08 c.desc ++ [(0x10, c.dropped), (0x14, c.refused)] ++ pair 0x18 c.bytes

/-- CHECK_Un_STATE; FIRMWARE shows while steward firmware runs its scans (R547, R550, R551). -/
def checkState (p : Piece) (x : CheckUnit) : Nat :=
  (if x.scanning then 1 else if x.scan.isSome then 2 else 0) * 2 ^ 30 + x.alg % 8 * 2 ^ 24 + flag x.compare 23 +
  flag x.hallmark 22 + flag (x.firmware && p.transport.state == .running) 21

/-- The CHECK window (R550). -/
def checkWindow (p : Piece) (off : Nat) : Nat :=
  bank 0x040 0x20 8 off fun n =>
    let x := nth p.check.units n
    [(0x00, checkState p x)] ++ pair 0x04 x.value ++ [(0x0C, x.mismatch), (0x10, x.passes)]

/-- The DMC window (R398). -/
def dmcWindow (p : Piece) (off : Nat) : Nat :=
  let d := p.dmc
  tab ([(0x000, dmcStatus p), (0x004, d.gibPerChannel * 2 ^ 8 + flag d.rdimm 3 + d.ranks), (0x008, d.ceCount),
        (0x00C, d.ueCount)] ++ pair 0x010 d.freezeAddr ++ pair 0x018 d.lastCeAddr ++
    [(0x020, d.panicCount), (0x024, d.panicActive), (0x028, d.refreshForced), (0x02C, d.neighbourRefresh),
     (0x030, d.actThreshold), (0x034, d.hostRefused)]) off

/-- The HOSTIF window (R397). -/
def hostifWindow (p : Piece) (off : Nat) : Nat :=
  let h := p.hostif
  tab [(0x000, hostifStatus h), (0x004, h.linkDownCount), (0x008, h.voidedCompletions), (0x00C, h.droppedWrites),
       (0x010, h.droppedReads), (0x014, h.requests.length), (0x018, capacity p.dmc / 2 ^ 28), (0x01C, h.bar2Refused)] off

/-- The NET window (R574). -/
def netWindow (p : Piece) (off : Nat) : Nat :=
  let n := p.net
  tab [(0x000, netState p), (0x004, n.rootNode * 2 ^ 16 + n.parent), (0x008, n.horizon), (0x00C, n.path), (0x010, n.nodes),
       (0x014, n.xtrigSent), (0x018, n.xtrigLate), (0x01C, n.xtrigCrc), (0x020, n.xtrigDropped), (0x024, n.summaries)] off +
  bank 0x040 0x10 4 off fun k =>
    let q := nth n.ports k
    [(0x0, q.peerNode * 2 ^ 16 + q.byte)] ++ pair 0x4 (twos 64 q.theta) ++ [(0xC, q.bad)]

/-- The SCANOUT window (R588). -/
def scanoutWindow (p : Piece) (off : Nat) : Nat :=
  let s := p.scan
  tab ([(0x000, scanoutStatus p)] ++ pair 0x004 s.frame ++ pair 0x00C s.flipMint ++ pair 0x014 (labelFraction s.flipLabel) ++
    [(0x01C, labelSeconds s.flipLabel), (0x020, low32 s.flipFrame), (0x024, s.underruns), (0x028, s.tiles)]) off +
  bank 0x040 0x20 4 off fun k =>
    let l := nth s.latched k
    [(0x00, layerConfig l)] ++ pair 0x04 l.base ++
    [(0x0C, l.y * 2 ^ 16 + l.x), (0x10, l.height * 2 ^ 16 + l.width), (0x14, l.stride)]

/-- The SAFETY window (R614). -/
def safetyWindow (p : Piece) (off : Nat) : Nat :=
  let s := p.safety
  tab [(0x000, safetyStatus s), (0x004, s.journalNext), (0x008, s.journalDropped), (0x00C, s.persistent.length),
       (0x010, s.transients), (0x014, s.retired), (0x018, s.dumpSeq), (0x01C, s.dumpsSuppressed), (0x020, s.selftests),
       (0x024, s.faultMask)] off

/-- The MONITOR window (R95). -/
def monitorWindow (p : Piece) (off : Nat) : Nat :=
  let m := p.monitor
  tab [(0x000, monitorStatus m), (0x004, m.frameCount), (0x008, m.urgentDropped), (0x00C, m.schedSkipped),
       (0x010, m.urgentDelayed)] off +
  bank 0x100 4 40 off fun n => [(0, monitorResult (nth m.results n))]

/-- The code of the steward's state (R413). -/
def stewardCode : StewardState → Nat
  | .boot => 0
  | .running => 1
  | .restarting => 2
  | .halted => 3

/-- The STEWARD window (R413). -/
def stewardWindow (p : Piece) (off : Nat) : Nat :=
  let t := p.transport
  tab [(0x000, stewardCode t.state), (0x004, t.fwVersion), (0x008, t.heartbeat), (0x00C, t.restarts), (0x010, t.cmdsDone),
       (0x014, inFlight p)] off

/-- A word of the window of a panel instance; MAILBOX holds none (R413), an instance that the piece has not reads zero
(R406). -/
def windowWord (p : Piece) (type inst off : Nat) : Nat :=
  if panelInstances type ≤ inst then 0
  else match type with
    | 0x01 => ledgerWindow p off
    | 0x02 => clocksWindow p off
    | 0x03 => rfinWindow p inst off
    | 0x04 => chanWindow p inst off
    | 0x05 => xformWindow p inst off
    | 0x06 => densityWindow p off
    | 0x07 => triggerWindow p off
    | 0x08 => acqWindow p off
    | 0x09 => stampWindow p inst off
    | 0x0B => tallyWindow p off
    | 0x0C => gythenWindow p inst off
    | 0x0D => streamWindow p off
    | 0x0E => checkWindow p off
    | 0x0F => dmcWindow p off
    | 0x10 => hostifWindow p off
    | 0x12 => netWindow p off
    | 0x13 => scanoutWindow p off
    | 0x14 => safetyWindow p off
    | 0x15 => monitorWindow p off
    | 0x16 => calWindow p off
    | 0x17 => stewardWindow p off
    | _ => 0

/-! ### The Pricking (R402 to R409) -/

/-- CONTEXTS_A, CONTEXTS_B, the number of CAPS bits, the first island and CLOCK_KHZ of a type (R17, R406, R409). -/
def typeFacts : Nat → Nat × Nat × Nat × Nat × Nat
  | 0x01 => (0, 0, 3, 0x00, 2560000)
  | 0x02 => (4, 64, 3, 0x00, 2560000)
  | 0x03 => (3, 0, 2, 0x10, 1280000)
  | 0x04 => (8, 256, 1, 0x10, 1280000)
  | 0x05 => (4, 17, 3, 0x18, 1280000)
  | 0x06 => (4, 1024, 2, 0x20, 1280000)
  | 0x07 => (16, 65536, 2, 0x20, 1280000)
  | 0x08 => (16, 65535, 3, 0x20, 1280000)
  | 0x09 => (4, 1, 1, 0x01, 2560000)
  | 0x0B => (1048576, 32, 5, 0x20, 1280000)
  | 0x0C => (4, 1024, 1, 0x28, 1600000)
  | 0x0D => (64, 4096, 1, 0x38, 1600000)
  | 0x0E => (8, 0, 5, 0x38, 1600000)
  | 0x0F => (4, 0, 1, 0x38, 1600000)
  | 0x10 => (16, 64, 3, 0x40, 1250000)
  | 0x11 => (16, 64, 1, 0x30, 1000000)
  | 0x12 => (4, 65536, 2, 0x48, 402830)
  | 0x13 => (2, 4, 1, 0x50, 0)
  | 0x14 => (4096, 4096, 1, 0x30, 1000000)
  | 0x15 => (40, 64, 1, 0x30, 1000000)
  | 0x16 => (0, 0, 1, 0x30, 1000000)
  | _ => (256, 4096, 1, 0x30, 1000000)

/-- CAPS of an instance: every listed bit, but PAIRED of RFIN on instances 0 and 2 only (R409). -/
def capsOf (t i : Nat) : Nat :=
  let n := (typeFacts t).2.2.1
  if t == 0x03 && i % 2 == 1 then 2 ^ n - 2 else 2 ^ n - 1

/-- The entry of a panel instance, 64 bytes (R405; log entry 18). -/
def prickingEntry (n t i : Nat) : Bytes :=
  let (a, b, _, island, khz) := typeFacts t
  leBytes 1 t ++ leBytes 1 i ++ leBytes 2 0x0100 ++ leBytes 4 (Config.windowOffset n) ++ leBytes 4 (Config.windowSize n) ++
  leBytes 1 (if t == 0x12 then island else island + i) ++ zeros 3 ++ leBytes 4 khz ++ leBytes 4 a ++ leBytes 4 b ++
  leBytes 16 (capsOf t i) ++ (List.range 10).map (Config.prickingRefs n) ++ zeros 10

/-- TOTAL_LEN (R404). -/
def prickingLen : Nat := 32 + 37 * 64

/-- The whole Pricking with its CRC (R404). -/
def prickingBytes : Bytes :=
  let head : Bytes := leBytes 4 0x4B435250 ++ leBytes 2 0x0001 ++ leBytes 2 64 ++ leBytes 4 37 ++ leBytes 4 prickingLen
  let rest : Bytes := zeros 12 ++ (panelEntries.mapIdx fun n (t, i) => prickingEntry n t i).flatten
  head ++ leBytes 4 (crc32c (head ++ zeros 4 ++ rest)) ++ rest

/-- A word of the Pricking region: zero until the Pricking is complete, and beyond TOTAL_LEN (R402, R403). -/
def prickingWord (p : Piece) (off : Nat) : Nat :=
  if p.boot.pricking && off < prickingLen then u prickingBytes off 4 else 0

/-! ### Fixed blocks (R634, R637 to R642) -/

/-- The code of a bring-up phase (R619). -/
def phaseCode : Phase → Nat
  | .boot => 0
  | .memory => 1
  | .waitRef => 2
  | .synth => 3
  | .calibrate => 4
  | .ready => 5
  | .halted => 6

/-- PIECE_STATUS (R637). -/
def pieceStatus (p : Piece) : Nat :=
  flag p.safety.safeState 15 + flag p.safety.dump.isSome 14 + flag p.boot.pricking 13 + flag p.boot.ready 7 + phaseCode p.boot.phase

/-- PIECE_PANEL_RESET (R617). -/
def panelResetWord (r : Regs) : Nat :=
  flag r.resetBusy 31 + r.resetStatus % 128 * 2 ^ 24 + r.resetSession % 256 * 2 ^ 16 + r.resetInst % 256 * 2 ^ 8 +
  r.resetType % 256

/-- The identity block (R400). -/
def identityWord (p : Piece) (off : Nat) : Nat :=
  tab [(0x0000, pieceId), (0x0004, pieceRev), (0x0008, 0x00100000), (0x000C, if p.boot.pricking then prickingLen else 0),
       (0x0010, pieceStatus p)] off

/-- SAFE_OUTPUTS: the levels as driven (R639). -/
def safeOutputs (p : Piece) : Nat :=
  flag p.boot.ready 5 + flag p.safety.safeState 4 + flag (faultN p) 3 + flag (safeStateN p) 2 + flag (freqValid p) 1 +
  flag (timeValid p) 0

/-- The safety status block (R639). -/
def safetyBlock (p : Piece) (off : Nat) : Nat :=
  tab [(0x000, safeOutputs p), (0x004, alarmGroups p), (0x008, p.safety.firsts),
       (0x00C, p.dmc.actThreshold % 2 ^ 14 * 2 ^ 16 + p.safety.faultMask % 2 ^ 16)] off

/-- The registers of an alarm entry (R640). -/
def alarmRegs (a : AlarmEntry) : List (Nat × Nat) :=
  [(0x00, flag a.latched 31 + a.count)] ++ pair 0x08 a.firstMint ++ pair 0x10 (labelFraction a.firstLabel) ++
  [(0x18, labelSeconds a.firstLabel)] ++ pair 0x20 a.lastMint ++ pair 0x28 (labelFraction a.lastLabel) ++
  [(0x30, labelSeconds a.lastLabel)]

/-- The alarm code of an offset within the alarm entries (R640). -/
def alarmCode (off : Nat) : Nat := off / 0x200 * 256 + off % 0x200 / 0x40

/-- A word of the alarm entries; an offset of no catalogued code reads zero (R640). -/
def alarmWord (p : Piece) (off : Nat) : Nat :=
  match p.safety.alarms.find? (·.code == alarmCode off) with
  | some a => tab (alarmRegs a) (off % 0x40)
  | none => 0

/-- A word of a function's MSI-X region (R638). -/
def msixWord (table : List MsixEntry) (off : Nat) : Nat :=
  if off < 0x400 then
    let e := nth table (off / 16)
    tab [(0x0, e.addrLo), (0x4, e.addrHi), (0x8, e.data), (0xC, flag e.mask 0)] (off % 16)
  else tab (pair 0x400 (maskOf 64 fun v => (nth table v).pending)) off

/-- MBX_STATUS (R428). -/
def mbxStatus (p : Piece) (ch : Nat) : Nat :=
  let c := p.channel ch
  c.outq.length % 128 * 2 ^ 24 + c.inq.length % 128 * 2 ^ 16 + c.staleCount % 128 * 2 ^ 8 + flag (owner p ch == .mgmt) 6 +
  flag c.rejectedBit 5 + flag c.fullRefused 4 + flag c.voided 3 + flag c.timeout 2 + flag c.peerResetSeen 1

/-- The words captured for a requester by its last take (R421). -/
def capturedWord (c : Channel) (requester i : Nat) : Nat :=
  match c.captures.find? (·.requester == requester) with
  | some x => nth x.words i
  | none => 0

/-- A word of a channel block but for the take at 0x20 (R421, R428). -/
def mbxWord (p : Piece) (r : Requester) (ch off : Nat) : Nat :=
  let c := p.channel ch
  tab [(0x10, mbxStatus p ch), (0x14, c.timeoutRx * 2 ^ 16 + c.timeoutTx), (0x18, p.epoch .steward * 256 + p.epoch r),
       (0x1C, c.voidCount), (0x24, capturedWord c r.number 0), (0x28, capturedWord c r.number 1),
       (0x2C, capturedWord c r.number 2), (0x30, c.timeoutCount), (0x34, c.fullCount), (0x38, c.rejected)] off

/-- LOCK_HELD and the counters behind the lock words (R431). -/
def lockRegs (p : Piece) (off : Nat) : Nat :=
  let t := p.transport
  tab (pair 0x100 (maskOf 64 fun i => nth t.locks i != 0) ++ [(0x108, t.badRelease), (0x10C, t.forcedRelease)]) off

/-- A word of function 0's fixed blocks (R634). -/
def fixed0Word (p : Piece) (r : Requester) (off : Nat) : Nat :=
  if off < 0x14 then identityWord p off
  else if off == 0x14 then panelResetWord p.regs
  else if 0x1000 ≤ off && off < 0x2000 then mbxWord p r ((off - 0x1000) / 0x100) (off % 0x100)
  else if 0x8000 ≤ off && off < 0x8408 then msixWord p.regs.msix0 (off - 0x8000)
  else if 0x10100 ≤ off && off < 0x10110 then lockRegs p (off - 0x10000)
  else if 0x20000 ≤ off && off < 0x20014 then safetyBlock p (off - 0x20000)
  else if 0x21000 ≤ off && off < 0x23000 then alarmWord p (off - 0x21000)
  else if 0x100000 ≤ off && off < 0x200000 then prickingWord p (off - 0x100000)
  else 0

/-- A word of function 1's blocks (R642). -/
def fixed1Word (p : Piece) (r : Requester) (off : Nat) : Nat :=
  if off < 0x14 then identityWord p off
  else if 0x1000 ≤ off && off < 0x1400 then mbxWord p r (16 + (off - 0x1000) / 0x100) (off % 0x100)
  else if 0x4000 ≤ off && off < 0x4014 then safetyBlock p (off - 0x4000)
  else if 0x5000 ≤ off && off < 0x7000 then alarmWord p (off - 0x5000)
  else if 0x8000 ≤ off && off < 0x8408 then if r == .mgmt then 0 else msixWord p.regs.msix1 (off - 0x8000)
  else 0

/-- The live value of a register as a requester reads it. -/
def liveWord (p : Piece) (r : Requester) : RegLoc → Nat
  | .fixed0 off => fixed0Word p r off
  | .fixed1 off => fixed1Word p r off
  | .window t i off => windowWord p t i off

end Sys2Proof.Machine
end

