-- ==== Sys2Proof/Machine/RegFam.lean ====
section
/-! DEFINITION. Register accesses: reads with their shadows (27 R635, R636), writes (R10, R417, R617, R638, R641), the management
port (R643, R644), the event records that leave for the rings (20 R495), the dump as written (24 R610, R611). -/

namespace Sys2Proof.Machine

/-- Changes the directly addressed registers. -/
def onRegs (f : Regs → Regs) (p : Piece) : Piece := { p with regs := f p.regs }

/-! ### Reads (R635, R636) -/

/-- The words that the read of a low word captures, in a window (R635 with the chapters' registers). -/
def windowCaptures (type off : Nat) : List Nat :=
  let banked (base stride count at_ : Nat) : List Nat :=
    if base ≤ off && off < base + stride * count && (off - base) % stride == at_ then [off + 4] else []
  match type with
  | 0x01 => (lookup [(0x000, [0x004]), (0x008, [0x00C, 0x010]), (0x01C, [0x020]), (0x024, [0x028])] off).getD []
  | 0x04 => banked 0x020 16 8 0x0
  | 0x0B => (if 0x1000 ≤ off && off < 0x2000 && off % 8 == 0 then [off + 4] else []) ++ banked 0x8100 0x40 32 0x20
  | 0x0C => banked 0x040 0x20 4 0x0C
  | 0x0D => banked 0x100 0x20 64 0x08 ++ banked 0x100 0x20 64 0x18
  | 0x0E => banked 0x040 0x20 8 0x04
  | 0x0F => (lookup [(0x010, [0x014]), (0x018, [0x01C])] off).getD []
  | 0x12 => banked 0x040 0x10 4 0x4
  | 0x13 => (lookup [(0x004, [0x008]), (0x00C, [0x010]), (0x014, [0x018, 0x01C, 0x020])] off).getD [] ++ banked 0x040 0x20 4 0x04
  | 0x16 => if off == 0x004 then [0x008] else []
  | _ => []

/-- The same in an alarm entry (R640). -/
def alarmCaptures (off : Nat) : List Nat :=
  let at_ := off % 0x40
  if at_ == 0x08 || at_ == 0x20 then [off + 4] else if at_ == 0x10 || at_ == 0x28 then [off + 4, off + 8] else []

/-- The words that the read of a register captures; none where it is no low word of a pair (R635). -/
def captures : RegLoc → List RegLoc
  | .fixed0 off =>
    if 0x21000 ≤ off && off < 0x23000 then (alarmCaptures (off - 0x21000)).map fun o => .fixed0 (0x21000 + o)
    else if off == 0x10100 then [.fixed0 0x10104] else []
  | .fixed1 off => if 0x5000 ≤ off && off < 0x7000 then (alarmCaptures (off - 0x5000)).map fun o => .fixed1 (0x5000 + o) else []
  | .window t i off => (windowCaptures t off).map fun o => .window t i o

/-- The register one word above. -/
def nextWord : RegLoc → RegLoc
  | .fixed0 off => .fixed0 (off + 4)
  | .fixed1 off => .fixed1 (off + 4)
  | .window t i off => .window t i (off + 4)

/-- The offset of a register. -/
def regOffset : RegLoc → Nat
  | .fixed0 off => off
  | .fixed1 off => off
  | .window _ _ off => off

/-- A requester reaches a register: host function 0 its BAR0, host function 1 and the management port the function 1 map, both
functions over the link; the steward every register; the Net-remote steward the lock bank (R414, R429, R634, R642, R643). -/
def reaches (p : Piece) (r : Requester) (loc : RegLoc) : Bool :=
  p.boot.released &&
  match r, loc with
  | .host0, .fixed0 _ => p.hostif.linkUp
  | .host0, .window .. => p.hostif.linkUp
  | .host1, .fixed1 _ => p.hostif.linkUp
  | .mgmt, .fixed1 _ => true
  | .steward, _ => true
  | .netRemote, .fixed0 off => decide (0x10000 ≤ off) && decide (off < 0x10110)
  | _, _ => false

/-- The shadow of a register for a requester. -/
def shadowOf (p : Piece) (r : Requester) (loc : RegLoc) : Option Nat :=
  (p.regs.shadows.find? fun s => s.requester == r.number && s.loc == loc).map (·.value)

/-- Drops a requester's shadows of some registers. -/
def dropShadows (r : Requester) (locs : List RegLoc) (p : Piece) : Piece :=
  onRegs (fun g => { g with shadows := g.shadows.filter fun s => !(s.requester == r.number && locs.contains s.loc) }) p

/-- Captures registers as they stand for a requester. -/
def capture (r : Requester) (locs : List RegLoc) (p : Piece) : Piece :=
  onRegs (fun g => { g with shadows := locs.map (fun l => { requester := r.number, loc := l, value := liveWord p r l }) ++ g.shadows })
    (dropShadows r locs p)

/-- A 32-bit read of a plain register: a low word captures the words above it; a captured word gives its shadow and clears it;
any other gives the live value (R635). -/
def readWord (r : Requester) (loc : RegLoc) (p : Piece) : Piece × Nat :=
  match captures loc with
  | [] =>
    match shadowOf p r loc with
    | some v => (dropShadows r [loc] p, v)
    | none => (p, liveWord p r loc)
  | ls => (capture r ls p, liveWord p r loc)

/-- A 64-bit read: of a pair it is atomic and leaves no shadow; of any other two words it reads both (R635). -/
def readPair (r : Requester) (loc : RegLoc) (p : Piece) : Piece × List Nat :=
  match captures loc with
  | [] =>
    let (p, lo) := readWord r loc p
    let (p, hi) := readWord r (nextWord loc) p
    (p, [lo, hi])
  | _ => (dropShadows r [(nextWord loc)] p, [liveWord p r loc, liveWord p r (nextWord loc)])

/-- The channel and offset of a register of a channel block (R414, R428). -/
def mbxAt : RegLoc → Option (Nat × Nat)
  | .fixed0 off => if 0x1000 ≤ off && off < 0x2000 then some ((off - 0x1000) / 0x100, off % 0x100) else none
  | .fixed1 off => if 0x1000 ≤ off && off < 0x1400 then some (16 + (off - 0x1000) / 0x100, off % 0x100) else none
  | .window .. => none

/-- The lock of a lock word (R429). -/
def lockAt : RegLoc → Option Nat
  | .fixed0 off => if 0x10000 ≤ off && off < 0x10100 then some ((off - 0x10000) / 4) else none
  | _ => none

/-- Where a location lies: a BAR0 offset of the windows' range is the window that the Pricking puts there (R11, R405, R406). -/
def resolve : RegLoc → RegLoc
  | .fixed0 off =>
    if 0x400000 ≤ off && off < 0x1000000 then
      match (List.range 37).find? fun n =>
        decide (Config.windowOffset n ≤ off) && decide (off < Config.windowOffset n + Config.windowSize n) with
      | some n => .window (nth panelEntries n).1 (nth panelEntries n).2 (off - Config.windowOffset n)
      | none => .fixed0 off
    else .fixed0 off
  | l => l

/-- Any read of a register: a take of a notice, an acquisition of a lock, or a plain read (R421, R430, R635). -/
def readReg (r : Requester) (loc : RegLoc) (wide : Bool) (p : Piece) : Piece × List Nat :=
  match mbxAt loc, lockAt loc with
  | some (ch, 0x20), _ => takeInbound r ch wide p
  | _, some lock => if locks? r then readLock r lock wide 0 p else (p, [0])
  | _, _ =>
    if wide then readPair r loc p
    else
      let (p, v) := readWord r loc p
      (p, [v])

/-- A register access over a bus lies on a word, or on a pair (R7). -/
def aligned (loc : RegLoc) (wide : Bool) : Bool := regOffset loc % (if wide then 8 else 4) == 0

/-- A read that a requester makes, with the value it returns. -/
def readBy (r : Requester) (loc : RegLoc) (wide : Bool) (p : Piece) : Piece :=
  let l := resolve loc
  when (reaches p r l && aligned loc wide) (fun p =>
    let (p, ws) := readReg r l wide p
    emit (.readValue r.number ws) p) p

/-- RSC_LOW_READ (R635). -/
def execRscLowRead (requester : Requester) (loc : RegLoc) (wide : Bool) : State → Out := effect (readBy requester loc wide)

/-- SHADOW_READ (R635). -/
def execShadowRead (requester : Requester) (loc : RegLoc) : State → Out := effect (readBy requester loc false)

/-! ### Writes -/

/-- Changes one entry of a function's MSI-X table. -/
def onMsix (fn v : Nat) (f : MsixEntry → MsixEntry) (p : Piece) : Piece :=
  onRegs (fun g => if fn == 0 then { g with msix0 := upd g.msix0 v f } else { g with msix1 := upd g.msix1 v f }) p

/-- A write of MSIX_CTRL: MASK changes; an unmask sends a vector that is pending (R638). -/
def writeMsixCtrl (fn v value : Nat) (p : Piece) : Piece :=
  let e := nth (if fn == 0 then p.regs.msix0 else p.regs.msix1) v
  let mask := bitAt value 0
  let p := onMsix fn v (fun e => { e with mask := mask, pending := e.pending && mask }) p
  when (e.pending && !mask) (raiseVector fn v) p

/-- A write into a function's MSI-X region; the pending bits are read-only (R638). -/
def writeMsix (fn off value : Nat) (p : Piece) : Piece :=
  if 0x400 ≤ off then p
  else match off % 16 with
    | 0x0 => onMsix fn (off / 16) (fun e => { e with addrLo := value / 4 * 4 }) p
    | 0x4 => onMsix fn (off / 16) (fun e => { e with addrHi := value }) p
    | 0x8 => onMsix fn (off / 16) (fun e => { e with data := value }) p
    | 0xC => writeMsixCtrl fn (off / 16) value p
    | _ => p

/-- Alarms are cleared by function 1 and by the management port (R603, R641). -/
def clears (p : Piece) (r : Requester) : Bool := (r == .host1 && p.hostif.linkUp) || (r == .mgmt && p.boot.released)

/-- Clears the alarm entries that a test picks, with their counts and times (R641). -/
def clearAlarms (pick : Nat → Bool) (p : Piece) : Piece :=
  onSafety (fun s => { s with alarms := s.alarms.map fun a => if pick a.code then { code := a.code } else a }) p

/-- A write of ALARM_STATUS: a 1 at LATCHED clears the entry (R603, R641). -/
def writeAlarm (r : Requester) (code value : Nat) (p : Piece) : Piece :=
  when (clears p r && bitAt value 31) (clearAlarms (· == code)) p

/-- A write of SAFE_GROUP_CLEAR (R641). -/
def writeGroupClear (r : Requester) (value : Nat) (p : Piece) : Piece :=
  when (clears p r) (clearAlarms fun c => decide (c / 256 < 16) && bitAt value (c / 256)) p

/-- A write of PIECE_PANEL_RESET: ignored while BUSY, else the request is recorded and BUSY set (R617). -/
def writePanelReset (value : Nat) (p : Piece) : Piece :=
  when (!p.regs.resetBusy) (onRegs fun g =>
    { g with resetBusy := true, resetSession := field value 16 8, resetInst := field value 8 8, resetType := field value 0 8 }) p

/-- A write into a channel block (R418, R424, R428). -/
def writeMbx (r : Requester) (ch off value : Nat) (p : Piece) : Piece :=
  match off with
  | 0x00 | 0x04 | 0x08 => mbxWrite r ch (onChannel ch fun c => { c with staging := put c.staging (off / 4) value }) p
  | 0x0C => ringDoorbell r ch value p
  | 0x10 => clearMbxStatus r ch value p
  | 0x14 => mbxWrite r ch (onChannel ch fun c => { c with timeoutTx := value % 65536, timeoutRx := value / 65536 }) p
  | _ => p

/-- Any write of a register; a read-only or reserved location ignores it (R10, R406, R634, R642). -/
def writeReg (r : Requester) (loc : RegLoc) (value : Nat) (p : Piece) : Piece :=
  match mbxAt loc, lockAt loc with
  | some (ch, off), _ => writeMbx r ch off value p
  | _, some lock => when (locks? r) (writeLock r lock value false) p
  | _, _ =>
    match loc with
    | .fixed0 off =>
      if off == 0x14 then writePanelReset value p
      else if 0x8000 ≤ off && off < 0x8408 then writeMsix 0 (off - 0x8000) value p
      else p
    | .fixed1 off =>
      if off == 0x4010 then writeGroupClear r value p
      else if 0x5000 ≤ off && off < 0x7000 && off % 0x40 == 0 then writeAlarm r (alarmCode (off - 0x5000)) value p
      else if 0x8000 ≤ off && off < 0x8408 then if r == .mgmt then p else writeMsix 1 (off - 0x8000) value p
      else p
    | .window t i off =>
      when (t == 0x0D && i == 0 && decide (0x100 ≤ off) && decide (off < 0x900) && (off - 0x100) % 0x20 == 0x04)
        (extendChain ((off - 0x100) / 0x20)) p

/-- A 64-bit write writes the low word and then the high one, so that one to MBX_NOTICE_HI rings the doorbell with what it
staged (R7, R418); on a lock word it is the 64-bit access of R430. -/
def writeWide (r : Requester) (loc : RegLoc) (value : Nat) (p : Piece) : Piece :=
  match lockAt loc with
  | some lock => when (locks? r) (writeLock r lock value true) p
  | none => writeReg r (nextWord loc) (value / 2 ^ 32) (writeReg r loc (value % 2 ^ 32) p)

/-- REGISTER_WRITE (R7, R10). -/
def execRegisterWrite (requester : Requester) (loc : RegLoc) (value : BitVec 64) (s : State) (wide : Bool := false) : Out :=
  effect (fun p =>
    let l := resolve loc
    when (reaches p requester l && aligned loc wide)
      (if wide then writeWide requester l value.toNat else writeReg requester l (value.toNat % 2 ^ 32)) p) s

/-- PIECE_PANEL_RESET_WRITE, by host function 0 (R617). -/
def execPiecePanelResetWrite (value : Word) : State → Out := effect fun p =>
  when (reaches p .host0 (.fixed0 0x14)) (writePanelReset value.toNat) p

/-- MSIX_CTRL_WRITE, by the function (R638). -/
def execMsixCtrlWrite (function : Fin 2) (vector : Fin 64) (value : Word) : State → Out := effect fun p =>
  when p.hostif.linkUp (writeMsixCtrl function vector value.toNat) p

/-- ALARM_ENTRY_CLEAR (R641). -/
def execAlarmEntryClear (requester : Requester) (code : Nat) (value : Word) : State → Out :=
  effect (writeAlarm requester code value.toNat)

/-- SAFE_GROUP_CLEAR (R641). -/
def execSafeGroupClear (requester : Requester) (value : Word) : State → Out := effect (writeGroupClear requester value.toNat)

/-! ### Management port (R643, R644) -/

/-- An offset that the management port serves: a word below 0x10_0000. -/
def mgmtOffset (offset : Nat) : Bool := offset % 4 == 0 && decide (offset < 0x100000)

/-- MGMT_READ_WORD: with a wrong packet error code it is not acknowledged; a faulty read returns zero. -/
def execMgmtReadWord (offset count : Nat) (pecOk : Bool) : State → Out := effect fun p =>
  if !p.boot.released then p
  else if !pecOk then emit .mgmtNoAck p
  else if mgmtOffset offset && count == 4 then
    let (p, ws) := readReg .mgmt (.fixed1 offset) false p
    emit (.mgmtWord (nth ws 0)) p
  else emit (.mgmtWord 0) p

/-- MGMT_WRITE_WORD: with a wrong packet error code it is not acknowledged; a faulty write does nothing. -/
def execMgmtWriteWord (offset count : Nat) (value : Word) (pecOk : Bool) : State → Out := effect fun p =>
  if !p.boot.released then p
  else if !pecOk then emit .mgmtNoAck p
  else when (mgmtOffset offset && count == 8) (writeReg .mgmt (.fixed1 offset) value.toNat) p

/-- MGMT_UNKNOWN_COMMAND: a command code other than 0x10 and 0x11 is not acknowledged (R644). -/
def execMgmtUnknownCommand (code : Byte) : State → Out := effect fun p =>
  when (p.boot.released && code != 0x10 && code != 0x11) (emit .mgmtNoAck) p

/-! ### Event records (R495 to R497) -/

/-- The panel's own count of a record that a full ring dropped: the counter slot's, or the trigger panel's (R193, R289, R497). -/
def countRecordDrop (e : EventRecord) (p : Piece) : Piece :=
  match e.kind with
  | 0x02 => onTrigger (fun t => { t with ringDropped := sat32 t.ringDropped 1 }) p
  | 0x04 => countLost (u e.body 0 1) p
  | _ => p

/-- EVENT_RECORD_WRITE: the oldest raised record goes to the ring of the session that claims its panel; with none it is voided
and counted (R495). -/
def execEventRecordWrite (consumer : Answer) : State → Out := effect fun p =>
  match p.transport.raised with
  | [] => p
  | e :: rest =>
    let p := { p with transport := { p.transport with raised := rest } }
    match claimHolder p e.panelType e.inst with
    | some id => enterEvent id e (countRecordDrop e) (rereadEvent id consumer p)
    | none => countVoided p

/-! ### The dump (R610, R611) -/

/-- The words of a window from its start, as far as the Pricking gives its size. -/
def windowBytes (p : Piece) (n t i : Nat) : Bytes :=
  (List.range (Config.windowSize n / 4)).flatMap fun k => leBytes 4 (windowWord p t i (4 * k))

/-- The state of a command in flight in the dump; the spec gives no codes (log entry 42). -/
def flightCode (f : Flight) : Nat :=
  match f.progress with
  | .notStarted => 0
  | .waiting .. => 1
  | .held _ => 2

/-- The sections of a dump with their types (R611; log entry 42). -/
def dumpSections (p : Piece) (d : DumpPending) : List (Nat × Bytes) :=
  let windows := (panelEntries.mapIdx fun n (t, i) =>
    leBytes 1 t ++ leBytes 1 i ++ zeros 2 ++ leBytes 4 (Config.windowSize n) ++ windowBytes p n t i).flatten
  let flight (f : Flight) : Bytes :=
    leBytes 2 f.session ++ leBytes 2 f.tag ++ leBytes 2 f.opcode ++ leBytes 1 f.channel ++ leBytes 1 (flightCode f) ++ zeros 8
  let word (t : Nat) (off : Nat) : Bytes := leBytes 4 (windowWord p t 0 off)
  [ (1, (List.range 0x800).flatMap fun k => leBytes 4 (alarmWord p (4 * k))),
    (2, (heldEntries p.safety).flatMap (·.bytes)),
    (3, p.safety.persistent.flatMap (·.bytes)),
    (4, windows),
    (5, p.transport.flights.flatMap flight),
    (6, (List.range 14).flatMap fun k => word 0x0F (4 * k)),
    (7, Config.firmwareTrace d.mint) ]

/-- A directory entry (R611). -/
def directoryEntry (type offset : Nat) (bs : Bytes) : Bytes :=
  leBytes 2 type ++ zeros 2 ++ leBytes 4 offset ++ leBytes 4 bs.length ++ leBytes 4 (crc32c bs)

/-- The directory of sections that lie one behind the other from an offset. -/
def directory : Nat → List (Nat × Bytes) → Bytes
  | _, [] => []
  | off, (t, bs) :: rest => directoryEntry t off bs ++ directory (off + bs.length) rest

/-- The dump of 64-byte header, directory and sections (R611). -/
def dumpBytes (p : Piece) (d : DumpPending) (seq : Nat) : Bytes :=
  let sections := dumpSections p d
  let start := 64 + 16 * sections.length
  let body := directory start sections ++ sections.flatMap (·.2)
  let head : Bytes := leBytes 4 0x504D5544 ++ leBytes 2 1 ++ leBytes 1 d.cause ++ leBytes 1 sections.length ++ leBytes 4 seq ++
    leBytes 4 (64 + body.length) ++ leBytes 8 d.mint ++ labelBytes d.label ++ leBytes 2 pieceRev ++
    leBytes 4 p.transport.fwVersion ++ leBytes 2 d.code ++ zeros 6
  head ++ leBytes 4 (crc32c (head ++ zeros 16 ++ body)) ++ zeros 12 ++ body

/-- DUMP_WRITTEN: the dump stands in the strongroom, a journal entry follows it; the dump of a freeze is copied to the host
region (R395, R610, R612). -/
def execDumpWritten : State → Out := effect fun p =>
  match p.safety.dumpPending with
  | none => p
  | some d => when (p.transport.state == .running) (fun p =>
      let seq := wrap32 p.safety.dumpSeq 1
      let bs := dumpBytes p d seq
      let p := onSafety (fun s => { s with
        dumpPending := none, dumpSeq := seq
        dump := some { cause := d.cause, mint := d.mint, label := d.label, code := d.code, bytes := bs } }) p
      let p := writeJournal { code := 0x1005, panelType := 0x17, detail := leBytes 4 seq } p
      when (d.cause == 1 && decide (bs.length ≤ p.safety.regionLen) && p.hostif.linkUp)
        (emit (.hostWrite p.safety.regionAddr bs)) p) p

end Sys2Proof.Machine
end

