-- ==== Sys2Proof/Machine/PanelFam.lean ====
section
/-! DEFINITION. Resets of single panels (25 R617, with the reset rule of each panel's chapter); what R617 and the chapters leave
open of them is in log entry 43. -/

namespace Sys2Proof.Machine

/-! ### Time and clocks (R59, R68) -/

/-- What sources 22 and 23 have issued gets its labels and flags before the Ledger is reset (R68). -/
def labelIssued (p : Piece) : Piece :=
  [22, 23].foldl (fun p source =>
    let (rs, p) := (nth p.fabric.aux (source - 16)).waiting.foldl (fun (rs, p) r =>
      if r.labelled then (rs ++ [r], p)
      else let (s, p) := labelStamp r.stamp p; (rs ++ [{ r with stamp := s, labelled := true }], p)) ([], p)
    onAux source (fun a => { a with waiting := rs }) p) p

/-- The Ledger from a tick on, UNSET: L(M) = M × τ₀ (R58). Moments before the tick keep the mapping then in force (R54). -/
def unsetLedger (m : Nat) (coasting : Bool) (l : Ledger) : Ledger :=
  { current := { m0 := m, l0 := T16.ofTick m * 2 ^ 64 }, previous := l.current, older := l.previous :: l.older
    changedAt := some m, rateSum := rateIntegral l (T16.ofTick m)
    lastCoast := if coasting then (l.coastStart.getD m, m) else l.lastCoast }

/-- The Ledger is UNSET again, with PPSOUT and TCODE_OUT idle; its change of state raises a LEDGER record (R58, R59, R68). -/
def resetLedger (p : Piece) : Piece :=
  let p := labelIssued p
  let fresh := unsetLedger p.now (coasting p) p.ledger
  let p := setLedgerState .unset 0 (onLedger (fun l => { fresh with state := l.state }) p)
  onLedger (fun _ => fresh) (onClocks (fun c =>
    { c with ppsout := { c.ppsout with level := false, running := false }, timecode := { c.timecode with running := false } }) p)

/-- The stamp sources of CLOCKS: 20 and 21, disabled, their records dropped, the slots that measure them stopped (R68, R280). -/
def resetClockSources (p : Piece) : Piece :=
  let stop (n : Nat) (p : Piece) : Piece :=
    let c := p.slot n
    when (c.counting && (c.measures 20 || c.measures 21)) (closeAtEnd n p.now 3 6) p
  let p := (List.range 32).foldl (fun p n => stop n p) p
  onAux 20 (fun _ => {}) (onAux 21 (fun _ => {}) p)

/-- The span that is open from a moment on while active slices have a detected fault (R80). -/
def openFaults (t : T16) (r : Rfin) : List Span :=
  if r.faulted.isEmpty then [] else [{ start := t, stop := none, reason := 6 }]

/-- The input's converters are IDLE again; changes that wait for one of their blocks take effect at once (R72, R88). -/
def idleConverter (i : Nat) (p : Piece) : Piece :=
  let p := onRfin i (fun r => { r with
    conv := .idle, start := 0, rotation := none, rotated := none, frontSeq := none
    faulted := r.faulted.map fun x => (x.1, 0), spans := openFaults 0 r
    seq := ((r.changes.getLast?).map (·.seq)).getD r.seq }) p
  applyFront i (p.rf i).changes.length p

/-- What waits for a tick of the Mint that has ended applies at the first chance. -/
def fromZero {α : Type} (l : List (α × Nat)) : List (α × Nat) := l.map fun x => (x.1, 0)

/-- A change of a DDC that waits for a tick, or for a block of its own. -/
def DdcChange.fromZero : DdcChange → DdcChange
  | .enable s _ => .enable s 0
  | .tune ftw _ => .tune ftw 0
  | .shape s n => .shape s n
  | .disable n => .disable n

/-- The model's own notes of Mint ticks start again with the Mint (log entry 43). -/
def rebaseTicks (p : Piece) : Piece :=
  let queue (l : List FifoRecord) : List FifoRecord := l.map fun r => { r with entered := 0 }
  let input (i : StampInput) : StampInput :=
    { i with blankUntil := none, lastCapture := none, pending := fromZero i.pending, fifo := queue i.fifo }
  let detector (d : Detector) : Detector := { d with next := fromZero d.next }
  { p with
    fabric := { p.fabric with
      permits := List.replicate 24 0, granted := (0, 0), rawNext := p.fabric.rawNext.map fun x => (x.1, x.2.1, 0)
      aux := p.fabric.aux.map fun a => { a with pending := fromZero a.pending, waiting := queue a.waiting } }
    xform := p.xform.map fun x => { x with next := fromZero x.next, detectors := x.detectors.map detector }
    monitor := { p.monitor with slotBegan := 0 }
    safety := { p.safety with recent := [], lockstepLog := [], transientLog := [], tapBadUntil := 0
                              incident := p.safety.incident.map fun i => { i with began := 0 } }
    cal := { p.cal with began := 0, roundBegan := p.cal.roundBegan.map fun t => t.map fun _ => 0 }
    stamp := p.stamp.map fun m => { m with roleBegan := 0, inputs := m.inputs.map input }
    chan := p.chan.map fun c =>
      { c with lastCrossing := none, routes := c.routes.map fun x => (x.1, x.2.1, 0)
               ddcs := c.ddcs.map fun d => { d with changes := d.changes.map DdcChange.fromZero } }
    tally := { p.tally with issuedAt := none }
    trigger := { p.trigger with
      issuedAt := none, cells := p.trigger.cells.map fun c => { c with since := 0, next := fromZero c.next }
      express := p.trigger.express.map fun x => { x with edges := [], pending := [] } }
    gythen := { p.gythen with idleSince := p.gythen.idleSince.map fun _ => 0 }
    check := { p.check with units := p.check.units.map fun c => { c with due := 0 } }
    net := { p.net with epochTick := none, table := p.net.table.map fun s => { s with lastSent := none }
                        joinSince := p.net.joinSince.map fun _ => 0, leaveSince := p.net.leaveSince.map fun _ => 0
                        reparentSince := p.net.reparentSince.map fun _ => 0 }
    transport := { p.transport with channels := p.transport.channels.map fun c =>
      { c with outq := c.outq.map fun q => { q with entered := 0 }, inq := c.inq.map fun q => { q with entered := 0 } } } }

/-- Bring-up that is past WAIT_REF waits for REFIN again (R619, R620). -/
def backToWaitRef (p : Piece) : Piece :=
  when (p.boot.phase == .synth || p.boot.phase == .calibrate) (setPhase .waitRef) p

/-- CLOCKS: the synthesizer is OFF, the Mint does not count and stands at zero, the Ledger is UNSET (R68). -/
def resetClocks (p : Piece) : Piece :=
  let p := resetLedger (resetClockSources p)
  let p := trackFreq (onClocks fun _ => {}) (onLedger (fun _ => {}) p)
  backToWaitRef (rebaseTicks ((List.range 4).foldl (fun p i => idleConverter i p) p))

/-! ### The RF path -/

/-- RFIN: the front end at its reset values, unpaired; what is retired and the trims stay; with the synthesizer LOCKED the
converters start at once (R85, R88). -/
def resetRfin (i : Nat) (p : Piece) : Piece :=
  let p := when (p.rf i).paired (changePairing i false (T16.ofTick p.now)) p
  let p := onRfin i (fun r => { retired := r.retired, unusable := r.unusable, trims := r.trims, faulted := r.faulted
                                spans := openFaults (T16.ofTick p.now) r
                                map := if r.retired == 0 && r.faulted.isEmpty then [0, 1] else r.map }) p
  when (p.clocks.synth == .locked) (onRfin i (startConverter (T16.ofTick p.now))) p

/-- The engine of a CHAN instance that was reset: its grid ends as at a disable, and a new grid with CFG_CHANGE begins with the first
block that is routed to it again (R126, R145). -/
def regrid (i : Nat) (p : Piece) : Piece :=
  let x := p.engine i
  when (engineRuns x && lastBegun p.now x) (onXform i fun x =>
    let ended := onLastGrid id [] (some p.now) x
    { ended with after := ended.after ++ [{ setting := commandedXform x, from_ := T16.ofTick p.now, continues := true }] }) p

/-- CHAN: every DDC ends, the routes are gone, the slots that measure its crossing source stop (R116, R145, R220, R295). -/
def resetChan (i : Nat) (p : Piece) : Piece :=
  regrid i (onChan i (fun _ => {}) (loseSource (16 + i) 6 (endChan i p)))

/-- XFORM: its mask cells start from a run count of zero (R145, R198). -/
def resetXform (i : Nat) (p : Piece) : Piece :=
  let cell (c : Cell) : Cell :=
    if c.setting.source == 5 && c.setting.par 8 1 == i then { c with run := 0, runTainted := false, issued := false } else c
  settleMask i (onTrigger (fun t => { t with cells := t.cells.map cell }) (onXform i (fun _ => {}) p))

/-! ### Stamps and tallies -/

/-- An input of a STAMP panel that was reset: what is retired stays, and calibration constants stay in force; a change of COMP_SEL
or of a setting begins a calibration epoch (R250, R255). -/
def resetInput (i : StampInput) : StampInput :=
  let s := i.setting
  { compRetired := i.compRetired, compHeld := i.compHeld, interpRetired := i.interpRetired, interpFaulted := i.interpFaulted
    faultActive := i.faultActive, epoch := i.epoch, interpEpoch := i.interpEpoch, pathEpoch := i.pathEpoch, table := i.table
    calDue := i.calDue || i.compSel != 0 || s.threshold != 0x800 || s.slope != .rising || s.prescale != 0 || s.cableDelay != 0 }

/-- STAMP: inputs disabled with empty FIFOs, the spare IDLE, rotation off, raw logging of its sources stopped, counter slots
that measure them stopped, tally contexts at a fresh reference (R255, R295, R312). -/
def resetStamp (k : Nat) (p : Piece) : Piece :=
  let mine (s : Nat) : Bool := s / 4 == k
  let p := (List.range 4).foldl (fun p n => loseSource (4 * k + n) 6 p) p
  let p := onMotif k (fun m => { inputs := m.inputs.map resetInput, spareLost := m.spareLost, spareFaulted := m.spareFaulted
                                 spareRetired := m.spareRetired, spareEpoch := m.spareEpoch, spareTable := m.spareTable }) p
  let p := onTally (fun t => { t with contexts := t.contexts.map fun c =>
    if ((List.range 4).any fun n => c.takesSource (4 * k + n)) then { c with ref := none } else c }) p
  let without (m : Nat) : Nat := maskOf 24 fun s => bitAt m s && !mine s
  { p with fabric := { p.fabric with
    rawMask := without p.fabric.rawMask, rawNext := p.fabric.rawNext.map fun x => (without x.1, x.2) } }

/-- TALLY and its counter slots; the store is cleared again (R295, R312). -/
def resetTally (p : Piece) : Piece :=
  let ran := slotRuns p
  let p := onTally (fun _ => {}) p
  { p with gythen := { p.gythen with idleSince := if ran then some p.now else p.gythen.idleSince } }

/-! ### Memory, link, safety, calibration -/

/-- DMC: a freeze is released, the channels are trained again, contents stay; requests in flight end as refused (R396,
R399). -/
def resetDmc (p : Piece) : Piece :=
  let p := onDmc (fun d => { dram := d.dram, initDone := d.initDone, gibPerChannel := d.gibPerChannel, rdimm := d.rdimm
                             ranks := d.ranks, training := true }) p
  faultAcqs (onSafety (fun s => { s with releaseArmed := false }) p)

/-- STREAM: every channel CLOSED; responses still in flight are discarded (R551). -/
def resetStream (p : Piece) : Piece :=
  let mine (r : HostRequest) : Bool := match r.use with
    | .descriptor _ => true
    | _ => false
  let p := { p with stream := {} }
  onHostif (fun h => { h with requests := h.requests.filter fun r => !mine r, answers := h.answers.filter fun a => !mine a.1 }) p

/-- CALMGR: background visits end, trims and overrides stay, SERVICE with the default policy; during bring-up its full
calibration falls due again (R328, R619). -/
def resetCal (p : Piece) : Piece :=
  let p := endVisits p
  let inBringUp := p.boot.phase == .calibrate
  let c := p.cal
  let mode : CalMode := if p.boot.ready then .service else .startup
  let p := onCal (fun c => { mode := mode, startDue := inBringUp, epoch := c.epoch, sliceOverrides := c.sliceOverrides
                             interpOverrides := c.interpOverrides }) p
  when (c.mode != mode) (calEvent false) p

/-- What a reset of a panel does. -/
def resetPanel (t i : Nat) (p : Piece) : Piece :=
  match t with
  | 0x01 => resetLedger p
  | 0x02 => resetClocks p
  | 0x03 => resetRfin i p
  | 0x04 => resetChan i p
  | 0x05 => resetXform i p
  | 0x06 => { p with density := {} }
  | 0x07 => { p with trigger := {} }
  | 0x08 => { p with acq := {} }
  | 0x09 => resetStamp i p
  | 0x0B => resetTally p
  | 0x0C => resetGythen i p
  | 0x0D => resetStream p
  | 0x0E => { p with check := {} }
  | 0x0F => resetDmc p
  | 0x10 => resetHostif p
  | 0x12 => resetNet p
  | 0x13 => { p with scan := { hpd := p.scan.hpd } }
  | 0x14 => resetSafety p
  | 0x15 => onMonitor (fun _ => { slotBegan := p.now }) p
  | 0x16 => resetCal p
  | 0x17 => restartBringUp (resetSteward p)
  | _ => p

/-! ### The request (R617) -/

/-- The refusals of the panels themselves (R88, R352, R396, R428, R615). -/
def resetRefused (p : Piece) (t i : Nat) : Bool :=
  match t with
  | 0x03 => (p.rf i).partner
  | 0x0C => i == 3 && slotRuns p
  | 0x0F => p.dmc.frozen && !p.safety.releaseArmed
  | 0x11 => true
  | 0x14 => p.safety.safeState
  | _ => false

/-- The status of a request (R617). -/
def resetStatusOf (p : Piece) (session t i : Nat) : Nat :=
  if !(p.transport.sessions.any fun s => s.id == session && decide (s.channel < 16)) then stNoSession
  else if !panelEntries.contains (t, i) then stRange
  else if claimHolder p t i != some session then stNotClaimed
  else if resetRefused p t i then stState
  else stOk

/-- A started command waits on a panel that is reset; CLOCKS takes the Ledger with it (R68, R617). -/
def waitsOn (f : Flight) (t i : Nat) : Bool :=
  match f.progress with
  | .waiting kind _ _ =>
    f.panels.contains (t, i) || (t == 0x02 && f.panels.contains (0x01, 0)) || (t == 0x0D && kind == .streamClose)
  | _ => false

/-- The commands that wait on a panel that is reset complete with ST_ABORTED (R617). -/
def abortWaiting (t i : Nat) (p : Piece) : Piece :=
  (p.transport.flights.filter fun f => waitsOn f t i).foldl (fun p f => finish f stAborted [] p) p

/-- A register belongs to a panel (R634, R636). -/
def ownedBy (t i : Nat) : RegLoc → Bool
  | .window t' i' _ => t == t' && i == i'
  | .fixed0 off => t == 0x14 && decide (0x21000 ≤ off) && decide (off < 0x23000)
  | .fixed1 off => t == 0x14 && decide (0x5000 ≤ off) && decide (off < 0x7000)

/-- A panel is reset: its commands abort, the shadows of its registers are gone (R617, R636). -/
def performReset (t i : Nat) (p : Piece) : Piece :=
  onRegs (fun r => { r with shadows := r.shadows.filter fun s => !ownedBy t i s.loc }) (abortWaiting t i (resetPanel t i p))

/-- PANEL_RESET: the steward checks the request, performs or refuses it, writes STATUS and clears BUSY; a reset of STEWARD
writes its status first (R617). -/
def execPanelReset : State → Out := effect fun p =>
  when (p.regs.resetBusy && p.transport.state == .running) (fun p =>
    let t := p.regs.resetType
    let i := p.regs.resetInst
    let status := resetStatusOf p p.regs.resetSession t i
    let answer := onRegs fun r => { r with resetBusy := false, resetStatus := status }
    if status != stOk then answer p
    else if t == 0x17 then performReset t i (answer p)
    else answer (performReset t i p)) p

end Sys2Proof.Machine
end

