-- ==== Sys2Proof/Machine/Dispatch.lean ====
section
/-! DEFINITION. One arm per command: a direct call of its meaning. -/

namespace Sys2Proof.Machine

def exec (i : Instr) (s : State) : Host.Outcome State Fault Refusal :=
  match i with
  | .powerOn => Sys2Proof.Machine.execPowerOn s
  | .sysResetAssert widthNs => Sys2Proof.Machine.execSysResetAssert widthNs s
  | .sysResetRelease => Sys2Proof.Machine.execSysResetRelease s
  | .perstN => Sys2Proof.Machine.execPerstN s
  | .functionLevelReset function => Sys2Proof.Machine.execFunctionLevelReset function s
  | .hostLinkRemoval => Sys2Proof.Machine.execHostLinkRemoval s
  | .hostLinkUp rate width cxl cache => Sys2Proof.Machine.execHostLinkUp rate width cxl cache s
  | .linkRetrain rate width => Sys2Proof.Machine.execLinkRetrain rate width s
  | .hostRequestTimeout request => Sys2Proof.Machine.execHostRequestTimeout request s
  | .hostReadCompletion request answer => Sys2Proof.Machine.execHostReadCompletion request answer s
  | .bar2Access write address length bytes => Sys2Proof.Machine.execBar2Access write address length bytes s
  | .hdmAccess write hostAddress length bytes => Sys2Proof.Machine.execHdmAccess write hostAddress length bytes s
  | .hdmDecoderCommit base size ways => Sys2Proof.Machine.execHdmDecoderCommit base size ways s
  | .doorbell requester channel word => Sys2Proof.Machine.execDoorbell requester channel word s
  | .mbxInTake requester channel wide => Sys2Proof.Machine.execMbxInTake requester channel wide s
  | .mbxStatusClear requester channel value => Sys2Proof.Machine.execMbxStatusClear requester channel value s
  | .mbxTimeoutExpiry channel outbound index => Sys2Proof.Machine.execMbxTimeoutExpiry channel outbound index s
  | .noticeTakeBySteward => Sys2Proof.Machine.execNoticeTakeBySteward s
  | .commandFetchDone channel answer => Sys2Proof.Machine.execCommandFetchDone channel answer s
  | .commandFetchFail channel => Sys2Proof.Machine.execCommandFetchFail channel s
  | .completionRingRetry session channel consumer => Sys2Proof.Machine.execCompletionRingRetry session channel consumer s
  | .stewardNoticePost channel => Sys2Proof.Machine.execStewardNoticePost channel s
  | .lockAcquireRead requester lock wide node => Sys2Proof.Machine.execLockAcquireRead requester lock wide node s
  | .lockReleaseWrite requester lock value wide => Sys2Proof.Machine.execLockReleaseWrite requester lock value wide s
  | .rscLowRead requester loc wide => Sys2Proof.Machine.execRscLowRead requester loc wide s
  | .shadowRead requester loc => Sys2Proof.Machine.execShadowRead requester loc s
  | .piecePanelResetWrite value => Sys2Proof.Machine.execPiecePanelResetWrite value s
  | .panelReset => Sys2Proof.Machine.execPanelReset s
  | .msixCtrlWrite function vector value => Sys2Proof.Machine.execMsixCtrlWrite function vector value s
  | .alarmEntryClear requester code value => Sys2Proof.Machine.execAlarmEntryClear requester code value s
  | .safeGroupClear requester value => Sys2Proof.Machine.execSafeGroupClear requester value s
  | .registerWrite requester loc value wide => Sys2Proof.Machine.execRegisterWrite requester loc value s wide
  | .mgmtReadWord offset count pecOk => Sys2Proof.Machine.execMgmtReadWord offset count pecOk s
  | .mgmtWriteWord offset count value pecOk => Sys2Proof.Machine.execMgmtWriteWord offset count value pecOk s
  | .mgmtUnknownCommand code => Sys2Proof.Machine.execMgmtUnknownCommand code s
  | .journalIncidentEnd => Sys2Proof.Machine.execJournalIncidentEnd s
  | .refLoss cycles => Sys2Proof.Machine.execRefLoss s cycles
  | .refinPresent cycles => Sys2Proof.Machine.execRefinPresent cycles s
  | .ppsinPulse fraction => Sys2Proof.Machine.execPpsinPulse fraction s
  | .ppsWindowClose => Sys2Proof.Machine.execPpsWindowClose s
  | .ppsLoss => Sys2Proof.Machine.execPpsLoss s
  | .ppsinPresent => Sys2Proof.Machine.execPpsinPresent s
  | .synthLockDeclare => Sys2Proof.Machine.execSynthLockDeclare s
  | .synthUnlock count => Sys2Proof.Machine.execSynthUnlock count s
  | .synthRelock windows => Sys2Proof.Machine.execSynthRelock s windows
  | .mappingChangeApply => Sys2Proof.Machine.execMappingChangeApply s
  | .slewEnd => Sys2Proof.Machine.execSlewEnd s
  | .holdoverEval => Sys2Proof.Machine.execHoldoverEval s
  | .timeSourceLost => Sys2Proof.Machine.execTimeSourceLost s
  | .timeSourcePresent source => Sys2Proof.Machine.execTimeSourcePresent source s
  | .ledgerEpochStep => Sys2Proof.Machine.execLedgerEpochStep s
  | .ledgerMismatch => Sys2Proof.Machine.execLedgerMismatch s
  | .tapPhase island => Sys2Proof.Machine.execTapPhase island s
  | .ledgerSecondBoundary => Sys2Proof.Machine.execLedgerSecondBoundary s
  | .ppsoutPulseEnd => Sys2Proof.Machine.execPpsoutPulseEnd s
  | .clkoutSettingArrive output => Sys2Proof.Machine.execClkoutSettingArrive output s
  | .timecodeFrameIn frame => Sys2Proof.Machine.execTimecodeFrameIn frame s
  | .monitorConversion code => Sys2Proof.Machine.execMonitorConversion code s
  | .monitorFrameStart empty => Sys2Proof.Machine.execMonitorFrameStart s empty
  | .monitorUrgentRequest safety channel atBoundary => Sys2Proof.Machine.execMonitorUrgentRequest safety channel s atBoundary
  | .rfinConfigure c => Sys2Proof.Machine.execRfinConfigure c s
  | .rfinSelectSource c => Sys2Proof.Machine.execRfinSelectSource c s
  | .frontEndChangeApply input => Sys2Proof.Machine.execFrontEndChangeApply input s
  | .sampleBlock input codes => Sys2Proof.Machine.execSampleBlock input codes s
  | .sliceHandover input residuals trim => Sys2Proof.Machine.execSliceHandover input residuals s trim
  | .handoverAbandon input => Sys2Proof.Machine.execHandoverAbandon input s
  | .sliceFault input slice => Sys2Proof.Machine.execSliceFault input slice s
  | .sliceTakeover input => Sys2Proof.Machine.execSliceTakeover input s
  | .sliceRotationStart input => Sys2Proof.Machine.execSliceRotationStart input s
  | .sliceAwayEnd input trim => Sys2Proof.Machine.execSliceAwayEnd input s trim
  | .chanConfigure c => Sys2Proof.Machine.execChanConfigure c s
  | .chanFilterLoad c => Sys2Proof.Machine.execChanFilterLoad c s
  | .ddcChangeApply chan ddc => Sys2Proof.Machine.execDdcChangeApply chan ddc s
  | .coefficientSwap chan ddc => Sys2Proof.Machine.execCoefficientSwap chan ddc s
  | .ddcBlock chan ddc => Sys2Proof.Machine.execDdcBlock chan ddc s
  | .xingSettingApply chan => Sys2Proof.Machine.execXingSettingApply chan s
  | .xformConfigure c => Sys2Proof.Machine.execXformConfigure c s
  | .xformWindowLoad c => Sys2Proof.Machine.execXformWindowLoad c s
  | .detectorSet c => Sys2Proof.Machine.execDetectorSet c s
  | .xformGridRestart engine => Sys2Proof.Machine.execXformGridRestart engine s
  | .transformFrame engine => Sys2Proof.Machine.execTransformFrame engine s
  | .densityConfigure c => Sys2Proof.Machine.execDensityConfigure c s
  | .densitySnapshot c => Sys2Proof.Machine.execDensitySnapshot c s
  | .densitySnapshotCut channel => Sys2Proof.Machine.execDensitySnapshotCut channel s
  | .densityReadoutDone channel refusedAt => Sys2Proof.Machine.execDensityReadoutDone channel refusedAt s
  | .densityItemAccept channel => Sys2Proof.Machine.execDensityItemAccept channel s
  | .spectrogramConfigure c => Sys2Proof.Machine.execSpectrogramConfigure c s
  | .trigCellSet c => Sys2Proof.Machine.execTrigCellSet c s
  | .trigMaskLoad c => Sys2Proof.Machine.execTrigMaskLoad c s
  | .maskSwap channel => Sys2Proof.Machine.execMaskSwap channel s
  | .trigCombineSet c => Sys2Proof.Machine.execTrigCombineSet c s
  | .trigRouteSet c => Sys2Proof.Machine.execTrigRouteSet c s
  | .trigForce c => Sys2Proof.Machine.execTrigForce c s
  | .trigSettingApply cell => Sys2Proof.Machine.execTrigSettingApply cell s
  | .freqMaskVerdict channel => Sys2Proof.Machine.execFreqMaskVerdict channel s
  | .stampCoincArrival => Sys2Proof.Machine.execStampCoincArrival s
  | .trigInEdge pin rising => Sys2Proof.Machine.execTrigInEdge pin rising s
  | .timeMatchFire cell => Sys2Proof.Machine.execTimeMatchFire cell s
  | .matrixEventArrive => Sys2Proof.Machine.execMatrixEventArrive s
  | .triggerEventIssue => Sys2Proof.Machine.execTriggerEventIssue s
  | .trigOutPulseStart output => Sys2Proof.Machine.execTrigOutPulseStart output s
  | .trigOutPulseEnd output => Sys2Proof.Machine.execTrigOutPulseEnd output s
  | .acqConfigure c => Sys2Proof.Machine.execAcqConfigure c s
  | .acqArm c => Sys2Proof.Machine.execAcqArm c s
  | .acqArmPoint acq => Sys2Proof.Machine.execAcqArmPoint acq s
  | .acqStop c => Sys2Proof.Machine.execAcqStop c s
  | .acqMasktestLoad c => Sys2Proof.Machine.execAcqMasktestLoad c s
  | .acqReadout c => Sys2Proof.Machine.execAcqReadout c s
  | .acqReadoutDone acq refusedAt => Sys2Proof.Machine.execAcqReadoutDone acq refusedAt s
  | .acqBlockReceive acq drained => Sys2Proof.Machine.execAcqBlockReceive acq drained s
  | .acqTriggerArrive acq => Sys2Proof.Machine.execAcqTriggerArrive acq s
  | .segmentComplete acq => Sys2Proof.Machine.execSegmentComplete acq s
  | .stampInputSet c => Sys2Proof.Machine.execStampInputSet c s
  | .stampSettingsApply source => Sys2Proof.Machine.execStampSettingsApply source s
  | .thresholdBlankEnd source => Sys2Proof.Machine.execThresholdBlankEnd source s
  | .stampEdgeCapture source edge => Sys2Proof.Machine.execStampEdgeCapture source edge s
  | .fabricGrant source => Sys2Proof.Machine.execFabricGrant source s
  | .stampFifoWaitExpiry source => Sys2Proof.Machine.execStampFifoWaitExpiry source s
  | .stampRawStream c => Sys2Proof.Machine.execStampRawStream c s
  | .interpRoundStart motif => Sys2Proof.Machine.execInterpRoundStart motif s
  | .interpRoleEnd motif result => Sys2Proof.Machine.execInterpRoleEnd motif result s
  | .interpFault motif interpolator => Sys2Proof.Machine.execInterpFault motif interpolator s
  | .compFault source => Sys2Proof.Machine.execCompFault source s
  | .countStart c => Sys2Proof.Machine.execCountStart c s
  | .countStartApply slot => Sys2Proof.Machine.execCountStartApply slot s
  | .countStop c => Sys2Proof.Machine.execCountStop c s
  | .countRead c => Sys2Proof.Machine.execCountRead c s
  | .tiWindowSet c => Sys2Proof.Machine.execTiWindowSet c s
  | .orderingRelease slot => Sys2Proof.Machine.execOrderingRelease slot s
  | .gateClose slot => Sys2Proof.Machine.execGateClose slot s
  | .resultIssue => Sys2Proof.Machine.execResultIssue s
  | .firmwareKernelHalt => Sys2Proof.Machine.execFirmwareKernelHalt s
  | .tallyBind c => Sys2Proof.Machine.execTallyBind c s
  | .tallySnapshot c => Sys2Proof.Machine.execTallySnapshot c s
  | .tallySnapshotCut snapshot => Sys2Proof.Machine.execTallySnapshotCut snapshot s
  | .tallySnapshotDone snapshot refusedAt => Sys2Proof.Machine.execTallySnapshotDone snapshot refusedAt s
  | .tallyClear c => Sys2Proof.Machine.execTallyClear c s
  | .tallyStampUpdate => Sys2Proof.Machine.execTallyStampUpdate s
  | .tallyXformUpdate => Sys2Proof.Machine.execTallyXformUpdate s
  | .tallyPostUpdate => Sys2Proof.Machine.execTallyPostUpdate s
  | .tallyStoreClearDone => Sys2Proof.Machine.execTallyStoreClearDone s
  | .calPolicySet c => Sys2Proof.Machine.execCalPolicySet c s
  | .calRun c => Sys2Proof.Machine.execCalRun c s
  | .calStatus c => Sys2Proof.Machine.execCalStatus c s
  | .fullCalStart => Sys2Proof.Machine.execFullCalStart s
  | .fullCalEnd outcome => Sys2Proof.Machine.execFullCalEnd outcome s
  | .kernelLoad c => Sys2Proof.Machine.execKernelLoad c s
  | .kernelStart c => Sys2Proof.Machine.execKernelStart c s
  | .kernelStop c => Sys2Proof.Machine.execKernelStop c s
  | .gythenBundle core => Sys2Proof.Machine.execGythenBundle core s
  | .kernelDone core => Sys2Proof.Machine.execKernelDone core s
  | .postQueueDrain core => Sys2Proof.Machine.execPostQueueDrain core s
  | .fetchGo core => Sys2Proof.Machine.execFetchGo core s
  | .fetchComplete core => Sys2Proof.Machine.execFetchComplete core s
  | .timeLoRead core => Sys2Proof.Machine.execTimeLoRead core s
  | .stampPop core => Sys2Proof.Machine.execStampPop core s
  | .sysHello c => Sys2Proof.Machine.execSysHello c s
  | .sessionOpen c => Sys2Proof.Machine.execSessionOpen c s
  | .sessionClose c => Sys2Proof.Machine.execSessionClose c s
  | .panelClaim c => Sys2Proof.Machine.execPanelClaim c s
  | .panelRelease c => Sys2Proof.Machine.execPanelRelease c s
  | .fence c => Sys2Proof.Machine.execFence c s
  | .eventRingSet c => Sys2Proof.Machine.execEventRingSet c s
  | .completionRingSet c => Sys2Proof.Machine.execCompletionRingSet c s
  | .abortTag c => Sys2Proof.Machine.execAbortTag c s
  | .refSelect c => Sys2Proof.Machine.execRefSelect c s
  | .synthBandTableLoad c => Sys2Proof.Machine.execSynthBandTableLoad c s
  | .synthStart c => Sys2Proof.Machine.execSynthStart c s
  | .clkoutSet c => Sys2Proof.Machine.execClkoutSet c s
  | .ledgerSetEpoch c => Sys2Proof.Machine.execLedgerSetEpoch c s
  | .ledgerSteer c => Sys2Proof.Machine.execLedgerSteer c s
  | .ledgerJumpResolve c => Sys2Proof.Machine.execLedgerJumpResolve c s
  | .holdoverModelSet c => Sys2Proof.Machine.execHoldoverModelSet c s
  | .timecodeSet c => Sys2Proof.Machine.execTimecodeSet c s
  | .streamOpen c => Sys2Proof.Machine.execStreamOpen c s
  | .streamChainSet c => Sys2Proof.Machine.execStreamChainSet c s
  | .streamRingSet c => Sys2Proof.Machine.execStreamRingSet c s
  | .streamClose c => Sys2Proof.Machine.execStreamClose c s
  | .checkScan c => Sys2Proof.Machine.execCheckScan c s
  | .checkScanPassDone unit answer => Sys2Proof.Machine.execCheckScanPassDone unit answer s
  | .checkPeriodicStart unit => Sys2Proof.Machine.execCheckPeriodicStart unit s
  | .chainExtend channel => Sys2Proof.Machine.execChainExtend channel s
  | .descriptorComplete channel descriptor data failAt => Sys2Proof.Machine.execDescriptorComplete channel descriptor data failAt s
  | .chainLinkRead channel answer => Sys2Proof.Machine.execChainLinkRead channel answer s
  | .sourceRecordArrive noRoom => Sys2Proof.Machine.execSourceRecordArrive s noRoom
  | .ringConsumerReread channel consumer => Sys2Proof.Machine.execRingConsumerReread channel consumer s
  | .eventRecordWrite consumer => Sys2Proof.Machine.execEventRecordWrite consumer s
  | .eventRingRetry session consumer => Sys2Proof.Machine.execEventRingRetry session consumer s
  | .netPortSet c => Sys2Proof.Machine.execNetPortSet c s
  | .netJoin c => Sys2Proof.Machine.execNetJoin c s
  | .netLeave c => Sys2Proof.Machine.execNetLeave c s
  | .netDelayTableLoad c => Sys2Proof.Machine.execNetDelayTableLoad c s
  | .netStatus c => Sys2Proof.Machine.execNetStatus c s
  | .netHorizonSet c => Sys2Proof.Machine.execNetHorizonSet c s
  | .portLinked port peer => Sys2Proof.Machine.execPortLinked port peer s
  | .netLinkLoss port => Sys2Proof.Machine.execNetLinkLoss port s
  | .timeMessageSend port departure => Sys2Proof.Machine.execTimeMessageSend port departure s
  | .timeMessageReceive port arrival bytes => Sys2Proof.Machine.execTimeMessageReceive port arrival bytes s
  | .announcementSend => Sys2Proof.Machine.execAnnouncementSend s
  | .announcementReceive port bytes => Sys2Proof.Machine.execAnnouncementReceive port bytes s
  | .crossTriggerReceive port bytes => Sys2Proof.Machine.execCrossTriggerReceive port bytes s
  | .crossTriggerSend port => Sys2Proof.Machine.execCrossTriggerSend port s
  | .alarmSummarySend => Sys2Proof.Machine.execAlarmSummarySend s
  | .alarmSummaryReceive port bytes => Sys2Proof.Machine.execAlarmSummaryReceive port bytes s
  | .joinRequestReceive port node path => Sys2Proof.Machine.execJoinRequestReceive port node path s
  | .joinResponseReceive response => Sys2Proof.Machine.execJoinResponseReceive response s
  | .joinTimeout => Sys2Proof.Machine.execJoinTimeout s
  | .leaveNoticeReceive port => Sys2Proof.Machine.execLeaveNoticeReceive port s
  | .leaveRequestReceive port node => Sys2Proof.Machine.execLeaveRequestReceive port node s
  | .leaveConfirm reparented => Sys2Proof.Machine.execLeaveConfirm reparented s
  | .epochMessageReceive delta epoch => Sys2Proof.Machine.execEpochMessageReceive delta epoch s
  | .reparentRequestReceive port node path => Sys2Proof.Machine.execReparentRequestReceive port node path s
  | .reparentConfirmReceive exceeded => Sys2Proof.Machine.execReparentConfirmReceive exceeded s
  | .reparentTimeout => Sys2Proof.Machine.execReparentTimeout s
  | .scanModeSet c => Sys2Proof.Machine.execScanModeSet c s
  | .scanLayerSet c => Sys2Proof.Machine.execScanLayerSet c s
  | .scanCommit c => Sys2Proof.Machine.execScanCommit c s
  | .dpTrainingDone ok => Sys2Proof.Machine.execDpTrainingDone ok s
  | .scanLatch => Sys2Proof.Machine.execScanLatch s
  | .scanFrameStart => Sys2Proof.Machine.execScanFrameStart s
  | .scanModeApply => Sys2Proof.Machine.execScanModeApply s
  | .hpdLoss port => Sys2Proof.Machine.execHpdLoss port s
  | .irqHpd port linkLost => Sys2Proof.Machine.execIrqHpd port linkLost s
  | .safetyConfigure c => Sys2Proof.Machine.execSafetyConfigure c s
  | .journalRead c => Sys2Proof.Machine.execJournalRead c s
  | .selftestRun c => Sys2Proof.Machine.execSelftestRun c s
  | .dumpRegionSet c => Sys2Proof.Machine.execDumpRegionSet c s
  | .dumpRead c => Sys2Proof.Machine.execDumpRead c s
  | .monitorSequenceSet c => Sys2Proof.Machine.execMonitorSequenceSet c s
  | .fwUpdateBegin c => Sys2Proof.Machine.execFwUpdateBegin c s
  | .fwUpdateChunk c => Sys2Proof.Machine.execFwUpdateChunk c s
  | .fwUpdateCommit c => Sys2Proof.Machine.execFwUpdateCommit c s
  | .keyHashQuery c => Sys2Proof.Machine.execKeyHashQuery c s
  | .railWindow channel => Sys2Proof.Machine.execRailWindow channel s
  | .overTemp sensor => Sys2Proof.Machine.execOverTemp sensor s
  | .outputReadback ball => Sys2Proof.Machine.execOutputReadback ball s
  | .islandClock island => Sys2Proof.Machine.execIslandClock island s
  | .sramUe panel instance_ index => Sys2Proof.Machine.execSramUe panel instance_ index s
  | .sramScrub => Sys2Proof.Machine.execSramScrub s
  | .stewardLockstep => Sys2Proof.Machine.execStewardLockstep s
  | .stewardRestart => Sys2Proof.Machine.execStewardRestart s
  | .tableCheck mismatch => Sys2Proof.Machine.execTableCheck mismatch s
  | .targetedSelftestStart element => Sys2Proof.Machine.execTargetedSelftestStart element s
  | .targetedSelftestEnd pass => Sys2Proof.Machine.execTargetedSelftestEnd pass s
  | .spareRowMarch => Sys2Proof.Machine.execSpareRowMarch s
  | .dumpWritten => Sys2Proof.Machine.execDumpWritten s
  | .dmcFreeze commandParity address => Sys2Proof.Machine.execDmcFreeze commandParity address s
  | .dramCorrectedError address => Sys2Proof.Machine.execDramCorrectedError address s
  | .patrolScrub => Sys2Proof.Machine.execPatrolScrub s
  | .refreshDue busy => Sys2Proof.Machine.execRefreshDue busy s
  | .neighbourRefresh bank row => Sys2Proof.Machine.execNeighbourRefresh bank row s
  | .actWindowClear => Sys2Proof.Machine.execActWindowClear s
  | .bulkPromotion port => Sys2Proof.Machine.execBulkPromotion port s
  | .panicRaise port raise => Sys2Proof.Machine.execPanicRaise port raise s
  | .ddr5TrainingDone gib ranks rdimm rate6400 rate5600 rate4800 => Sys2Proof.Machine.execDdr5TrainingDone gib ranks rdimm rate6400 rate5600 rate4800 s
  | .dramInitDone => Sys2Proof.Machine.execDramInitDone s
  | .bootImageVerified verified => Sys2Proof.Machine.execBootImageVerified verified s
  | .waitRefRetry periodPs => Sys2Proof.Machine.execWaitRefRetry periodPs s
  | .readyAssert => Sys2Proof.Machine.execReadyAssert s
  | .powerDown => Sys2Proof.Machine.execPowerDown s
  | .trigOutInactiveEnd output => Sys2Proof.Machine.execTrigOutInactiveEnd output s
  | .tcodeInPresentLapse => Sys2Proof.Machine.execTcodeInPresentLapse s
  | .sfpModuleRead port present lossOfSignal txFault => Sys2Proof.Machine.execSfpModuleRead port present lossOfSignal txFault s

end Sys2Proof.Machine
end

