-- ==== Sys2Proof/Safety.lean ====
section
/-! DEFINITION. What counts as a safe run: steps that answer next states only. -/

namespace Sys2Proof

/-- A state from which a step neither faults nor is refused. -/
def Safe (s : Machine.State) : Prop := ∃ t, Machine.step s = .next t

/-- A run of k steps, each of which answers a next state. -/
def SafeRun : Nat → Machine.State → Prop
  | 0, _ => True
  | k + 1, s => ∃ t, Machine.step s = .next t ∧ SafeRun k t

/-- The opcode and the block of a row that is a command of the catalogues (R453, R488); none for the other rows, which are
events. -/
def Instr.command : Instr → Option (Nat × Cmd)
  | .powerOn => none
  | .sysResetAssert .. => none
  | .sysResetRelease => none
  | .perstN => none
  | .functionLevelReset .. => none
  | .hostLinkRemoval => none
  | .hostLinkUp .. => none
  | .linkRetrain .. => none
  | .hostRequestTimeout .. => none
  | .hostReadCompletion .. => none
  | .bar2Access .. => none
  | .hdmAccess .. => none
  | .hdmDecoderCommit .. => none
  | .doorbell .. => none
  | .mbxInTake .. => none
  | .mbxStatusClear .. => none
  | .mbxTimeoutExpiry .. => none
  | .noticeTakeBySteward => none
  | .commandFetchDone .. => none
  | .commandFetchFail .. => none
  | .completionRingRetry .. => none
  | .stewardNoticePost .. => none
  | .lockAcquireRead .. => none
  | .lockReleaseWrite .. => none
  | .rscLowRead .. => none
  | .shadowRead .. => none
  | .piecePanelResetWrite .. => none
  | .panelReset => none
  | .msixCtrlWrite .. => none
  | .alarmEntryClear .. => none
  | .safeGroupClear .. => none
  | .registerWrite .. => none
  | .mgmtReadWord .. => none
  | .mgmtWriteWord .. => none
  | .mgmtUnknownCommand .. => none
  | .journalIncidentEnd => none
  | .refLoss .. => none
  | .refinPresent .. => none
  | .ppsinPulse .. => none
  | .ppsWindowClose => none
  | .ppsLoss => none
  | .ppsinPresent => none
  | .synthLockDeclare => none
  | .synthUnlock .. => none
  | .synthRelock .. => none
  | .mappingChangeApply => none
  | .slewEnd => none
  | .holdoverEval => none
  | .timeSourceLost => none
  | .timeSourcePresent .. => none
  | .ledgerEpochStep => none
  | .ledgerMismatch => none
  | .tapPhase .. => none
  | .ledgerSecondBoundary => none
  | .ppsoutPulseEnd => none
  | .clkoutSettingArrive .. => none
  | .timecodeFrameIn .. => none
  | .monitorConversion .. => none
  | .monitorFrameStart .. => none
  | .monitorUrgentRequest .. => none
  | .rfinConfigure c => some (0x0301, c)
  | .rfinSelectSource c => some (0x0302, c)
  | .frontEndChangeApply .. => none
  | .sampleBlock .. => none
  | .sliceHandover .. => none
  | .handoverAbandon .. => none
  | .sliceFault .. => none
  | .sliceTakeover .. => none
  | .sliceRotationStart .. => none
  | .sliceAwayEnd .. => none
  | .chanConfigure c => some (0x0303, c)
  | .chanFilterLoad c => some (0x0304, c)
  | .ddcChangeApply .. => none
  | .coefficientSwap .. => none
  | .ddcBlock .. => none
  | .xingSettingApply .. => none
  | .xformConfigure c => some (0x0401, c)
  | .xformWindowLoad c => some (0x0402, c)
  | .detectorSet c => some (0x0403, c)
  | .xformGridRestart .. => none
  | .transformFrame .. => none
  | .densityConfigure c => some (0x0404, c)
  | .densitySnapshot c => some (0x0405, c)
  | .densitySnapshotCut .. => none
  | .densityReadoutDone .. => none
  | .densityItemAccept .. => none
  | .spectrogramConfigure c => some (0x0406, c)
  | .trigCellSet c => some (0x0501, c)
  | .trigMaskLoad c => some (0x0502, c)
  | .maskSwap .. => none
  | .trigCombineSet c => some (0x0503, c)
  | .trigRouteSet c => some (0x0504, c)
  | .trigForce c => some (0x0505, c)
  | .trigSettingApply .. => none
  | .freqMaskVerdict .. => none
  | .stampCoincArrival => none
  | .trigInEdge .. => none
  | .timeMatchFire .. => none
  | .matrixEventArrive => none
  | .triggerEventIssue => none
  | .trigOutPulseStart .. => none
  | .trigOutPulseEnd .. => none
  | .acqConfigure c => some (0x0601, c)
  | .acqArm c => some (0x0602, c)
  | .acqArmPoint .. => none
  | .acqStop c => some (0x0603, c)
  | .acqMasktestLoad c => some (0x0604, c)
  | .acqReadout c => some (0x0605, c)
  | .acqReadoutDone .. => none
  | .acqBlockReceive .. => none
  | .acqTriggerArrive .. => none
  | .segmentComplete .. => none
  | .stampInputSet c => some (0x0701, c)
  | .stampSettingsApply .. => none
  | .thresholdBlankEnd .. => none
  | .stampEdgeCapture .. => none
  | .fabricGrant .. => none
  | .stampFifoWaitExpiry .. => none
  | .stampRawStream c => some (0x0702, c)
  | .interpRoundStart .. => none
  | .interpRoleEnd .. => none
  | .interpFault .. => none
  | .compFault .. => none
  | .countStart c => some (0x0703, c)
  | .countStartApply .. => none
  | .countStop c => some (0x0704, c)
  | .countRead c => some (0x0705, c)
  | .tiWindowSet c => some (0x0706, c)
  | .orderingRelease .. => none
  | .gateClose .. => none
  | .resultIssue => none
  | .firmwareKernelHalt => none
  | .tallyBind c => some (0x0801, c)
  | .tallySnapshot c => some (0x0802, c)
  | .tallySnapshotCut .. => none
  | .tallySnapshotDone .. => none
  | .tallyClear c => some (0x0803, c)
  | .tallyStampUpdate => none
  | .tallyXformUpdate => none
  | .tallyPostUpdate => none
  | .tallyStoreClearDone => none
  | .calPolicySet c => some (0x0D01, c)
  | .calRun c => some (0x0D02, c)
  | .calStatus c => some (0x0D03, c)
  | .fullCalStart => none
  | .fullCalEnd .. => none
  | .kernelLoad c => some (0x0901, c)
  | .kernelStart c => some (0x0902, c)
  | .kernelStop c => some (0x0903, c)
  | .gythenBundle .. => none
  | .kernelDone .. => none
  | .postQueueDrain .. => none
  | .fetchGo .. => none
  | .fetchComplete .. => none
  | .timeLoRead .. => none
  | .stampPop .. => none
  | .sysHello c => some (0x0101, c)
  | .sessionOpen c => some (0x0102, c)
  | .sessionClose c => some (0x0103, c)
  | .panelClaim c => some (0x0104, c)
  | .panelRelease c => some (0x0105, c)
  | .fence c => some (0x0106, c)
  | .eventRingSet c => some (0x0107, c)
  | .completionRingSet c => some (0x0108, c)
  | .abortTag c => some (0x0109, c)
  | .refSelect c => some (0x0201, c)
  | .synthBandTableLoad c => some (0x0202, c)
  | .synthStart c => some (0x0203, c)
  | .clkoutSet c => some (0x0204, c)
  | .ledgerSetEpoch c => some (0x0205, c)
  | .ledgerSteer c => some (0x0206, c)
  | .ledgerJumpResolve c => some (0x0207, c)
  | .holdoverModelSet c => some (0x0208, c)
  | .timecodeSet c => some (0x0209, c)
  | .streamOpen c => some (0x0A01, c)
  | .streamChainSet c => some (0x0A02, c)
  | .streamRingSet c => some (0x0A03, c)
  | .streamClose c => some (0x0A04, c)
  | .checkScan c => some (0x0A05, c)
  | .checkScanPassDone .. => none
  | .checkPeriodicStart .. => none
  | .chainExtend .. => none
  | .descriptorComplete .. => none
  | .chainLinkRead .. => none
  | .sourceRecordArrive .. => none
  | .ringConsumerReread .. => none
  | .eventRecordWrite .. => none
  | .eventRingRetry .. => none
  | .netPortSet c => some (0x0B01, c)
  | .netJoin c => some (0x0B02, c)
  | .netLeave c => some (0x0B03, c)
  | .netDelayTableLoad c => some (0x0B04, c)
  | .netStatus c => some (0x0B05, c)
  | .netHorizonSet c => some (0x0B06, c)
  | .portLinked .. => none
  | .netLinkLoss .. => none
  | .timeMessageSend .. => none
  | .timeMessageReceive .. => none
  | .announcementSend => none
  | .announcementReceive .. => none
  | .crossTriggerReceive .. => none
  | .crossTriggerSend .. => none
  | .alarmSummarySend => none
  | .alarmSummaryReceive .. => none
  | .joinRequestReceive .. => none
  | .joinResponseReceive .. => none
  | .joinTimeout => none
  | .leaveNoticeReceive .. => none
  | .leaveRequestReceive .. => none
  | .leaveConfirm .. => none
  | .epochMessageReceive .. => none
  | .reparentRequestReceive .. => none
  | .reparentConfirmReceive .. => none
  | .reparentTimeout => none
  | .scanModeSet c => some (0x0C01, c)
  | .scanLayerSet c => some (0x0C02, c)
  | .scanCommit c => some (0x0C03, c)
  | .dpTrainingDone .. => none
  | .scanLatch => none
  | .scanFrameStart => none
  | .scanModeApply => none
  | .hpdLoss .. => none
  | .irqHpd .. => none
  | .safetyConfigure c => some (0x0E01, c)
  | .journalRead c => some (0x0E02, c)
  | .selftestRun c => some (0x0E03, c)
  | .dumpRegionSet c => some (0x0E04, c)
  | .dumpRead c => some (0x0E05, c)
  | .monitorSequenceSet c => some (0x0E06, c)
  | .fwUpdateBegin c => some (0x0F01, c)
  | .fwUpdateChunk c => some (0x0F02, c)
  | .fwUpdateCommit c => some (0x0F03, c)
  | .keyHashQuery c => some (0x0F04, c)
  | .railWindow .. => none
  | .overTemp .. => none
  | .outputReadback .. => none
  | .islandClock .. => none
  | .sramUe .. => none
  | .sramScrub => none
  | .stewardLockstep => none
  | .stewardRestart => none
  | .tableCheck .. => none
  | .targetedSelftestStart .. => none
  | .targetedSelftestEnd .. => none
  | .spareRowMarch => none
  | .dumpWritten => none
  | .dmcFreeze .. => none
  | .dramCorrectedError .. => none
  | .patrolScrub => none
  | .refreshDue .. => none
  | .neighbourRefresh .. => none
  | .actWindowClear => none
  | .bulkPromotion .. => none
  | .panicRaise .. => none
  | .ddr5TrainingDone .. => none
  | .dramInitDone => none
  | .bootImageVerified .. => none
  | .waitRefRetry .. => none
  | .readyAssert => none
  | .powerDown => none
  | .trigOutInactiveEnd .. => none
  | .tcodeInPresentLapse => none
  | .sfpModuleRead .. => none

end Sys2Proof
end

