-- ==== Sys2Proof/Certificates/Slice0/Obligations.lean ====
section
/-! DEFINITION. The statements: what the rules of spec/ say of each command of the piece, and of every step. A state is written
⟨p, q⟩: the piece and the commands that wait. Where a statement gives the whole next state, everything its expression does not
name is unchanged. A statement that covers several rows is the conjunction of the claims below it. -/

open Sys2Proof Sys2Proof.Machine

/-- A command block of a row starts at once: the steward runs and either takes the block now, every check of the header passing, or
has it in flight, checked and not started; nothing earlier holds it back (R443, R445). `f` is the command in flight, `p1` the piece
that holds it in flight. -/
def Sys2Proof.Claim.Starts (op : Nat) (c : Cmd) (p : Piece) (f : Flight) (p1 : Piece) : Prop :=
  p.transport.state = .running ∧ blocked p1 f = false ∧
    ((fetched p op c = some f ∧ p1 = p ∧ f.opcode = op ∧ beforeReady p op = false) ∨
     (fetched p op c = none ∧ f = flightOf c op p.transport.nextOrder ∧ p1 = enroll f p ∧ (∃ row, cmdRow op = some row ∧ headerFault p1 row f = none)))

/-- A step carries out the command in front of the queue, with the queue's rest; it runs nothing else. -/
def Obligations.StepRunsTheFrontCommand : Prop :=
  ∀ (c : Instr) (p : Piece) (q : List Instr), step ⟨p, c :: q⟩ = exec c ⟨p, q⟩

/-- With nothing waiting the piece idles for one tick, which changes nothing while the Mint does not count; while it counts, it
counts one, the heartbeat advances with each millisecond that firmware runs (R413), VCXO_TUNE takes its next bit each 64 ticks
(R52) and the banks of device DRAM serve their queues (R390; the tick is the model's choice, log entries 1 and 61). -/
def Obligations.EmptyQueueIdles : Prop :=
  (∀ p : Piece, p.clocks.mintRun = false → step ⟨p, []⟩ = .next ⟨p, []⟩) ∧
  (∀ p : Piece, p.clocks.mintRun = true → ∃ t, step ⟨p, []⟩ = .next ⟨t, []⟩ ∧
    t = { p with
      clocks := { (if (p.clocks.mint + 1) % 64 = 0 then tuneStep p.ledger.tuneCode p.clocks else p.clocks) with
        mint := p.clocks.mint + 1 }
      dmc := serveBanks p.dmc
      transport := { p.transport with heartbeat :=
        if (p.clocks.mint + 1) % 2560000 = 0 ∧ p.transport.state = .running then (p.transport.heartbeat + 1) % 2 ^ 32
        else p.transport.heartbeat }
      tally := { p.tally with slots := t.tally.slots }
      fabric := { p.fabric with rawHeld := t.fabric.rawHeld }
      stream := { p.stream with arrivals := t.stream.arrivals } })

/-- Every command whose operands its row can carry answers a next state and leaves the queue as it is; any other is refused. -/
def Obligations.WellFormedCommandsAnswer : Prop :=
  ∀ (i : Instr) (p : Piece) (q : List Instr),
    if i.wellFormed then ∃ t, exec i ⟨p, q⟩ = .next ⟨t, q⟩ else exec i ⟨p, q⟩ = .refused .illFormed

/-- What reset leaves, by the reset columns and reset rules of the chapters: outputs at their safe levels and BOOT (R590 to R592,
R616), no session, claim, lock or command (R429, R436, R437), epochs 1 (R425), the synthesizer OFF and the Mint not counting
(R45, R68), the Ledger UNSET (R58, R68), the link down with the decoder not committed (R397), converters IDLE (R85), stamp inputs
disabled with empty FIFOs (R255), the alarm bank and the journal empty with the fault mask at 0x00AF (R639), every core IDLE
(R352), DISPLAY off (R589), ports OFF (R574). -/
def Obligations.ResetState : Prop :=
  ∃ p, State.reset = ⟨p, []⟩ ∧
    timeValid p = false ∧ freqValid p = false ∧ safeStateN p = false ∧ faultN p = false ∧
    p.boot.ready = false ∧ p.boot.phase = .boot ∧ p.transport.state = .boot ∧
    p.transport.sessions = [] ∧ p.transport.claims = [] ∧ p.transport.flights = [] ∧
    p.transport.locks = List.replicate 64 0 ∧ p.transport.epochs = [1, 1, 1, 1] ∧
    p.clocks.synth = .off ∧ p.clocks.mintRun = false ∧ p.clocks.mint = 0 ∧ p.ledger.state = .unset ∧
    p.hostif.linkUp = false ∧ p.hostif.hdmCommitted = false ∧ p.dmc.dram = [] ∧ p.dmc.frozen = false ∧
    (∀ i : Fin 4, (p.rf i).conv = .idle ∧ (p.rf i).retired = 0) ∧
    (∀ i : Fin 16, (p.input i).setting.en = false ∧ (p.input i).fifo = []) ∧
    p.safety.faultMask = 0x00AF ∧ p.safety.journal = [] ∧ (p.safety.alarms.any (·.latched)) = false ∧
    (∀ k : Fin 16, (p.core k).state = .idle) ∧ p.scan.state = .off ∧ (∀ k : Fin 4, (p.portOf k).state = .off)

/-- The piece at its reset values; the board's flash is no part of the piece (R616). -/
def Sys2Proof.Claim.ResetsOfThePiece : Prop :=
  (∀ (i : Instr) (p : Piece) (q : List Instr), i = .powerOn ∨ i = .powerDown →
    exec i ⟨p, q⟩ = .next ⟨{
      free := p.free
      out := p.out
      boot := { images := p.boot.images, selector := p.boot.selector } }, q⟩) ∧
  (∀ (w : Nat) (p : Piece) (q : List Instr), 1000 ≤ w →
    exec (.sysResetAssert w) ⟨p, q⟩ = .next ⟨{
      free := p.free
      out := p.out
      boot := { images := p.boot.images, selector := p.boot.selector }
      safety := { strongroom := (if p.safety.sramLost then none else p.safety.dump.orElse fun _ => p.safety.strongroom)
                  dumpSeq := p.safety.dumpSeq } }, q⟩) ∧
  (∀ (w : Nat) (p : Piece) (q : List Instr), w < 100 → exec (.sysResetAssert w) ⟨p, q⟩ = .next ⟨p, q⟩) ∧
  (∀ (w : Nat) (p : Piece) (q : List Instr), ∃ t, exec (.sysResetAssert w) ⟨p, q⟩ = .next ⟨t, q⟩ ∧
    (t.transport = p.transport ∧ t.clocks = p.clocks ∨
     t.transport.sessions = [] ∧ t.transport.claims = [] ∧ t.safety.retirements = [] ∧ t.boot.ready = false ∧
     timeValid t = false ∧ freqValid t = false ∧ safeStateN t = false ∧ faultN t = false))

/-- The release of SYS_RESET_N starts the monitor's sequencer and the boot ROM, which takes the slot that the selector of the flash
names (R91, R618). -/
def Sys2Proof.Claim.ReleaseStartsTheBootRom : Prop :=
  (∀ (p : Piece) (q : List Instr), p.boot.released = false →
    exec .sysResetRelease ⟨p, q⟩ = .next ⟨{ p with
      boot := { p.boot with released := true, phase := .boot, slot := p.boot.selector, secondTry := false }
      monitor := { p.monitor with running := true, slot := 0, slotBegan := p.clocks.mint } }, q⟩) ∧
  (∀ (p : Piece) (q : List Instr), p.boot.released = true → exec .sysResetRelease ⟨p, q⟩ = .next ⟨p, q⟩)

/-- An image that fails makes the boot ROM try the other slot once, and then the steward halts with READY low (R618). -/
def Sys2Proof.Claim.BootTriesTheOtherSlotOnce : Prop :=
  (∀ (p : Piece) (q : List Instr), p.boot.released = true → p.boot.phase = .boot → p.transport.state = .boot →
    p.boot.images[p.boot.slot]? = some none → p.boot.secondTry = false →
    exec (.bootImageVerified false) ⟨p, q⟩ = .next ⟨{ p with
      boot := { p.boot with slot := 1 - p.boot.slot, secondTry := true } }, q⟩) ∧
  (∀ (p : Piece) (q : List Instr), p.boot.released = true → p.boot.phase = .boot → p.transport.state = .boot →
    p.boot.images[p.boot.slot]? = some none → p.boot.secondTry = true →
    ∃ t, exec (.bootImageVerified false) ⟨p, q⟩ = .next ⟨t, q⟩ ∧ t.transport.state = .halted ∧
      t.boot = { p.boot with phase := .halted } ∧ t.transport.flights = p.transport.flights ∧ t.clocks = p.clocks ∧
      t.dmc = p.dmc) ∧
  (∀ (p : Piece) (q : List Instr), p.boot.released = true → p.boot.phase = .boot → p.transport.state = .boot →
    p.boot.images[p.boot.slot]? = some none →
    ∃ t, exec (.bootImageVerified true) ⟨p, q⟩ = .next ⟨t, q⟩ ∧ t.transport.state = .running ∧
      t.boot = { p.boot with phase := .memory } ∧ t.dmc.training = true ∧ t.clocks = p.clocks ∧ t.ledger = p.ledger)

/-- Training at bring-up: the channels run at the highest of 6,400, 5,600 and 4,800 MT/s that every channel passes (SPEED 2, 1, 0 of
R398), the Pricking is written and bring-up waits for REFIN; where even 4,800 MT/s fails on a channel, CH_UP shows those that
passed, every DRAM request is refused and a persistent entry is written (R387, R619, R621). -/
def Sys2Proof.Claim.TrainingTakesTheHighestCommonRate : Prop :=
  (∀ (p : Piece) (q : List Instr) (gib ranks : Nat) (rdimm : Bool) (r64 r56 r48 : Fin 16),
    p.dmc.training = true → p.transport.state = .running → gib ∈ [8, 16, 32, 64] → ranks ∈ [1, 2] →
    p.boot.phase = .memory → p.clocks.refinPresent = false → (r64 = 15 ∨ r56 = 15 ∨ r48 = 15) →
    exec (.ddr5TrainingDone gib ranks rdimm r64 r56 r48) ⟨p, q⟩ = .next ⟨{ p with
      dmc := { p.dmc with training := false, chUp := 15, gibPerChannel := gib, rdimm := rdimm, ranks := ranks
                          speed := if r64 = 15 then 2 else if r56 = 15 then 1 else 0 }
      boot := { p.boot with pricking := true, phase := .waitRef } }, q⟩) ∧
  (∀ (p : Piece) (q : List Instr) (gib ranks : Nat) (rdimm : Bool) (r64 r56 r48 : Fin 16),
    p.dmc.training = true → p.transport.state = .running → gib ∈ [8, 16, 32, 64] → ranks ∈ [1, 2] →
    p.boot.phase = .memory → p.clocks.refinPresent = false → r64 ≠ 15 → r56 ≠ 15 → r48 ≠ 15 →
    p.safety.persistent.length < 256 →
    ∃ t, exec (.ddr5TrainingDone gib ranks rdimm r64 r56 r48) ⟨p, q⟩ = .next ⟨t, q⟩ ∧
      t.dmc = { p.dmc with training := false, chUp := r48, speed := 0, gibPerChannel := gib, rdimm := rdimm, ranks := ranks } ∧
      dmcRefuses t.dmc = true ∧ t.boot = { p.boot with pricking := true, phase := .waitRef } ∧
      (∃ e, t.safety.persistent = p.safety.persistent ++ [e] ∧ e.persistent = true) ∧ t.clocks = p.clocks ∧
      t.ledger = p.ledger)

/-- Power, SYS_RESET, boot ROM and DDR5 training at bring-up. It says where these answer a next state: powerOn, powerDown, sysResetAssert, sysResetRelease, bootImageVerified, ddr5TrainingDone. -/
def Obligations.ResetsAndBoot : Prop :=
  Claim.ResetsOfThePiece ∧ Claim.ReleaseStartsTheBootRom ∧ Claim.BootTriesTheOtherSlotOnce ∧ Claim.TrainingTakesTheHighestCommonRate

/-- READY rises once CALIBRATE has ended and device DRAM is initialised, or untrained; CALMGR passes from STARTUP to SERVICE; before
that nothing happens (R315, R619, R621). -/
def Sys2Proof.Claim.ReadyWaitsForCalibrationAndMemory : Prop :=
  (∀ (p : Piece) (q : List Instr), p.boot.phase = .calibrate → p.transport.state = .running → p.cal.running = false →
    p.cal.startDue = false → (p.dmc.initDone = true ∨ dmcRefuses p.dmc = true) →
    exec .readyAssert ⟨p, q⟩ = .next ⟨{ p with
      boot := { p.boot with phase := .ready, ready := true }
      cal := { p.cal with mode := if p.cal.mode = .startup then .service else p.cal.mode } }, q⟩) ∧
  (∀ (p : Piece) (q : List Instr), p.boot.phase ≠ .calibrate ∨ p.cal.running = true ∨
      p.dmc.initDone = false ∧ dmcRefuses p.dmc = false →
    exec .readyAssert ⟨p, q⟩ = .next ⟨p, q⟩)

/-- In WAIT_REF a failed start is tried again after 100 ms: REFIN is measured, its nominal is the one of 5, 10 and 100 MHz within
±25 % of the measurement, and SYNTH begins where a band qualifies; before the 100 ms nothing happens (R44, R620). -/
def Sys2Proof.Claim.BringUpRetriesTheSynthesizer : Prop :=
  (∀ (p : Piece) (q : List Instr) (t period : Nat), p.boot.retryAt = some t → t ≤ p.clocks.mint →
    p.boot.phase = .waitRef → p.transport.state = .running → p.clocks.refinPresent = true → p.clocks.synth = .off →
    75000 ≤ period → period ≤ 125000 →
    exec (.waitRefRetry period) ⟨p, q⟩ = .next ⟨match selectBand factoryBands (dieTemp p) with
      | some band => { p with
          boot := { p.boot with retryAt := none, phase := .synth }
          clocks := { p.clocks with refinFreq := 1, bands := factoryBands, synth := .wait, band := band, bandTemp := dieTemp p
                                    lockWait := 2000 } }
      | none => raiseAlarm 0x0102 0x02 0 { p with
          boot := { p.boot with retryAt := some (p.clocks.mint + 256000000), phase := .waitRef }
          clocks := { p.clocks with refinFreq := 1, bands := factoryBands } }, q⟩) ∧
  (∀ (p : Piece) (q : List Instr) (t period : Nat), p.boot.retryAt = some t → p.clocks.mint < t → p.clocks.mintRun = true →
    exec (.waitRefRetry period) ⟨p, q⟩ = .next ⟨p, q⟩)

/-- Retry of the synthesizer in WAIT_REF, and READY. It says where these answer a next state: readyAssert, waitRefRetry. -/
def Obligations.BringUpToReady : Prop :=
  Claim.ReadyWaitsForCalibrationAndMemory ∧ Claim.BringUpRetriesTheSynthesizer

/-- The commands of a DMC that serves requests and change only its counters: a corrected error is counted with its address (R394),
a patrol scrub leaves contents as they are (R394), a refresh is postponed by at most four intervals of debt and then forced and
counted (R392), a neighbour refresh is counted and resets its entry to 0 (R393), the tables clear with the window (R393), a bulk
port but the raw stamp log's is promoted (R389), and panic is raised and counted once where the port's level calls for it, until it is cleared (R391). -/
def Sys2Proof.Claim.DmcCountsItsEvents : Prop :=
  (∀ (p : Piece) (q : List Instr) (a : Nat), dmcRefuses p.dmc = false →
    exec (.dramCorrectedError a) ⟨p, q⟩ = .next ⟨{ p with dmc := { p.dmc with
      ceCount := min (p.dmc.ceCount + 1) (2 ^ 32 - 1), lastCeAddr := a % 2 ^ 38 } }, q⟩) ∧
  (∀ (p : Piece) (q : List Instr), exec .patrolScrub ⟨p, q⟩ = .next ⟨p, q⟩) ∧
  (∀ (p : Piece) (q : List Instr) (busy : Bool), dmcRefuses p.dmc = false →
    exec (.refreshDue busy) ⟨p, q⟩ = .next ⟨{ p with dmc :=
      if busy = false then { p.dmc with refreshDebt := p.dmc.refreshDebt - 1 }
      else if p.dmc.refreshDebt < 4 then { p.dmc with refreshDebt := p.dmc.refreshDebt + 1 }
      else { p.dmc with refreshForced := min (p.dmc.refreshForced + 1) (2 ^ 32 - 1) } }, q⟩) ∧
  (∀ (p : Piece) (q : List Instr) (bank row : Nat), dmcRefuses p.dmc = false →
    ∃ t, exec (.neighbourRefresh bank row) ⟨p, q⟩ = .next ⟨{ p with dmc := { p.dmc with
        neighbourRefresh := min (p.dmc.neighbourRefresh + 1) (2 ^ 32 - 1), act := t } }, q⟩ ∧
      { bank := bank, row := row, count := 0 } ∈ t ∧
      (∀ e ∈ t, e.bank = bank → e.row = row → e.count = 0) ∧
      (∀ e, e.bank ≠ bank → (e ∈ t ↔ e ∈ p.dmc.act))) ∧
  (∀ (p : Piece) (q : List Instr), exec .actWindowClear ⟨p, q⟩ = .next ⟨{ p with dmc := { p.dmc with act := [] } }, q⟩) ∧
  (∀ (p : Piece) (q : List Instr) (port : Fin 5),
    exec (.bulkPromotion port) ⟨p, q⟩ = .next ⟨{ p with dmc := { p.dmc with promoted :=
      if port = 0 ∨ port.val ∈ p.dmc.promoted then p.dmc.promoted else p.dmc.promoted ++ [port.val] } }, q⟩) ∧
  (∀ (p : Piece) (q : List Instr) (port : Fin 20) (raise : Bool), bitAt p.dmc.panicActive port = raise ∨
    panicLevel p port raise = false → exec (.panicRaise port raise) ⟨p, q⟩ = .next ⟨p, q⟩) ∧
  (∀ (p : Piece) (q : List Instr) (port : Fin 20), bitAt p.dmc.panicActive port = false → panicLevel p port true = true →
    exec (.panicRaise port true) ⟨p, q⟩ = .next ⟨{ p with
      dmc := { p.dmc with panicActive := p.dmc.panicActive + 2 ^ port.val, panicCount := min (p.dmc.panicCount + 1) (2 ^ 32 - 1) }
      acq := if port.val < 16 then { p.acq with panics := min (p.acq.panics + 1) (2 ^ 32 - 1) } else p.acq }, q⟩) ∧
  (∀ (p : Piece) (q : List Instr) (port : Fin 20), bitAt p.dmc.panicActive port = true → panicLevel p port false = true →
    exec (.panicRaise port false) ⟨p, q⟩ = .next ⟨{ p with dmc := { p.dmc with
      panicActive := p.dmc.panicActive - 2 ^ port.val } }, q⟩)

/-- Initialisation leaves every byte of device DRAM zero, and is made once (R645). -/
def Sys2Proof.Claim.InitialisationZeroesDeviceMemory : Prop :=
  (∀ (p : Piece) (q : List Instr), dmcRefuses p.dmc = false → p.dmc.initDone = false →
    exec .dramInitDone ⟨p, q⟩ = .next ⟨{ p with dmc := { p.dmc with initDone := true, dram := [] } }, q⟩ ∧
    ∀ a, memByte [] a = 0) ∧
  (∀ (p : Piece) (q : List Instr), p.dmc.initDone = true ∨ dmcRefuses p.dmc = true →
    exec .dramInitDone ⟨p, q⟩ = .next ⟨p, q⟩)

/-- A freeze puts the ranks in self-refresh, records cause and address, keeps the contents, latches DMC_FREEZE (0x0501) in the
bank and starts a dump where none is held; from then on every request is refused; a second error changes nothing (R395,
R610). -/
def Sys2Proof.Claim.FreezeKeepsContentsAndRefuses : Prop :=
  (∀ (p : Piece) (q : List Instr) (parity : Bool) (a : Nat), p.dmc.frozen = false → p.transport.state ≠ .halted →
    p.safety.dump = none → p.safety.dumpPending = none →
    ∃ t, exec (.dmcFreeze parity a) ⟨p, q⟩ = .next ⟨t, q⟩ ∧
      t.dmc = { p.dmc with frozen := true, selfRefresh := true, subs := List.replicate 8 {}, freezeCause := if parity then 2 else 1
                           freezeAddr := a % 2 ^ 38
                           ueCount := if parity then p.dmc.ueCount else min (p.dmc.ueCount + 1) (2 ^ 32 - 1) } ∧
      (∀ (d : Nat) (bs : Bytes), isDevice d = true → pieceWrite d bs t = (t, .refused)) ∧
      (∃ d, t.safety.dumpPending = some d ∧ d.cause = 1) ∧
      (∀ x ∈ t.safety.alarms, x.code = 0x0501 → x.latched = true) ∧
      t.transport.sessions = p.transport.sessions ∧ t.clocks = p.clocks ∧ t.ledger = p.ledger ∧ t.rfin = p.rfin) ∧
  (∀ (p : Piece) (q : List Instr) (parity : Bool) (a : Nat), p.dmc.frozen = true →
    exec (.dmcFreeze parity a) ⟨p, q⟩ = .next ⟨p, q⟩)

/-- A device address names its channel by bits [9:8] and its subchannel by bit [6], one for all 64 bytes of a line (R388). No bank
queue ever holds more than 16 requests; a subchannel makes at most 16 column accesses to an open row before its pointer moves on, and
the pointer moves on with each activate and with nothing else (R390). -/
def Sys2Proof.Claim.BankQueuesServeInTurn : Prop :=
  (∀ a : Nat, dramChannel a = field a 8 2 ∧ dramSubchannel a = field a 6 1) ∧
  (∀ a b : Nat, a / 64 = b / 64 → dramChannel a = dramChannel b ∧ dramSubchannel a = dramSubchannel b) ∧
  (∀ (s : Subchannel) (r : DramRequest), (∀ b, (s.queued.filter (·.bank == b)).length ≤ 16) →
    (∀ b, ((s.request r).queued.filter (·.bank == b)).length ≤ 16) ∧
    ∀ b, (s.serve.1.queued.filter (·.bank == b)).length ≤ 16) ∧
  (∀ (s : Subchannel) (bank row n : Nat), s.serve.1.serving = some (bank, row, n) → 1 ≤ n ∧ n ≤ 16) ∧
  (∀ s : Subchannel, (s.serve.2 = none → s.serve.1.pointer = s.pointer) ∧
    ∀ bank row, s.serve.2 = some (bank, row) → s.serve.1.pointer = bank ∧ ∃ r ∈ s.queued, r.bank = bank ∧ r.row = row)

/-- DMC counters, refresh, initialisation, bank queues and the freeze. It says where these answer a next state: dramCorrectedError, patrolScrub, refreshDue, neighbourRefresh, actWindowClear, bulkPromotion, panicRaise, dramInitDone, dmcFreeze. -/
def Obligations.DeviceMemoryController : Prop :=
  Claim.DmcCountsItsEvents ∧ Claim.InitialisationZeroesDeviceMemory ∧ Claim.FreezeKeepsContentsAndRefuses ∧ Claim.BankQueuesServeInTurn

/-- A read of device DRAM after a write gives the bytes written, and every other byte is as it was (R380, R645). -/
def Obligations.MemoryReadsWhatWasWritten : Prop :=
  ∀ (m : List Host.Cell) (a : Nat) (bs : Bytes), Memory.wf m = true →
    Memory.wf (memWrite m a bs) = true ∧ memRead (memWrite m a bs) a bs.length = bs ∧
    ∀ x, x < a ∨ a + bs.length ≤ x → memByte (memWrite m a bs) x = memByte m x

/-- The link comes up: the secure channels pass from the management port to function 1 and the management port's epoch moves on (R415,
R425). A retrain shows in the status (R374). -/
def Sys2Proof.Claim.LinkUpPassesTheSecureChannels : Prop :=
  (∀ (p : Piece) (q : List Instr) (rate : Fin 8) (width : Fin 32) (cxl cache : Bool), p.hostif.linkUp = false →
    islandDead p 0x40 = false →
    ∃ t, exec (.hostLinkUp rate width cxl cache) ⟨p, q⟩ = .next ⟨t, q⟩ ∧
      t.hostif = { p.hostif with linkUp := true, rate := rate, width := width, cxl := cxl, cacheEn := cxl && cache } ∧
      t.transport.epochs = upd p.transport.epochs 2 (fun e => if e = 255 then 1 else e + 1) ∧
      (∀ ch, 16 ≤ ch → owner p ch = .mgmt ∧ owner t ch = .host1) ∧ (∀ ch, ch < 16 → owner t ch = .host0) ∧
      t.transport.claims = p.transport.claims ∧ t.transport.locks = p.transport.locks ∧ t.clocks = p.clocks ∧
      t.dmc = p.dmc ∧ t.stream = p.stream) ∧
  (∀ (p : Piece) (q : List Instr) (rate : Fin 8) (width : Fin 32) (cxl cache : Bool), p.hostif.linkUp = true →
    exec (.hostLinkUp rate width cxl cache) ⟨p, q⟩ = .next ⟨p, q⟩) ∧
  (∀ (p : Piece) (q : List Instr) (rate : Fin 8) (width : Fin 32), p.hostif.linkUp = true →
    exec (.linkRetrain rate width) ⟨p, q⟩ = .next ⟨{ p with hostif := { p.hostif with rate := rate, width := width } }, q⟩) ∧
  (∀ (p : Piece) (q : List Instr) (rate : Fin 8) (width : Fin 32), p.hostif.linkUp = false →
    exec (.linkRetrain rate width) ⟨p, q⟩ = .next ⟨p, q⟩)

/-- Removal of the link, and PERST_N with the link up: the epochs of functions 0 and 1 move on, host function 0's locks are free and
nobody else's, every default ring of a channel is disabled, no claim goes, and no panel of measurement changes (R384, R425, R431);
PERST_N also returns HOSTIF and the vectors to their reset values (R384, R616, R638). -/
def Sys2Proof.Claim.RemovalTakesOnlyTheHostSide : Prop :=
  ∀ (p : Piece) (q : List Instr) (i : Instr), i = .hostLinkRemoval ∨ i = .perstN → p.hostif.linkUp = true →
    ∃ t, exec i ⟨p, q⟩ = .next ⟨t, q⟩ ∧ t.hostif.linkUp = false ∧
      (i = .hostLinkRemoval → t.hostif.linkDownCount = min (p.hostif.linkDownCount + 1) (2 ^ 32 - 1)) ∧
      (i = .perstN → t.hostif = {} ∧ t.regs.msix0 = List.replicate 64 {} ∧ t.regs.msix1 = List.replicate 64 {}) ∧
      t.transport.epochs = upd (upd p.transport.epochs 0 fun e => if e = 255 then 1 else e + 1) 1
        (fun e => if e = 255 then 1 else e + 1) ∧
      t.transport.locks = (List.range p.transport.locks.length).map (fun n =>
        if n < 64 ∧ nth p.transport.locks n = 1 then 0 else nth p.transport.locks n) ∧
      (∀ ch < 20, (t.channel ch).ring.entries = 0) ∧
      t.transport.claims = p.transport.claims ∧ t.boot = p.boot ∧ t.clocks = p.clocks ∧ t.ledger = p.ledger ∧
      t.safety = p.safety ∧ t.rfin = p.rfin ∧ t.chan = p.chan ∧ t.xform = p.xform ∧ t.trigger = p.trigger ∧ t.acq = p.acq ∧
      t.stamp = p.stamp ∧ t.tally = p.tally ∧ t.gythen = p.gythen ∧ t.cal = p.cal ∧ t.scan = p.scan ∧ t.net = p.net

/-- A function-level reset acts for its function as removal, with the link up and the other function as it was (R378). -/
def Sys2Proof.Claim.FunctionLevelResetSparesTheOtherFunction : Prop :=
  ∀ (p : Piece) (q : List Instr) (fn : Fin 2), ∃ t, exec (.functionLevelReset fn) ⟨p, q⟩ = .next ⟨t, q⟩ ∧
    t.hostif.linkUp = p.hostif.linkUp ∧
    t.transport.epochs = upd p.transport.epochs fn.val (fun e => if e = 255 then 1 else e + 1) ∧
    (fn = 1 → t.transport.locks = p.transport.locks ∧ t.regs.msix1 = List.replicate 64 {}) ∧
    (fn = 0 → t.regs.msix0 = List.replicate 64 {}) ∧
    (∀ ch < 20, (ch < 16 ↔ fn = 0) → (t.channel ch).ring.entries = 0) ∧
    t.transport.claims = p.transport.claims ∧ t.boot = p.boot ∧ t.clocks = p.clocks ∧ t.ledger = p.ledger ∧
    t.safety = p.safety ∧ t.rfin = p.rfin ∧ t.trigger = p.trigger ∧ t.tally = p.tally ∧ t.gythen = p.gythen

/-- Link up, retrain, removal, PERST_N and function-level reset: what they change and what they keep. It says where these answer a next state: hostLinkUp, linkRetrain, hostLinkRemoval, perstN, functionLevelReset. -/
def Obligations.HostLinkComesAndGoes : Prop :=
  Claim.LinkUpPassesTheSecureChannels ∧ Claim.RemovalTakesOnlyTheHostSide ∧ Claim.FunctionLevelResetSparesTheOtherFunction

/-- An answer of the host to a read in flight, or its timeout, leaves flight and waits for the requester (R375); an answer to no
request changes nothing. -/
def Sys2Proof.Claim.HostAnswersLeaveFlight : Prop :=
  (∀ (p : Piece) (q : List Instr) (id : Nat) (r : HostRequest) (a : Answer),
    p.hostif.requests.find? (fun x => x.id == id) = some r →
    exec (.hostReadCompletion id a) ⟨p, q⟩ = .next ⟨{ p with hostif := { p.hostif with
      requests := p.hostif.requests.filter (fun x => x.id != id), answers := p.hostif.answers ++ [(r, a)] } }, q⟩ ∧
    exec (.hostRequestTimeout id) ⟨p, q⟩ = .next ⟨{ p with hostif := { p.hostif with
      requests := p.hostif.requests.filter (fun x => x.id != id), answers := p.hostif.answers ++ [(r, .timeout)] } }, q⟩) ∧
  (∀ (p : Piece) (q : List Instr) (id : Nat) (a : Answer), (∀ x ∈ p.hostif.requests, x.id ≠ id) →
    exec (.hostReadCompletion id a) ⟨p, q⟩ = .next ⟨p, q⟩ ∧ exec (.hostRequestTimeout id) ⟨p, q⟩ = .next ⟨p, q⟩)

/-- A host access to device DRAM, by BAR2 while the decoder is not committed or by HDM while it is: a write stores its bytes at the
device address, with a request for each of its lines, and nothing else, a read answers the bytes there and stores nothing (R377, R382). -/
def Sys2Proof.Claim.HostReachesDeviceMemory : Prop :=
  (∀ (p : Piece) (q : List Instr) (a n : Nat) (bs : Bytes), p.hostif.linkUp = true → p.hostif.hdmCommitted = false →
    dmcRefuses p.dmc = false → p.dmc.initDone = true → a + n ≤ capacity p.dmc → a + n ≤ 2 ^ 36 →
    (bs.length = n →
      exec (.bar2Access true a n bs) ⟨p, q⟩ = .next ⟨{ p with dmc := { p.dmc with
        dram := memWrite p.dmc.dram a bs, subs := requestLines a bs.length p.dmc.subs } }, q⟩) ∧
    exec (.bar2Access false a n bs) ⟨p, q⟩ = .next ⟨{ p with out := p.out ++ [.busData (memRead p.dmc.dram a n)] }, q⟩) ∧
  (∀ (p : Piece) (q : List Instr) (a n : Nat) (bs : Bytes), p.hostif.linkUp = true → p.hostif.hdmCommitted = true →
    dmcRefuses p.dmc = false → p.dmc.initDone = true → p.hostif.hdmBase ≤ a → a + n ≤ p.hostif.hdmBase + capacity p.dmc →
    (bs.length = n →
      exec (.hdmAccess true a n bs) ⟨p, q⟩ =
        .next ⟨{ p with dmc := { p.dmc with
          dram := memWrite p.dmc.dram (a - p.hostif.hdmBase) bs
          subs := requestLines (a - p.hostif.hdmBase) bs.length p.dmc.subs } }, q⟩) ∧
    exec (.hdmAccess false a n bs) ⟨p, q⟩ =
      .next ⟨{ p with out := p.out ++ [.busData (memRead p.dmc.dram (a - p.hostif.hdmBase) n)] }, q⟩)

/-- While the decoder is committed BAR2 refuses and counts; while the DMC refuses, a host write is dropped and counted, a read
through BAR2 aborts and one through HDM returns poisoned data (R377, R396). -/
def Sys2Proof.Claim.HostAccessesAreRefusedAsStated : Prop :=
  (∀ (p : Piece) (q : List Instr) (w : Bool) (a n : Nat) (bs : Bytes), p.hostif.linkUp = true →
    p.hostif.hdmCommitted = true → a + n ≤ 2 ^ 36 → (w = true → bs.length = n) →
    exec (.bar2Access w a n bs) ⟨p, q⟩ = .next ⟨{ p with
      hostif := { p.hostif with bar2Refused := min (p.hostif.bar2Refused + 1) (2 ^ 32 - 1) }
      out := p.out ++ [if w then .busDropped else .busUnsupported] }, q⟩) ∧
  (∀ (p : Piece) (q : List Instr) (a n : Nat) (bs : Bytes), p.hostif.linkUp = true → dmcRefuses p.dmc = true →
    p.hostif.hdmCommitted = false → a + n ≤ 2 ^ 36 →
    (bs.length = n → exec (.bar2Access true a n bs) ⟨p, q⟩ = .next ⟨{ p with
      dmc := { p.dmc with hostRefused := min (p.dmc.hostRefused + 1) (2 ^ 32 - 1) } }, q⟩) ∧
    exec (.bar2Access false a n bs) ⟨p, q⟩ = .next ⟨{ p with out := p.out ++ [.busAbort] }, q⟩) ∧
  (∀ (p : Piece) (q : List Instr) (a n : Nat) (bs : Bytes), p.hostif.linkUp = true → dmcRefuses p.dmc = true →
    p.hostif.hdmCommitted = true → p.hostif.hdmBase ≤ a → a + n ≤ p.hostif.hdmBase + capacity p.dmc →
    (bs.length = n → exec (.hdmAccess true a n bs) ⟨p, q⟩ = .next ⟨{ p with
      dmc := { p.dmc with hostRefused := min (p.dmc.hostRefused + 1) (2 ^ 32 - 1) } }, q⟩) ∧
    exec (.hdmAccess false a n bs) ⟨p, q⟩ = .next ⟨{ p with out := p.out ++ [.busPoisoned] }, q⟩)

/-- The decoder commits for the whole installed capacity with 1-way interleave; any other commit sets the error status and commits
nothing (R382). -/
def Sys2Proof.Claim.DecoderCommitsTheWholeCapacity : Prop :=
  (∀ (p : Piece) (q : List Instr) (base : Nat), p.hostif.linkUp = true → p.hostif.cxl = true → capacity p.dmc ≠ 0 →
    exec (.hdmDecoderCommit base (capacity p.dmc) 1) ⟨p, q⟩ = .next ⟨{ p with hostif := { p.hostif with
      hdmCommitted := true, hdmBase := base, hdmError := false } }, q⟩) ∧
  (∀ (p : Piece) (q : List Instr) (base size ways : Nat), p.hostif.linkUp = true → p.hostif.cxl = true →
    size ≠ capacity p.dmc ∨ ways ≠ 1 →
    exec (.hdmDecoderCommit base size ways) ⟨p, q⟩ = .next ⟨{ p with hostif := { p.hostif with hdmError := true } }, q⟩)

/-- BAR2, HDM, decoder commit and answers to the piece's own reads. It says where these answer a next state: hostReadCompletion, hostRequestTimeout, bar2Access, hdmAccess, hdmDecoderCommit. -/
def Obligations.HostAccesses : Prop :=
  Claim.HostAnswersLeaveFlight ∧ Claim.HostReachesDeviceMemory ∧ Claim.HostAccessesAreRefusedAsStated ∧ Claim.DecoderCommitsTheWholeCapacity

/-- The doorbell of a channel's owner: the staged notice enters the outbound queue; with an epoch that is not the sender's it is
voided, with 64 notices queued it is refused, and both are counted and set their bit; the side that does not own a secure channel
is ignored and counted (R415, R418, R419, R426, R432). -/
def Sys2Proof.Claim.DoorbellPostsVoidsOrRefuses : Prop :=
  ∀ (p : Piece) (q : List Instr) (r : Requester) (ch : Fin 20) (w : Word) (p1 : Piece) (n : Notice),
    p1 = onChannel ch (fun c => { c with staging := put c.staging 3 w.toNat }) p → n = noticeOf (p1.channel ch).staging →
    (r = owner p ch → n.epoch = p.epoch r → (p1.channel ch).outq.length < 64 →
      exec (.doorbell r ch w) ⟨p, q⟩ = .next ⟨onChannel ch (fun c => { c with outq := c.outq ++
        [{ notice := n, sender := r, entered := p.clocks.mint, timeout := c.timeoutTx }] }) p1, q⟩) ∧
    (r = owner p ch → n.epoch ≠ p.epoch r →
      exec (.doorbell r ch w) ⟨p, q⟩ = .next ⟨when (!(p1.channel ch).voided) (attention ch)
        (onChannel ch (fun c => { c with voided := true, voidCount := min (c.voidCount + 1) (2 ^ 32 - 1) }) p1), q⟩) ∧
    (r = owner p ch → n.epoch = p.epoch r → 64 ≤ (p1.channel ch).outq.length →
      exec (.doorbell r ch w) ⟨p, q⟩ = .next ⟨when (!(p1.channel ch).fullRefused) (attention ch)
        (onChannel ch (fun c => { c with fullRefused := true, fullCount := min (c.fullCount + 1) (2 ^ 32 - 1) }) p1), q⟩) ∧
    (16 ≤ ch.val → r ≠ owner p ch → r = .host1 ∨ r = .mgmt →
      exec (.doorbell r ch w) ⟨p, q⟩ = .next ⟨onChannel ch (fun c => { c with
        fullCount := min (c.fullCount + 1) (2 ^ 32 - 1) }) p, q⟩)

/-- A read of MBX_IN_LO by the owner takes the head of the inbound queue and returns its low word, or its low 64 bits; the rest is
captured for the reader; an empty queue reads zeros (R421, R427). -/
def Sys2Proof.Claim.InboundReadTakesTheHead : Prop :=
  ∀ (p : Piece) (q : List Instr) (r : Requester) (ch : Fin 20) (wide : Bool) (ws : List Nat) (stale : Bool), r = owner p ch →
    ws = (match (p.channel ch).inq with | [] => [0, 0, 0, 0] | x :: _ => noticeWords x.notice) →
    stale = (match (p.channel ch).inq with | [] => false | x :: _ => x.stale) →
    exec (.mbxInTake r ch wide) ⟨p, q⟩ = .next ⟨emit
      (.readValue r.number (if wide then [nth ws 0, nth ws 1] else [nth ws 0]))
      (onChannel ch (fun c => { c with
        inq := c.inq.drop 1
        captures := { requester := r.number, words := [if wide then 0 else nth ws 1, nth ws 2, nth ws 3] } ::
          c.captures.filter (fun x => x.requester != r.number)
        staleCount := if stale then c.staleCount - 1 else c.staleCount }) p), q⟩

/-- A 1 written to a W1C bit of MBX_STATUS by the owner clears that bit and no other (R428). -/
def Sys2Proof.Claim.StatusBitsClearByOnes : Prop :=
  ∀ (p : Piece) (q : List Instr) (r : Requester) (ch : Fin 20) (v : Word), r = owner p ch →
    exec (.mbxStatusClear r ch v) ⟨p, q⟩ = .next ⟨onChannel ch (fun c => { c with
      rejectedBit := c.rejectedBit && !bitAt v.toNat 5, fullRefused := c.fullRefused && !bitAt v.toNat 4
      voided := c.voided && !bitAt v.toNat 3, timeout := c.timeout && !bitAt v.toNat 2
      peerResetSeen := c.peerResetSeen && !bitAt v.toNat 1 }) p, q⟩

/-- A notice whose timer has run out stays queued and raises TIMEOUT once: to the host as sender the status bit with the attention
vector, to the steward as sender a journal entry; and the expiry is counted (R424). -/
def Sys2Proof.Claim.TimeoutIsRaisedOnce : Prop :=
  (∀ (p : Piece) (q : List Instr) (ch : Fin 20) (i : Nat) (x : Queued), (p.channel ch).outq[i]? = some x → x.timeout ≠ 0 →
    x.expired = false → x.entered + x.timeout * 2560 ≤ p.clocks.mint →
    ∃ t, exec (.mbxTimeoutExpiry ch true i) ⟨p, q⟩ = .next ⟨t, q⟩ ∧
      t = when (!(p.channel ch).timeout) (attention ch) (onChannel ch (fun c => { c with timeout := true })
        (onChannel ch (fun c => { c with timeoutCount := min (c.timeoutCount + 1) (2 ^ 32 - 1)
                                         outq := upd c.outq i fun y => { y with expired := true } }) p))) ∧
  (∀ (p : Piece) (q : List Instr) (ch : Fin 20) (i : Nat) (x : Queued), (p.channel ch).inq[i]? = some x → x.timeout ≠ 0 →
    x.expired = false → x.entered + x.timeout * 2560 ≤ p.clocks.mint →
    exec (.mbxTimeoutExpiry ch false i) ⟨p, q⟩ = .next ⟨
      writeJournal { code := 0x1002, panelType := 0x11, detail := [BitVec.ofNat 8 ch.val] }
        (onChannel ch (fun c => { c with timeoutCount := min (c.timeoutCount + 1) (2 ^ 32 - 1)
                                         inq := upd c.inq i fun y => { y with expired := true } }) p), q⟩) ∧
  (∀ (p : Piece) (q : List Instr) (ch : Fin 20) (i : Nat) (x : Queued), (p.channel ch).outq[i]? = some x →
    x.expired = true ∨ x.timeout = 0 →
    exec (.mbxTimeoutExpiry ch true i) ⟨p, q⟩ = .next ⟨p, q⟩)

/-- A held notice of the steward goes into its channel's inbound queue once a slot is free, and none is dropped; a queue that was
empty raises its vector (R422, R423). -/
def Sys2Proof.Claim.HeldNoticeIsPostedWhenASlotFrees : Prop :=
  ∀ (p : Piece) (q : List Instr) (ch : Fin 20) (n : Notice) (rest : List Notice) (p1 : Piece), (p.channel ch).held = n :: rest →
    p1 = onChannel ch (fun c => { c with held := rest }) p →
    ((p.channel ch).inq.length < 64 →
      exec (.stewardNoticePost ch) ⟨p, q⟩ = .next ⟨when (p1.channel ch).inq.isEmpty
          (raiseVector (channelFn ch) (if ch.val < 16 then ch.val else ch.val - 16))
        (onChannel ch (fun c => { c with inq := c.inq ++
          [{ notice := n, sender := .steward, entered := p.clocks.mint, timeout := c.timeoutRx }] }) p1), q⟩) ∧
    (64 ≤ (p.channel ch).inq.length → exec (.stewardNoticePost ch) ⟨p, q⟩ = .next ⟨p, q⟩)

/-- Doorbells, inbound reads, W1C bits, timeouts and held notices of the mailbox channels. It says where these answer a next state: doorbell, mbxInTake, mbxStatusClear, mbxTimeoutExpiry, stewardNoticePost. -/
def Obligations.MailboxQueues : Prop :=
  Claim.DoorbellPostsVoidsOrRefuses ∧ Claim.InboundReadTakesTheHead ∧ Claim.StatusBitsClearByOnes ∧ Claim.TimeoutIsRaisedOnce ∧
  Claim.HeldNoticeIsPostedWhenASlotFrees

/-- A read of a lock word: a free lock goes to the reader, the holder reads its own number, any other the holder's; ACQUIRED is set for
the holder alone (R429, R430). -/
def Sys2Proof.Claim.LockReadAcquires : Prop :=
  ∀ (p : Piece) (q : List Instr) (r : Requester) (n : Fin 64) (node : Fin 65536) (o : Nat), r ∈ [.host0, .steward] →
    o = nth p.transport.locks n →
    (o = 0 → exec (.lockAcquireRead r n false node) ⟨p, q⟩ = .next ⟨{ p with
      transport := { p.transport with locks := put p.transport.locks n r.number }
      out := p.out ++ [.readValue r.number [2 ^ 31 + r.number]] }, q⟩) ∧
    (o ≠ 0 → exec (.lockAcquireRead r n false node) ⟨p, q⟩ = .next ⟨{ p with
      out := p.out ++ [.readValue r.number [if r.number = o then 2 ^ 31 + o else o]] }, q⟩) ∧
    exec (.lockAcquireRead r n true node) ⟨p, q⟩ = .next ⟨{ p with
      transport := { p.transport with badRelease := min (p.transport.badRelease + 1) (2 ^ 32 - 1) }
      out := p.out ++ [.readValue r.number [0, 0]] }, q⟩

/-- A write releases a lock when the writer is the owner and writes its number; every other write is ignored and counted (R430). -/
def Sys2Proof.Claim.LockWriteReleases : Prop :=
  ∀ (p : Piece) (q : List Instr) (r : Requester) (n : Fin 64) (v : Word) (wide : Bool),
    r ∈ [.host0, .steward, .netRemote] →
    if wide = false ∧ nth p.transport.locks n = r.number ∧ v.toNat = nth p.transport.locks n then
      exec (.lockReleaseWrite r n v wide) ⟨p, q⟩ = .next ⟨{ p with transport := { p.transport with
        locks := put p.transport.locks n 0 } }, q⟩
    else exec (.lockReleaseWrite r n v wide) ⟨p, q⟩ = .next ⟨{ p with transport := { p.transport with
      badRelease := min (p.transport.badRelease + 1) (2 ^ 32 - 1) } }, q⟩

/-- Locks: reads acquire, the owner's matching write releases, all else is counted. It says where these answer a next state: lockAcquireRead, lockReleaseWrite. -/
def Obligations.LockBank : Prop :=
  Claim.LockReadAcquires ∧ Claim.LockWriteReleases

/-- The steward takes the head of the next channel in rotating order: a notice that R417 refuses is rejected, counted and completes
nothing; any other has its block fetched, from device DRAM or by a read of the host (R417, R420, R434); with 4,096 commands in flight
it takes none (R440). -/
def Sys2Proof.Claim.StewardTakesNoticesInRotation : Prop :=
  (∀ (p : Piece) (q : List Instr) (ch : Nat) (x : Queued) (rest : List Queued) (p1 : Piece), p.transport.state = .running →
    inFlight p < 4096 → nextServed p = some ch → (p.channel ch).outq = x :: rest →
    p1 = onChannel ch (fun c => { c with outq := rest, staleCount := if x.stale then c.staleCount - 1 else c.staleCount })
      { p with transport := { p.transport with lastServed := ch } } →
    (x.notice.kind ≠ 1 ∨ x.notice.length = 0 ∨ x.notice.address % 64 ≠ 0 ∨ x.notice.reserved ≠ 0 →
      exec .noticeTakeBySteward ⟨p, q⟩ = .next ⟨rejectNotice ch p1, q⟩) ∧
    (x.notice.kind = 1 → x.notice.length ≠ 0 → x.notice.address % 64 = 0 → x.notice.reserved = 0 →
      isDevice x.notice.address = true →
      exec .noticeTakeBySteward ⟨p, q⟩ =
        .next ⟨onChannel ch (fun c => { c with fetching := c.fetching ++ [x.notice] }) p1, q⟩) ∧
    (x.notice.kind = 1 → x.notice.length ≠ 0 → x.notice.address % 64 = 0 → x.notice.reserved = 0 →
      isDevice x.notice.address = false →
      exec .noticeTakeBySteward ⟨p, q⟩ =
        .next ⟨issueRead (.commandFetch ch) x.notice.address (64 * x.notice.length)
          (onChannel ch (fun c => { c with fetching := c.fetching ++ [x.notice] }) p1), q⟩)) ∧
  (∀ (p : Piece) (ch : Nat), nextServed p = some ch → (p.channel ch).outq ≠ [] ∧ ch < 20 ∧
    ∀ k < 20, 0 < k → (∀ j ≤ k, 0 < j → (p.transport.lastServed + j) % 20 ≠ ch) →
      (p.channel ((p.transport.lastServed + k) % 20)).outq = []) ∧
  (∀ (p : Piece) (q : List Instr), 4096 ≤ inFlight p → exec .noticeTakeBySteward ⟨p, q⟩ = .next ⟨p, q⟩)

/-- A fetch that fails executes nothing and completes nothing: the notice counts as rejected (R435). -/
def Sys2Proof.Claim.FailedFetchRejectsTheNotice : Prop :=
  ∀ (p : Piece) (q : List Instr) (ch : Fin 20) (n : Notice) (rest : List Notice), (p.channel ch).fetching = n :: rest →
    exec (.commandFetchFail ch) ⟨p, q⟩ = .next ⟨rejectNotice ch (dropRequest (.commandFetch ch)
      (onChannel ch (fun c => { c with fetching := rest }) p)), q⟩ ∧
    (∀ x : Piece, (rejectNotice ch x).transport.flights = x.transport.flights ∧
      rejectNotice ch x = when (!(x.channel ch).rejectedBit) (attention ch)
        (onChannel ch (fun c => { c with rejectedBit := true, rejected := min (c.rejected + 1) (2 ^ 32 - 1) }) x))

/-- COMMAND_FETCH_DONE: a fetched block that passes the checks stands in flight, not started; one that fails a check completes with
its status, an unknown opcode with ST_UNKNOWN, and nothing else is done (R433, R434, R443). -/
def Sys2Proof.Claim.FetchedBlockIsCheckedAndEnrolled : Prop :=
  ∀ (p : Piece) (q : List Instr) (ch : Fin 20) (answer : Answer) (n : Notice) (rest : List Notice) (bs : Bytes) (p1 : Piece) (f : Flight)
    (row : CmdRow),
    (p.channel ch).fetching = n :: rest → addrOk p.dmc n.address = true →
    (p.hostif.answers.find? fun a => a.1.use == .commandFetch ch.val) = none →
    pieceRead p n.address (64 * n.length) answer = .ok bs →
    p1 = dropRequest (.commandFetch ch) (onChannel ch (fun c => { c with fetching := rest }) p) →
    f = { order := p1.transport.nextOrder, opcode := u bs 0 2, channel := ch, session := u bs 4 2, tag := u bs 2 2 % 4096,
          irq := bitAt (u bs 6 2) 1, fenceBefore := bitAt (u bs 6 2) 0, isSealed := bitAt (u bs 6 2) 2,
          body := slice bs 32 (min (u bs 8 4) (bs.length - 32)) } →
    beforeReady p1 f.opcode = false →
    (∀ st, blockFault n ch bs (blockOf bs) = some st →
      exec (.commandFetchDone ch answer) ⟨p, q⟩ = .next ⟨failCheck f st false (enroll f p1), q⟩) ∧
    (blockFault n ch bs (blockOf bs) = none → cmdRow f.opcode = some row → headerFault (enroll f p1) row f = none →
      exec (.commandFetchDone ch answer) ⟨p, q⟩ = .next ⟨enroll f p1, q⟩) ∧
    (∀ st dup, blockFault n ch bs (blockOf bs) = none → cmdRow f.opcode = some row → headerFault (enroll f p1) row f = some (st, dup) →
      exec (.commandFetchDone ch answer) ⟨p, q⟩ = .next ⟨failCheck f st dup (enroll f p1), q⟩)

/-- The first check of a block that fails gives its status, in the order of R443: SEAL_CRC, the header's fields and LENGTH, the opcode. -/
def Sys2Proof.Claim.BlockChecksInOrder : Prop :=
  ∀ (n : Notice) (ch : Nat) (bs : Bytes) (b : Block), b = blockOf bs →
    (bitAt b.flags 2 = true → b.sealCrc ≠ sealOf n ch bs → blockFault n ch bs b = some 0x0A) ∧
    (bitAt b.flags 2 = false ∨ b.sealCrc = sealOf n ch bs →
      (4096 ≤ b.tag ∨ 8 ≤ b.flags ∨ isZero b.reserved = false ∨ (bitAt b.flags 2 = false ∧ b.sealCrc ≠ 0) ∨
        n.length * 64 < 32 + b.bodyLen ∨ (256 ≤ b.session ∧ b.session ≠ 0xFFFF) → blockFault n ch bs b = some 1) ∧
      (b.tag < 4096 → b.flags < 8 → isZero b.reserved = true → (bitAt b.flags 2 = false → b.sealCrc = 0) →
        32 + b.bodyLen ≤ n.length * 64 → b.session < 256 ∨ b.session = 0xFFFF →
        blockFault n ch bs b = if (cmdRow b.opcode).isNone then some 0x0D else none))

/-- The steward takes notices in rotation, fetches blocks, and checks them in order. It says where these answer a next state: noticeTakeBySteward, commandFetchFail, commandFetchDone. -/
def Obligations.NoticesAndBlocks : Prop :=
  Claim.StewardTakesNoticesInRotation ∧ Claim.FailedFetchRejectsTheNotice ∧ Claim.FetchedBlockIsCheckedAndEnrolled ∧ Claim.BlockChecksInOrder

/-- SYS_HELLO registers the default ring of its channel before it completes, and returns the identity words, the steward's firmware
version, the two epochs, the sessions free and the commands in flight (R490). -/
def Sys2Proof.Claim.HelloRegistersTheDefaultRing : Prop :=
  ∀ (p : Piece) (q : List Instr) (c : Cmd) (f : Flight) (p1 p2 : Piece), Claim.Starts 0x0101 c p f p1 →
    ringBodyOk p1 f.body 32 = true → ringMustWait p1 f.body = false →
    p2 = onChannel f.channel (fun d => { d with ring := (registerRing p1 (p1.channel f.channel).ring f.body).1 }) p1 →
    exec (.sysHello c) ⟨p, q⟩ = .next ⟨finish f 0 [0xD0A40001, 0x00004201, p2.transport.fwVersion,
      p2.epoch .steward * 256 + p2.epoch (owner p2 f.channel), 256 - p2.transport.sessions.length, inFlight p2] p2, q⟩

/-- SESSION_OPEN opens the lowest-numbered free session on its channel and returns its number; with 256 sessions open it completes
with ST_NORESOURCE (R436, R491). -/
def Sys2Proof.Claim.OpenTakesTheLowestFreeSession : Prop :=
  ∀ (p : Piece) (q : List Instr) (c : Cmd) (f : Flight) (p1 : Piece), Claim.Starts 0x0102 c p f p1 → isZero f.body = true →
    (∀ i < 256, (∀ s ∈ p1.transport.sessions, s.id ≠ i) → (∀ j < i, ∃ s ∈ p1.transport.sessions, s.id = j) →
      exec (.sessionOpen c) ⟨p, q⟩ = .next ⟨finish f 0 [i] { p1 with transport := { p1.transport with
        sessions := p1.transport.sessions ++ [{ id := i, channel := f.channel }] } }, q⟩) ∧
    ((∀ i < 256, ∃ s ∈ p1.transport.sessions, s.id = i) →
      exec (.sessionOpen c) ⟨p, q⟩ = .next ⟨finish f 8 [] p1, q⟩)

/-- SESSION_CLOSE releases the session's claims, aborts its commands that have not started, closes its stream channels and waits for
its started commands; a second one while it waits completes with ST_STATE (R438, R491). -/
def Sys2Proof.Claim.CloseReleasesClaimsAndWaits : Prop :=
  ∀ (p : Piece) (q : List Instr) (c : Cmd) (f : Flight) (p1 : Piece) (s : Session), Claim.Starts 0x0103 c p f p1 → isZero f.body = true →
    p1.session f.session = some s →
    (s.closing = false → exec (.sessionClose c) ⟨p, q⟩ = .next ⟨settle (setFlight { f with progress := .waiting .sessionClose f.session [] }
      (closeStreams f.session (abortNotStarted f.session f.order (onSession f.session (fun s => { s with closing := true })
        { p1 with transport := { p1.transport with claims := p1.transport.claims.filter (·.session != f.session) } })))), q⟩) ∧
    (s.closing = true → exec (.sessionClose c) ⟨p, q⟩ = .next ⟨finish f 9 [] p1, q⟩)

/-- PANEL_CLAIM of a panel that the Pricking lists: a free panel goes to the session, the holder's claim stands, any other session's gives
ST_BUSY; word 0 is the panel's window offset. A panel the Pricking does not list, and STREAM, give ST_RANGE (R437, R489, R492). -/
def Sys2Proof.Claim.ClaimGivesAPanelToOneSession : Prop :=
  ∀ (p : Piece) (q : List Instr) (c : Cmd) (f : Flight) (p1 : Piece) (t i : Nat), Claim.Starts 0x0104 c p f p1 → p1.boot.pricking = true →
    t = u f.body 0 1 → i = u f.body 1 1 → isZero (slice f.body 2 6) = true →
    ((t, i) ∉ panelEntries ∨ t = 0x0D → exec (.panelClaim c) ⟨p, q⟩ = .next ⟨finish f 1 [] p1, q⟩) ∧
    ((t, i) ∈ panelEntries → t ≠ 0x0D → claimHolder p1 t i = none →
      exec (.panelClaim c) ⟨p, q⟩ = .next ⟨finish f 0 [low32 (Config.windowOffset (panelIndex t i))] { p1 with transport := {
        p1.transport with claims := p1.transport.claims ++ [{ panelType := t, inst := i, session := f.session }] } }, q⟩) ∧
    ((t, i) ∈ panelEntries → t ≠ 0x0D → claimHolder p1 t i = some f.session →
      exec (.panelClaim c) ⟨p, q⟩ = .next ⟨finish f 0 [low32 (Config.windowOffset (panelIndex t i))] p1, q⟩) ∧
    (∀ h, (t, i) ∈ panelEntries → t ≠ 0x0D → claimHolder p1 t i = some h → h ≠ f.session →
      exec (.panelClaim c) ⟨p, q⟩ = .next ⟨finish f 3 [] p1, q⟩)

/-- PANEL_RELEASE takes the claim and nothing else; a claim that the session does not hold gives ST_STATE (R437, R492). -/
def Sys2Proof.Claim.ReleaseTakesTheClaimOnly : Prop :=
  ∀ (p : Piece) (q : List Instr) (c : Cmd) (f : Flight) (p1 : Piece) (t i : Nat), Claim.Starts 0x0105 c p f p1 →
    t = u f.body 0 1 → i = u f.body 1 1 → isZero (slice f.body 2 6) = true → (t, i) ∈ panelEntries →
    (claimHolder p1 t i = some f.session → exec (.panelRelease c) ⟨p, q⟩ = .next ⟨finish f 0 [] { p1 with transport := {
        p1.transport with claims := p1.transport.claims.filter fun x => !(x.panelType == t && x.inst == i) } }, q⟩) ∧
    (claimHolder p1 t i ≠ some f.session → exec (.panelRelease c) ⟨p, q⟩ = .next ⟨finish f 9 [] p1, q⟩)

/-- EVENT_RING_SET and COMPLETION_RING_SET register the ring of the session named in the header; word 0 tells a staged length (R494). -/
def Sys2Proof.Claim.RingCommandsRegisterTheSessionsRing : Prop :=
  ∀ (p : Piece) (q : List Instr) (c : Cmd) (f : Flight) (p1 : Piece) (s : Session) (old : Ring × Bool),
    (Claim.Starts 0x0107 c p f p1 → ringBodyOk p1 f.body 160 = true → ringMustWait p1 f.body = false → p1.session f.session = some s →
      old = registerRing p1 (s.eventRing.getD {}) f.body →
      exec (.eventRingSet c) ⟨p, q⟩ = .next ⟨finish f 0 [if old.2 then 1 else 0]
        (onSession f.session (fun s => { s with eventRing := some old.1 }) p1), q⟩) ∧
    (Claim.Starts 0x0108 c p f p1 → ringBodyOk p1 f.body 32 = true → ringMustWait p1 f.body = false → p1.session f.session = some s →
      old = registerRing p1 (s.ring.getD {}) f.body →
      exec (.completionRingSet c) ⟨p, q⟩ = .next ⟨finish f 0 [if old.2 then 1 else 0]
        (onSession f.session (fun s => { s with ring := some old.1 }) p1), q⟩)

/-- A registration over an old ring: ENTRIES zero disables; a change of ENTRIES alone while the ring holds records is staged; any other
change starts a new ring at record 0 with PHASE 1 (R449, R490). -/
def Sys2Proof.Claim.RegistrationStagesOrStartsAnew : Prop :=
  ∀ (p : Piece) (old : Ring) (b : Bytes),
    (u b 8 4 = 0 → ((registerRing p old b).1).entries = 0 ∧ (registerRing p old b).2 = false) ∧
    (u b 8 4 ≠ 0 → u b 8 4 ≠ old.entries → old.entries ≠ 0 → old.base = u b 0 8 → old.consumerAddr = u b 16 8 → old.holds p = true →
      registerRing p old b = ({ old with stagedEntries := some (u b 8 4) }, true)) ∧
    (u b 8 4 ≠ 0 → old.base ≠ u b 0 8 ∨ old.consumerAddr ≠ u b 16 8 ∨ (old.entries ≠ u b 8 4 ∧ old.holds p = false) →
      registerRing p old b = ({ base := u b 0 8, entries := u b 8 4, consumerAddr := u b 16 8 }, false) ∧
      ((registerRing p old b).1).next = 0 ∧ ((registerRing p old b).1).phase = true)

/-- SYS_HELLO, sessions, claims and rings. It says where these answer a next state: sysHello, sessionOpen, sessionClose, panelClaim, panelRelease, eventRingSet, completionRingSet. -/
def Obligations.SessionsAndClaims : Prop :=
  Claim.HelloRegistersTheDefaultRing ∧ Claim.OpenTakesTheLowestFreeSession ∧ Claim.CloseReleasesClaimsAndWaits ∧
  Claim.ClaimGivesAPanelToOneSession ∧ Claim.ReleaseTakesTheClaimOnly ∧ Claim.RingCommandsRegisterTheSessionsRing ∧
  Claim.RegistrationStagesOrStartsAnew

/-- ABORT_TAG ends a command of its session that has not started with ST_ABORTED; a started one runs on, and then, as for a tag that is
not in flight, ABORT_TAG completes with ST_STATE (R447). -/
def Obligations.AbortEndsWhatHasNotStarted : Prop :=
  ∀ (p : Piece) (q : List Instr) (c : Cmd) (f : Flight) (p1 : Piece) (tag : Nat), Claim.Starts 0x0109 c p f p1 → tag = u f.body 0 2 →
    tag < 4096 → isZero (slice f.body 2 6) = true →
    (∀ (g : Flight), p1.transport.flights.find? (fun g => g.session == f.session && g.order != f.order && g.tag == tag) = some g →
      (g.progress = .notStarted → exec (.abortTag c) ⟨p, q⟩ =
        .next ⟨finish f 0 [] (setFlight { g with progress := .held (g.completion 6 []) } p1), q⟩) ∧
      (g.progress ≠ .notStarted → exec (.abortTag c) ⟨p, q⟩ = .next ⟨finish f 9 [] p1, q⟩)) ∧
    ((∀ g ∈ p1.transport.flights, g.session = f.session → g.tag = tag → g.order = f.order) →
      exec (.abortTag c) ⟨p, q⟩ = .next ⟨finish f 9 [] p1, q⟩)

/-- A FENCE waits until every earlier command of its session is complete; with none earlier it is complete, with the Mint count at which
the last change of the session took effect (R445, R493). -/
def Sys2Proof.Claim.FenceWaitsForEarlierCommands : Prop :=
  ∀ (p : Piece) (q : List Instr) (c : Cmd) (f : Flight) (p1 : Piece), Claim.Starts 0x0106 c p f p1 → isZero f.body = true →
    exec (.fence c) ⟨p, q⟩ = .next ⟨settle (setFlight { f with progress := .waiting .fence 0 [] } p1), q⟩ ∧
    (∀ (g : Flight) (p2 : Piece), p2.transport.flights.find? (writable p2) = none → p2.transport.flights.find? (fenceDone p2) = some g →
      earlierOpen p2 g = false ∧ settleOnce p2 = setFlight { g with progress := .held (g.completion 0
        [low32 (lastEffectOf p2 g.session), high32 (lastEffectOf p2 g.session)]) } p2)

/-- A record that is due to a ring with room is written at its slot, the ring goes on by one record, and COMPLETE_IRQ posts a COMPLETION
notice that points to it; a record due to a disabled ring, or that its memory cannot take, is voided and counted. The command leaves
flight either way (R413, R448, R449, R450, R451). -/
def Sys2Proof.Claim.CompletionIsWrittenOrVoided : Prop :=
  ∀ (f : Flight) (c : Completion) (p p1 : Piece) (r : Ring), r = ringFor p f c.status →
    (r.entries = 0 → writeCompletion f c p = countVoided (land f p)) ∧
    (r.entries ≠ 0 → pieceWrite (r.base + r.slot * 32) (c.bytes r.phase) p = (p1, .ok) →
      writeCompletion f c p = when f.irq (postNotice f.channel 2 (r.base + r.slot * 32) 1) (land f (setRingFor f c.status r.advance p1))) ∧
    (∀ t, r.entries ≠ 0 → pieceWrite (r.base + r.slot * 32) (c.bytes r.phase) p = (p1, t) → t ≠ .ok →
      writeCompletion f c p = countVoided (land f p1)) ∧
    (∀ g, g ∈ (land f p).transport.flights ↔ g ∈ p.transport.flights ∧ g.order ≠ f.order)

/-- The completion record of a command in flight is 32 bytes: TAG, SESSION, STATUS, flags with PHASE and DUPLICATE, OPCODE and the six
result words (R448). -/
def Sys2Proof.Claim.CompletionRecordLayout : Prop :=
  ∀ (c : Completion) (ph : Bool), c.tag < 65536 → c.session < 65536 → c.status < 256 → c.opcode < 65536 → c.results.length ≤ 6 →
    (c.bytes ph).length = 32 ∧ u (c.bytes ph) 0 2 = c.tag ∧ u (c.bytes ph) 2 2 = c.session ∧ u (c.bytes ph) 4 1 = c.status ∧
    u (c.bytes ph) 5 1 = (if ph then 128 else 0) + (if c.duplicate then 1 else 0) ∧ u (c.bytes ph) 6 2 = c.opcode

/-- A command that completes while no other is in flight has its record written at once, where its ring has room or is disabled; one
that took effect with ST_OK leaves the Mint count for a later FENCE (R444, R445, R449). -/
def Sys2Proof.Claim.LoneCompletionIsWrittenAtOnce : Prop :=
  ∀ (p p1 : Piece) (f : Flight) (st : Nat) (rs : List Nat) (g : Flight), p.transport.flights = [f] →
    g = { f with progress := .held (f.completion st rs) } →
    p1 = setFlight g (when (st == 0 && !changesNothing f) (noteEffect f.session) p) →
    (ringFor p1 g st).entries = 0 ∨ (ringFor p1 g st).full p1 = false →
    finish f st rs p = writeCompletion g (f.completion st rs) p1

/-- The retry of a full ring reads the consumer index again and writes the completions that then have room (R450). -/
def Sys2Proof.Claim.RingRetryRereadsTheIndex : Prop :=
  ∀ (p : Piece) (q : List Instr) (ch : Fin 20) (s : Nat) (bs : Bytes), 
    exec (.completionRingRetry 0xFFFF ch (.data bs)) ⟨p, q⟩ = .next ⟨settle
      (onChannel ch (fun c => { c with ring := { c.ring with consumer := u bs 0 4 } }) p), q⟩ ∧
    (s < 256 → exec (.completionRingRetry s ch (.data bs)) ⟨p, q⟩ = .next ⟨settle
      (onSession s (fun x => { x with ring := x.ring.map fun r => { r with consumer := u bs 0 4 } }) p), q⟩)

/-- FENCE, completion records, their rings and the retry of a full ring. It says where these answer a next state: fence, completionRingRetry. -/
def Obligations.FencesAndCompletions : Prop :=
  Claim.FenceWaitsForEarlierCommands ∧ Claim.CompletionIsWrittenOrVoided ∧ Claim.CompletionRecordLayout ∧
  Claim.LoneCompletionIsWrittenAtOnce ∧ Claim.RingRetryRereadsTheIndex

/-- A 32-bit read of a low word returns it and holds the words above it for the reader alone, as they stand; a 64-bit read of a pair
leaves no shadow (R635, R636). -/
def Sys2Proof.Claim.LowWordReadHoldsTheRest : Prop :=
  ∀ (p : Piece) (q : List Instr) (r : Requester) (a loc : RegLoc) (wide : Bool), loc = resolve a → reaches p r loc = true → aligned a wide = true →
    captures loc ≠ [] → mbxAt loc = none → lockAt loc = none →
    ∃ t, exec (.rscLowRead r a wide) ⟨p, q⟩ = .next ⟨t, q⟩ ∧
      t.out = p.out ++ [.readValue r.number (if wide then [liveWord p r loc, liveWord p r (nextWord loc)] else [liveWord p r loc])] ∧
      (wide = false → ∀ l ∈ captures loc, shadowOf t r l = some (liveWord p r l)) ∧
      (wide = true → shadowOf t r (nextWord loc) = none) ∧
      (∀ r' l, r'.number ≠ r.number → shadowOf t r' l = shadowOf p r' l)

/-- A read of a captured word returns the reader's shadow and clears it; with no shadow it returns the live value (R635). -/
def Sys2Proof.Claim.ShadowReadsOnce : Prop :=
  ∀ (p : Piece) (q : List Instr) (r : Requester) (a loc : RegLoc), loc = resolve a → reaches p r loc = true → aligned a false = true →
    captures loc = [] → mbxAt loc = none → lockAt loc = none →
    (∀ v, shadowOf p r loc = some v → ∃ t, exec (.shadowRead r a) ⟨p, q⟩ = .next ⟨t, q⟩ ∧
      t.out = p.out ++ [.readValue r.number [v]] ∧ shadowOf t r loc = none ∧
      (∀ r' l, (r', l) ≠ (r, loc) → shadowOf t r' l = shadowOf p r' l)) ∧
    (shadowOf p r loc = none → exec (.shadowRead r a) ⟨p, q⟩ =
      .next ⟨{ p with out := p.out ++ [.readValue r.number [liveWord p r loc]] }, q⟩)

/-- A write changes the register it names: a staging word by the channel's owner, an MSI-X message; a 64-bit one to MBX_NOTICE_HI rings
the doorbell with what it staged; in function 0 the identity block, the alarm bank and the offsets of no block ignore it (R7, R10, R418, R634, R638, R641). -/
def Sys2Proof.Claim.RegisterWriteReachesItsRegister : Prop :=
  ∀ (p : Piece) (q : List Instr) (v : BitVec 64), p.boot.released = true → p.hostif.linkUp = true →
    (∀ (ch : Fin 16) (k : Fin 3), exec (.registerWrite .host0 (.fixed0 (0x1000 + 0x100 * ch + 4 * k)) v false) ⟨p, q⟩ =
      .next ⟨onChannel ch (fun c => { c with staging := put c.staging k (v.toNat % 2 ^ 32) }) p, q⟩) ∧
    (∀ n : Fin 64, exec (.registerWrite .host0 (.fixed0 (0x8000 + 16 * n)) v false) ⟨p, q⟩ =
      .next ⟨{ p with regs := { p.regs with msix0 := upd p.regs.msix0 n fun e => { e with addrLo := v.toNat % 2 ^ 32 / 4 * 4 } } }, q⟩) ∧
    (∀ off, off < 0x14 ∨ (0x20000 ≤ off ∧ off < 0x23000) → exec (.registerWrite .host0 (.fixed0 off) v false) ⟨p, q⟩ = .next ⟨p, q⟩) ∧
    (∀ ch : Fin 16, exec (.registerWrite .host0 (.fixed0 (0x1000 + 0x100 * ch + 8)) v true) ⟨p, q⟩ =
      .next ⟨ringDoorbell .host0 ch (v.toNat / 2 ^ 32) (onChannel ch (fun c => { c with staging := put c.staging 2 (v.toNat % 2 ^ 32) }) p), q⟩)

/-- A write of MSIX_CTRL sets MASK; a vector that was raised while masked is sent when it is unmasked (R638). -/
def Sys2Proof.Claim.UnmaskSendsWhatIsPending : Prop :=
  ∀ (p : Piece) (q : List Instr) (v : Fin 64) (e : MsixEntry) (es : List MsixEntry), p.hostif.linkUp = true → p.regs.msix0[v.val]? = some e →
    (∀ w : Word, w.toNat % 2 = 1 → exec (.msixCtrlWrite 0 v w) ⟨p, q⟩ = .next ⟨{ p with regs := { p.regs with
      msix0 := upd p.regs.msix0 v fun e => { e with mask := true } } }, q⟩) ∧
    (∀ w : Word, w.toNat % 2 = 0 → es = upd p.regs.msix0 v (fun e => { e with mask := false, pending := false }) →
      exec (.msixCtrlWrite 0 v w) ⟨p, q⟩ = .next ⟨(if e.pending then raiseVector 0 v else id) { p with regs := { p.regs with msix0 := es } }, q⟩)

/-- A 1 written at LATCHED by function 1 or the management port clears the whole entry; a group clear clears every entry of the groups it
names; a 0 changes nothing and function 0 clears nothing (R641). -/
def Sys2Proof.Claim.AlarmClearsWholeEntries : Prop :=
  ∀ (p : Piece) (q : List Instr) (r : Requester) (v : Word), p.boot.released = true → p.hostif.linkUp = true →
    (∀ code, r = .host1 ∨ r = .mgmt → v.toNat / 2 ^ 31 % 2 = 1 → exec (.alarmEntryClear r code v) ⟨p, q⟩ = .next ⟨{ p with safety := { p.safety with
      alarms := p.safety.alarms.map fun a => if a.code = code then { code := code } else a } }, q⟩) ∧
    (∀ code, v.toNat / 2 ^ 31 % 2 = 0 → exec (.alarmEntryClear r code v) ⟨p, q⟩ = .next ⟨p, q⟩) ∧
    (r = .host1 ∨ r = .mgmt → exec (.safeGroupClear r v) ⟨p, q⟩ = .next ⟨{ p with safety := { p.safety with
      alarms := p.safety.alarms.map fun a =>
        if a.code / 256 < 16 ∧ v.toNat / 2 ^ (a.code / 256) % 2 = 1 then { code := a.code } else a } }, q⟩) ∧
    (∀ code, r = .host0 ∨ r = .steward → exec (.alarmEntryClear r code v) ⟨p, q⟩ = .next ⟨p, q⟩ ∧
      exec (.safeGroupClear r v) ⟨p, q⟩ = .next ⟨p, q⟩)

/-- Register reads with shadows, register writes, MSI-X control and the alarm block. It says where these answer a next state: rscLowRead, shadowRead, registerWrite, msixCtrlWrite, alarmEntryClear, safeGroupClear. -/
def Obligations.RegistersAndVectors : Prop :=
  Claim.LowWordReadHoldsTheRest ∧ Claim.ShadowReadsOnce ∧ Claim.RegisterWriteReachesItsRegister ∧ Claim.UnmaskSendsWhatIsPending ∧
  Claim.AlarmClearsWholeEntries

/-- A write of PIECE_PANEL_RESET records the request and sets BUSY; while BUSY it is ignored (R617). -/
def Sys2Proof.Claim.PanelResetRequestSetsBusy : Prop :=
  ∀ (p : Piece) (q : List Instr) (v : Word), p.boot.released = true → p.hostif.linkUp = true →
    (p.regs.resetBusy = false → exec (.piecePanelResetWrite v) ⟨p, q⟩ = .next ⟨{ p with regs := { p.regs with
      resetBusy := true, resetSession := v.toNat / 65536 % 256, resetInst := v.toNat / 256 % 256, resetType := v.toNat % 256 } }, q⟩) ∧
    (p.regs.resetBusy = true → exec (.piecePanelResetWrite v) ⟨p, q⟩ = .next ⟨p, q⟩)

/-- The steward answers a request for a panel reset: it refuses with ST_NOSESSION, ST_RANGE, ST_NOTCLAIMED or ST_STATE and resets
nothing, or resets the panel, aborts the commands that wait on it and clears the shadows of its registers; BUSY clears (R617, R636). -/
def Sys2Proof.Claim.PanelResetIsPerformedOrRefused : Prop :=
  ∀ (p : Piece) (q : List Instr) (t i s : Nat), p.regs.resetBusy = true → p.transport.state = .running → t = p.regs.resetType →
    i = p.regs.resetInst → s = p.regs.resetSession →
    ((∀ x ∈ p.transport.sessions, x.id = s → 16 ≤ x.channel) →
      exec .panelReset ⟨p, q⟩ = .next ⟨{ p with regs := { p.regs with resetBusy := false, resetStatus := 4 } }, q⟩) ∧
    ((∃ x ∈ p.transport.sessions, x.id = s ∧ x.channel < 16) →
      ((t, i) ∉ panelEntries →
        exec .panelReset ⟨p, q⟩ = .next ⟨{ p with regs := { p.regs with resetBusy := false, resetStatus := 1 } }, q⟩) ∧
      ((t, i) ∈ panelEntries → claimHolder p t i ≠ some s →
        exec .panelReset ⟨p, q⟩ = .next ⟨{ p with regs := { p.regs with resetBusy := false, resetStatus := 5 } }, q⟩) ∧
      ((t, i) ∈ panelEntries → claimHolder p t i = some s → resetRefused p t i = true →
        exec .panelReset ⟨p, q⟩ = .next ⟨{ p with regs := { p.regs with resetBusy := false, resetStatus := 9 } }, q⟩) ∧
      (∀ p1, (t, i) ∈ panelEntries → claimHolder p t i = some s → resetRefused p t i = false → t ≠ 0x17 →
        p1 = abortWaiting t i (resetPanel t i p) →
        exec .panelReset ⟨p, q⟩ = .next ⟨{ p1 with regs := { p1.regs with
          shadows := p1.regs.shadows.filter fun x => !ownedBy t i x.loc, resetBusy := false, resetStatus := 0 } }, q⟩))

/-- PIECE_PANEL_RESET: the request, its refusals and the reset. It says where these answer a next state: piecePanelResetWrite, panelReset. -/
def Obligations.PanelResets : Prop :=
  Claim.PanelResetRequestSetsBusy ∧ Claim.PanelResetIsPerformedOrRefused

/-- The management port reads a word of the function 1 map as requester 0x03; a misaligned offset, one of 0x10_0000 or above, or a wrong
count reads zero and writes nothing; a wrong packet error code and an unknown command code are not acknowledged (R643, R644). -/
def Sys2Proof.Claim.ManagementPortAnswers : Prop :=
  ∀ (p : Piece) (q : List Instr) (off n : Nat) (v : Word), p.boot.released = true →
    (off % 4 = 0 → off < 0x100000 → ∀ (t : Piece) (ws : List Nat), readReg .mgmt (.fixed1 off) false p = (t, ws) →
      exec (.mgmtReadWord off 4 true) ⟨p, q⟩ = .next ⟨{ t with out := t.out ++ [.mgmtWord (nth ws 0)] }, q⟩) ∧
    (off % 4 = 0 → off < 0x100000 → exec (.mgmtWriteWord off 8 v true) ⟨p, q⟩ = .next ⟨writeReg .mgmt (.fixed1 off) v.toNat p, q⟩) ∧
    (off % 4 ≠ 0 ∨ 0x100000 ≤ off ∨ n ≠ 4 →
      exec (.mgmtReadWord off n true) ⟨p, q⟩ = .next ⟨{ p with out := p.out ++ [.mgmtWord 0] }, q⟩) ∧
    (off % 4 ≠ 0 ∨ 0x100000 ≤ off ∨ n ≠ 8 → exec (.mgmtWriteWord off n v true) ⟨p, q⟩ = .next ⟨p, q⟩) ∧
    exec (.mgmtReadWord off n false) ⟨p, q⟩ = .next ⟨{ p with out := p.out ++ [.mgmtNoAck] }, q⟩ ∧
    exec (.mgmtWriteWord off n v false) ⟨p, q⟩ = .next ⟨{ p with out := p.out ++ [.mgmtNoAck] }, q⟩ ∧
    (∀ c : Byte, c ≠ 0x10 → c ≠ 0x11 → exec (.mgmtUnknownCommand c) ⟨p, q⟩ = .next ⟨{ p with out := p.out ++ [.mgmtNoAck] }, q⟩)

/-- Of a secure channel the management port reads the status but, while function 1 owns it, its doorbell is ignored and counted; the MSI-X
region reads zero to it (R415, R643). -/
def Sys2Proof.Claim.ManagementPortSeesNoMsix : Prop :=
  ∀ (p : Piece) (off : Nat) (v : Nat), 0x8000 ≤ off → off < 0x8408 →
    liveWord p .mgmt (.fixed1 off) = 0 ∧ writeReg .mgmt (.fixed1 off) v p = p

/-- The management port: reads, writes, faulty transactions and the MSI-X region. It says where these answer a next state: mgmtReadWord, mgmtWriteWord, mgmtUnknownCommand. -/
def Obligations.ManagementPort : Prop :=
  Claim.ManagementPortAnswers ∧ Claim.ManagementPortSeesNoMsix

/-- An event record goes to the event ring of the session that claims its panel; of an unclaimed panel, or of a session with no event
ring, it is voided and counted; a full ring drops it, counts it and keeps the moment of the first loss (R495, R497). -/
def Sys2Proof.Claim.EventRecordFindsItsRing : Prop :=
  ∀ (p : Piece) (q : List Instr) (a : Answer) (e : EventRecord) (rest : List EventRecord) (p1 p2 : Piece), p.transport.raised = e :: rest →
    p1 = { p with transport := { p.transport with raised := rest } } →
    (claimHolder p1 e.panelType e.inst = none → exec (.eventRecordWrite a) ⟨p, q⟩ = .next ⟨{ p1 with hostif := { p1.hostif with
      voidedCompletions := min (p1.hostif.voidedCompletions + 1) (2 ^ 32 - 1) } }, q⟩) ∧
    (∀ (id : Nat) (s : Session) (r : Ring), claimHolder p1 e.panelType e.inst = some id → p2 = writeGap id (rereadEvent id a p1) →
      p2.session id = some s →
      (s.eventRing = none ∨ (s.eventRing = some r ∧ r.entries = 0) →
        exec (.eventRecordWrite a) ⟨p, q⟩ = .next ⟨countVoided p2, q⟩) ∧
      (s.eventRing = some r → r.entries ≠ 0 → s.lost = 0 → r.full p2 = false →
        exec (.eventRecordWrite a) ⟨p, q⟩ = .next ⟨writeEvent id r e p2, q⟩) ∧
      (s.eventRing = some r → r.entries ≠ 0 → s.lost ≠ 0 ∨ r.full p2 = true →
        exec (.eventRecordWrite a) ⟨p, q⟩ = .next ⟨countRecordDrop e (onSession id (fun s =>
          { s with lost := s.lost + 1, lostMint := if s.lost = 0 then p2.clocks.mint else s.lostMint }) p2), q⟩))

/-- The retry of an event ring reads its consumer index again, and the first free slot takes one GAP record with the count of the records
lost (R497). -/
def Sys2Proof.Claim.GapTakesTheFirstFreeSlot : Prop :=
  ∀ (p : Piece) (q : List Instr) (id : Fin 256) (bs : Bytes) (s : Session) (r : Ring) (p1 : Piece),
    p1 = onSession id (fun s => { s with eventRing := s.eventRing.map fun r => { r with consumer := u bs 0 4 } }) p →
    p1.session id = some s → s.eventRing = some r → r.entries ≠ 0 →
    (0 < s.lost → r.full p1 = false → ∃ (p2 : Piece) (g : EventRecord), gapRecord s p1 = (p2, g) ∧ g.kind = 1 ∧ u g.body 0 4 = s.lost % 2 ^ 32 ∧
      exec (.eventRingRetry id (.data bs)) ⟨p, q⟩ = .next ⟨onSession id (fun s => { s with lost := 0 }) (writeEvent id r g p2), q⟩) ∧
    (s.lost = 0 ∨ r.full p1 = true → exec (.eventRingRetry id (.data bs)) ⟨p, q⟩ = .next ⟨p1, q⟩)

/-- Event records reach the ring of the claiming session; losses are told by one GAP. It says where these answer a next state: eventRecordWrite, eventRingRetry. -/
def Obligations.EventRecords : Prop :=
  Claim.EventRecordFindsItsRing ∧ Claim.GapTakesTheFirstFreeSlot

/-- REFIN is judged by its cycles: a period within ±25 % of nominal is good, any other and a missing edge after 1.25 periods is bad, and
each kind ends the run of the other. Four consecutive bad cycles declare it lost: REFIN_PRESENT falls, the loss is counted, REF_LOSS
latches; 1,024 consecutive good ones declare it present (R40, R42). -/
def Sys2Proof.Claim.RefinLossAndPresence : Prop :=
  (∀ (c : Clocks) (n per : Nat), 0 < n →
    (3 * refinPeriod c.refinFreq ≤ 4 * per ∧ 4 * per ≤ 5 * refinPeriod c.refinFreq →
      countCycles c (n, some per) = { c with refinGood := c.refinGood + n, refinBad := 0 }) ∧
    (4 * per < 3 * refinPeriod c.refinFreq ∨ 5 * refinPeriod c.refinFreq < 4 * per →
      countCycles c (n, some per) = { c with refinBad := c.refinBad + n, refinGood := 0 }) ∧
    countCycles c (n, none) = { c with refinBad := c.refinBad + n, refinGood := 0 }) ∧
  ∀ (p : Piece) (q : List Instr) (cycles : List (Nat × Option Nat)) (c : Clocks), c = measureCycles cycles p.clocks →
    (∀ p1, c.refinPresent = true → p.boot.retryAt = none →
      p1 = trackFreq (onClocks fun c => { c with refinPresent := false, refinLossCount := min (c.refinLossCount + 1) (2 ^ 32 - 1)
                                                 relockWindows := 0 }) { p with clocks := c } →
      (4 ≤ c.refinBad → exec (.refLoss cycles) ⟨p, q⟩ = .next ⟨raiseAlarm 0x0100 0x02 0 p1, q⟩) ∧
      (c.refinBad < 4 → exec (.refLoss cycles) ⟨p, q⟩ = .next ⟨{ p with clocks := c }, q⟩)) ∧
    (p.boot.released = true → c.refinPresent = false → p.boot.phase = .ready →
      (1024 ≤ c.refinGood → exec (.refinPresent cycles) ⟨p, q⟩ =
        .next ⟨trackFreq (onClocks fun c => { c with refinPresent := true }) { p with clocks := c }, q⟩) ∧
      (c.refinGood < 1024 → exec (.refinPresent cycles) ⟨p, q⟩ = .next ⟨{ p with clocks := c }, q⟩))

/-- PPSIN: the first pulse is the anchor; a pulse within ±PPS_WINDOW of its expected time, in a window without a verdict, is good and the
new anchor; any other counts as bad and moves the anchor only while PPSIN is not present; before LOCKED nothing is evaluated. The time is
that at the ball (R22, R41). -/
def Sys2Proof.Claim.PulsesAreJudgedByTheirWindow : Prop :=
  ∀ (p : Piece) (q : List Instr) (fr : Fin 65536) (t : T16), t = T16.ofTick p.clocks.mint + fr.val - Config.rootDelay 21 →
    (p.clocks.synth ≠ .locked → exec (.ppsinPulse fr) ⟨p, q⟩ = .next ⟨p, q⟩) ∧
    (p.clocks.synth = .locked → p.clocks.ppsAnchor = none → p.clocks.ppsPresent = false →
      exec (.ppsinPulse fr) ⟨p, q⟩ = .next ⟨{ p with clocks := { p.clocks with
        ppsBad := p.clocks.ppsBad + 1, ppsGood := 0, ppsAnchor := some t, ppsAnchorRate := rateIntegral p.ledger t,
        ppsWindows := 0 } }, q⟩) ∧
    (∀ a n within, p.clocks.synth = .locked → p.clocks.ppsAnchor = some a → ppsVerdict p a t = (n, within) →
      (within = true → p.clocks.ppsWindows < n → p.ledger.source = .none → p.ledger.epochWait = none →
        (nth p.fabric.aux 5).en = false →
        exec (.ppsinPulse fr) ⟨p, q⟩ = .next ⟨{ p with clocks := { p.clocks with
          ppsAnchor := some t, ppsAnchorRate := rateIntegral p.ledger t, ppsWindows := 0, ppsGood := p.clocks.ppsGood + 1
          ppsBad := 0 } }, q⟩) ∧
      (within = false ∨ n ≤ p.clocks.ppsWindows → p.clocks.ppsPresent = true →
        exec (.ppsinPulse fr) ⟨p, q⟩ = .next ⟨{ p with clocks := { p.clocks with
          ppsBad := p.clocks.ppsBad + 1, ppsGood := 0 } }, q⟩) ∧
      (within = false ∨ n ≤ p.clocks.ppsWindows → p.clocks.ppsPresent = false →
        exec (.ppsinPulse fr) ⟨p, q⟩ = .next ⟨{ p with clocks := { p.clocks with
          ppsBad := p.clocks.ppsBad + 1, ppsGood := 0, ppsAnchor := some t, ppsAnchorRate := rateIntegral p.ledger t,
          ppsWindows := 0 } }, q⟩))

/-- A window that closes without a pulse counts as a missing pulse; 4 bad or missing pulses declare PPSIN lost, 1,024 good ones declare it
present (R41, R42). -/
def Sys2Proof.Claim.PpsinLossAndPresence : Prop :=
  ∀ (p : Piece) (q : List Instr),
    (∀ (a : T16) (d sec : Int), p.clocks.ppsAnchor = some a → sinceAnchor p a (T16.ofTick p.clocks.mint) = (d, sec) →
      p.clocks.synth = .locked →
      (p.clocks.ppsWindows + 1 : Nat) * sec + (p.clocks.ppsWindowNs * sec) / 1000000000 < d →
      exec .ppsWindowClose ⟨p, q⟩ = .next ⟨{ p with clocks := { p.clocks with
        ppsBad := p.clocks.ppsBad + 1, ppsGood := 0, ppsWindows := p.clocks.ppsWindows + 1 } }, q⟩) ∧
    (p.clocks.ppsPresent = true → 4 ≤ p.clocks.ppsBad → p.ledger.epochWait = none →
      exec .ppsLoss ⟨p, q⟩ = .next ⟨raiseAlarm 0x0101 0x02 0 { p with clocks := { p.clocks with
        ppsPresent := false, ppsinLossCount := min (p.clocks.ppsinLossCount + 1) (2 ^ 32 - 1) } }, q⟩) ∧
    (p.clocks.ppsPresent = false → 1024 ≤ p.clocks.ppsGood →
      exec .ppsinPresent ⟨p, q⟩ = .next ⟨{ p with clocks := { p.clocks with ppsPresent := true } }, q⟩) ∧
    (p.clocks.ppsPresent = true → p.clocks.ppsBad < 4 → exec .ppsLoss ⟨p, q⟩ = .next ⟨p, q⟩) ∧
    (p.clocks.ppsPresent = false → p.clocks.ppsGood < 1024 → exec .ppsinPresent ⟨p, q⟩ = .next ⟨p, q⟩)

/-- The first lock declaration starts the Mint at zero, a later one leaves its count; SYNTH_START completes with the band index and the
temperature code of the choice; the converters start (R45, R85, R500). -/
def Sys2Proof.Claim.LockDeclarationStartsTheMint : Prop :=
  ∀ (p : Piece) (q : List Instr) (p1 : Piece), p.clocks.synth = .wait → p.ledger.refSelect = none → p.boot.phase = .ready →
    p1 = trackFreq (fun p => finishWaiting .synthLock 0 0 (fun _ => [p.clocks.band, p.clocks.bandTemp])
      { p with clocks := { p.clocks with synth := .locked, mint := if p.clocks.mintRun then p.clocks.mint else 0, mintRun := true } }) p →
    ∃ t, exec .synthLockDeclare ⟨p, q⟩ = .next ⟨t, q⟩ ∧ t.clocks = p1.clocks ∧ t.rfin = p1.rfin.map (startConverter (T16.ofTick p1.clocks.mint)) ∧
      t.transport = p1.transport

/-- A window of other than 2,560 ± 2 ticks declares the synthesizer FAILED: counted, SYNTH_UNLOCK latched, PPSIN no longer evaluated; a
disciplined Ledger coasts and an UNSET or FREE one keeps its state; without REFIN, and within tolerance, nothing happens (R41, R46). -/
def Sys2Proof.Claim.UnlockIsDeclaredOutsideTolerance : Prop :=
  ∀ (p : Piece) (q : List Instr) (n : Nat),
    (p.clocks.synth ≠ .locked ∨ p.clocks.refinPresent = false ∨ (2558 ≤ n ∧ n ≤ 2562) → exec (.synthUnlock n) ⟨p, q⟩ = .next ⟨p, q⟩) ∧
    (∀ p1 : Piece, p.clocks.synth = .locked → p.clocks.refinPresent = true → n < 2558 ∨ 2562 < n →
      p1 = failConverters (raiseAlarm 0x0102 0x02 0 (trackFreq (onClocks fun c => { c with
        synth := .failed, relockWindows := 0, unlockCount := min (c.unlockCount + 1) (2 ^ 32 - 1), ppsPresent := false, ppsAnchor := none
        ppsGood := 0, ppsBad := 0, ppsWindows := 0 }) p)) →
      p1.ledger = p.ledger ∧
      (p.ledger.state = .unset ∨ p.ledger.state = .free → exec (.synthUnlock n) ⟨p, q⟩ = .next ⟨p1, q⟩) ∧
      (p.ledger.state ≠ .unset → p.ledger.state ≠ .free → exec (.synthUnlock n) ⟨p, q⟩ =
        .next ⟨enterCoast { p1 with ledger := { p1.ledger with sourcePresent := false } }, q⟩))

/-- While REFIN is present the windows within 2,560 ± 2 ticks are counted, one out of tolerance starts the count again, and after 1,024
consecutive ones SYNTH_STATE is LOCKED again and the converters start; without REFIN nothing is counted (R46, R85). -/
def Sys2Proof.Claim.RelockNeedsRefin : Prop :=
  (∀ n k w : Nat, 0 < k → countWindows [(k, w)] n = if 2558 ≤ w ∧ w ≤ 2562 then n + k else 0) ∧
  ∀ (p : Piece) (q : List Instr) (windows : List (Nat × Nat)) (n : Nat) (p1 : Piece),
    n = countWindows windows p.clocks.relockWindows → p1 = { p with clocks := { p.clocks with relockWindows := n } } →
    (p.clocks.synth = .failed → p.clocks.refinPresent = true → 1024 ≤ n → p.boot.phase = .ready →
      exec (.synthRelock windows) ⟨p, q⟩ = .next ⟨startConverters (trackFreq (onClocks fun c => { c with synth := .locked }) p1), q⟩) ∧
    (p.clocks.synth = .failed → p.clocks.refinPresent = true → n < 1024 → exec (.synthRelock windows) ⟨p, q⟩ = .next ⟨p1, q⟩) ∧
    (p.clocks.refinPresent = false → exec (.synthRelock windows) ⟨p, q⟩ = .next ⟨p, q⟩)

/-- REFIN, PPSIN, lock, unlock and relock of the synthesizer. It says where these answer a next state: refLoss, refinPresent, ppsinPulse, ppsWindowClose, ppsLoss, ppsinPresent, synthLockDeclare, synthUnlock, synthRelock. -/
def Obligations.ReferenceAndLock : Prop :=
  Claim.RefinLossAndPresence ∧ Claim.PulsesAreJudgedByTheirWindow ∧ Claim.PpsinLossAndPresence ∧ Claim.LockDeclarationStartsTheMint ∧
  Claim.UnlockIsDeclaredOutsideTolerance ∧ Claim.RelockNeedsRefin

/-- A held mapping change is made at the present tick once 64 µs have passed, the anchor set from the old mapping, so that ρ changes and L
does not step; ρ stays within its signed 48 bits, and RATE_LIMIT says whether the loop asked for more (R53, R54, R57). -/
def Sys2Proof.Claim.HeldChangeWaitsSixtyFourMicroseconds : Prop :=
  ∀ (p : Piece) (q : List Instr) (r : Int) (limit : Bool) (rest : List HeldChange),
    p.ledger.heldChanges = { rhoSet := some r, limited := limit } :: rest →
    (mappingFree p = true → exec .mappingChangeApply ⟨p, q⟩ = .next ⟨{ p with ledger := { p.ledger with
        heldChanges := rest
        previous := p.ledger.current
        older := p.ledger.previous :: p.ledger.older
        changedAt := some p.clocks.mint
        rateLimit := limit
        rateSum := p.ledger.rateSum + (T16.ofTick p.clocks.mint - T16.ofTick p.ledger.current.m0) * (p.ledger.current.rho + p.ledger.current.sigma)
        current := { m0 := p.clocks.mint, l0 := p.ledger.current.exact (T16.ofTick p.clocks.mint), sigma := p.ledger.current.sigma,
                     rho := max (-(2 ^ 47)) (min (2 ^ 47 - 1) r) } } }, q⟩) ∧
    (mappingFree p = false → exec .mappingChangeApply ⟨p, q⟩ = .next ⟨p, q⟩)

/-- A new anchor never steps L: at its tick the old and the new mapping give the same time (R53). -/
def Sys2Proof.Claim.NewAnchorNeverStepsL : Prop :=
  ∀ (l : Ledger) (m : Nat) (rho sigma : Int),
    (reanchor m rho sigma l).current.exact (T16.ofTick m) = l.current.exact (T16.ofTick m) ∧
    (reanchor m rho sigma l).previous = l.current ∧ (reanchor m rho sigma l).changedAt = some m ∧
    (reanchor m rho sigma l).current.rho = rho ∧ (reanchor m rho sigma l).current.sigma = sigma

/-- A slew lasts at least 64 µs and ends on the first tick at which the correction has reached |Δ| (R55). -/
def Sys2Proof.Claim.SlewLastsSixtyFourMicroseconds : Prop :=
  ∀ (p : Piece) (rho delta : Int) (s : Slew), (startSlew rho delta p).ledger.slew = some s →
    s.start = p.clocks.mint ∧ s.delta = delta ∧
    delta.natAbs * labelUnits ≤ (s.stop - s.start) * (65536 * slewRate p.ledger.slewMax delta.natAbs) ∧
    (s.stop - s.start - 1) * (65536 * slewRate p.ledger.slewMax delta.natAbs) < delta.natAbs * labelUnits ∧
    (startSlew rho delta p).ledger.current.sigma = (if delta < 0 then -1 else 1) * (slewRate p.ledger.slewMax delta.natAbs : Int)

/-- At its end tick a slew ends and σ returns to zero; SLEWING with no other slew that waits, and with a Δ of zero, which has no slew,
becomes LOCKED (R55, R63). -/
def Sys2Proof.Claim.SlewEndsOnItsTick : Prop :=
  (∀ (p : Piece) (q : List Instr) (s : Slew), p.ledger.slew = some s →
    (s.stop ≤ p.clocks.mint → p.ledger.state ≠ .slewing ∨ p.ledger.heldChanges.any (·.slew.isSome) = true →
      exec .slewEnd ⟨p, q⟩ = .next ⟨{ p with ledger := { reanchor s.stop p.ledger.current.rho 0 p.ledger with slew := none } }, q⟩) ∧
    (s.stop ≤ p.clocks.mint → p.ledger.state = .slewing → p.ledger.heldChanges.any (·.slew.isSome) = false →
      ∃ t, exec .slewEnd ⟨p, q⟩ = .next ⟨t, q⟩ ∧
      t.ledger.state = .locked ∧ t.ledger.slew = none ∧ t.ledger.current.sigma = 0) ∧
    (p.clocks.mint < s.stop → exec .slewEnd ⟨p, q⟩ = .next ⟨p, q⟩)) ∧
  (∀ (p : Piece) (q : List Instr), p.ledger.slew = none → p.ledger.state = .slewing →
    p.ledger.heldChanges.any (·.slew.isSome) = false →
    ∃ t, exec .slewEnd ⟨p, q⟩ = .next ⟨t, q⟩ ∧ t.ledger.state = .locked ∧ t.ledger.current = p.ledger.current)

/-- The step of LEDGER_SET_EPOCH is made at its tick and at no other: L there is the new label, LEDGER_EPOCH_COUNT counts, and an UNSET
Ledger with time source NONE is FREE (R58, R59). -/
def Sys2Proof.Claim.EpochStepIsMadeAtItsTick : Prop :=
  ∀ (p : Piece) (q : List Instr) (w : EpochWait) (m : Nat), p.ledger.epochWait = some w → w.atMint = some m →
    (p.clocks.mint ≠ m → exec .ledgerEpochStep ⟨p, q⟩ = .next ⟨p, q⟩) ∧
    (p.clocks.mint = m → ∃ t, exec .ledgerEpochStep ⟨p, q⟩ = .next ⟨t, q⟩ ∧
      t.ledger.current.exact (T16.ofTick p.clocks.mint) = w.label * labelUnits ∧ t.ledger.epochWait = none ∧
      t.ledger.epochCount = (p.ledger.epochCount + 1) % 2 ^ 32 ∧ t.clocks.mint = p.clocks.mint ∧ t.fabric.postJump = List.replicate 24 true ∧
      (p.ledger.state = .unset → p.ledger.source = .none → t.ledger.state = .free) ∧
      (p.ledger.state = .unset → p.ledger.source ≠ .none → p.ledger.sourcePresent = true → t.ledger.state = .locked) ∧
      (p.ledger.state ≠ .unset → t.ledger.state = p.ledger.state))

/-- Mapping changes of the Ledger: held changes, anchors, slews and epoch steps. It says where these answer a next state: mappingChangeApply, slewEnd, ledgerEpochStep. -/
def Obligations.LedgerMapping : Prop :=
  Claim.HeldChangeWaitsSixtyFourMicroseconds ∧ Claim.NewAnchorNeverStepsL ∧ Claim.SlewLastsSixtyFourMicroseconds ∧ Claim.SlewEndsOnItsTick ∧
  Claim.EpochStepIsMadeAtItsTick

/-- On the 1 ms grid of the Mint count the Ledger evaluates u: LEDGER_UNCERT shows it, and at the first evaluation that reaches TIME_LIMIT
HOLDOVER_LIMIT latches (R61). -/
def Sys2Proof.Claim.HoldoverIsEvaluatedOnTheGrid : Prop :=
  ∀ (p : Piece) (q : List Instr),
    (p.clocks.mint % 2560000 ≠ 0 ∨ p.ledger.state = .unset → exec .holdoverEval ⟨p, q⟩ = .next ⟨p, q⟩) ∧
    (∀ (p1 : Piece) (u : Rat), p.clocks.mintRun = true → p.clocks.mint % 2560000 = 0 → p.ledger.state ≠ .unset →
      p1 = { p with ledger := { p.ledger with
        freeEstimate := p.ledger.freeEstimate.grow (dieTemp p) p.clocks.mint
        coastEstimate := p.ledger.coastEstimate.grow (dieTemp p) p.clocks.mint } } →
      u = holdoverU p1 →
      (u < p1.ledger.holdover.timeLimit → exec .holdoverEval ⟨p, q⟩ = .next ⟨{ p1 with ledger := { p1.ledger with
        uncert := min (roundRat u).toNat 0xFFFFFFFF, withinLimit := true, limitReached := false } }, q⟩) ∧
      ((p1.ledger.holdover.timeLimit : Rat) ≤ u → exec .holdoverEval ⟨p, q⟩ = .next ⟨when (!p.ledger.limitReached) (raiseAlarm 0x0002 0x01 0)
        { p1 with ledger := { p1.ledger with
          uncert := min (roundRat u).toNat 0xFFFFFFFF, withinLimit := false, limitReached := true } }, q⟩))

/-- Loss of the time source puts a disciplined Ledger into COAST, which a coast that runs already goes on; UNSET and FREE keep their state
(R59, R60, R64). -/
def Sys2Proof.Claim.SourceLossCoasts : Prop :=
  ∀ (p : Piece) (q : List Instr) (p1 : Piece), p.ledger.sourcePresent = true → sourceIsPresent p = false →
    p1 = { p with ledger := { p.ledger with sourcePresent := false, lost := true } } →
    (p.ledger.state = .unset ∨ p.ledger.state = .free → exec .timeSourceLost ⟨p, q⟩ = .next ⟨p1, q⟩) ∧
    (p.ledger.state = .locked ∨ p.ledger.state = .slewing → ∃ t, exec .timeSourceLost ⟨p, q⟩ = .next ⟨t, q⟩ ∧
      t.ledger.state = .coast ∧ t.ledger.coastStart = some p.clocks.mint ∧ t.ledger.slew = p.ledger.slew ∧ t.ledger.current = p.ledger.current) ∧
    (p.ledger.state = .jumpPending → ∃ t, exec .timeSourceLost ⟨p, q⟩ = .next ⟨t, q⟩ ∧
      t.ledger.state = .coast ∧ t.ledger.coastStart = p.ledger.coastStart ∧ t.ledger.refJump = p.ledger.refJump)

/-- The return of the time source, with the synthesizer LOCKED and Δ measured from it: within CAPTURE the Ledger slews by Δ; beyond it, or with CAPTURE zero, REF_JUMP latches, Δ is recorded
and the Ledger is JUMP_PENDING; a rejected source that was not lost since leaves it in COAST, and so does the presence of a source that
REF_SELECT does not name (R62, R64). -/
def Sys2Proof.Claim.SourceReturnIsJudgedByCapture : Prop :=
  ∀ (p : Piece) (q : List Instr) (delta : Int) (p1 : Piece), sourceIsPresent p = true → p.ledger.sourcePresent = false → p.ledger.state = .coast →
    delta = sourceDelta p →
    p1 = { p with ledger := { p.ledger with
      sourcePresent := true, lost := false, refInvalid := p.ledger.refInvalid && !p.ledger.lost } } →
    (p.clocks.synth ≠ .locked → exec (.timeSourcePresent p.ledger.source) ⟨p, q⟩ = .next ⟨p, q⟩) ∧
    (∀ source, source ≠ p.ledger.source → exec (.timeSourcePresent source) ⟨p, q⟩ = .next ⟨p, q⟩) ∧
    (p.clocks.synth = .locked → p.ledger.refInvalid = true → p.ledger.lost = false → exec (.timeSourcePresent p.ledger.source) ⟨p, q⟩ = .next ⟨p1, q⟩) ∧
    (p.clocks.synth = .locked → p.ledger.refInvalid = false → p.ledger.capture = 0 ∨ p.ledger.capture * 2 ^ 48 < delta.natAbs * 10 ^ 12 →
      exec (.timeSourcePresent p.ledger.source) ⟨p, q⟩ = .next ⟨setLedgerState .jumpPending delta (raiseAlarm 0x0003 0x01 0
        { p1 with ledger := { p1.ledger with lastDelta := delta, refJump := true } }), q⟩) ∧
    (p.clocks.synth = .locked → p.ledger.refInvalid = false → 0 < p.ledger.capture → delta.natAbs * 10 ^ 12 ≤ p.ledger.capture * 2 ^ 48 →
      exec (.timeSourcePresent p.ledger.source) ⟨p, q⟩ = .next ⟨setLedgerState .slewing 0 (requestChange { slew := some delta }
        { p1 with ledger := { p1.ledger with refJump := false } }), q⟩)

/-- A mismatch of the Ledger's two counters latches LEDGER_MISMATCH and deasserts TIME_VALID; a tap out of phase latches TAP_PHASE and
deasserts it for 1 ms (R23, R56, R591). -/
def Sys2Proof.Claim.MismatchAndTapPhaseEndTimeValid : Prop :=
  ∀ (p : Piece) (q : List Instr) (i : Nat),
    exec .ledgerMismatch ⟨p, q⟩ = .next ⟨raiseAlarm 0x0000 0x01 0 { p with ledger := { p.ledger with mismatch := true } }, q⟩ ∧
    exec (.tapPhase i) ⟨p, q⟩ = .next ⟨raiseAlarm 0x0001 0x01 i
      { p with safety := { p.safety with tapBadUntil := p.clocks.mint + 2560000 } }, q⟩ ∧
    timeValid (raiseAlarm 0x0000 0x01 0 { p with ledger := { p.ledger with mismatch := true } }) = false ∧
    timeValid (raiseAlarm 0x0001 0x01 i { p with safety := { p.safety with tapBadUntil := p.clocks.mint + 2560000 } }) = false

/-- Ledger states: coast, capture, holdover, mismatch and tap phase. It says where these answer a next state: holdoverEval, timeSourceLost, timeSourcePresent, ledgerMismatch, tapPhase. -/
def Obligations.LedgerStates : Prop :=
  Claim.HoldoverIsEvaluatedOnTheGrid ∧ Claim.SourceLossCoasts ∧ Claim.SourceReturnIsJudgedByCapture ∧ Claim.MismatchAndTapPhaseEndTimeValid

/-- At a Ledger second boundary PPSOUT rises, where it is enabled and no rise lies within PPS_WIDTH, and falls again after PPS_WIDTH; in
UNSET it does not pulse. The fine delay carries the rest of the way to the boundary to the nearest step of 6.1 ps (R51). -/
def Sys2Proof.Claim.PpsoutPulsesAtSecondBoundaries : Prop :=
  ∀ (p : Piece) (q : List Instr) (k : Int) (o : Ppsout), boundarySecond p = some k → p.clocks.mintRun = true → o = p.clocks.ppsout →
    (p.ledger.state = .unset → exec .ledgerSecondBoundary ⟨p, q⟩ = .next ⟨p, q⟩) ∧
    (p.ledger.state ≠ .unset → o.en = true → (∀ m, o.lastRise = some m → m + o.widthUs * 2560 ≤ p.clocks.mint) →
      ∃ t, exec .ledgerSecondBoundary ⟨p, q⟩ = .next ⟨t, q⟩ ∧ t.clocks.ppsout =
        { o with running := true, level := true, lastRise := some p.clocks.mint, fine := fineDelay k p }) ∧
    (∀ m, p.ledger.state ≠ .unset → o.en = true → o.lastRise = some m → p.clocks.mint < m + o.widthUs * 2560 →
      ∃ t, exec .ledgerSecondBoundary ⟨p, q⟩ = .next ⟨t, q⟩ ∧ t.clocks.ppsout = { o with running := true }) ∧
    (p.ledger.state ≠ .unset → o.en = false →
      ∃ t, exec .ledgerSecondBoundary ⟨p, q⟩ = .next ⟨t, q⟩ ∧ t.clocks.ppsout = o) ∧
    (∀ m, o.level = true → o.lastRise = some m → m + o.widthUs * 2560 ≤ p.clocks.mint →
      exec .ppsoutPulseEnd ⟨p, q⟩ = .next ⟨{ p with clocks := { p.clocks with ppsout :=
        { o with level := false, running := o.en } } }, q⟩) ∧
    (∀ step : Int, step = 6100 * 65536 * (2 ^ 64 + p.ledger.current.rho + p.ledger.current.sigma) → 0 < step →
      2 * ((fineDelay k p : Int) * step - (k * secondUnits - p.ledger.current.exact (T16.ofTick p.clocks.mint)) * 390625) ≤ step ∧
      -step < 2 * ((fineDelay k p : Int) * step - (k * secondUnits - p.ledger.current.exact (T16.ofTick p.clocks.mint)) * 390625))

/-- A setting that reaches the time root takes effect under R50: an idle output is armed for the next rising edge of the setting, one
with EN 0 stays low, and a running output whose EN falls lets its high phase finish (R49, R50). -/
def Sys2Proof.Claim.ClockOutputNeverEmitsARunt : Prop :=
  ∀ (p : Piece) (q : List Instr) (k : Fin 5) (s : ClkSetting) (c : Clkout) (m : Nat), m = p.clocks.mint → k.val < 4 →
    p.clocks.clkouts[k.val]? = some c → c.pending = some s → c.next = none → s.refCopy = false → c.setting.refCopy = false →
    (∃ t, exec (.clkoutSettingArrive k) ⟨p, q⟩ = .next ⟨t, q⟩ ∧
      t.clocks.clkouts = upd p.clocks.clkouts k.val (fun _ => clkArrive s m c)) ∧
    (clkRuns c m = false → s.en = true → 0 < s.divider → s.phase < s.divider → ∃ e, (clkArrive s m c).startsAt = some e ∧
      m < e ∧ e ≤ m + s.divider ∧ e % s.divider = s.phase) ∧
    (clkRuns c m = false → s.en = false → (clkArrive s m c).startsAt = none) ∧
    (clkRuns c m = true → s.en = false → 0 < c.setting.divider → c.setting.phase < c.setting.divider → ∃ e, (clkArrive s m c).stopsAt = some e ∧
      m ≤ e ∧ (∀ x, m ≤ x → x < e → clkLevel { c with stopsAt := none } x = true) ∧ clkLevel { c with stopsAt := none } e = false)

/-- A frame of TCODE_IN with every pulse and position identifier valid gives a TIMECODE record with what it says, timed at the leading edge
of its on-time marker, and marks TCODE_IN present until 2 s pass without one; any other frame is counted (R65, R67). -/
def Sys2Proof.Claim.TimecodeFramesAreRecordedOrCounted : Prop :=
  ∀ (p : Piece) (q : List Instr) (f : TimecodeFrame),
    (irigContents f.widths = none → exec (.timecodeFrameIn f) ⟨p, q⟩ = .next ⟨{ p with clocks := { p.clocks with
      tcodeErrors := min (p.clocks.tcodeErrors + 1) (2 ^ 32 - 1) } }, q⟩) ∧
    (∀ x n, irigContents f.widths = some x → n = (Config.irigFormat x).val →
      ∃ t e, exec (.timecodeFrameIn f) ⟨p, q⟩ = .next ⟨t, q⟩ ∧ t.clocks.timecode.lastIn = some p.clocks.mint ∧
      t.transport.raised = p.transport.raised ++ [e] ∧ e.kind = 6 ∧ e.panelType = 2 ∧ e.mint = (f.marker / 65536).toNat ∧
      u e.body 0 2 = irigValue x irigDay % 65536 ∧ u e.body 4 1 = irigValue x irigSeconds % 256 ∧
      u e.body 5 1 = n ∧ (n < 4 → u e.body 6 2 = 0xFFFF)) ∧
    (∀ m, p.clocks.timecode.lastIn = some m →
      (m + 5120000000 ≤ p.clocks.mint → exec .tcodeInPresentLapse ⟨p, q⟩ = .next ⟨{ p with clocks := { p.clocks with
        timecode := { p.clocks.timecode with lastIn := none } } }, q⟩) ∧
      (p.clocks.mint < m + 5120000000 → exec .tcodeInPresentLapse ⟨p, q⟩ = .next ⟨p, q⟩))

/-- CLKOUT_SET: each record that applies, that of PPSOUT too, goes on its way to the time root and the others are ignored whole; with no
record that applies it completes with ST_ZERO, with one out of its range with ST_RANGE, and neither changes anything (R49, R51, R501). -/
def Sys2Proof.Claim.ClkoutSetAppliesItsRecords : Prop :=
  ∀ (p : Piece) (q : List Instr) (c : Cmd) (f : Flight) (p1 : Piece) (rec_ : Nat → Bytes) (ap : Nat → Bool), Claim.Starts 0x0204 c p f p1 →
    rec_ = (fun k => slice f.body (8 * k) 8) → ap = (fun k => bitAt (u (rec_ k) 0 1) 7) →
    ((∀ k < 5, ap k = false) → exec (.clkoutSet c) ⟨p, q⟩ = .next ⟨finish f 2 [] p1, q⟩) ∧
    (∀ k < 4, ap k = true → clkRecordOk (rec_ k) = false → exec (.clkoutSet c) ⟨p, q⟩ = .next ⟨finish f 1 [] p1, q⟩) ∧
    (∀ k < 5, ap k = true → (∀ j < 4, ap j = true → clkRecordOk (rec_ j) = true) →
      (ap 4 = true → u (rec_ 4) 0 1 % 64 = 0 ∧ isZero (slice (rec_ 4) 1 3) = true ∧ 1 ≤ u (rec_ 4) 4 4 ∧ u (rec_ 4) 4 4 ≤ 500000) →
      exec (.clkoutSet c) ⟨p, q⟩ = .next ⟨settle (setFlight { f with progress := .waiting .clkout 0 [] } { p1 with clocks := { p1.clocks with
        ppsout := if ap 4 then { p1.clocks.ppsout with pending := some (bitAt (u (rec_ 4) 0 1) 6, u (rec_ 4) 4 4) } else p1.clocks.ppsout
        clkouts := p1.clocks.clkouts.mapIdx fun j o => if ap j then { o with pending := some (clkSettingOf (rec_ j)) } else o } }), q⟩)

/-- TIMECODE_SET applies FORMAT, CONTROL and OUT_EN, and holds the new UTC_OFFSET for its second; a FORMAT above 7 and an EFFECTIVE in the
past give ST_RANGE (R66, R506). -/
def Sys2Proof.Claim.TimecodeSetHoldsTheOffset : Prop :=
  ∀ (p : Piece) (q : List Instr) (c : Cmd) (f : Flight) (p1 : Piece) (b : Bytes), Claim.Starts 0x0209 c p f p1 → b = f.body →
    (7 < u b 1 1 ∨ (u b 16 4 ≠ 0 ∧ u b 16 4 ≤ labelSeconds p1.label) → exec (.timecodeSet c) ⟨p, q⟩ = .next ⟨finish f 1 [] p1, q⟩) ∧
    (u b 0 1 % 128 = 0 → u b 1 1 ≤ 7 → u b 2 2 = 0 → u b 4 4 < 2 ^ 27 → u b 20 4 = 0 → u b 16 4 = 0 ∨ labelSeconds p1.label < u b 16 4 →
      exec (.timecodeSet c) ⟨p, q⟩ = .next ⟨finish f 0 [] { p1 with clocks := { p1.clocks with timecode := { p1.clocks.timecode with
        outEn := bitAt (u b 0 1) 7, format := u b 1 1, control := u b 4 4, pendingOffset := some (sgn b 8 8, u b 16 4), offsetSet := true
        running := p1.clocks.timecode.running && bitAt (u b 0 1) 7 } } }, q⟩)

/-- VCXO_TUNE is a first-order sigma-delta stream of the 20-bit tune code: what the bits have put out and what is left over always make
up the codes put in, so that no run of bits departs from its code by more than one bit (R52). -/
def Sys2Proof.Claim.TuneStreamCarriesTheCode : Prop :=
  ∀ (code n : Nat) (c : Clocks), code < 2 ^ 20 → c.tuneAcc < 2 ^ 20 →
    (tuneStep code c).tuneAcc + (if (tuneStep code c).tuneBit then 2 ^ 20 else 0) = c.tuneAcc + code ∧
    (tuneStep code c).tuneAcc < 2 ^ 20 ∧
    ((Nat.iterate (tuneStep code) n c).tuneAcc = (c.tuneAcc + n * code) % 2 ^ 20)

/-- A setting of PPSOUT that reaches the time root sets EN and PPS_WIDTH there; a pulse in progress is not cut (R51). -/
def Sys2Proof.Claim.PpsoutSettingArrives : Prop :=
  ∀ (p : Piece) (q : List Instr) (en : Bool) (w : Nat) (o : Ppsout), o = p.clocks.ppsout → o.pending = some (en, w) →
    ∃ t, exec (.clkoutSettingArrive 4) ⟨p, q⟩ = .next ⟨t, q⟩ ∧ t.clocks.ppsout =
      { o with pending := none, en := en, widthUs := w, running := o.running && (en || o.level) } ∧
      t.clocks.clkouts = p.clocks.clkouts

/-- PPSOUT, clock outputs, time codes and the commands that set them. It says where these answer a next state: ledgerSecondBoundary, ppsoutPulseEnd, clkoutSettingArrive, timecodeFrameIn, tcodeInPresentLapse, clkoutSet, timecodeSet. -/
def Obligations.ClockOutputs : Prop :=
  Claim.PpsoutPulsesAtSecondBoundaries ∧ Claim.ClockOutputNeverEmitsARunt ∧ Claim.TimecodeFramesAreRecordedOrCounted ∧
  Claim.ClkoutSetAppliesItsRecords ∧ Claim.TimecodeSetHoldsTheOffset ∧ Claim.TuneStreamCarriesTheCode ∧ Claim.PpsoutSettingArrives

/-- REF_SELECT with every field in its range, and REFIN_FREQ unchanged while the synthesizer runs, takes effect and returns the tick; while
the Mint does not count it waits for the first tick (R39, R498). -/
def Sys2Proof.Claim.RefSelectTakesEffect : Prop :=
  ∀ (p : Piece) (q : List Instr) (c : Cmd) (f : Flight) (p1 : Piece) (b : Bytes), Claim.Starts 0x0201 c p f p1 → b = f.body →
    u b 0 1 ≤ 1 → u b 1 1 ≤ 2 → (u b 0 1 = 1 → u b 1 1 = 2) → u b 2 1 ≤ 1 → u b 3 1 ≤ 2 → 10 ≤ u b 4 4 → u b 4 4 ≤ 100000000 →
    1 ≤ u b 8 4 → u b 8 4 ≤ 100000 → 1 ≤ u b 12 4 → u b 12 4 ≤ 1000000 → u b 16 4 ≤ 1000000 → u b 20 4 = 0 →
    (p1.clocks.synth = .off ∨ u b 1 1 = p1.clocks.refinFreq →
      (p1.clocks.mintRun = true → exec (.refSelect c) ⟨p, q⟩ =
        .next ⟨finish f 0 [low32 p1.clocks.mint, high32 p1.clocks.mint] (applyRefSelect b p1), q⟩) ∧
      (p1.clocks.mintRun = false → exec (.refSelect c) ⟨p, q⟩ = .next ⟨settle (setFlight { f with progress := .waiting .refSelect 0 [] }
        { p1 with ledger := { p1.ledger with refSelect := some b } }), q⟩)) ∧
    (p1.clocks.synth ≠ .off → u b 1 1 ≠ p1.clocks.refinFreq → exec (.refSelect c) ⟨p, q⟩ = .next ⟨finish f 9 [] p1, q⟩)

/-- What REF_SELECT sets; one that keeps the time source leaves STATE unchanged, a change between PPSIN and NET starts a COAST, NONE makes a
disciplined Ledger FREE, and a FREE one with a new source coasts (R37, R59, R64, R498). -/
def Sys2Proof.Claim.RefSelectChangesTheSource : Prop :=
  ∀ (b : Bytes) (p t : Piece), t = applyRefSelect b p →
    t.clocks.vcxo = (u b 0 1 == 1) ∧ t.clocks.refinFreq = u b 1 1 ∧ t.clocks.ppsWindowNs = u b 4 4 ∧ t.ledger.source = sourceOf (u b 3 1) ∧
    t.ledger.loopTau = u b 8 4 ∧ t.ledger.slewMax = u b 12 4 ∧ t.ledger.capture = u b 16 4 ∧ t.ledger.refInvalid = false ∧
    t.ledger.current = p.ledger.current ∧ t.ledger.slew = p.ledger.slew ∧ t.clocks.mint = p.clocks.mint ∧
    (sourceOf (u b 3 1) = p.ledger.source → t.ledger.state = p.ledger.state) ∧
    (p.ledger.state = .unset → t.ledger.state = .unset) ∧
    (sourceOf (u b 3 1) ≠ p.ledger.source → sourceOf (u b 3 1) = .none → p.ledger.state ≠ .unset → t.ledger.state = .free) ∧
    (sourceOf (u b 3 1) ≠ p.ledger.source → sourceOf (u b 3 1) ≠ .none → p.ledger.state ≠ .unset → t.ledger.state = .coast ∧
      (p.ledger.state = .coast ∨ p.ledger.state = .jumpPending → t.ledger.coastStart = p.ledger.coastStart))

/-- SYNTH_BAND_TABLE_LOAD replaces entries 0 to COUNT − 1 and clears VALID above; one entry out of range makes the whole load complete with
ST_RANGE and leaves the table (R43, R499). -/
def Sys2Proof.Claim.BandTableLoadIsWholeOrNothing : Prop :=
  ∀ (p : Piece) (q : List Instr) (c : Cmd) (f : Flight) (p1 : Piece) (n : Nat) (t : Bytes) (es : List Bytes), Claim.Starts 0x0202 c p f p1 →
    n = u f.body 0 1 → 1 ≤ n → n ≤ 64 → isZero (slice f.body 1 7) = true → tableAddrOk p1.dmc (u f.body 8 8) (8 * n) = true →
    pieceRead p1 (u f.body 8 8) (8 * n) c.read = .ok t → es = (List.range n).map (fun i => slice t (8 * i) 8) →
    ((∀ e ∈ es, bandOk e = true) → exec (.synthBandTableLoad c) ⟨p, q⟩ = .next ⟨finish f 0 [] { p1 with clocks := { p1.clocks with
      bands := es.map bandOf ++ (p1.clocks.bands.drop n).map fun e => { e with valid := false } } }, q⟩) ∧
    ((∃ e ∈ es, bandOk e = false) → exec (.synthBandTableLoad c) ⟨p, q⟩ = .next ⟨finish f 1 [] p1, q⟩)

/-- SYNTH_START from OFF selects a band at the die temperature, and waits LOCK_WAIT, 2 ms where it is zero, for the lock declaration; with no
band that qualifies it completes with ST_RANGE and the synthesizer stays OFF; from any other state with ST_STATE (R44, R45, R500). -/
def Sys2Proof.Claim.SynthStartSelectsABand : Prop :=
  ∀ (p : Piece) (q : List Instr) (c : Cmd) (f : Flight) (p1 : Piece) (w : Nat), Claim.Starts 0x0203 c p f p1 → w = u f.body 0 4 → u f.body 4 4 = 0 →
    w = 0 ∨ (50 ≤ w ∧ w ≤ 10000) →
    (∀ i, p1.clocks.synth = .off → selectBand p1.clocks.bands (dieTemp p1) = some i → exec (.synthStart c) ⟨p, q⟩ =
      .next ⟨settle (setFlight { f with progress := .waiting .synthLock 0 [] } { p1 with clocks := { p1.clocks with
        synth := .wait, band := i, bandTemp := dieTemp p1, lockWait := if w = 0 then 2000 else w } }), q⟩) ∧
    (p1.clocks.synth = .off → selectBand p1.clocks.bands (dieTemp p1) = none → exec (.synthStart c) ⟨p, q⟩ = .next ⟨finish f 1 [] p1, q⟩) ∧
    (p1.clocks.synth ≠ .off → exec (.synthStart c) ⟨p, q⟩ = .next ⟨finish f 9 [] p1, q⟩)

/-- The band chosen is valid, its shifted range contains 10,240 MHz, no other such band's centre is closer, and none of a lower index is as
close; none is chosen only where no valid band's range contains it (R44). -/
def Sys2Proof.Claim.BandChoiceIsTheClosest : Prop :=
  ∀ (bs : List Band) (temp : Nat) (ok : Nat → Prop) (dist : Nat → Nat),
    ok = (fun i => i < bs.length ∧ (nth bs i).valid = true ∧ (bandEdges (nth bs i) temp).1 ≤ 1638400 ∧ 1638400 ≤ (bandEdges (nth bs i) temp).2) →
    dist = (fun i => ((bandEdges (nth bs i) temp).1 + (bandEdges (nth bs i) temp).2 - 2 * 1638400).natAbs) →
    (∀ i, selectBand bs temp = some i → ok i ∧ ∀ j, ok j → dist i < dist j ∨ (dist i = dist j ∧ i ≤ j)) ∧
    (selectBand bs temp = none → ∀ j, ¬ ok j)

/-- REF_SELECT, SYNTH_BAND_TABLE_LOAD and SYNTH_START. It says where these answer a next state: refSelect, synthBandTableLoad, synthStart. -/
def Obligations.ReferenceCommands : Prop :=
  Claim.RefSelectTakesEffect ∧ Claim.RefSelectChangesTheSource ∧ Claim.BandTableLoadIsWholeOrNothing ∧ Claim.SynthStartSelectsABand ∧
  Claim.BandChoiceIsTheClosest

/-- LEDGER_SET_EPOCH waits for its AT_MINT or, with PPSIN present, for the next good pulse; too early a tick gives ST_RANGE, a stopped Mint,
an absent PPSIN or JUMP_PENDING gives ST_STATE, a step that waits already gives ST_BUSY (R58, R502). -/
def Sys2Proof.Claim.SetEpochWaitsForItsMoment : Prop :=
  ∀ (p : Piece) (q : List Instr) (c : Cmd) (f : Flight) (p1 : Piece) (b : Bytes) (x : Nat), Claim.Starts 0x0205 c p f p1 → b = f.body →
    u b 10 1 = x → isZero (slice b 11 5) = true →
    (x = 0 → u b 16 8 < p1.clocks.mint + 16 → exec (.ledgerSetEpoch c) ⟨p, q⟩ = .next ⟨finish f 1 [] p1, q⟩) ∧
    ((x = 0 ∧ p1.clocks.mint + 16 ≤ u b 16 8) ∨ x = 1 →
      ((x = 1 ∧ p1.clocks.ppsPresent = false) ∨ p1.clocks.mintRun = false ∨ p1.ledger.state = .jumpPending →
        exec (.ledgerSetEpoch c) ⟨p, q⟩ = .next ⟨finish f 9 [] p1, q⟩) ∧
      ((x = 1 → p1.clocks.ppsPresent = true) → p1.clocks.mintRun = true → p1.ledger.state ≠ .jumpPending →
        (p1.ledger.epochWait ≠ none → exec (.ledgerSetEpoch c) ⟨p, q⟩ = .next ⟨finish f 3 [] p1, q⟩) ∧
        (∀ w : EpochWait, p1.ledger.epochWait = none → w = { atMint := if x = 1 then none else some (u b 16 8), label := u b 0 4 * 2 ^ 48 + u b 4 6 } →
          exec (.ledgerSetEpoch c) ⟨p, q⟩ = .next ⟨settle (setFlight { f with progress := .waiting .epochStep 0 [] }
            { p1 with ledger := { p1.ledger with epochWait := some w } }), q⟩)))

/-- LEDGER_STEER adds RATE_CHANGE to ρ with time source NONE, at once where R54 allows it and nothing waits, and returns the anchor tick; with a time source it
completes with ST_STATE, with both fields zero with ST_ZERO, and one that with the
changes that wait would take ρ out of its 48 bits with ST_RANGE (R38, R53, R503). -/
def Sys2Proof.Claim.SteerAddsToRho : Prop :=
  ∀ (p : Piece) (q : List Instr) (c : Cmd) (f : Flight) (p1 : Piece) (r d : Int), Claim.Starts 0x0206 c p f p1 → r = sgn f.body 0 8 → d = sgn f.body 8 8 →
    (r = 0 → d = 0 → exec (.ledgerSteer c) ⟨p, q⟩ = .next ⟨finish f 2 [] p1, q⟩) ∧
    (r ≠ 0 ∨ d ≠ 0 → heldRho p1.ledger + r < -(2 ^ 47) ∨ 2 ^ 47 ≤ heldRho p1.ledger + r →
      exec (.ledgerSteer c) ⟨p, q⟩ = .next ⟨finish f 1 [] p1, q⟩) ∧
    (r ≠ 0 ∨ d ≠ 0 → -(2 ^ 47) ≤ heldRho p1.ledger + r → heldRho p1.ledger + r < 2 ^ 47 →
      (p1.ledger.source ≠ .none → exec (.ledgerSteer c) ⟨p, q⟩ = .next ⟨finish f 9 [] p1, q⟩) ∧
      (p1.ledger.source = .none → mappingFree p1 = true → p1.ledger.heldChanges = [] → ∃ p2, exec (.ledgerSteer c) ⟨p, q⟩ =
        .next ⟨finish f 0 [low32 p1.clocks.mint, high32 p1.clocks.mint] p2, q⟩ ∧ p2.ledger.current.rho = p1.ledger.current.rho + r ∧
        p2.ledger.current.exact (T16.ofTick p1.clocks.mint) = p1.ledger.current.exact (T16.ofTick p1.clocks.mint) ∧
        p2.ledger.state = p1.ledger.state ∧ p2.ledger.freeEstimate = newEstimate p1 ∧
        (d = 0 → p2.ledger.slew = p1.ledger.slew ∧ p2.ledger.current.sigma = p1.ledger.current.sigma)) ∧
      (p1.ledger.source = .none → mappingFree p1 = false → exec (.ledgerSteer c) ⟨p, q⟩ =
        .next ⟨settle (setFlight { f with progress := .waiting .steer 0 [] } { p1 with ledger := { p1.ledger with heldChanges :=
          p1.ledger.heldChanges ++ [{ rhoAdd := r, slew := if d = 0 then none else some d, command := true }] } }), q⟩))

/-- LEDGER_JUMP_RESOLVE in JUMP_PENDING: STEP steps L by Δ and locks, SLEW slews by Δ, REJECT sets REF_INVALID and coasts on; in any other
state it completes with ST_STATE (R62, R64, R504). -/
def Sys2Proof.Claim.JumpIsResolvedAsAsked : Prop :=
  ∀ (p : Piece) (q : List Instr) (c : Cmd) (f : Flight) (p1 : Piece) (a : Nat) (d : Int), Claim.Starts 0x0207 c p f p1 → a = u f.body 0 1 →
    isZero (slice f.body 1 7) = true → d = p1.ledger.lastDelta →
    (a ≤ 2 → p1.ledger.state ≠ .jumpPending → exec (.ledgerJumpResolve c) ⟨p, q⟩ = .next ⟨finish f 9 [] p1, q⟩) ∧
    (2 < a → exec (.ledgerJumpResolve c) ⟨p, q⟩ = .next ⟨finish f 1 [] p1, q⟩) ∧
    (p1.ledger.state = .jumpPending → a = 0 → ∃ p2, exec (.ledgerJumpResolve c) ⟨p, q⟩ =
      .next ⟨finish f 0 [low32 (twos 64 d), high32 (twos 64 d)] p2, q⟩ ∧ p2.ledger.state = .locked ∧
      p2.ledger.current.exact (T16.ofTick p1.clocks.mint) = p1.ledger.current.exact (T16.ofTick p1.clocks.mint) + d * labelUnits ∧
      p2.ledger.epochCount = (p1.ledger.epochCount + 1) % 2 ^ 32) ∧
    (p1.ledger.state = .jumpPending → a = 1 → exec (.ledgerJumpResolve c) ⟨p, q⟩ =
      .next ⟨finish f 0 [low32 (twos 64 d), high32 (twos 64 d)] (setLedgerState .slewing 0 (requestChange { slew := some d }
        { p1 with ledger := { p1.ledger with refJump := false } })), q⟩) ∧
    (p1.ledger.state = .jumpPending → a = 2 → exec (.ledgerJumpResolve c) ⟨p, q⟩ =
      .next ⟨finish f 0 [0, 0] (setLedgerState .coast 0 { p1 with ledger := { p1.ledger with refJump := false, refInvalid := true } }), q⟩)

/-- HOLDOVER_MODEL_SET applies every field within its range; a TIME_LIMIT or VCXO_GAIN of zero gives ST_ZERO (R60, R505). -/
def Sys2Proof.Claim.HoldoverModelIsApplied : Prop :=
  ∀ (p : Piece) (q : List Instr) (c : Cmd) (f : Flight) (p1 : Piece) (v : Nat → Int), Claim.Starts 0x0208 c p f p1 → v = (fun i => sgn f.body (8 * i) 8) →
    (v 4 = 0 ∨ v 5 = 0 → exec (.holdoverModelSet c) ⟨p, q⟩ = .next ⟨finish f 2 [] p1, q⟩) ∧
    (0 ≤ v 0 → v 0 ≤ 10 ^ 9 → 0 ≤ v 1 → v 1 ≤ 10 ^ 10 → 0 ≤ v 2 → v 2 ≤ 10 ^ 9 → 0 ≤ v 3 → v 3 ≤ 10 ^ 9 → -(10 ^ 9) ≤ v 4 → v 4 ≤ 10 ^ 9 → v 4 ≠ 0 →
      1000 ≤ v 5 → v 5 ≤ 10 ^ 9 →
      exec (.holdoverModelSet c) ⟨p, q⟩ = .next ⟨finish f 0 [] { p1 with ledger := { p1.ledger with holdover :=
        { u0 := (v 0).toNat, y := (v 1).toNat, d := (v 2).toNat, ct := (v 3).toNat, vcxoGain := v 4, timeLimit := (v 5).toNat } } }, q⟩)

/-- LEDGER_SET_EPOCH, LEDGER_STEER, LEDGER_JUMP_RESOLVE and HOLDOVER_MODEL_SET. It says where these answer a next state: ledgerSetEpoch, ledgerSteer, ledgerJumpResolve, holdoverModelSet. -/
def Obligations.LedgerCommands : Prop :=
  Claim.SetEpochWaitsForItsMoment ∧ Claim.SteerAddsToRho ∧ Claim.JumpIsResolvedAsAsked ∧ Claim.HoldoverModelIsApplied

/-- MONITOR_SEQUENCE_SET with channels 0 to 15 among its slots is held for the next frame start, at which it takes effect and every command
that waits completes with that tick; a frame starts only once the slots of the sequence, the urgent and the IDLE ones have passed, and the
sequencer runs only out of reset (R90, R91, R520). -/
def Sys2Proof.Claim.MonitorSequenceTakesEffectAtAFrame : Prop :=
  (∀ (p : Piece) (q : List Instr) (c : Cmd) (f : Flight) (p1 : Piece) (b : Bytes) (chans : List Nat), Claim.Starts 0x0E06 c p f p1 → b = f.body →
    1 ≤ u b 0 1 → u b 0 1 ≤ 64 → u b 1 1 ≤ 1 → u b 4 4 = 0 → isZero ((slice b 8 64).drop (u b 0 1)) = true →
    chans = ((slice b 8 64).take (u b 0 1)).map (·.toNat) → (∀ ch ∈ chans, ch ≤ 39) → (∀ ch < 16, ch ∈ chans) →
    exec (.monitorSequenceSet c) ⟨p, q⟩ = .next ⟨settle (setFlight { f with progress := .waiting .monitorSequence 0 [] }
      { p1 with monitor := { p1.monitor with pending := some (chans, u b 2 2, u b 1 1 == 1) } }), q⟩) ∧
  (∀ (p : Piece) (q : List Instr) (empty : Nat),
    (∀ s i tc, p.monitor.pending = some (s, i, tc) → p.cal.running = true → p.boot.released = true → p.monitor.running = true →
      scheduled p.monitor = none → p.monitor.slot + p.monitor.shift + empty = p.monitor.sequence.length + p.monitor.idle →
      ∃ t, exec (.monitorFrameStart empty) ⟨p, q⟩ = .next ⟨t, q⟩ ∧ t.monitor.sequence = s ∧ t.monitor.idle = i ∧ t.monitor.tc80 = tc ∧
        t.monitor.pending = none ∧ t.monitor.slot = 0 ∧ t.monitor.frameCount = (p.monitor.frameCount + 1) % 2 ^ 32) ∧
    (p.boot.released = false ∨ p.monitor.running = false ∨ scheduled p.monitor ≠ none ∨
      p.monitor.slot + p.monitor.shift + empty ≠ p.monitor.sequence.length + p.monitor.idle →
      exec (.monitorFrameStart empty) ⟨p, q⟩ = .next ⟨p, q⟩))

/-- A conversion of the monitor ends with its code: the scheduled channel's result is written with the low half of the frame count, and the
next slot begins; an urgent conversion takes a slot in NATIVE mode and shifts the rest of the frame in TC80 mode; in reset nothing converts
(R91 to R95). -/
def Sys2Proof.Claim.MonitorConversionWritesItsResult : Prop :=
  ∀ (p : Piece) (q : List Instr) (code : Fin 4096),
    (p.boot.released = false ∨ p.monitor.running = false → exec (.monitorConversion code) ⟨p, q⟩ = .next ⟨p, q⟩) ∧
    (p.boot.released = true → p.monitor.running = true →
      (∀ ch, p.monitor.conversion = none → scheduled p.monitor = some ch → p.monitor.waiting = [] → ch < 32 →
        exec (.monitorConversion code) ⟨p, q⟩ = .next ⟨{ growEstimates p with monitor := { p.monitor with
          results := put p.monitor.results ch { seq := p.monitor.frameCount % 65536, urgent := false, code := code.val,
                                                mint := p.monitor.slotBegan }
          slot := p.monitor.slot + 1, slotBegan := p.clocks.mint, conversion := none } }, q⟩) ∧
      (∀ c, p.monitor.conversion = some c → c.channel < 32 → ∃ t, exec (.monitorConversion code) ⟨p, q⟩ = .next ⟨t, q⟩ ∧
        t.monitor.results = put p.monitor.results c.channel { seq := p.monitor.frameCount % 65536, urgent := c.urgent, code := code.val,
                                                              mint := p.monitor.slotBegan } ∧
        (p.monitor.tc80 = false → t.monitor.slot = p.monitor.slot + 1) ∧
        (p.monitor.tc80 = true → t.monitor.slot = p.monitor.slot ∧ t.monitor.shift = p.monitor.shift + 1)))

/-- An urgent request at a slot boundary, or in an empty slot, takes the slot that begins; of two at one boundary SAFETY's converts and
CALMGR's meets it, in whichever order they come. One that meets a conversion is dropped and counted in NATIVE mode and is counted and waits
in TC80 mode; that one of SAFETY waits ahead of those of CALMGR of an earlier cycle too is the model's choice (log entry 35; R93, R94). -/
def Sys2Proof.Claim.UrgentRequestTakesTheSlotOrWaits : Prop :=
  ∀ (p : Piece) (q : List Instr) (safety atBoundary : Bool) (ch : Fin 40) (c : Conversion) (meet : Conversion → Monitor → Monitor),
    p.boot.released = true → p.monitor.running = true → c = { channel := ch.val, urgent := true, safety := safety } →
    meet = (fun c m => if m.tc80 then { m with
        urgentDelayed := min (m.urgentDelayed + 1) (2 ^ 32 - 1)
        waiting := if c.safety then m.waiting.filter (·.safety) ++ c :: m.waiting.filter (!·.safety) else m.waiting ++ [c] }
      else { m with urgentDropped := min (m.urgentDropped + 1) (2 ^ 32 - 1) }) →
    (p.monitor.conversion = none → atBoundary = true ∨ scheduled p.monitor = none →
      exec (.monitorUrgentRequest safety ch atBoundary) ⟨p, q⟩ =
        .next ⟨{ p with monitor := { p.monitor with conversion := some c, slotBegan := p.clocks.mint } }, q⟩) ∧
    (∀ d, p.monitor.conversion = some d → atBoundary = true → safety = true → d.safety = false →
      exec (.monitorUrgentRequest safety ch atBoundary) ⟨p, q⟩ =
        .next ⟨{ p with monitor := meet d { p.monitor with conversion := some c } }, q⟩) ∧
    (∀ d, p.monitor.conversion = some d → safety = false ∨ d.safety = true ∨ atBoundary = false →
      exec (.monitorUrgentRequest safety ch atBoundary) ⟨p, q⟩ = .next ⟨{ p with monitor := meet c p.monitor }, q⟩) ∧
    (p.monitor.conversion = none → atBoundary = false → scheduled p.monitor ≠ none →
      exec (.monitorUrgentRequest safety ch atBoundary) ⟨p, q⟩ = .next ⟨{ p with monitor := meet c p.monitor }, q⟩)

/-- The monitor converter: sequence, results and urgent requests. It says where these answer a next state: monitorSequenceSet, monitorFrameStart, monitorConversion, monitorUrgentRequest. -/
def Obligations.MonitorConverter : Prop :=
  Claim.MonitorSequenceTakesEffectAtAFrame ∧ Claim.MonitorConversionWritesItsResult ∧ Claim.UrgentRequestTakesTheSlotOrWaits

/-- RFIN_CONFIGURE with its fields in range: with the converters IDLE the change takes effect at once and BLOCK_SEQ 0 is returned; otherwise
it waits for the first block boundary at least 32 ticks on and returns that block's number (R72, R76, R123, R458). -/
def Sys2Proof.Claim.RfinConfigureStagesTheChange : Prop :=
  ∀ (p : Piece) (q : List Instr) (c : Cmd) (f : Flight) (p1 : Piece) (b : Bytes) (i s : Nat) (pr : Bool) (fr : FrontEnd),
    Claim.Starts 0x0301 c p f p1 → b = f.body → i = u b 0 1 → pr = (u b 3 1 == 1) → u b 1 1 % 2 = 0 → u b 1 1 ≤ 30 → u b 2 1 ≤ 1 → u b 3 1 ≤ 1 →
    (u b 3 1 = 1 → i % 2 = 0) → u b 4 4 = 0 → fr = { commandedFront (p1.rf i) with att := u b 1 1, high := u b 2 1 == 1 } →
    s = boundarySeq (T16.ofTick (p1.now + 32)) (p1.rf i).changes (p1.rf i).start (p1.rf i).seq (p1.rf i).paired →
    (isPartner p1 i = true → exec (.rfinConfigure c) ⟨p, q⟩ = .next ⟨finish f 9 [] p1, q⟩) ∧
    (isPartner p1 i = false → calibrating p1 = true → exec (.rfinConfigure c) ⟨p, q⟩ = .next ⟨finish f 3 [] p1, q⟩) ∧
    (isPartner p1 i = false → calibrating p1 = false → pr = true → pairingOf p1 i = false → pairOverloads p1 i = true ∨ pairRows p1 i = true →
      exec (.rfinConfigure c) ⟨p, q⟩ = .next ⟨finish f 8 [] p1, q⟩) ∧
    (isPartner p1 i = false → calibrating p1 = false → (pr = false ∨ pairingOf p1 i = true ∨ (pairOverloads p1 i = false ∧ pairRows p1 i = false)) →
      ((p1.rf i).conv = .idle → exec (.rfinConfigure c) ⟨p, q⟩ =
        .next ⟨finish f 0 [0] (changeFront i { front := fr, paired := pr, seq := 0 } (p1.rf i).start p1), q⟩) ∧
      ((p1.rf i).conv ≠ .idle → exec (.rfinConfigure c) ⟨p, q⟩ =
        .next ⟨settle (setFlight { f with progress := .waiting .frontEnd i [low32 s] }
          (onRfin i (fun r => { r with changes := r.changes ++ [{ front := fr, paired := pr, seq := s }] }) p1)), q⟩))

/-- RFIN_SELECT_SOURCE: TONE with N zero gives ST_ZERO; with N zero the tone number is unchanged; the pairing is never changed (R71, R459). -/
def Sys2Proof.Claim.SelectSourceStagesTheChange : Prop :=
  ∀ (p : Piece) (q : List Instr) (c : Cmd) (f : Flight) (p1 : Piece) (b : Bytes) (i s : Nat) (o fr : FrontEnd),
    Claim.Starts 0x0302 c p f p1 → b = f.body → i = u b 0 1 → u b 1 1 ≤ 1 → u b 2 2 ≤ 511 → u b 4 4 = 0 → o = commandedFront (p1.rf i) →
    fr = { o with tone := u b 1 1 == 1, toneN := if u b 2 2 = 0 then o.toneN else u b 2 2 } →
    s = boundarySeq (T16.ofTick (p1.now + 32)) (p1.rf i).changes (p1.rf i).start (p1.rf i).seq (p1.rf i).paired →
    (u b 1 1 = 1 → u b 2 2 = 0 → exec (.rfinSelectSource c) ⟨p, q⟩ = .next ⟨finish f 2 [] p1, q⟩) ∧
    (u b 1 1 = 0 ∨ u b 2 2 ≠ 0 →
      (isPartner p1 i = true → exec (.rfinSelectSource c) ⟨p, q⟩ = .next ⟨finish f 9 [] p1, q⟩) ∧
      (isPartner p1 i = false → calibrating p1 = true → exec (.rfinSelectSource c) ⟨p, q⟩ = .next ⟨finish f 3 [] p1, q⟩) ∧
      (isPartner p1 i = false → calibrating p1 = false →
        ((p1.rf i).conv = .idle → exec (.rfinSelectSource c) ⟨p, q⟩ =
          .next ⟨finish f 0 [0] (changeFront i { front := fr, paired := pairingOf p1 i, seq := 0 } (p1.rf i).start p1), q⟩) ∧
        ((p1.rf i).conv ≠ .idle → exec (.rfinSelectSource c) ⟨p, q⟩ =
          .next ⟨settle (setFlight { f with progress := .waiting .frontEnd i [low32 s] }
            (onRfin i (fun r => { r with changes := r.changes ++ [{ front := fr, paired := pairingOf p1 i, seq := s }] }) p1)), q⟩)))

/-- The block of a change is the first that begins at or after its moment, where no pairing change lies ahead (R72). -/
def Sys2Proof.Claim.BoundaryIsTheFirstAtOrAfter : Prop :=
  ∀ (t start : T16) (seq k : Nat) (paired : Bool), k = boundarySeq t [] start seq paired →
    seq ≤ k ∧ t ≤ start + (((k - seq) * (blockLen * inputPeriod paired) : Nat) : Int) ∧
    (seq < k → start + (((k - seq - 1) * (blockLen * inputPeriod paired) : Nat) : Int) < t)

/-- FRONT_END_CHANGE_APPLY: the change noted for a block takes effect with it, its spans opening at the block's start, and its command
completes with that BLOCK_SEQ; before its block nothing changes (R72). -/
def Sys2Proof.Claim.FrontEndChangeTakesItsBlock : Prop :=
  ∀ (p : Piece) (q : List Instr) (i : Fin 4) (ch : FrontChange), islandDead p (0x10 + i.val) = false → (p.rf i).changes = [ch] →
    (ch.seq ≤ (p.rf i).seq → ch.paired = false ∨ (p.rf i).paired = true ∨ (p.rf i).start ≤ (p.rf (i + 1)).start →
      exec (.frontEndChangeApply i) ⟨p, q⟩ = .next ⟨finishWaiting .frontEnd i 0 (fun _ => [low32 ch.seq])
        (changeFront i ch (p.rf i).start (onRfin i (fun r => { r with changes := [] }) p)), q⟩) ∧
    ((p.rf i).seq < ch.seq → exec (.frontEndChangeApply i) ⟨p, q⟩ = .next ⟨p, q⟩)

/-- A change that keeps the pairing opens a span of 96 samples for ATT, 256 for GAIN, 512 for SOURCE, in that order, each from its block's start; the
block is noted as one of a change, and the input's other state and everything else is unchanged (R72, R79, R85). -/
def Sys2Proof.Claim.ChangeOpensItsSpans : Prop :=
  ∀ (i : Nat) (c : FrontChange) (t : T16) (p : Piece) (r : Rfin), r = p.rf i → c.paired = r.paired →
    changeFront i c t p = onRfin i (fun _ => { r with
      front := c.front
      spans := r.spans ++ (if r.front.att = c.front.att then [] else [r.spanOf 96 1 t]) ++ (if r.front.high = c.front.high then [] else [r.spanOf 256 2 t]) ++
        (if r.front.tone = c.front.tone then [] else [r.spanOf 512 3 t])
      frontSeq := some r.seq }) p

/-- SAMPLE_BLOCK: with the block in the making over, its header, R83's fields in their order, goes with its data to the CHAN instances that take
the stream, and the next block, one higher in number, begins where it ends (R75, R82 to R86). What is due at the block's start (trigger
settings, front-end changes, the calibration tone, slice takeovers) comes first: p0 is the piece after it. -/
def Sys2Proof.Claim.SampleBlockIsHandedOn : Prop :=
  ∀ (p p0 : Piece) (q : List Instr) (i : Fin 4) (codes : List Int) (r : Rfin) (mark : GateMark) (clipped valid reason : Nat) (ends : Option T16)
    (hand cal post : Bool),
    Instr.wellFormed (.sampleBlock i codes) = true → islandDead p (0x10 + i.val) = false →
    p0 = (let p2 := calTone i (takeOver i (applyFront i (p.rf i).changes.length (applyCellsDue p)))
          when (p2.rf i).paired (takeOver (i + 1)) p2) →
    r = p0.rf i → r.conv ≠ .idle → r.partner = false → (∀ ch ∈ r.changes, r.seq < ch.seq) → r.blockEnd ≤ T16.ofTick p0.now →
    mark = gateMark p0 r.start → clipped = (codes.filter fun x => x == -2048 || x == 2047).length →
    (valid, reason) = blockSpanOf (feedSpans p0 i) (feedUnusable p0 i) →
    ends = (if feedUnusable p0 i then none else (lastSpan (feedSpans p0 i)).bind (·.stop)) →
    hand = (r.handoverDue || (r.paired && (p0.rf (i + 1)).handoverDue)) → cal = (r.calDue || (r.paired && (p0.rf (i + 1)).calDue)) →
    post = postJumpDue p0 r.postJump r.start →
    ∃ (b : AcqBlock) (p3 : Piece), b.header = leBytes 4 (r.seq % 2 ^ 32) ++ leBytes 1 (flag r.paired 2 + i) ++
        leBytes 1 (flag cal 5 + flag post 4 + flag mark.coast 3 + flag (decide (0 < clipped)) 2 + flag hand 1 + flag (valid != 0) 0) ++
        leBytes 2 valid ++ leBytes 8 (T16.tick r.start).toNat ++ labelBytes mark.label ++ leBytes 1 reason ++
        leBytes 1 (r.front.att / 2 * 16 + flag r.front.high 3 + flag r.front.tone 2) ++ leBytes 2 (sliceMap p0 i) ++ leBytes 2 (min 65535 clipped) ∧
      b.data = packSamples codes ∧ b.data.length = 768 ∧ b.seq = r.seq ∧ b.start = r.start ∧ b.firstValid = valid ∧
      p3 = (if r.paired then [i.val, i + 1] else [i.val]).foldl (fun p j => feedChan j codes b reason ends r.paired p) p0 ∧
      (∃ p4, exec (.sampleBlock i codes) ⟨p, q⟩ = .next ⟨p4, q⟩ ∧ p4 = { p3 with rfin := p4.rfin } ∧ (i.val < p3.rfin.length →
        (p4.rf i).seq = (p3.rf i).seq + 1 ∧ (p4.rf i).start = (p3.rf i).blockEnd ∧ (p4.rf i).lastSeq = (p3.rf i).seq ∧
        (p4.rf i).handoverDue = false ∧ (p4.rf i).spans = (p3.rf i).spans.filter (fun s => !s.endedBy (p3.rf i).blockEnd) ∧
        (p4.rf i).overBlocks = sat32 (p3.rf i).overBlocks (if 0 < clipped then 1 else 0)))

/-- FIRST_VALID and REASON: a block that no span touches is valid whole; one that a span ends in is valid from the first sample at or after its
end; one that a span outlasts, or of an unusable input, is invalid whole (R81, R85, R86). -/
def Sys2Proof.Claim.BlockValidityFollowsItsSpan : Prop :=
  ∀ (r : Rfin), (∀ b : Bool, b = true → blockSpanOf r b = (512, 6)) ∧
    ((∀ s ∈ r.spans, r.blockEnd ≤ s.start ∨ ∃ e, s.stop = some e ∧ e ≤ r.start) → blockSpanOf r false = (0, 0)) ∧
    (∀ (s : Span) (n : Nat), r.spans = [s] → s.start < r.blockEnd →
      (s.stop = none → blockSpanOf r false = (512, s.reason)) ∧
      (∀ e, s.stop = some e → r.start < e → n = (blockSpanOf r false).1 → (blockSpanOf r false).2 = s.reason ∧ n ≤ 512 ∧
        (n < 512 → e ≤ r.start + ((n * inputPeriod r.paired : Nat) : Int)) ∧
        r.start + (((n - 1) * inputPeriod r.paired : Nat) : Int) < e))

/-- RFIN: front-end commands, boundaries, spans and sample blocks. It says where these answer a next state: rfinConfigure, rfinSelectSource, frontEndChangeApply, sampleBlock. -/
def Obligations.FrontEndAndBlocks : Prop :=
  Claim.RfinConfigureStagesTheChange ∧ Claim.SelectSourceStagesTheChange ∧ Claim.BoundaryIsTheFirstAtOrAfter ∧
  Claim.FrontEndChangeTakesItsBlock ∧ Claim.ChangeOpensItsSpans ∧ Claim.SampleBlockIsHandedOn ∧ Claim.BlockValidityFollowsItsSpan

/-- SLICE_FAULT of a slice in use: a span without an end opens, the alarm is raised and the error goes to STEWARD as for any element; a retired slice, or
one of an idle input, changes nothing (R80, R594). -/
def Sys2Proof.Claim.SliceFaultOpensASpan : Prop :=
  ∀ (p : Piece) (q : List Instr) (i : Fin 4) (s : Fin 3), islandDead p (0x10 + i.val) = false →
    (bitAt (p.rf i).retired s = true ∨ (p.rf (feedOf p i)).conv = .idle → exec (.sliceFault i s) ⟨p, q⟩ = .next ⟨p, q⟩) ∧
    (bitAt (p.rf i).retired s = false → (p.rf (feedOf p i)).conv ≠ .idle →
      (s.val ∈ (p.rf i).map → (∀ x ∈ (p.rf i).faulted, x.1 ≠ s.val) → exec (.sliceFault i s) ⟨p, q⟩ =
        .next ⟨detectError (sliceElement i s) (raiseAlarm 0x0400 0x03 i (onRfin i (fun r => { r with
          faulted := r.faulted ++ [(s.val, p.now)], rotation := none
          spans := if r.faulted = [] then r.spans ++ [{ start := T16.ofTick p.now, stop := none, reason := 6 }] else r.spans }) p)), q⟩) ∧
      (s.val ∉ (p.rf i).map → exec (.sliceFault i s) ⟨p, q⟩ = .next ⟨detectError (sliceElement i s) (raiseAlarm 0x0400 0x03 i
        (if s.val = 2 then onRfin i (fun r => { r with rotation := none }) p else p)), q⟩))

/-- SLICE_TAKEOVER: at the first boundary at least 1 µs after detection S takes the phase of the faulted slice, and the span of reason 6 ends
there. Where S already stands in for the other slice, that one returns to its own phase at the same boundary if it is fit; where S itself
fails in a phase, the absent slice returns to it (R80, R81). -/
def Sys2Proof.Claim.SpareTakesTheFaultedPhase : Prop :=
  ∀ (p : Piece) (q : List Instr) (i : Fin 4) (j t : Nat) (start : T16) (done : List Nat → State), islandDead p (0x10 + i.val) = false →
    (p.rf i).faulted = [(j, t)] → start = (p.rf (feedOf p i)).start →
    done = (fun m => ⟨onRfin i (fun r => { r with
      map := m, rotation := none, faulted := []
      spans := (r.spans.map fun s => if s.reason == 6 && s.stop.isNone then { s with stop := some start } else s) }) p, q⟩) →
    (start < T16.ofTick (t + 2560) → exec (.sliceTakeover i) ⟨p, q⟩ = .next ⟨p, q⟩) ∧
    (T16.ofTick (t + 2560) ≤ start → j < 2 → bitAt (p.rf i).retired 2 = false → (∀ x ∈ p.safety.tests, x.element ≠ sliceElement i 2) →
      ((p.rf i).map = [0, 1] → exec (.sliceTakeover i) ⟨p, q⟩ = .next (done (if j = 0 then [2, 1] else [0, 2]))) ∧
      ((p.rf i).map = (if j = 0 then [0, 2] else [2, 1]) → bitAt (p.rf i).retired (1 - j) = false →
        (∀ x ∈ p.safety.tests, x.element ≠ sliceElement i (1 - j)) →
        exec (.sliceTakeover i) ⟨p, q⟩ = .next (done (if j = 0 then [2, 1] else [0, 2])))) ∧
    (∀ k, T16.ofTick (t + 2560) ≤ start → j = 2 → k < 2 → (p.rf i).map = (if k = 0 then [2, 1] else [0, 2]) → bitAt (p.rf i).retired k = false →
      (∀ x ∈ p.safety.tests, x.element ≠ sliceElement i k) → exec (.sliceTakeover i) ⟨p, q⟩ = .next (done [0, 1]))

/-- SLICE_HANDOVER after 256 blocks within the limits, at a clear boundary: the incoming slice takes the phase with the trims to which CALMGR
has adjusted it, unless an override holds them, HANDOVERS counts, the next block is marked; outside a limit nothing changes (R77 to R79,
R321, R326). -/
def Sys2Proof.Claim.HandoverSwapsTheSlices : Prop :=
  ∀ (p : Piece) (q : List Instr) (i : Fin 4) (x y : SliceTrim) (t : Rotation), islandDead p (0x10 + i.val) = false → (p.rf i).rotation = some t →
    (t.step = 1 → 256 ≤ t.blocks → x.offset.natAbs ≤ 64 → x.gain.natAbs ≤ 230 → x.skew.natAbs ≤ 20 → boundaryClear p i = true →
      exec (.sliceHandover i x y) ⟨p, q⟩ = .next ⟨onRfin i (fun r => { r with
        map := r.map.map fun j => if j = t.slice then 2 else j
        handovers := sat32 r.handovers 1, handoverDue := true, rotation := some { slice := t.slice, step := 2, began := p.now }
        trims := if bitAt p.cal.sliceOverrides (3 * i + 2) then r.trims else put r.trims (2 + t.slice) y }) p, q⟩) ∧
    (64 < x.offset.natAbs ∨ 230 < x.gain.natAbs ∨ 20 < x.skew.natAbs ∨ t.blocks < 256 ∨ boundaryClear p i = false →
      exec (.sliceHandover i x y) ⟨p, q⟩ = .next ⟨p, q⟩)

/-- HANDOVER_ABANDON after 65,536 blocks ends the rotation, counts MATCH_FAIL and sends the incoming slice to its test (R79, R321). -/
def Sys2Proof.Claim.HandoverIsAbandoned : Prop :=
  ∀ (p : Piece) (q : List Instr) (i : Fin 4) (t : Rotation), islandDead p (0x10 + i.val) = false → (p.rf i).rotation = some t →
    (t.step = 1 ∨ t.step = 3 → 65536 ≤ t.blocks → exec (.handoverAbandon i) ⟨p, q⟩ =
      .next ⟨detectError (sliceElement i (if t.step = 1 then 2 else t.slice))
        (onRfin i (fun r => { r with rotation := none, matchFail := sat32 r.matchFail 1 }) p), q⟩) ∧
    (t.blocks < 65536 → exec (.handoverAbandon i) ⟨p, q⟩ = .next ⟨p, q⟩)

/-- A rotation sends out the slice whose turn it is and S begins to shadow it; half a SLICE_PERIOD must have passed since the last; SLICE_AWAY_END then lets the slice
shadow S with its refreshed trims, which are its own set, where no override holds them (R77, R321, R326). -/
def Sys2Proof.Claim.RotationLeavesAndReturns : Prop :=
  ∀ (p : Piece) (q : List Instr) (i : Fin 4) (y : SliceTrim) (r : Rfin), r = p.rf i →
    (p.cal.mode ≠ .startup → p.cal.running = false → bitAt p.cal.sliceEn i = true → (p.rf (feedOf p i)).conv = .running → r.unusable = false →
      r.rotation = none → bitAt r.retired 2 = false → p.safety.tests = [] → r.faulted = [] → r.map = [0, 1] → r.nextOut ≤ 1 →
      (∀ t, r.rotated = some t → t + p.cal.slicePeriod * 2560000 / 2 ≤ p.now) →
      exec (.sliceRotationStart i) ⟨p, q⟩ = .next ⟨onRfin i (fun r => { r with
        rotation := some { slice := r.nextOut, step := 1, began := p.now }, rotated := some p.now, nextOut := 1 - r.nextOut }) p, q⟩) ∧
    (bitAt p.cal.sliceEn i = false → exec (.sliceRotationStart i) ⟨p, q⟩ = .next ⟨p, q⟩) ∧
    (∀ t : Rotation, r.rotation = some t → t.step = 2 →
      (t.began + p.cal.sliceAway * 2560000 ≤ p.now → exec (.sliceAwayEnd i y) ⟨p, q⟩ =
        .next ⟨onRfin i (fun r => { r with
          rotation := some { t with step := 3, began := p.now, blocks := 0 }
          trims := if bitAt p.cal.sliceOverrides (3 * i + t.slice) then r.trims else put r.trims (if t.slice = 2 then 2 + t.slice else t.slice) y }) p, q⟩) ∧
      (p.now < t.began + p.cal.sliceAway * 2560000 → exec (.sliceAwayEnd i y) ⟨p, q⟩ = .next ⟨p, q⟩))

/-- Converter slices: faults, takeover, handover and rotation. It says where these answer a next state: sliceFault, sliceTakeover, sliceHandover, handoverAbandon, sliceRotationStart, sliceAwayEnd. -/
def Obligations.ConverterSlices : Prop :=
  Claim.SliceFaultOpensASpan ∧ Claim.SpareTakesTheFaultedPhase ∧ Claim.HandoverSwapsTheSlices ∧ Claim.HandoverIsAbandoned ∧
  Claim.RotationLeavesAndReturns

/-- CHAN_CONFIGURE with every field in its range notes its changes and returns the tick of the input block boundary at which they begin to take
effect; it completes with ST_ZERO with nothing to do, and with ST_RANGE where a record or a field is out of range, changing nothing
(R96 to R102, R460). -/
def Sys2Proof.Claim.ChanConfigureNotesItsChanges : Prop :=
  ∀ (p : Piece) (q : List Instr) (c : Cmd) (f : Flight) (p1 p2 : Piece) (b : Bytes) (i m : Nat) (rs : List (Nat × Bytes)), Claim.Starts 0x0303 c p f p1 →
    b = f.body → i = u b 0 1 → rs = (maskIndices 8 (u b 5 1)).map (fun n => (n, ddcRecord b n)) → p2 = stageChan b p1 →
    m = (if (p1.rf (feedOf p1 i)).conv = .idle then p1.now else inputBoundary p1 i (p1.now + 32)) →
    (u b 1 1 = 0 → u b 5 1 = 0 → exec (.chanConfigure c) ⟨p, q⟩ = .next ⟨finish f 2 [] p1, q⟩) ∧
    (u b 1 1 ≠ 0 ∨ u b 5 1 ≠ 0 → 3 < u b 1 1 ∨ u b 8 8 ≠ 0 ∨ (∃ x ∈ rs, ddcRange p1 i (p1.ddc i x.1) x.2 = true) →
      exec (.chanConfigure c) ⟨p, q⟩ = .next ⟨finish f 1 [] p1, q⟩) ∧
    (u b 1 1 ≠ 0 ∨ u b 5 1 ≠ 0 → u b 1 1 ≤ 3 → u b 8 8 = 0 → (∀ x ∈ rs, ddcRange p1 i (p1.ddc i x.1) x.2 = false) →
      (bitAt (u b 1 1) 0 = true → u b 2 1 ≤ 3 ∧ u b 3 1 ≤ 8) →
      (bitAt (u b 1 1) 1 = true → field (u b 4 1) 5 2 ≠ 3 ∧ field (u b 4 1) 3 2 = 0 ∧ bitAt (u b 6 2) 15 = false) →
      (∀ x ∈ rs, (commandedDdc (p1.ddc i x.1)).1 = true → recordEn x.2 = true →
        (ddcSettingOf x.2).phase = (commandedDdc (p1.ddc i x.1)).2.phase ∧ (ddcSettingOf x.2).startMint = (commandedDdc (p1.ddc i x.1)).2.startMint) →
      (bitAt (u b 1 1) 1 = true → bitAt (u b 4 1) 7 = true → ∀ x ∈ rs, x.1 = u b 4 1 % 8 → recordEn x.2 = true) →
      calibrating p1 = false → routedTooFast p2 i = false → overloaded p2 i = false → rowsTooFast p2 i = false →
      exec (.chanConfigure c) ⟨p, q⟩ = .next ⟨finish f 0 [low32 m, high32 m] p2, q⟩)

/-- What a record notes: a DDC that is off and enabled starts at the boundary at or after START_MINT, or the command with START_MINT zero; one that is on and
disabled ends with an output block; a new FTW of one that is on waits for an input block, new K, INVERT and routes for an output block (R99,
R100, R105). -/
def Sys2Proof.Claim.RecordsWaitForTheirBlock : Prop :=
  ∀ (i n tick : Nat) (r : Bytes) (p : Piece) (s o : DdcSetting), s = ddcSettingOf r →
    (∀ d : Ddc, d = p.ddc i n → commandedDdc d = (false, o) → recordEn r = true → stageDdc i n tick r p = onDdc i n (fun d => { d with
      changes := d.changes ++ [.enable s (inputBoundary p i (if s.startMint = 0 then p.now else s.startMint))] }) p) ∧
    (commandedDdc (p.ddc i n) = (true, o) → recordEn r = false → stageDdc i n tick r p = onDdc i n (fun d => { d with
      changes := d.changes ++ [.disable (outputBoundary p i n tick)] }) p) ∧
    (commandedDdc (p.ddc i n) = (true, o) → recordEn r = true → s.ftw ≠ o.ftw → s.k = o.k → s.invert = o.invert → s.route = o.route →
      stageDdc i n tick r p = onDdc i n (fun d => { d with changes := d.changes ++ [.tune s.ftw (inputBoundary p i tick)] }) p) ∧
    (commandedDdc (p.ddc i n) = (true, o) → recordEn r = true → s.ftw = o.ftw → s.k ≠ o.k ∨ s.invert ≠ o.invert ∨ s.route ≠ o.route →
      stageDdc i n tick r p = onDdc i n (fun d => { d with changes := d.changes ++
        [.shape { s with phase := o.phase, startMint := o.startMint } (outputBoundary p i n tick)] }) p)

/-- CHAN_FILTER_LOAD writes the inactive bank: a DDC that is off takes it as its active bank at once, and its next block carries SWAP; one that
runs swaps at SWAP_SEQ, or with its next block where that number has started. A number of taps that breaks the table of R102 and a
coefficient beyond 18 bits give ST_RANGE, a swap that waits gives ST_BUSY (R102, R104, R461). That a number counts as started once BLOCK_SEQ
has given it since its last wrap is the model's choice (log entry 60). -/
def Sys2Proof.Claim.FilterLoadFillsTheOtherBank : Prop :=
  ∀ (p : Piece) (q : List Instr) (c : Cmd) (f : Flight) (p1 : Piece) (b t : Bytes) (i n taps : Nat) (d : Ddc), Claim.Starts 0x0304 c p f p1 →
    b = f.body → i = u b 0 1 → n = u b 1 1 → taps = u b 2 2 → d = p1.ddc i n → n ≤ 7 → 16 ≤ taps → taps ≤ 256 →
    tableAddrOk p1.dmc (u b 8 8) (4 * taps) = true →
    (tapsOk (commandedPaired p1 i) (commandedDdc d).2.k taps = false → exec (.chanFilterLoad c) ⟨p, q⟩ = .next ⟨finish f 1 [] p1, q⟩) ∧
    (tapsOk (commandedPaired p1 i) (commandedDdc d).2.k taps = true →
      (d.swapAt ≠ none → exec (.chanFilterLoad c) ⟨p, q⟩ = .next ⟨finish f 3 [] p1, q⟩) ∧
      (d.swapAt = none → pieceRead p1 (u b 8 8) (4 * taps) c.read = .ok t →
        ((∃ w ∈ words t, 2 ^ 18 ≤ w) → exec (.chanFilterLoad c) ⟨p, q⟩ = .next ⟨finish f 1 [] p1, q⟩) ∧
        ((∀ w ∈ words t, w < 2 ^ 18) → d.en = false → exec (.chanFilterLoad c) ⟨p, q⟩ = .next ⟨finish f 0 [0xFFFFFFFF]
          (onDdc i n (fun d => { d with banks := put d.banks (1 - d.bank) (some ((words t).map (signed 18))), bank := 1 - d.bank
                                        swapDue := true }) p1), q⟩) ∧
        (∀ m, (∀ w ∈ words t, w < 2 ^ 18) → d.en = true →
          m = (if u b 4 4 ≤ d.seq % 2 ^ 32 then d.seq + 1 else d.seq + (u b 4 4 - d.seq % 2 ^ 32)) →
          exec (.chanFilterLoad c) ⟨p, q⟩ = .next ⟨finish f 0 [low32 m]
          (onDdc i n (fun d => { d with banks := put d.banks (1 - d.bank) (some ((words t).map (signed 18))), swapAt := some m }) p1), q⟩)))

/-- DDC_CHANGE_APPLY: the change that is due takes effect, and one that is not due stays. An enable starts the DDC at the block's start with empty delay
lines and 4 × NTAPS invalid outputs; a new FTW changes nothing else, and one that comes while the start waits is the FTW it starts with; a disable empties the DDC (R99, R100,
R105, R108). -/
def Sys2Proof.Claim.DdcChangeTakesItsBlock : Prop :=
  ∀ (p : Piece) (q : List Instr) (i : Fin 4) (n : Fin 8) (ch : DdcChange) (r : Rfin), islandDead p (0x10 + i.val) = false → r = p.rf (feedOf p i) →
    ((p.ddc i n).changes = [ch] →
    (changeDue p i n ch = false → exec (.ddcChangeApply i n) ⟨p, q⟩ = .next ⟨p, q⟩) ∧
    (∀ s t, ch = .enable s t → s.startMint = 0 → r.conv ≠ .idle → t ≤ T16.tick r.start → exec (.ddcChangeApply i n) ⟨p, q⟩ =
      .next ⟨onDdc i n (fun d => { d with
        en := true, setting := s, acc := s.phase * 2 ^ 32 % 2 ^ 48, head := r.start, fifo := [], final := [], changes := []
        stages := List.replicate (s.k - 1) [], spans := [(4 * activeTaps d, 8)] }) p, q⟩) ∧
    (∀ w t, ch = .tune w t → (p.ddc i n).en = true → t ≤ T16.tick r.start → exec (.ddcChangeApply i n) ⟨p, q⟩ =
      .next ⟨onDdc i n (fun d => { d with setting := { d.setting with ftw := w }, changes := [] }) p, q⟩) ∧
    (∀ m, ch = .disable m → m ≤ (p.ddc i n).seq → exec (.ddcChangeApply i n) ⟨p, q⟩ =
      .next ⟨stopDdc i n (onDdc i n (fun d => { d with changes := [] }) p), q⟩)) ∧
    (∀ s t w t', (p.ddc i n).changes = [.enable s t, .tune w t'] → (p.ddc i n).en = false → T16.tick r.start < t → t' ≤ T16.tick r.start →
      exec (.ddcChangeApply i n) ⟨p, q⟩ = .next ⟨onDdc i n (fun d => { d with changes := [.enable { s with ftw := w } t] }) p, q⟩)

/-- COEFFICIENT_SWAP makes the loaded bank active with the block named, whose outputs carry the span of the incoming set; before it nothing
changes (R104, R108). -/
def Sys2Proof.Claim.SwapTakesItsBlock : Prop :=
  ∀ (p : Piece) (q : List Instr) (i : Fin 4) (n : Fin 8) (m : Nat), islandDead p (0x10 + i.val) = false → (p.ddc i n).swapAt = some m →
    (m ≤ (p.ddc i n).seq → exec (.coefficientSwap i n) ⟨p, q⟩ = .next ⟨onDdc i n swapBank p, q⟩) ∧
    ((p.ddc i n).seq < m → exec (.coefficientSwap i n) ⟨p, q⟩ = .next ⟨p, q⟩) ∧
    (∀ d, (swapBank d).bank = 1 - d.bank ∧ (swapBank d).swapAt = none ∧ (swapBank d).swapDue = true ∧
      (swapBank d).spans = d.spans ++ [(activeTaps { d with bank := 1 - d.bank } - 1, 9)])

/-- XING_SETTING_APPLY: the setting of the crossing source takes effect with the next block of the DDC it selects, or at once where that does
not run; its arming starts anew, and a source that it disables is lost to its slots (R113, R279). -/
def Sys2Proof.Claim.XingSettingTakesEffect : Prop :=
  ∀ (p : Piece) (q : List Instr) (i : Fin 4) (x : Xing) (m : Nat) (p1 : Piece), islandDead p (0x10 + i.val) = false →
    (p.chanOf i).xingNext = [(x, m)] →
    p1 = onChan i (fun c => { c with xing := x, xingNext := [], riseArmed := false, fallArmed := false, last := none }) p →
    ((p.ddc i x.ddc).en = true → (p.ddc i x.ddc).seq < m → exec (.xingSettingApply i) ⟨p, q⟩ = .next ⟨p, q⟩) ∧
    ((p.ddc i x.ddc).en = false ∨ m ≤ (p.ddc i x.ddc).seq →
      ((p.chanOf i).xing = x → exec (.xingSettingApply i) ⟨p, q⟩ = .next ⟨p1, q⟩) ∧
      ((p.chanOf i).xing ≠ x → (p.chanOf i).xing.en = false ∨ x.en = true →
        exec (.xingSettingApply i) ⟨p, q⟩ = .next ⟨markSource (16 + i) 5 p1, q⟩) ∧
      ((p.chanOf i).xing.en = true → x.en = false →
        exec (.xingSettingApply i) ⟨p, q⟩ = .next ⟨loseSource (16 + i) 6 (markSource (16 + i) 5 p1), q⟩))

/-- DDC_BLOCK of a DDC that runs and holds the inputs of a block (p0: after what is due at its start): the filtered outputs, 512 of them for a whole
block of inputs, form a block whose header holds R110's fields, and the DDC goes on with the next block; with too few inputs nothing more
happens (R101 to R110). -/
def Sys2Proof.Claim.DdcBlockIsMade : Prop :=
  ∀ (p p0 : Piece) (q : List Instr) (i : Fin 4) (n : Fin 8) (d : Ddc), islandDead p (0x10 + i.val) = false →
    p0 = (let p2 := when ((applyCellsDue p).ddc i n).en (swapIfDue i n) (applyCellsDue p)
          let p2 := applyDdcs i n (p2.ddc i n).changes.length p2
          applyXings i (p2.chanOf i).xingNext.length p2) → d = p0.ddc i n →
    (d.en = false ∨ d.fifo.length < blockLen * 2 ^ d.setting.k → exec (.ddcBlock i n) ⟨p, q⟩ = .next ⟨p0, q⟩) ∧
    (d.en = true → blockLen * 2 ^ d.setting.k ≤ d.fifo.length →
      ∃ (p3 : Piece) (o fin : List Tap) (b : AcqBlock) (xs : List XingSample) (ys : List XSample) (it : StreamItem) (cal : Bool),
      runStage (activeSet d) (d.setting.k != 0) d.final (runStages d.stages (d.fifo.take (blockLen * 2 ^ d.setting.k))).2 = (fin, o) ∧
      b.samples = o.map (fun x => (outputSample d.setting.invert (d.stages.length + 1) x).1) ∧ b.seq = d.seq ∧ b.start = ddcBlockStart p0 i n ∧
      (∃ reason, (b.invalidFrom, b.firstValid, reason) = ddcSpan o (ownSpan d.spans) (fun t =>
          spanEnd d.head t (inputPeriod (pairedFeed p0 i)) (2 ^ d.setting.k) (support d.setting.k (activeTaps d))) ∧
        b.header.drop 10 = leBytes 1 reason ++ leBytes 1 d.setting.k ++ b.header.drop 12) ∧
      b.header.take 5 = leBytes 4 (d.seq % 2 ^ 32) ++ leBytes 1 (n * 32 + flag d.setting.invert 4 + flag (pairedFeed p0 i) 3 + i) ∧
      b.data = b.samples.flatMap (fun x => leBytes 2 (twos 16 x.1) ++ leBytes 2 (twos 16 x.2)) ∧ it.record = b.header ++ b.data ∧
      it.channel = 4 + 8 * i + n ∧ xs.map (·.y) = b.samples.map (·.1) ∧ xs.map (·.sat) = o.map (fun x => (outputSample d.setting.invert (d.stages.length + 1) x).2.1) ∧
      ys.map (fun y => (y.re, y.im)) = b.samples ∧
      (i.val < p0.chan.length → n.val < (p0.chanOf i).ddcs.length → (p3.ddc i n).seq = d.seq + 1 ∧ (p3.ddc i n).lastSeq = d.seq ∧
        (p3.ddc i n).fifo = d.fifo.drop (blockLen * 2 ^ d.setting.k) ∧ (p3.ddc i n).setting = d.setting ∧ (p3.ddc i n).final = fin) ∧
      p3 = { p0 with chan := p3.chan } ∧ exec (.ddcBlock i n) ⟨p, q⟩ = .next ⟨(fun p => when ((p.chanOf i).xformSrc == n.val)
          (feedXform i { src := n, paired := pairedFeed p0 i, period := b.period } b.start ys) p)
        (when (bitAt d.setting.route 1) (sendStream it) (when (bitAt d.setting.route 2) (feedTrigger i n b)
          (when (bitAt d.setting.route 0) (feedAcq i n b) (xingBlock i n xs cal p3)))), q⟩)

/-- CHAN and DDC: configuration, filter loads, crossings and the blocks in which changes take effect. It says where these answer a next state: chanConfigure, chanFilterLoad, ddcChangeApply, coefficientSwap, xingSettingApply, ddcBlock. -/
def Obligations.DigitalChannels : Prop :=
  Claim.ChanConfigureNotesItsChanges ∧ Claim.RecordsWaitForTheirBlock ∧ Claim.FilterLoadFillsTheOtherBank ∧ Claim.DdcChangeTakesItsBlock ∧
  Claim.SwapTakesItsBlock ∧ Claim.XingSettingTakesEffect ∧ Claim.DdcBlockIsMade

/-- XFORM_CONFIGURE with its fields in range: an engine that is off starts its grid at START_MINT, or 32 ticks on; one that does its last frames takes the new grid after them; one that runs takes a new grid with a restart, other settings at once; a disable ends the grid after the frames that have started, at once where none begins before it. Restarts and grids that wait are carried out in the order of their commands (R118 to R126, R462). -/
def Sys2Proof.Claim.XformConfigureStartsOrRestarts : Prop :=
  ∀ (p : Piece) (q : List Instr) (c : Cmd) (f : Flight) (p1 : Piece) (b : Bytes) (i : Nat) (x : Xform) (s : XformSetting) (n : NextGrid) (g : Piece) (d : Piece) (z0 r0 s0 t0 v0 : Bool), Claim.Starts 0x0401 c p f p1 →
    b = f.body → i = u b 0 1 → x = p1.engine i → s = xformSettingOf b → n = ({ setting := s, from_ := gridFrom s (p1.now + 32), fromBlock := s.startMint == 0 }) → g = (onXform i (fun y => if engineRuns x then onLastGrid id [(s, p1.now + 32)] none y else if y.en then { y with after := y.after ++ [n] } else { y with en := bitAt (u b 1 1) 7, ending := none, setting := s }) p1) → d = onXform i (onLastGrid id [] (some (p1.now + 32))) p1 →
    z0 = (s.len == 0 || (bitAt s.route 2 && (s.every == 0 || s.binCount == 0))) →
    r0 = (xformRange p1 i b) →
    s0 = (s.window == 5 && (x.custom.map (·.length)) != some s.size || (engineRuns x && bitAt (u b 1 1) 7 && s.startMint != (commandedXform x).startMint) || ((bitAt s.route 2 || x.detectors.any fun d => (commandedDetector d).en && bitAt (commandedDetector d).route 2) && !streamUsable p1 s.streamCh)) →
    t0 = (bitAt (u b 1 1) 7 && !engineRuns x && calibrating p1) →
    v0 = (bitAt (u b 1 1) 7 && (overloaded g i || decide (engineLimit < exportRate g i) || rowsTooFast g i)) →
    (z0 = true → exec (.xformConfigure c) ⟨p, q⟩ = .next ⟨finish f 2 [] p1, q⟩) ∧
    (z0 = false → r0 = true → exec (.xformConfigure c) ⟨p, q⟩ = .next ⟨finish f 1 [] p1, q⟩) ∧
    (z0 = false → r0 = false → s0 = true → exec (.xformConfigure c) ⟨p, q⟩ = .next ⟨finish f 9 [] p1, q⟩) ∧
    (z0 = false → r0 = false → s0 = false → t0 = true → exec (.xformConfigure c) ⟨p, q⟩ = .next ⟨finish f 3 [] p1, q⟩) ∧
    (z0 = false → r0 = false → s0 = false → t0 = false → v0 = true → exec (.xformConfigure c) ⟨p, q⟩ = .next ⟨finish f 8 [] p1, q⟩) ∧
    (z0 = false → r0 = false → s0 = false → t0 = false → v0 = false → 
      (bitAt (u b 1 1) 7 = false → engineRuns x = false → x.en = true → exec (.xformConfigure c) ⟨p, q⟩ = .next ⟨finish f 0 [low32 x.lastMint, high32 x.lastMint] (onXform i (fun x => { x with parked := some s }) p1), q⟩) ∧
      (bitAt (u b 1 1) 7 = false → engineRuns x = false → x.en = false → exec (.xformConfigure c) ⟨p, q⟩ = .next ⟨finish f 0 [low32 x.lastMint, high32 x.lastMint] (settleMask i (onXform i (fun x => { x with setting := s }) p1)), q⟩) ∧
      (∀ (t : T16), bitAt (u b 1 1) 7 = false → engineRuns x = true → x.from_ = some t → x.after = [] → beginsAfter d i t (T16.ofTick (p1.now + 32)) = true → exec (.xformConfigure c) ⟨p, q⟩ = .next ⟨finish f 0 [low32 x.lastMint, high32 x.lastMint, x.lastSeq] (endGrid i d), q⟩) ∧
      (bitAt (u b 1 1) 7 = false → engineRuns x = true → x.from_ = none ∨ x.after ≠ [] ∨ (∀ t, x.from_ = some t → beginsAfter d i t (T16.ofTick (p1.now + 32)) = false) → exec (.xformConfigure c) ⟨p, q⟩ = .next ⟨settle (setFlight { f with progress := .waiting .xformEnd (lastGridKey i x) [] } (d)), q⟩) ∧
      (bitAt (u b 1 1) 7 = true → engineRuns x = false → x.en = true → exec (.xformConfigure c) ⟨p, q⟩ = .next ⟨settle (setFlight { f with progress := .waiting .xformGrid (lastGridKey i x + 4) [] } (onXform i (fun x => { x with after := x.after ++ [n], parked := none }) p1)), q⟩) ∧
      (bitAt (u b 1 1) 7 = true → engineRuns x = false → x.en = false → exec (.xformConfigure c) ⟨p, q⟩ = .next ⟨settle (setFlight { f with progress := .waiting .xformGrid (lastGridKey i x) [] } (settleMask i (onXform i (fun x => { x with en := true, setting := s, next := [], from_ := some n.from_, fromBlock := n.fromBlock, frameSeq := 0, buffer := [], incoming := none, cfgChange := false, postDue := false }) p1))), q⟩) ∧
      (bitAt (u b 1 1) 7 = true → engineRuns x = true → lastBegun p1.now x = false → exec (.xformConfigure c) ⟨p, q⟩ = .next ⟨settle (setFlight { f with progress := .waiting .xformGrid (lastGridKey i x) [] } (settleMask i (onXform i (onLastGrid (fun _ => s) [] none) p1))), q⟩) ∧
      (bitAt (u b 1 1) 7 = true → engineRuns x = true → lastBegun p1.now x = true → gridChange (commandedXform x) s = true → exec (.xformConfigure c) ⟨p, q⟩ = .next ⟨settle (setFlight { f with progress := .waiting .xformGrid (lastGridKey i x) [] } (onXform i (onLastGrid id [(s, p1.now + 32)] none) p1)), q⟩) ∧
      (bitAt (u b 1 1) 7 = true → engineRuns x = true → lastBegun p1.now x = true → gridChange (commandedXform x) s = false → exec (.xformConfigure c) ⟨p, q⟩ = .next ⟨finish f 0 [low32 (T16.tick x.head).toNat, high32 (T16.tick x.head).toNat, x.frameSeq] (settleMask i (onXform i (onLastGrid (withGridOf s) [] none) p1)), q⟩))

/-- XFORM_WINDOW_LOAD replaces the custom table of an engine with 2^k coefficients of 18 bits and returns k; a coefficient beyond 18 bits gives ST_RANGE and changes nothing (R122, R463). -/
def Sys2Proof.Claim.WindowLoadReplacesTheTable : Prop :=
  ∀ (p : Piece) (q : List Instr) (c : Cmd) (f : Flight) (p1 : Piece) (b : Bytes) (i : Nat) (n : Nat) (x : Xform) (z0 r0 s0 : Bool), Claim.Starts 0x0402 c p f p1 →
    b = f.body → i = u b 0 1 → n = u b 4 4 → x = p1.engine i →
    z0 = (n == 0) →
    r0 = ((tableLog n).isNone || u b 1 3 != 0 || !tableAddrOk p1.dmc (u b 8 8) (4 * n)) →
    s0 = (x.en && (x.setting.window == 5 || (commandedXform x).window == 5 || x.next.any (·.1.window == 5) || x.after.any fun g => g.setting.window == 5 || g.next.any (·.1.window == 5))) →
    (z0 = true → exec (.xformWindowLoad c) ⟨p, q⟩ = .next ⟨finish f 2 [] p1, q⟩) ∧
    (z0 = false → r0 = true → exec (.xformWindowLoad c) ⟨p, q⟩ = .next ⟨finish f 1 [] p1, q⟩) ∧
    (z0 = false → r0 = false → s0 = true → exec (.xformWindowLoad c) ⟨p, q⟩ = .next ⟨finish f 9 [] p1, q⟩) ∧
    (z0 = false → r0 = false → s0 = false → 
      (∀ (t : Bytes), pieceRead p1 (u b 8 8) (4 * n) c.read = .ok t → (words t).any (fun w => decide (2 ^ 18 ≤ w)) = true → exec (.xformWindowLoad c) ⟨p, q⟩ = .next ⟨finish f 1 [] (p1), q⟩) ∧
      (∀ (t : Bytes), pieceRead p1 (u b 8 8) (4 * n) c.read = .ok t → (words t).any (fun w => decide (2 ^ 18 ≤ w)) = false → exec (.xformWindowLoad c) ⟨p, q⟩ = .next ⟨finish f 0 [(tableLog n).getD 0] (onXform i (fun x => { x with custom := some (words t) }) p1), q⟩) ∧
      (∀ (t : Transfer), pieceRead p1 (u b 8 8) (4 * n) c.read = .error t → exec (.xformWindowLoad c) ⟨p, q⟩ = .next ⟨finish f (transferStatus t) [] (p1), q⟩))

/-- DETECTOR_SET: the setting of a slot of an engine that runs waits, behind those that wait already, for the frame that its tick opens; on an engine that does not run it takes effect at once; a kurtosis slot that a mask, a DENSITY channel fed by the engine or a SPEC binding names gives ST_RANGE (R134 to R137, R464). -/
def Sys2Proof.Claim.DetectorSettingWaitsForAFrame : Prop :=
  ∀ (p : Piece) (q : List Instr) (c : Cmd) (f : Flight) (p1 : Piece) (b : Bytes) (i : Nat) (n : Nat) (s : DetectorSetting) (x : Xform) (g : Piece) (z0 r0 s0 t0 : Bool), Claim.Starts 0x0403 c p f p1 →
    b = f.body → i = u b 0 1 → n = u b 1 1 → s = { en := bitAt (u b 4 1) 7, type := u b 2 1, alpha := u b 3 1, route := u b 4 1 % 8, count := u b 8 2 } → x = p1.engine i → g = (onDetector i n (fun d => { d with next := d.next ++ [(s, p1.now + 32)] }) p1) →
    z0 = (s.count == 0) →
    r0 = (decide (3 < n) || decide (8 < u b 2 1) || (u b 2 1 == 5 && decide (16 < s.alpha)) || (u b 2 1 == 8 && (s.count == 1 || ((commandedXform x).maskSrc == n + 2 || (fedChannels p1 i).any (fun ch => (nth p1.density.channels ch).src == n + 1) || specBound p1 i (n + 1)))) || field (u b 4 1) 3 4 != 0 || u b 5 3 != 0 || !isZero (slice b 10 6)) →
    s0 = (s.en && bitAt s.route 2 && !streamUsable p1 (commandedXform x).streamCh) →
    t0 = (s.en && (decide (engineLimit < exportRate g i) || rowsTooFast g i)) →
    (z0 = true → exec (.detectorSet c) ⟨p, q⟩ = .next ⟨finish f 2 [] p1, q⟩) ∧
    (z0 = false → r0 = true → exec (.detectorSet c) ⟨p, q⟩ = .next ⟨finish f 1 [] p1, q⟩) ∧
    (z0 = false → r0 = false → s0 = true → exec (.detectorSet c) ⟨p, q⟩ = .next ⟨finish f 9 [] p1, q⟩) ∧
    (z0 = false → r0 = false → s0 = false → t0 = true → exec (.detectorSet c) ⟨p, q⟩ = .next ⟨finish f 8 [] p1, q⟩) ∧
    (z0 = false → r0 = false → s0 = false → t0 = false → 
      (engineRuns x = false → exec (.detectorSet c) ⟨p, q⟩ = .next ⟨finish f 0 [x.frameSeq] (setDetector i n s p1), q⟩) ∧
      (engineRuns x = true → exec (.detectorSet c) ⟨p, q⟩ = .next ⟨settle (setFlight { f with progress := .waiting .detector (4 * i + n) [] } (g)), q⟩))

/-- XFORM_CONFIGURE, XFORM_WINDOW_LOAD and DETECTOR_SET. It says where these answer a next state: xformConfigure, xformWindowLoad, detectorSet. -/
def Obligations.TransformCommands : Prop :=
  Claim.XformConfigureStartsOrRestarts ∧ Claim.WindowLoadReplacesTheTable ∧ Claim.DetectorSettingWaitsForAFrame

/-- XFORM_GRID_RESTART: once no whole frame of the old grid lies before the restart sample, and the grid is not to end before it, the new grid begins there with
the oldest setting that waits: the open groups close, CFG_CHANGE is due, and that command completes with the tick of the restart and FRAME_SEQ; before it nothing
changes. A new input restarts the grid at its first sample once the old one leaves no whole frame (R125, R126, R137). -/
def Sys2Proof.Claim.GridRestartsAtItsSample : Prop :=
  ∀ (p : Piece) (q : List Instr) (i : Fin 4) (x : Xform), islandDead p (0x18 + i.val) = false → x = p.engine i →
    (∀ (r : T16) (s : XformSetting) (t : Nat) (rest : List (XformSetting × Nat)) (p2 : Piece), restartSample p i = some r → x.next = (s, t) :: rest →
      x.incoming = none →
      p2 = beginGrid i (fun x => { dropSamples ((r - x.head).toNat / x.input.period) false x with setting := s, next := x.next.drop 1 }) p →
      (x.head + x.span x.setting.size ≤ r ∨ (∃ e, x.ending = some e ∧ T16.ofTick e ≤ r) → exec (.xformGridRestart i) ⟨p, q⟩ = .next ⟨p, q⟩) ∧
      (r < x.head + x.span x.setting.size → (∀ e, x.ending = some e → r < T16.ofTick e) → exec (.xformGridRestart i) ⟨p, q⟩ =
        .next ⟨finishWaiting .xformGrid (gridKey i (p2.engine i)) 0
          (fun _ => [low32 (T16.tick r).toNat, high32 (T16.tick r).toNat, (p2.engine i).frameSeq]) p2, q⟩) ∧
      T16.ofTick t ≤ r ∧ x.head ≤ r) ∧
    (∀ (input : XInput) (start : T16) (xs : List XSample), x.next = [] → x.incoming = some (input, start, xs) →
      (x.buffer.length < x.setting.size → (∀ e, x.ending = some e → start < T16.ofTick e) → exec (.xformGridRestart i) ⟨p, q⟩ = .next ⟨beginGrid i (fun x => { x with input := input, head := start, postDue := x.postDue || x.buffer.any (·.post), buffer := xs, incoming := none }) p, q⟩) ∧
      (x.setting.size ≤ x.buffer.length → exec (.xformGridRestart i) ⟨p, q⟩ = .next ⟨p, q⟩))

/-- The settings that XFORM_CONFIGURE gives to the grid commanded last: that of the engine where none is to follow, else the last of those to follow; restarts
queue behind the ones that wait (R125, R126, R462). -/
def Sys2Proof.Claim.LastGridTakesTheSetting : Prop :=
  ∀ (x : Xform) (f : XformSetting → XformSetting) (push : List (XformSetting × Nat)) (e : Option Nat),
    (x.after = [] → onLastGrid f push e x = { x with setting := f x.setting, next := x.next.map (fun n => (f n.1, n.2)) ++ push, ending := e }) ∧
    (∀ gs g, x.after = gs ++ [g] → onLastGrid f push e x = { x with after := gs ++ [{ g with setting := f g.setting, next := g.next.map (fun n => (f n.1, n.2)) ++ push, ending := e }] })

/-- TRANSFORM_FRAME: an engine that runs and holds the samples of its next frame forms it (a restart that is due comes first), and drops one hop of
samples; an engine with too few samples forms none, nor does one whose next frame would start at or after the tick of its disable (R123, R125, R126, R128). -/
def Sys2Proof.Claim.FrameIsFormedWhenItsSamplesHaveCome : Prop :=
  ∀ (p p0 : Piece) (q : List Instr) (i : Fin 4) (x : Xform), islandDead p (0x18 + i.val) = false → p0 = restartGrid i p → x = p0.engine i →
    ((∀ e, x.ending = some e → x.head < T16.ofTick e) → x.en = true → x.from_ = none → x.setting.size ≤ x.buffer.length →
      exec (.transformFrame i) ⟨p, q⟩ = .next ⟨endIfDue i (doFrame i p0), q⟩ ∧ ∃ (p3 : Piece) (g : Xform → Xform),
        doFrame i p0 = onXform i (fun y => dropSamples x.setting.hop true (g y)) p3 ∧ (∀ y : Xform, (g y).frameSeq = (y.frameSeq + 1) % 2 ^ 32 ∧
          (g y).lastSeq = y.frameSeq ∧ (g y).lastMint = (T16.tick x.head).toNat ∧ (g y).buffer = y.buffer ∧ (g y).head = y.head ∧ (g y).setting = y.setting ∧
          (g y).cfgChange = false)) ∧
    (x.en = false ∨ x.from_ ≠ none ∨ x.buffer.length < x.setting.size ∨ (∃ e, x.ending = some e ∧ T16.ofTick e ≤ x.head) →
      exec (.transformFrame i) ⟨p, q⟩ = .next ⟨endIfDue i p0, q⟩) ∧
    (x.ending = none → endIfDue i p0 = p0)

/-- Dropping a hop: the samples after it stay, and the head moves on by the hop's duration (R123). -/
def Sys2Proof.Claim.HopMovesTheHead : Prop :=
  ∀ (n : Nat) (b : Bool) (x t : Xform), t = dropSamples n b x →
    t.buffer = x.buffer.drop n ∧ t.head = x.head + ((n * x.input.period : Nat) : Int) ∧ t.setting = x.setting ∧ t.frameSeq = x.frameSeq

/-- A block exponent is the smallest from −8 upwards at which every component of the frame fits in 18 bits, where one of 64 does. Where the stages may shift, the
exponent is at most 13 for a real and 17 for a complex input and every mantissa has 18 bits; where they do not, every mantissa has 18 bits at an exponent that fits;
a frame of zeros reads −8 with ZERO (R128, R129). -/
def Sys2Proof.Claim.ExponentIsTheSmallestThatFits : Prop :=
  (∀ (xs : List (Int × Int)) (k : Nat), k < 64 → fitsAt ((k : Int) - 8) xs = true →
    fitsAt (frameExponent xs) xs = true ∧ (∀ j : Nat, fitsAt ((j : Int) - 8) xs = true → j < 64 → frameExponent xs ≤ (j : Int) - 8) ∧ -8 ≤ frameExponent xs) ∧
  (∀ (n : Nat) (real shifts : Bool) (xs : List (Int × Int)), shifts = true ∨ (∃ k : Nat, k < 64 ∧ fitsAt ((k : Int) - 8) xs = true) →
    (∀ m ∈ (blockFloat n real shifts xs).2.1, -131072 ≤ m.1 ∧ m.1 ≤ 131071 ∧ -131072 ≤ m.2 ∧ m.2 ≤ 131071) ∧
    -8 ≤ (blockFloat n real shifts xs).1 ∧ (shifts = true → (blockFloat n real shifts xs).1 ≤ if real then 13 else 17)) ∧
  (∀ (n : Nat) (real shifts : Bool) (xs : List (Int × Int)), (blockFloat n real shifts xs).2.2 = true → (blockFloat n real shifts xs).1 = -8)

/-- Transform frames: grid restarts, hops and block exponents. It says where these answer a next state: xformGridRestart, transformFrame. -/
def Obligations.TransformFrames : Prop :=
  Claim.GridRestartsAtItsSample ∧ Claim.LastGridTakesTheSetting ∧ Claim.FrameIsFormedWhenItsSamplesHaveCome ∧ Claim.HopMovesTheHead ∧
  Claim.ExponentIsTheSmallestThatFits

/-- DENSITY_CONFIGURE with its fields in range sets the channel, clears every cell and count of it, and a PINGPONG pair shares the settings; a pair that is ended frees its second channel; items on their way count under the new settings; rows that would come too fast give ST_NORESOURCE (R148 to R151, R156, R161, R465). -/
def Sys2Proof.Claim.DensityConfigureClearsItsChannel : Prop :=
  ∀ (p : Piece) (q : List Instr) (c : Cmd) (f : Flight) (p1 : Piece) (b : Bytes) (i : Nat) (o : DensityChannel) (n : DensityChannel) (g : Piece) (z0 r0 s0 t0 v0 : Bool), Claim.Starts 0x0404 c p f p1 →
    b = f.body → i = u b 0 1 → o = p1.densityCh i → n = { o with en := bitAt (u b 1 1) 7, pingpong := bitAt (u b 1 1) 6, src := u b 1 1 % 16, colShift := sgn b 2 1, step := u b 3 1, top := sgn b 4 2, binLo := u b 8 4, cleared := true, cells := [], bank := 0, sat := false, geomFault := false, cfgChange := false, memErr := false, items := 0, missed := 0, firstMint := 0, lastMint := 0, snapSeq := 0 } → g = (if bitAt (u b 1 1) 6 then onDensityCh (i + 1) (fun c => { n with ringBase := c.ringBase, ringRows := c.ringRows, every := c.every, rowsPending := c.rowsPending, accepted := c.accepted, rowSeq := c.rowSeq, rowsDropped := c.rowsDropped, missedTotal := c.missedTotal, rejected := c.rejected, arrivals := [] }) (onDensityCh i (fun _ => n) p1) else when (i % 2 == 0 && o.pingpong) (onDensityCh (i + 1) (fun c => { c with en := false, pingpong := false })) (onDensityCh i (fun _ => n) p1)) →
    z0 = (n.step == 0) →
    r0 = (decide (3 < i) || field (u b 1 1) 4 2 != 0 || decide (4 < u b 1 1 % 16) || (bitAt (u b 1 1) 6 && i % 2 == 1) || decide (n.colShift < -5) || decide (4 < n.colShift) || decide (64 < n.step) || !densityFits n (commandedBins p1 i) || (u b 1 1 % 16 != 0 && (commandedDetector (p1.detector i (u b 1 1 % 16 - 1))).type == 8) || u b 6 2 != 0 || u b 12 4 != 0) →
    s0 = (pingpongSecond p1 i) →
    t0 = (o.readout.isSome || (i % 2 == 0 && bitAt (u b 1 1) 6 != o.pingpong && (p1.densityCh (i + 1)).readout.isSome)) →
    v0 = (rowsTooFast g i || (bitAt (u b 1 1) 6 != o.pingpong && rowsTooFast g (i + 1))) →
    (z0 = true → exec (.densityConfigure c) ⟨p, q⟩ = .next ⟨finish f 2 [] p1, q⟩) ∧
    (z0 = false → r0 = true → exec (.densityConfigure c) ⟨p, q⟩ = .next ⟨finish f 1 [] p1, q⟩) ∧
    (z0 = false → r0 = false → s0 = true → exec (.densityConfigure c) ⟨p, q⟩ = .next ⟨finish f 9 [] p1, q⟩) ∧
    (z0 = false → r0 = false → s0 = false → t0 = true → exec (.densityConfigure c) ⟨p, q⟩ = .next ⟨finish f 3 [] p1, q⟩) ∧
    (z0 = false → r0 = false → s0 = false → t0 = false → v0 = true → exec (.densityConfigure c) ⟨p, q⟩ = .next ⟨finish f 8 [] p1, q⟩) ∧
    (z0 = false → r0 = false → s0 = false → t0 = false → v0 = false → exec (.densityConfigure c) ⟨p, q⟩ = .next ⟨finish f 0 [] (g), q⟩)

/-- DENSITY_SNAPSHOT starts the readout of a channel to a region of device DRAM; it completes once the readout is done (R153, R154, R156, R466). -/
def Sys2Proof.Claim.DensitySnapshotStartsAReadout : Prop :=
  ∀ (p : Piece) (q : List Instr) (c : Cmd) (f : Flight) (p1 : Piece) (b : Bytes) (i : Nat) (z0 r0 s0 t0 : Bool), Claim.Starts 0x0405 c p f p1 →
    b = f.body → i = u b 0 1 →
    z0 = (decide (3 < i) || u b 1 1 % 128 != 0 || decide (16 < u b 2 1) || (bitAt (u b 1 1) 7 && u b 2 1 != 0) || ((p1.densityCh i).pingpong && u b 2 1 != 0) || u b 3 5 != 0 || !dramRegion p1.dmc (u b 8 8) (64 + 2 * densityCells)) →
    r0 = (!(p1.densityCh i).en || pingpongSecond p1 i) →
    s0 = ((p1.densityCh i).readout.isSome) →
    t0 = (dmcRefuses p1.dmc) →
    (z0 = true → exec (.densitySnapshot c) ⟨p, q⟩ = .next ⟨finish f 1 [] p1, q⟩) ∧
    (z0 = false → r0 = true → exec (.densitySnapshot c) ⟨p, q⟩ = .next ⟨finish f 9 [] p1, q⟩) ∧
    (z0 = false → r0 = false → s0 = true → exec (.densitySnapshot c) ⟨p, q⟩ = .next ⟨finish f 3 [] p1, q⟩) ∧
    (z0 = false → r0 = false → s0 = false → t0 = true → exec (.densitySnapshot c) ⟨p, q⟩ = .next ⟨finish f 12 [] p1, q⟩) ∧
    (z0 = false → r0 = false → s0 = false → t0 = false → ∀ (d : DensityReadout), d = { dest := u b 8 8, decay := u b 2 1, clear := bitAt (u b 1 1) 7 } → exec (.densitySnapshot c) ⟨p, q⟩ = .next ⟨settle (setFlight { f with progress := .waiting .densityReadout i [] } (onDensityCh i (fun c => { c with readout := some d }) p1)), q⟩)

/-- SPECTROGRAM_CONFIGURE: ROWS zero disables the ring; another base starts a ring at row 0; another length at the same base is staged for the wrap, and word 0 tells it (R160 to R162, R467). -/
def Sys2Proof.Claim.SpectrogramRingIsSet : Prop :=
  ∀ (p : Piece) (q : List Instr) (c : Cmd) (f : Flight) (p1 : Piece) (b : Bytes) (i : Nat) (n : Nat) (o : DensityChannel) (z0 r0 s0 t0 : Bool), Claim.Starts 0x0406 c p f p1 →
    b = f.body → i = u b 0 1 → n = u b 4 4 → o = p1.densityCh i →
    z0 = (n != 0 && u b 2 2 == 0) →
    r0 = (decide (3 < i) || u b 1 1 != 0 || (n != 0 && !dramRegion p1.dmc (u b 8 8) (n * 8256))) →
    s0 = (pingpongSecond p1 i) →
    t0 = (n != 0 && rowsTooFast (onDensityCh i (fun c => { c with ringRows := n, rowsPending := none, every := u b 2 2 }) p1) i) →
    (z0 = true → exec (.spectrogramConfigure c) ⟨p, q⟩ = .next ⟨finish f 2 [] p1, q⟩) ∧
    (z0 = false → r0 = true → exec (.spectrogramConfigure c) ⟨p, q⟩ = .next ⟨finish f 1 [] p1, q⟩) ∧
    (z0 = false → r0 = false → s0 = true → exec (.spectrogramConfigure c) ⟨p, q⟩ = .next ⟨finish f 9 [] p1, q⟩) ∧
    (z0 = false → r0 = false → s0 = false → t0 = true → exec (.spectrogramConfigure c) ⟨p, q⟩ = .next ⟨finish f 8 [] p1, q⟩) ∧
    (z0 = false → r0 = false → s0 = false → t0 = false → 
      (n = 0 → exec (.spectrogramConfigure c) ⟨p, q⟩ = .next ⟨finish f 0 [0] (onDensityCh i (fun c => { c with ringRows := 0, rowsPending := none }) p1), q⟩) ∧
      (n ≠ 0 → o.ringRows ≠ 0 → u b 8 8 = o.ringBase → exec (.spectrogramConfigure c) ⟨p, q⟩ = .next ⟨finish f 0 [if n ≠ o.ringRows then 1 else 0] (onDensityCh i (fun c => { c with every := u b 2 2, accepted := 0, rowsPending := if n ≠ o.ringRows then some n else none }) p1), q⟩) ∧
      (n ≠ 0 → o.ringRows = 0 ∨ u b 8 8 ≠ o.ringBase → exec (.spectrogramConfigure c) ⟨p, q⟩ = .next ⟨finish f 0 [0] (onDensityCh i (fun c => { c with ringBase := u b 8 8, ringRows := n, rowsPending := none, every := u b 2 2, accepted := 0, rowSeq := 0 }) p1), q⟩))

/-- DENSITY_ITEM_ACCEPT: a channel with neither its histogram nor its ring discards the item, as it does one of another source; a TAINTED one is rejected and
counted; an accepted one counts in every column of an enabled channel, or is MISSED while an unpaired readout runs; it then may write a row, for either ring of a
PINGPONG pair, and a ring that EN = 0 left running still takes its rows. The oldest item leaves in every case (R146, R150, R152, R155, R156, R160, R465). -/
def Sys2Proof.Claim.OldestItemIsTaken : Prop :=
  ∀ (p : Piece) (q : List Instr) (i : Fin 4) (it : SpectrumItem) (rest : List SpectrumItem) (p1 : Piece) (c : DensityChannel) (rows : Piece → State),
    islandDead p 0x20 = false → (p.densityCh i).arrivals = it :: rest → p1 = onDensityCh i (fun c => { cutDensity c with arrivals := rest }) p → c = p1.densityCh i →
    rows = (fun p => ⟨if c.pingpong then acceptRow (i + 1) it (acceptRow i it p) else acceptRow i it p, q⟩) →
    ((c.en = false ∧ c.ringRows = 0) ∨ it.src ≠ c.src → exec (.densityItemAccept i) ⟨p, q⟩ = .next ⟨p1, q⟩) ∧
    (c.en = true ∨ c.ringRows ≠ 0 → it.src = c.src →
      (it.flags.tainted = true ∨ c.geomFault = true → exec (.densityItemAccept i) ⟨p, q⟩ =
        .next ⟨onDensityCh i (fun c => { c with rejected := sat32 c.rejected 1 }) p1, q⟩) ∧
      (it.flags.tainted = false → c.geomFault = false →
        (c.en = true → c.readout = none ∨ c.pingpong = true → exec (.densityItemAccept i) ⟨p, q⟩ = .next (rows (onDensityCh i (countItem i it) p1))) ∧
        (c.en = true → c.readout ≠ none → c.pingpong = false → exec (.densityItemAccept i) ⟨p, q⟩ = .next (rows (onDensityCh i (fun c => { c with missed := sat32 c.missed 1, missedTotal := sat32 c.missedTotal 1 }) p1))) ∧
        (c.en = false → exec (.densityItemAccept i) ⟨p, q⟩ = .next (rows p1))))

/-- An accepted item adds one to the cell of each column at the row of its value, up to 65,535; ITEMS counts it and the first and last MINT are kept (R149,
R150). -/
def Sys2Proof.Claim.ItemCountsInEveryColumn : Prop :=
  ∀ (i : Nat) (it : SpectrumItem) (c t : DensityChannel), t = countItem i it c →
    t.items = (c.items + 1) % 2 ^ 32 ∧ t.lastMint = it.mint ∧ t.firstMint = (if c.items = 0 then it.mint else c.firstMint) ∧
    (c.sat = true → t.sat = true) ∧ t.missed = c.missed ∧ t.bank = c.bank ∧ t.readout = c.readout ∧ t.rejected = c.rejected ∧
    (∀ v, rowOf c v ≤ 1023) ∧ (∀ v : Int, 0 < c.step → (rowOf c v : Int) ≤ max 0 ((c.top - v) / (c.step : Nat)))

/-- DENSITY_SNAPSHOT_CUT: the counts of the channel go into the header of its readout and start anew, and a PINGPONG pair swaps its banks; with no
readout, or one already cut, nothing changes (R153, R156, R157). -/
def Sys2Proof.Claim.CutTakesTheCounts : Prop :=
  ∀ (p : Piece) (q : List Instr) (i : Fin 4), islandDead p 0x20 = false →
    exec (.densitySnapshotCut i) ⟨p, q⟩ = .next ⟨onDensityCh i cutDensity p, q⟩ ∧
    (∀ c : DensityChannel, c.readout = none → cutDensity c = c) ∧
    (∀ (c : DensityChannel) (r : DensityReadout), c.readout = some r → (r.cut = true → cutDensity c = c) ∧
      (r.cut = false → (cutDensity c).items = 0 ∧ (cutDensity c).missed = 0 ∧ (cutDensity c).sat = false ∧
        (cutDensity c).snapSeq = (c.snapSeq + 1) % 2 ^ 32 ∧ (cutDensity c).bank = (if c.pingpong then 1 - c.bank else c.bank) ∧
        (cutDensity c).cells = c.cells ∧ ∃ r', (cutDensity c).readout = some r' ∧ r'.items = c.items ∧ r'.missed = c.missed ∧
          r'.snapSeq = c.snapSeq ∧ r'.bank = c.bank ∧ r'.dest = r.dest ∧ r'.cut = true))

/-- DENSITY_READOUT_DONE writes the header and the counts of the bank, gives back the lines that were written, and completes the command with the lines and
SNAP_SEQ; a DMC that refuses ends it with ST_FAULT (R153, R154, R158). -/
def Sys2Proof.Claim.ReadoutWritesTheCounts : Prop :=
  ∀ (p : Piece) (q : List Instr) (i : Fin 4) (a : Option Nat) (p1 p2 : Piece) (r : DensityReadout) (st n : Nat), p1 = onDensityCh i cutDensity p →
    (p1.densityCh i).readout = some r →
    readoutWrite true r.dest (densityHeader i (p1.densityCh i) r (dmcRefuses p1.dmc) ++ densityCounts i (p1.densityCh i) r.bank) a p1 = (p2, st, n) →
    exec (.densityReadoutDone i a) ⟨p, q⟩ = .next ⟨finishWaiting .densityReadout i st (fun _ => [n / 64 - 1, r.snapSeq])
      (onDensityCh i (writeBackCells r (n / 64 - 1)) p2), q⟩ ∧
    (dmcRefuses p1.dmc = true → st = 12) ∧
    (r.clear = true ∨ (p1.densityCh i).pingpong = true → ∀ k, writeBackCount r (p1.densityCh i).pingpong k = 0) ∧
    (r.clear = false → (p1.densityCh i).pingpong = false → r.decay = 0 → ∀ k, writeBackCount r (p1.densityCh i).pingpong k = k)

/-- DENSITY: configuration, items, snapshots, readouts and spectrogram rings. It says where these answer a next state: densityConfigure, densitySnapshot, spectrogramConfigure, densityItemAccept, densitySnapshotCut, densityReadoutDone. -/
def Obligations.DensityAndSpectrogram : Prop :=
  Claim.DensityConfigureClearsItsChannel ∧ Claim.DensitySnapshotStartsAReadout ∧ Claim.SpectrogramRingIsSet ∧ Claim.OldestItemIsTaken ∧
  Claim.ItemCountsInEveryColumn ∧ Claim.CutTakesTheCounts ∧ Claim.ReadoutWritesTheCounts

/-- TRIG_CELL_SET: with its fields in range, the setting takes effect at once, except at a cell of an RF type whose stream runs: it waits for the block boundary, behind any setting that waits already (R25, R168, R171, R194, R195, R468). -/
def Sys2Proof.Claim.CellSettingWaitsForItsStream : Prop :=
  ∀ (p : Piece) (q : List Instr) (c : Cmd) (f : Flight) (p1 : Piece) (b : Bytes) (i : Nat) (s : CellSetting) (o : Cell) (z0 r0 s0 t0 : Bool), Claim.Starts 0x0501 c p f p1 →
    b = f.body → i = u b 0 1 → s = cellSettingOf b → o = p1.cell i →
    z0 = (cellZero s) →
    r0 = (decide (15 < i) || decide (15 < u b 1 1) || u b 2 1 % 32 != 0 || !isZero (slice b 3 5) || !cellParamsOk s || (s.express && (o.combine.mode != 0 || (s.source != 6 && s.source != 7) || expressTooWide p1 s))) →
    s0 = (s.rf && !bitAt (routeBits p1 (s.par 8 1) (s.par 9 1)) 2) →
    t0 = (s.express && expressRefused p1 i s) →
    (z0 = true → exec (.trigCellSet c) ⟨p, q⟩ = .next ⟨finish f 2 [] p1, q⟩) ∧
    (z0 = false → r0 = true → exec (.trigCellSet c) ⟨p, q⟩ = .next ⟨finish f 1 [] p1, q⟩) ∧
    (z0 = false → r0 = false → s0 = true → exec (.trigCellSet c) ⟨p, q⟩ = .next ⟨finish f 9 [] p1, q⟩) ∧
    (z0 = false → r0 = false → s0 = false → t0 = true → exec (.trigCellSet c) ⟨p, q⟩ = .next ⟨finish f 8 [] p1, q⟩) ∧
    (z0 = false → r0 = false → s0 = false → t0 = false → 
      (boundaryStream o s = none → exec (.trigCellSet c) ⟨p, q⟩ = .next ⟨finish f 0 [low32 p1.now, high32 p1.now] (applyCell i s p1.now p1), q⟩) ∧
      (∀ (x y : Nat), boundaryStream o s = some (x, y) → streamStart p1 x y = none → o.next.isEmpty = true → exec (.trigCellSet c) ⟨p, q⟩ = .next ⟨finish f 0 [low32 p1.now, high32 p1.now] (applyCell i s p1.now p1), q⟩) ∧
      (∀ (x y : Nat), boundaryStream o s = some (x, y) → ((streamStart p1 x y).isNone && o.next.isEmpty) = false → exec (.trigCellSet c) ⟨p, q⟩ = .next ⟨settle (setFlight { f with progress := .waiting .trigSetting i [] } (onCell i (fun c => { c with next := c.next ++ [(s, p1.now + 32)] }) p1)), q⟩))

/-- TRIG_MASK_LOAD writes limits of consecutive bins into the bank that is not active, the other bins as in the active bank, and arms it; one upper limit below its lower one writes nothing; without a frame source the bank is active at once (R174, R175, R469). -/
def Sys2Proof.Claim.MaskLoadArmsTheOtherBank : Prop :=
  ∀ (p : Piece) (q : List Instr) (c : Cmd) (f : Flight) (p1 : Piece) (b : Bytes) (i : Nat) (n : Nat) (a : Nat) (m : MaskChannel) (lim : Bytes → List (Nat × Int × Int)) (z0 r0 s0 : Bool), Claim.Starts 0x0502 c p f p1 →
    b = f.body → i = u b 0 1 → n = u b 8 4 → a = u b 4 4 → m = nth p1.trigger.masks i → lim = (fun t => (List.range n).map fun k => (a + k, sgn t (4 * k) 2, sgn t (4 * k + 2) 2)) →
    z0 = (n == 0) →
    r0 = (decide (3 < i) || !isZero (slice b 1 3) || u b 12 4 != 0 || decide (65536 < a + n) || !tableAddrOk p1.dmc (u b 16 8) (4 * n)) →
    s0 = (m.armed) →
    (z0 = true → exec (.trigMaskLoad c) ⟨p, q⟩ = .next ⟨finish f 2 [] p1, q⟩) ∧
    (z0 = false → r0 = true → exec (.trigMaskLoad c) ⟨p, q⟩ = .next ⟨finish f 1 [] p1, q⟩) ∧
    (z0 = false → r0 = false → s0 = true → exec (.trigMaskLoad c) ⟨p, q⟩ = .next ⟨finish f 3 [] p1, q⟩) ∧
    (z0 = false → r0 = false → s0 = false → 
      (∀ (t : Transfer), pieceRead p1 (u b 16 8) (4 * n) c.read = .error t → exec (.trigMaskLoad c) ⟨p, q⟩ = .next ⟨finish f (transferStatus t) [] (p1), q⟩) ∧
      (∀ (t : Bytes), pieceRead p1 (u b 16 8) (4 * n) c.read = .ok t → (lim t).any (fun e => decide (e.2.2 < e.2.1)) = true → exec (.trigMaskLoad c) ⟨p, q⟩ = .next ⟨finish f 1 [] (p1), q⟩) ∧
      (∀ (t : Bytes), pieceRead p1 (u b 16 8) (4 * n) c.read = .ok t → (lim t).any (fun e => decide (e.2.2 < e.2.1)) = false → exec (.trigMaskLoad c) ⟨p, q⟩ = .next ⟨finish f 0 [((nth (onTrigger (fun x => { x with masks := upd x.masks i fun y => { y with armed := true, banks := put y.banks (1 - y.active) (lim t ++ ((nth y.banks y.active).filter fun e => decide (e.1 < a) || decide (a + n ≤ e.1))) } }) p1).trigger.masks i).version + 1) % 256] (when ((nth p1.xform i).setting.maskSrc == 0) (swapMask i) (onTrigger (fun x => { x with masks := upd x.masks i fun y => { y with armed := true, banks := put y.banks (1 - y.active) (lim t ++ ((nth y.banks y.active).filter fun e => decide (e.1 < a) || decide (a + n ≤ e.1))) } }) p1)), q⟩))

/-- TRIG_COMBINE_SET sets the combination of a cell and clears the events it retained (R183, R194, R470). -/
def Sys2Proof.Claim.CombinationIsSet : Prop :=
  ∀ (p : Piece) (q : List Instr) (c : Cmd) (f : Flight) (p1 : Piece) (b : Bytes) (i : Nat) (x : Combine) (z0 r0 : Bool), Claim.Starts 0x0503 c p f p1 →
    b = f.body → i = u b 0 1 → x = combineOf b →
    z0 = (((x.mode == 1 || x.mode == 2) && x.mask == 0) || (x.mode == 2 && x.window == 0) || (x.mode == 3 && (x.aMask == 0 || x.bMask == 0))) →
    r0 = (decide (15 < i) || decide (3 < u b 1 1) || decide (10 ^ 10 < x.window) || decide (10 ^ 10 < x.holdoff) || decide (10 ^ 10 < x.timeout) || (!(x.mode == 1 || x.mode == 2) && x.mask != 0) || (x.mode != 2 && x.window != 0) || (x.mode != 3 && (x.aMask != 0 || x.bMask != 0 || x.holdoff != 0 || x.timeout != 0)) || (x.mode != 0 && (List.range 4).any fun k => holdsExpress p1 k i)) →
    (z0 = true → exec (.trigCombineSet c) ⟨p, q⟩ = .next ⟨finish f 2 [] p1, q⟩) ∧
    (z0 = false → r0 = true → exec (.trigCombineSet c) ⟨p, q⟩ = .next ⟨finish f 1 [] p1, q⟩) ∧
    (z0 = false → r0 = false → exec (.trigCombineSet c) ⟨p, q⟩ = .next ⟨finish f 0 [] (onCell i (fun y => { y with combine := x, retained := [] }) p1), q⟩)

/-- TRIG_ROUTE_SET: APPLY sets the routes of a cell, and each named output takes its polarity and pulse width (R189, R190, R471). -/
def Sys2Proof.Claim.RoutesAreSet : Prop :=
  ∀ (p : Piece) (q : List Instr) (c : Cmd) (f : Flight) (p1 : Piece) (b : Bytes) (i : Nat) (w : Nat → Nat) (o : List Nat) (z0 r0 : Bool), Claim.Starts 0x0504 c p f p1 →
    b = f.body → i = u b 0 1 → w = (fun k => u b (72 + 4 * k) 4) → o = ((List.range 4).filter fun k => bitAt (w k) 31) →
    z0 = ((!bitAt (u b 1 1) 0 && o.isEmpty) || o.any (fun k => w k % 65536 == 0)) →
    r0 = (decide (15 < i) || decide (1 < u b 1 1) || (bitAt (u b 1 1) 0 && (bitAt (u b 2 1) 0 || u b 6 2 != 0)) || o.any (fun k => field (w k) 16 14 != 0 || decide (w k % 65536 < 24))) →
    (z0 = true → exec (.trigRouteSet c) ⟨p, q⟩ = .next ⟨finish f 2 [] p1, q⟩) ∧
    (z0 = false → r0 = true → exec (.trigRouteSet c) ⟨p, q⟩ = .next ⟨finish f 1 [] p1, q⟩) ∧
    (z0 = false → r0 = false → exec (.trigRouteSet c) ⟨p, q⟩ = .next ⟨finish f 0 [] (o.foldl (fun p k => onOut k (setOut (w k)) p) (when (bitAt (u b 1 1) 0) (onCell i fun x => { x with routes := routesOf b }) p1)), q⟩)

/-- TRIG_FORCE issues a FORCED condition event at each enabled cell it names, at the tick it takes effect (R182, R472). -/
def Sys2Proof.Claim.ForceIssuesEvents : Prop :=
  ∀ (p : Piece) (q : List Instr) (c : Cmd) (f : Flight) (p1 : Piece) (m : Nat) (z0 r0 : Bool), Claim.Starts 0x0505 c p f p1 →
    m = u f.body 0 2 →
    z0 = (m == 0) →
    r0 = (!isZero (slice f.body 2 6)) →
    (z0 = true → exec (.trigForce c) ⟨p, q⟩ = .next ⟨finish f 2 [] p1, q⟩) ∧
    (z0 = false → r0 = true → exec (.trigForce c) ⟨p, q⟩ = .next ⟨finish f 1 [] p1, q⟩) ∧
    (z0 = false → r0 = false → exec (.trigForce c) ⟨p, q⟩ = .next ⟨finish f 0 [low32 p1.now, high32 p1.now] ((maskIndices 16 m).foldl (fun p n => when (p.cell n).setting.en (issueCond { cell := n, source := (p.cell n).setting.source, time := T16.ofTick p.now, cycle := tallyCycle p.now, forced := true, detail := f.tag }) p) p1), q⟩)

/-- TRIG_SETTING_APPLY: the setting that is due takes effect at its tick, with its source state cleared, and its command completes with that tick; else nothing
changes (R168). -/
def Sys2Proof.Claim.HeldSettingTakesEffect : Prop :=
  ∀ (p : Piece) (q : List Instr) (i : Fin 16), islandDead p 0x20 = false →
    (cellDue p i = none → exec (.trigSettingApply i) ⟨p, q⟩ = .next ⟨p, q⟩) ∧
    (∀ (s : CellSetting) (t : Nat), cellDue p i = some (s, t) → (p.cell i).next.length = 1 → exec (.trigSettingApply i) ⟨p, q⟩ =
      .next ⟨finishWaiting .trigSetting i 0 (fun _ => [low32 t, high32 t]) (applyCell i s t (onCell i (fun c => { c with next := c.next.drop 1 }) p)), q⟩) ∧
    (∀ (s : CellSetting) (t : Nat) (p' : Piece), i.val < p.trigger.cells.length → p' = applyCell i s t p →
      (p'.cell i).setting = s ∧ (p'.cell i).next = (p.cell i).next ∧ (p'.cell i).run = 0 ∧ (p'.cell i).stamps = [] ∧ (p'.cell i).retained = [] ∧
      (p'.cell i).detector = {} ∧ (p'.cell i).fired = (p.cell i).fired ∧ (p'.cell i).dropped = (p.cell i).dropped ∧ p'.trigger.matrix = p.trigger.matrix ∧
      ∀ n : Nat, n ≠ i → p'.cell n = p.cell n)

/-- MASK_SWAP makes an armed bank active and counts the swap mod 256; without an armed bank nothing changes (R175, R197). -/
def Sys2Proof.Claim.SwapMakesTheBankActive : Prop :=
  ∀ (p : Piece) (q : List Instr) (i : Fin 4) (m : MaskChannel), islandDead p 0x20 = false → m = nth p.trigger.masks i →
    (m.armed = true → exec (.maskSwap i) ⟨p, q⟩ = .next ⟨onTrigger (fun t => { t with masks := upd t.masks i fun _ => { m with active := 1 - m.active, armed := false, version := (m.version + 1) % 256 } }) p, q⟩) ∧
    (m.armed = false → exec (.maskSwap i) ⟨p, q⟩ = .next ⟨p, q⟩)

/-- TRIG_CELL_SET, TRIG_MASK_LOAD, TRIG_COMBINE_SET, TRIG_ROUTE_SET, TRIG_FORCE and held settings. It says where these answer a next state: trigCellSet, trigMaskLoad, trigCombineSet, trigRouteSet, trigForce, trigSettingApply, maskSwap. -/
def Obligations.TriggerCommands : Prop :=
  Claim.CellSettingWaitsForItsStream ∧ Claim.MaskLoadArmsTheOtherBank ∧ Claim.CombinationIsSet ∧ Claim.RoutesAreSet ∧
  Claim.ForceIssuesEvents ∧ Claim.HeldSettingTakesEffect ∧ Claim.SwapMakesTheBankActive

/-- FREQ_MASK_VERDICT: the oldest verdict of the channel leaves and reaches the sixteen cells in turn; with none nothing changes. A cell's run grows with each
verdict of enough violations and fires once when it reaches MIN_FRAMES; any other verdict ends it, and a TAINTED one too unless USE_TAINTED (R176, R177). -/
def Sys2Proof.Claim.MaskRunsFireOnce : Prop :=
  (∀ (p : Piece) (q : List Instr) (i : Fin 4), islandDead p 0x20 = false →
    (∀ v : MaskVerdict, (p.trigger.verdicts.find? fun v => v.channel == i.val) = some v → exec (.freqMaskVerdict i) ⟨p, q⟩ =
      .next ⟨(List.range 16).foldl (fun p n => maskCell v n p) (onTrigger (fun t => { t with verdicts := t.verdicts.erase v }) p), q⟩) ∧
    ((∀ v ∈ p.trigger.verdicts, v.channel ≠ i.val) → exec (.freqMaskVerdict i) ⟨p, q⟩ = .next ⟨p, q⟩)) ∧
  (∀ (v : MaskVerdict) (c c' : Cell) (b : Bool) (n : Nat), maskStep v c = (c', b) →
    n = (if c.setting.par 9 1 = 0 then v.upper else if c.setting.par 9 1 = 1 then v.lower else v.upper + v.lower) →
    (v.tainted = true → c.setting.useTainted = false → c'.run = 0 ∧ b = false) ∧
    (v.tainted = false ∨ c.setting.useTainted = true → v.cfgChange = false →
      (n < c.setting.par 10 2 → c'.run = 0 ∧ c'.issued = false ∧ b = false) ∧
      (c.setting.par 10 2 ≤ n → c'.run = c.run + 1 ∧ (b = true ↔ c.run + 1 = c.setting.par 12 2 ∧ c.issued = false) ∧
        c'.issued = (c.issued || b))) ∧
    c'.setting = c.setting ∧ c'.fired = c.fired)

/-- STAMP_COINC_ARRIVAL: the oldest stamp on its way reaches the sixteen cells in turn. A coincidence uses COINC_N stamps of distinct sources, each at most WIN before
the time of the condition (R178). -/
def Sys2Proof.Claim.StampsCoincide : Prop :=
  (∀ (p : Piece) (q : List Instr), islandDead p 0x20 = false →
    (∀ (a : Stamp) (rest : List Stamp), p.trigger.stamps = a :: rest → exec .stampCoincArrival ⟨p, q⟩ =
      .next ⟨(List.range 16).foldl (fun p n => coincCell a n p) (onTrigger (fun t => { t with stamps := rest }) p), q⟩) ∧
    (p.trigger.stamps = [] → exec .stampCoincArrival ⟨p, q⟩ = .next ⟨p, q⟩)) ∧
  (∀ (s : CellSetting) (a : Stamp) (r used : List Stamp) (t : T16), coincidence s a r = some (t, used) → 1 ≤ s.par 13 1 →
    used.length = s.par 13 1 ∧ a ∈ used ∧ ∀ x ∈ used, x = a ∨ (x ∈ r ∧ x.time ≤ t ∧ withinPs (t - x.time) (s.par 16 4) = true ∧ x.source ≠ a.source))

/-- TRIG_IN_EDGE: each enabled TRIG_IN cell of the ball whose slope the edge has issues a condition event, its time corrected by the ball's delay; an express cell of it
loads TRIG_OUTk first (R179, R194). -/
def Sys2Proof.Claim.TrigInEdgeReachesItsCells : Prop :=
  ∀ (p p0 : Piece) (q : List Instr) (i : Fin 4) (r : Bool) (tk : Piece → Nat → Bool),
    (∀ p n, tk p n = ((p.cell n).setting.en && (p.cell n).setting.source == 7 && (p.cell n).setting.par 8 1 == i.val &&
      slopeTakes ((p.cell n).setting.par 9 1) r)) →
    (∀ n, (nth p.trigger.express i).cell = some n → p0 = when (tk p n) (reachOut i) p) → ((nth p.trigger.express i).cell = none → p0 = p) →
    exec (.trigInEdge i r) ⟨p, q⟩ = .next ⟨(List.range 16).foldl (fun p n => when (tk p n) (issueCond {
      cell := n, source := 7, time := T16.ofTick p.now - T16.ofTick (Config.trigInDelay i), cycle := tallyCycle p.now }) p) p0, q⟩

/-- TIME_MATCH_FIRE: while the Mint counts and the label has reached the target of an enabled TIME_MATCH cell, the cell fires and takes its next target; LATE where it was
past at the first look or by a step. Before its time it does not fire (R181). -/
def Sys2Proof.Claim.TimeMatchFires : Prop :=
  ∀ (p : Piece) (q : List Instr) (i : Fin 16) (c : Cell) (t : Nat) (late : Bool), islandDead p 0x20 = false → c = p.cell i → c.target = some t →
    late = (c.firstLook || c.stepped) →
    (p.clocks.mintRun = true → c.setting.en = true → c.setting.source = 9 → t ≤ p.label → exec (.timeMatchFire i) ⟨p, q⟩ = .next ⟨issueCond
      { cell := i, source := 9, time := if late then T16.ofTick p.now else timeOfLabel p t, cycle := tallyCycle p.now, late := late, post := c.stepped, label := some t }
      (onCell i (fun x => { x with firstLook := false, stepped := false, target := if late then nextTarget t c.setting.periodLabel p.label else
        if c.setting.periodLabel = 0 then none else some (t + c.setting.periodLabel) }) p), q⟩) ∧
    (p.clocks.mintRun = false ∨ c.setting.en = false ∨ c.setting.source ≠ 9 ∨ p.label < t → exec (.timeMatchFire i) ⟨p, q⟩ = .next ⟨p, q⟩)

/-- A LATE target's successor is the first of its period that lies in the future (R181). -/
def Sys2Proof.Claim.NextTargetLiesAhead : Prop :=
  (∀ target now : Nat, nextTarget target 0 now = none) ∧
  (∀ target period now n : Nat, nextTarget target period now = some n → target ≤ now → now < n ∧ n ≤ now + period ∧ ∃ k, n = target + k * period)

/-- Source stages: masks, stamp coincidences, TRIG_IN and TIME_MATCH. It says where these answer a next state: freqMaskVerdict, stampCoincArrival, trigInEdge, timeMatchFire. -/
def Obligations.TriggerSources : Prop :=
  Claim.MaskRunsFireOnce ∧ Claim.StampsCoincide ∧ Claim.TrigInEdgeReachesItsCells ∧ Claim.TimeMatchFires ∧ Claim.NextTargetLiesAhead

/-- MATRIX_EVENT_ARRIVE: the condition events of the oldest cycle leave the queue and reach the sixteen combination stages in turn, whose outputs
issue or are held in the order of their times (R183, R185, R186). -/
def Sys2Proof.Claim.CycleReachesTheMatrix : Prop :=
  ∀ (p : Piece) (q : List Instr), islandDead p 0x20 = false →
    (∀ (e : CondEvent) (r : List CondEvent), p.trigger.matrix = e :: r → exec .matrixEventArrive ⟨p, q⟩ = .next ⟨holdOutputs ((List.range 16).foldl
      (fun p n => combineCell e.cycle ((e :: r).filter (·.cycle == e.cycle)) n p)
      (onTrigger (fun t => { t with matrix := t.matrix.filter (·.cycle != e.cycle) }) p)), q⟩) ∧
    (p.trigger.matrix = [] → exec .matrixEventArrive ⟨p, q⟩ = .next ⟨p, q⟩)

/-- AND_WIN uses one event of each cell of MASK, all of them at most WINDOW before one time (R183, R184). -/
def Sys2Proof.Claim.AndWinNeedsEveryCell : Prop :=
  ∀ (c : Combine) (r used : List CondEvent), andWin c r = some used →
    used.map (·.cell) = maskIndices 16 c.mask ∧ ∃ t : T16, ∀ e ∈ used, e ∈ r ∧ e.time ≤ t ∧ withinPs (t - e.time) c.window = true

/-- SEQ uses an A event and a later B event, HOLDOFF or more apart, and TIMEOUT or less where it is not zero (R183, R184). -/
def Sys2Proof.Claim.SeqNeedsTheOrder : Prop :=
  ∀ (c : Combine) (r used : List CondEvent), seqPair c r = some used →
    ∃ a b, used = [a, b] ∧ a ∈ r ∧ b ∈ r ∧ bitAt c.aMask a.cell = true ∧ bitAt c.bMask b.cell = true ∧ atLeastPs (b.time - a.time) c.holdoff = true ∧
      (c.timeout ≠ 0 → withinPs (b.time - a.time) c.timeout = true)

/-- TRIGGER_EVENT_ISSUE: at most one trigger event per tally-island cycle; of the queued output events whose cell has a route it takes those of the earliest
cycle and time, takes the next EVENT_SEQ, and goes to its routes; an output event whose cell has no route leaves the queue. Its record has 32 bytes (R186 to R188). -/
def Sys2Proof.Claim.OneTriggerEventPerCycle : Prop :=
  (∀ (p : Piece) (q : List Instr), islandDead p 0x20 = false →
    (p.trigger.issuedAt = some (tallyCycle p.now) → exec .triggerEventIssue ⟨p, q⟩ = .next ⟨p, q⟩) ∧
    (p.trigger.issuedAt ≠ some (tallyCycle p.now) → routedQueue p = [] → exec .triggerEventIssue ⟨p, q⟩ =
      .next ⟨onTrigger (fun t => { t with queue := [] }) p, q⟩) ∧
    (∀ (g : List OutEvent) (e : TriggerEvent), routedQueue p ≠ [] → p.trigger.issuedAt ≠ some (tallyCycle p.now) → g = nextGroup (routedQueue p) →
      e = triggerEventOf (onTrigger (fun t => { t with queue := routedQueue p }) p) g → ∃ p', exec .triggerEventIssue ⟨p, q⟩ = .next ⟨routeEvent e p', q⟩ ∧ e.seq = p.trigger.eventSeq ∧
        p'.trigger.eventSeq = (p.trigger.eventSeq + 1) % 2 ^ 32 ∧ p'.trigger.issuedAt = some (tallyCycle p.now) ∧
        p'.trigger.queue = (routedQueue p).filter (fun o => !g.contains o) ∧ p'.trigger.cells = p.trigger.cells ∧ p'.now = p.now)) ∧
  (∀ q : List OutEvent, q ≠ [] → nextGroup q ≠ [] ∧ ∀ g ∈ nextGroup q, g ∈ q ∧ ∀ o ∈ q, g.cycle < o.cycle ∨ (g.cycle = o.cycle ∧ g.time ≤ o.time)) ∧
  (∀ (n : Nat) (e : TriggerEvent), (e.bytes n).length = 32)

/-- TRIG_OUT_PULSE_START: an event that reaches the output register starts a pulse of PULSE_WIDTH, waits for the inactive cycles to end, or is merged and counted; with
no event on its way nothing changes (R31, R190). The express unit of the output's island evaluates the aligned cycles that have come first (R194, R195). -/
def Sys2Proof.Claim.OutputTakesAnEvent : Prop :=
  ∀ (p0 p : Piece) (q : List Instr) (k : Fin 4) (o : TrigOut), p = settleExpress k p0 → o = nth p.trigger.outs k →
    (o.arrivals = 0 → exec (.trigOutPulseStart k) ⟨p0, q⟩ = .next ⟨p, q⟩) ∧
    (o.arrivals ≠ 0 →
      (o.pulse.isSome = true ∨ o.startDue = true → exec (.trigOutPulseStart k) ⟨p0, q⟩ =
        .next ⟨onOut k (fun _ => { o with arrivals := o.arrivals - 1, merged := min (o.merged + 1) (2 ^ 32 - 1) }) p, q⟩) ∧
      (o.pulse = none → o.startDue = false → o.quiet.isSome = true → exec (.trigOutPulseStart k) ⟨p0, q⟩ =
        .next ⟨onOut k (fun _ => { o with arrivals := o.arrivals - 1, startDue := true }) p, q⟩) ∧
      (o.pulse = none → o.startDue = false → o.quiet = none → exec (.trigOutPulseStart k) ⟨p0, q⟩ =
        .next ⟨onOut k (fun _ => { o with arrivals := o.arrivals - 1, pulse := some (o.polarity, p.now + o.width) }) p, q⟩))

/-- TRIG_OUT_PULSE_END: a pulse ends after its width, and the output stays at its inactive level for at least 4 cycles; TRIG_OUT_INACTIVE_END: when they are over, a start
that waits begins its pulse (R190). -/
def Sys2Proof.Claim.PulseEndsAndTheOutputRests : Prop :=
  ∀ (p : Piece) (q : List Instr) (k : Fin 4) (o : TrigOut), o = nth p.trigger.outs k →
    (∀ (b : Bool) (t : Nat), o.pulse = some (b, t) →
      (t ≤ p.now → exec (.trigOutPulseEnd k) ⟨p, q⟩ = .next ⟨onOut k (fun _ => { o with pulse := none, quiet := some (t + 4), idleHigh := o.polarity }) p, q⟩) ∧
      (p.now < t → exec (.trigOutPulseEnd k) ⟨p, q⟩ = .next ⟨p, q⟩)) ∧
    (o.pulse = none → exec (.trigOutPulseEnd k) ⟨p, q⟩ = .next ⟨p, q⟩) ∧
    (∀ t : Nat, o.quiet = some t →
      (t ≤ p.now → o.startDue = true → exec (.trigOutInactiveEnd k) ⟨p, q⟩ =
        .next ⟨onOut k (fun _ => { o with pulse := some (o.polarity, t + o.width), quiet := none, startDue := false }) p, q⟩) ∧
      (t ≤ p.now → o.startDue = false → exec (.trigOutInactiveEnd k) ⟨p, q⟩ = .next ⟨onOut k (fun _ => { o with quiet := none }) p, q⟩) ∧
      (p.now < t → exec (.trigOutInactiveEnd k) ⟨p, q⟩ = .next ⟨p, q⟩)) ∧
    (o.quiet = none → exec (.trigOutInactiveEnd k) ⟨p, q⟩ = .next ⟨p, q⟩)

/-- The combination matrix, trigger events and TRIG_OUT pulses. It says where these answer a next state: matrixEventArrive, triggerEventIssue, trigOutPulseStart, trigOutPulseEnd, trigOutInactiveEnd. -/
def Obligations.TriggerMatrixAndOutputs : Prop :=
  Claim.CycleReachesTheMatrix ∧ Claim.AndWinNeedsEveryCell ∧ Claim.SeqNeedsTheOrder ∧ Claim.OneTriggerEventPerCycle ∧
  Claim.OutputTakesAnEvent ∧ Claim.PulseEndsAndTheOutputRests

/-- ACQ_CONFIGURE sets an acquisition that is not active and returns the sizes of its ring and directory (R199 to R203, R473). -/
def Sys2Proof.Claim.AcqConfigureSetsGeometry : Prop :=
  ∀ (p : Piece) (q : List Instr) (c : Cmd) (f : Flight) (p1 : Piece) (b : Bytes) (k : Nat) (s : AcqSetting) (n : Nat) (z0 r0 s0 : Bool), Claim.Starts 0x0601 c p f p1 →
    b = f.body → k = u b 0 1 → s = acqSettingOf b → n = ringBlocks s * (blockBytes s + 32) →
    z0 = (s.segments == 0 || (s.pre == 0 && s.post == 0)) →
    r0 = (decide (15 < k) || u b 2 1 % 32 != 0 || u b 3 1 != 0 || u b 6 2 != 0 || u b 28 4 != 0 || s.component == 3 || decide (8 < s.stream) || s.m == 1 || decide (2 ^ 20 < s.m) || (s.slotBlocks != 0 && (decide (s.slotBlocks < ceilDiv (segEntries s) blockLen + 1) || !dramRegion p1.dmc s.ringBase n || !dramRegion p1.dmc s.dirBase (64 * (s.segments + 1)))) || (s.stopViol && (s.m == 0 || s.gapless || decide (s.post < s.violPost)))) →
    s0 = (!bitAt (routeBits p1 s.inst s.stream) 0 || acqActive (p1.acqOf k)) →
    (z0 = true → exec (.acqConfigure c) ⟨p, q⟩ = .next ⟨finish f 2 [] p1, q⟩) ∧
    (z0 = false → r0 = true → exec (.acqConfigure c) ⟨p, q⟩ = .next ⟨finish f 1 [] p1, q⟩) ∧
    (z0 = false → r0 = false → s0 = true → exec (.acqConfigure c) ⟨p, q⟩ = .next ⟨finish f 9 [] p1, q⟩) ∧
    (z0 = false → r0 = false → s0 = false → exec (.acqConfigure c) ⟨p, q⟩ = .next ⟨finish f 0 [low32 n, high32 n, 64 * (s.segments + 1)] (onAcq k (fun a => { a with setting := s }) p1), q⟩)

/-- ACQ_ARM arms every acquisition it names, all of which must be idle and hold a ring, for one tick 32 ticks on (R205, R223, R474). -/
def Sys2Proof.Claim.AcqArmArmsTheNamed : Prop :=
  ∀ (p : Piece) (q : List Instr) (c : Cmd) (f : Flight) (p1 : Piece) (m : Nat) (z0 r0 s0 t0 v0 : Bool), Claim.Starts 0x0602 c p f p1 →
    m = u f.body 0 2 →
    z0 = (m == 0) →
    r0 = (!isZero (slice f.body 2 6)) →
    s0 = ((maskIndices 16 m).any (fun k => acqActive (p1.acqOf k) || (p1.acqOf k).setting.slotBlocks == 0)) →
    t0 = (calibrating p1) →
    v0 = (dmcRefuses p1.dmc) →
    (z0 = true → exec (.acqArm c) ⟨p, q⟩ = .next ⟨finish f 2 [] p1, q⟩) ∧
    (z0 = false → r0 = true → exec (.acqArm c) ⟨p, q⟩ = .next ⟨finish f 1 [] p1, q⟩) ∧
    (z0 = false → r0 = false → s0 = true → exec (.acqArm c) ⟨p, q⟩ = .next ⟨finish f 9 [] p1, q⟩) ∧
    (z0 = false → r0 = false → s0 = false → t0 = true → exec (.acqArm c) ⟨p, q⟩ = .next ⟨finish f 3 [] p1, q⟩) ∧
    (z0 = false → r0 = false → s0 = false → t0 = false → v0 = true → exec (.acqArm c) ⟨p, q⟩ = .next ⟨finish f 12 [] p1, q⟩) ∧
    (z0 = false → r0 = false → s0 = false → t0 = false → v0 = false → exec (.acqArm c) ⟨p, q⟩ = .next ⟨finish f 0 [low32 (p1.now + 32), high32 (p1.now + 32)] ((maskIndices 16 m).foldl (fun p k => armAcq (p1.now + 32) k p) p1), q⟩)

/-- ACQ_STOP ends each named acquisition that runs, with cause 2, and returns which they were (R219, R474). -/
def Sys2Proof.Claim.AcqStopEndsTheNamed : Prop :=
  ∀ (p : Piece) (q : List Instr) (c : Cmd) (f : Flight) (p1 : Piece) (m : Nat) (e : List Nat) (z0 r0 : Bool), Claim.Starts 0x0603 c p f p1 →
    m = u f.body 0 2 → e = ((maskIndices 16 m).filter fun k => acqActive (p1.acqOf k)) →
    z0 = (m == 0) →
    r0 = (!isZero (slice f.body 2 6)) →
    (z0 = true → exec (.acqStop c) ⟨p, q⟩ = .next ⟨finish f 2 [] p1, q⟩) ∧
    (z0 = false → r0 = true → exec (.acqStop c) ⟨p, q⟩ = .next ⟨finish f 1 [] p1, q⟩) ∧
    (z0 = false → r0 = false → exec (.acqStop c) ⟨p, q⟩ = .next ⟨finish f 0 [maskOf 16 e.contains] (e.foldl (fun p k => endAcq k 2 p) p1), q⟩)

/-- ACQ_MASKTEST_LOAD loads limits of consecutive positions of a reducing acquisition that is not active; an upper limit below its lower one loads nothing (R216, R475). -/
def Sys2Proof.Claim.MasktestLoadIsWholeOrNothing : Prop :=
  ∀ (p : Piece) (q : List Instr) (c : Cmd) (f : Flight) (p1 : Piece) (b : Bytes) (k : Nat) (n : Nat) (o : Nat) (a : Acq) (lim : Bytes → List (Nat × Int × Int)) (z0 r0 s0 : Bool), Claim.Starts 0x0604 c p f p1 →
    b = f.body → k = u b 0 1 → n = u b 4 2 → o = u b 2 2 → a = p1.acqOf k → lim = (fun t => (List.range n).map fun j => (o + j, sgn t (4 * j) 2, sgn t (4 * j + 2) 2)) →
    z0 = (n == 0) →
    r0 = (decide (15 < k) || u b 1 1 != 0 || u b 6 2 != 0 || decide (4096 < o + n) || !tableAddrOk p1.dmc (u b 8 8) (4 * n)) →
    s0 = (a.setting.m == 0 || acqActive a) →
    (z0 = true → exec (.acqMasktestLoad c) ⟨p, q⟩ = .next ⟨finish f 2 [] p1, q⟩) ∧
    (z0 = false → r0 = true → exec (.acqMasktestLoad c) ⟨p, q⟩ = .next ⟨finish f 1 [] p1, q⟩) ∧
    (z0 = false → r0 = false → s0 = true → exec (.acqMasktestLoad c) ⟨p, q⟩ = .next ⟨finish f 9 [] p1, q⟩) ∧
    (z0 = false → r0 = false → s0 = false → 
      (∀ (t : Transfer), pieceRead p1 (u b 8 8) (4 * n) c.read = .error t → exec (.acqMasktestLoad c) ⟨p, q⟩ = .next ⟨finish f (transferStatus t) [] (p1), q⟩) ∧
      (∀ (t : Bytes), pieceRead p1 (u b 8 8) (4 * n) c.read = .ok t → (lim t).any (fun e => decide (e.2.2 < e.2.1)) = true → exec (.acqMasktestLoad c) ⟨p, q⟩ = .next ⟨finish f 1 [] (p1), q⟩) ∧
      (∀ (t : Bytes), pieceRead p1 (u b 8 8) (4 * n) c.read = .ok t → (lim t).any (fun e => decide (e.2.2 < e.2.1)) = false → exec (.acqMasktestLoad c) ⟨p, q⟩ = .next ⟨finish f 0 [] (onAcq k (fun x => { x with maskLoaded := true, mask := lim t ++ (x.mask.filter fun e => decide (e.1 < o) || decide (o + n ≤ e.1)) }) p1), q⟩))

/-- ACQ_READOUT starts a readout of a DONE acquisition and completes when its last line is written (R221, R223, R476). -/
def Sys2Proof.Claim.AcqReadoutWaits : Prop :=
  ∀ (p : Piece) (q : List Instr) (c : Cmd) (f : Flight) (p1 : Piece) (b : Bytes) (k : Nat) (a : Acq) (z0 r0 s0 t0 : Bool), Claim.Starts 0x0605 c p f p1 →
    b = f.body → k = u b 0 1 → a = p1.acqOf k →
    z0 = (u b 8 4 == 0) →
    r0 = (decide (15 < k) || u b 1 1 % 128 != 0 || u b 2 2 != 0 || u b 12 4 != 0 || u b 16 8 % 64 != 0 || !addrOk p1.dmc (u b 16 8) || decide (a.finished.length < u b 4 4 + u b 8 4) || (bitAt (u b 1 1) 7 && !a.setting.gapless)) →
    s0 = (a.state != .done) →
    t0 = (dmcRefuses p1.dmc) →
    (z0 = true → exec (.acqReadout c) ⟨p, q⟩ = .next ⟨finish f 2 [] p1, q⟩) ∧
    (z0 = false → r0 = true → exec (.acqReadout c) ⟨p, q⟩ = .next ⟨finish f 1 [] p1, q⟩) ∧
    (z0 = false → r0 = false → s0 = true → exec (.acqReadout c) ⟨p, q⟩ = .next ⟨finish f 9 [] p1, q⟩) ∧
    (z0 = false → r0 = false → s0 = false → t0 = true → exec (.acqReadout c) ⟨p, q⟩ = .next ⟨finish f 12 [] p1, q⟩) ∧
    (z0 = false → r0 = false → s0 = false → t0 = false → exec (.acqReadout c) ⟨p, q⟩ = .next ⟨settle (setFlight { f with progress := .waiting .acqReadout k [u b 4 4, u b 8 4, flag (bitAt (u b 1 1) 7) 0, u b 16 8] } (p1)), q⟩)

/-- An acquisition that is armed keeps its setting, its mask and the trigger events on their way, counts the arming, and starts with every counter at zero; no other
acquisition changes (R205, R207). -/
def Sys2Proof.Claim.ArmingStartsAnew : Prop :=
  ∀ (p p' : Piece) (k t : Nat) (a : Acq), p' = armAcq t k p → a = p.acqOf k → k < p.acq.acqs.length →
    p'.acqOf k = { setting := a.setting, mask := a.mask, maskLoaded := a.maskLoaded, armCount := (a.armCount + 1) % 2 ^ 32, state := .armed, armAt := some t, triggers := a.triggers } ∧
    ∀ j : Nat, j ≠ k → p'.acqOf j = p.acqOf j

/-- ACQ_READOUT_DONE writes the acquisition header and then, for each segment of the readout, its header and data, or for a whole GAPLESS record all headers and its data; the
command completes with the bytes written (R221, R223). -/
def Sys2Proof.Claim.ReadoutWritesItsSegments : Prop :=
  ∀ (p p2 : Piece) (q : List Instr) (i : Fin 16) (r : Option Nat) (first n w dest st m : Nat) (rs : List Nat) (a : Acq) (bs : Bytes), a = p.acqOf i →
    (waitingWords p .acqReadout i = some (first :: n :: w :: dest :: rs) →
      bs = acqHeader i a ++ (if w = 1 then a.finished.flatMap (·.header) ++ wholeData p a
        else ((a.finished.drop first).take n).flatMap fun d => d.header ++ segmentData p a d) →
      readoutWrite true dest bs r p = (p2, st, m) →
      exec (.acqReadoutDone i r) ⟨p, q⟩ = .next ⟨finishWaiting .acqReadout i st (fun _ => [low32 m, high32 m]) p2, q⟩) ∧
    (waitingWords p .acqReadout i = none → exec (.acqReadoutDone i r) ⟨p, q⟩ = .next ⟨p, q⟩) ∧
    (∀ j : Nat, (acqHeader j a).length = 64)

/-- ACQ commands: configuration, arming, stop, mask tests and readout. It says where these answer a next state: acqConfigure, acqArm, acqStop, acqMasktestLoad, acqReadout, acqReadoutDone. -/
def Obligations.AcquisitionCommands : Prop :=
  Claim.AcqConfigureSetsGeometry ∧ Claim.AcqArmArmsTheNamed ∧ Claim.AcqStopEndsTheNamed ∧ Claim.MasktestLoadIsWholeOrNothing ∧
  Claim.AcqReadoutWaits ∧ Claim.ArmingStartsAnew ∧ Claim.ReadoutWritesItsSegments

/-- ACQ_ARM_POINT: the first block that arrives at or after the tick of the arming sets the arm point of an armed acquisition: its time, sample period and BLOCK_SEQ; with M not zero
the intervals begin there (R205, R215). -/
def Sys2Proof.Claim.FirstBlockSetsTheArmPoint : Prop :=
  ∀ (p : Piece) (q : List Instr) (i : Fin 16) (a : Acq), islandDead p 0x20 = false → a = p.acqOf i →
    (∀ (t : Nat) (b : AcqBlock) (r : List AcqBlock), a.armAt = some t → a.arrivals = b :: r →
      (a.state = .armed → t ≤ p.now → exec (.acqArmPoint i) ⟨p, q⟩ = .next ⟨onAcq i (fun a => { a with armAt := none, origin := b.start, period := b.period, firstSeq := b.seq, pairNext := if a.setting.m = 0 then none else some 0 }) p, q⟩) ∧
      (a.state ≠ .armed ∨ p.now < t → exec (.acqArmPoint i) ⟨p, q⟩ = .next ⟨p, q⟩)) ∧
    (a.armAt = none ∨ a.arrivals = [] → exec (.acqArmPoint i) ⟨p, q⟩ = .next ⟨p, q⟩)

/-- ACQ_BLOCK_RECEIVE: after the DMC has taken blocks of the capture FIFO, the oldest block is dropped while the acquisition does not run or its arm tick lies ahead, waits while a
complete segment awaits its end, ends a full GAPLESS record of samples with cause 4, and is received otherwise (R204, R205, R208, R209). -/
def Sys2Proof.Claim.BlockIsStoredReducedOrLost : Prop :=
  ∀ (p p1 p0 : Piece) (q : List Instr) (i : Fin 16) (n : Nat) (a : Acq) (b : AcqBlock) (r : List AcqBlock), islandDead p 0x20 = false → p1 = drainFifo i n p →
    a = p1.acqOf i → a.arrivals = b :: r → p0 = onAcq i (fun a => { a with arrivals := r }) p1 →
    (acqActive a = false → exec (.acqBlockReceive i n) ⟨p, q⟩ = .next ⟨p0, q⟩) ∧
    (acqActive a = true →
      (∀ t : Nat, a.armAt = some t → exec (.acqBlockReceive i n) ⟨p, q⟩ = .next ⟨if p1.now < t then p0 else p1, q⟩) ∧
      (a.armAt = none →
        (segmentReady a = true → exec (.acqBlockReceive i n) ⟨p, q⟩ = .next ⟨p1, q⟩) ∧
        (segmentReady a = false → a.setting.m = 0 → regionFull a = true → exec (.acqBlockReceive i n) ⟨p, q⟩ = .next ⟨endAcq i 4 p1, q⟩) ∧
        (segmentReady a = false → a.setting.m ≠ 0 ∨ regionFull a = false → exec (.acqBlockReceive i n) ⟨p, q⟩ = .next ⟨receiveBlock i b p0, q⟩)))

/-- A received block of samples counts as taken; it enters the capture FIFO for the ring block of its slot, or, where it finds no room in the FIFO's 1 MiB, it is lost, counted and
marks a gap. The DMC takes the oldest block of the FIFO into device DRAM; one that refuses discards it (R202, R204, R208, R222, R223). -/
def Sys2Proof.Claim.BlockGoesToItsRingBlock : Prop :=
  (∀ (p p' : Piece) (k n : Nat) (b : AcqBlock) (a : Acq) (s : AcqSetting), p' = receiveBlock k b p → a = p.acqOf k → s = a.setting → k < p.acq.acqs.length → s.m = 0 →
    n = (if s.gapless then a.pos else a.slot * s.slotBlocks + a.pos) →
    (p'.acqOf k).taken = a.taken + 1 ∧ p'.dmc = p.dmc ∧
    (captureLevel a + (32 + b.data.length) ≤ 2 ^ 20 → (p'.acqOf k).fifo = a.fifo ++ [{ ring := n, header := b.header, data := b.data }] ∧
      (p'.acqOf k).pos = (a.pos + 1) % s.slotBlocks ∧ (p'.acqOf k).lost = a.lost ∧
      ∃ h ∈ (p'.acqOf k).held, h.num = a.taken ∧ h.ring = n ∧ h.block = b) ∧
    (2 ^ 20 < captureLevel a + (32 + b.data.length) → (p'.acqOf k).fifo = a.fifo ∧ (p'.acqOf k).pos = a.pos ∧
      (p'.acqOf k).lost = min (a.lost + 1) (2 ^ 32 - 1) ∧ (p'.acqOf k).gapDue = true)) ∧
  (∀ (p p' : Piece) (k : Nat) (a : Acq) (w : CaptureWrite) (r : List CaptureWrite), p' = drainFifo k 1 p → a = p.acqOf k → k < p.acq.acqs.length → a.fifo = w :: r →
    (p'.acqOf k).fifo = r ∧ (dmcRefuses p.dmc = true → p'.dmc = p.dmc) ∧
    (dmcRefuses p.dmc = false → p'.dmc = (dramWrite (headerAddr a.setting w.ring) w.header (dramWrite (dataAddr a.setting w.ring) w.data p)).dmc))

/-- ACQ_TRIGGER_ARRIVE: the oldest trigger event is dropped at an acquisition that does not run; else it is ignored, late or takes a segment, as R207 judges its trigger point, the
first sample at or after its time. One that would be taken after the last segment is dropped without count (R206, R207; the model's choice, log entry 31). -/
def Sys2Proof.Claim.TriggerIsJudged : Prop :=
  ∀ (p p0 : Piece) (q : List Instr) (i : Fin 16) (a : Acq) (e : AcqTrigger) (r : List AcqTrigger) (t : Int), islandDead p 0x20 = false → a = p.acqOf i →
    a.triggers = e :: r → p0 = onAcq i (fun a => { a with triggers := r }) p → t = firstAt (e.time + e.tpOffset * 65536) a.grid →
    (acqActive a = false → exec (.acqTriggerArrive i) ⟨p, q⟩ = .next ⟨p0, q⟩) ∧
    (acqActive a = true → a.armAt ≠ none → exec (.acqTriggerArrive i) ⟨p, q⟩ = .next ⟨p, q⟩) ∧
    (acqActive a = true → a.armAt = none →
      (judgeTrigger a t = .ignored → exec (.acqTriggerArrive i) ⟨p, q⟩ = .next ⟨onAcq i (fun a => { a with ignored := sat32 a.ignored 1 }) p0, q⟩) ∧
      (judgeTrigger a t = .late → exec (.acqTriggerArrive i) ⟨p, q⟩ = .next ⟨onAcq i (fun a => { a with late := sat32 a.late 1 }) p0, q⟩) ∧
      (∀ b : Bool, judgeTrigger a t = .taken b →
        (a.violation ≠ none ∨ a.setting.segments ≤ a.accepted → exec (.acqTriggerArrive i) ⟨p, q⟩ = .next ⟨p0, q⟩) ∧
        (a.violation = none → a.accepted < a.setting.segments →
          exec (.acqTriggerArrive i) ⟨p, q⟩ = .next ⟨acceptPairs i a (acceptSegment i e t.toNat b p0), q⟩))) ∧
    (t < 0 → judgeTrigger a t = .ignored) ∧
    (∀ x : T16, a.anchors = [] → firstAt x a.grid = -((-(x - a.origin)) / (a.period : Int)))

/-- An accepted trigger opens a segment: the next number, the trigger point, at most PRE samples before it, all of them held (R206, R207). -/
def Sys2Proof.Claim.AcceptedTriggerOpensASegment : Prop :=
  ∀ (p p' : Piece) (k n : Nat) (e : AcqTrigger) (b : Bool) (a : Acq), p' = acceptSegment k e n b p → a = p.acqOf k → k < p.acq.acqs.length → slotStart a ≤ n →
    ∃ g : Segment, (p'.acqOf k).open_ = a.open_ ++ [g] ∧ g.index = a.accepted ∧ g.t = n ∧ g.pre ≤ a.setting.pre ∧ slotStart a ≤ n - g.pre ∧
      g.eventSeq = e.seq ∧ g.tag = e.tag ∧ g.preShort = b ∧ (p'.acqOf k).accepted = a.accepted + 1 ∧ (p'.acqOf k).state = .triggered ∧
      p'.dmc = p.dmc ∧ ∀ j : Nat, j ≠ k → p'.acqOf j = p.acqOf j

/-- SEGMENT_COMPLETE: a complete segment of an acquisition that runs is closed; a violation ends the acquisition with cause 3, its last segment with cause 1, and else it goes
on with the next; otherwise nothing changes (R208, R211, R212, R218). -/
def Sys2Proof.Claim.SegmentIsClosed : Prop :=
  ∀ (p p0 p1 : Piece) (q : List Instr) (i : Fin 16) (a : Acq) (last : Bool), islandDead p 0x20 = false → a = p.acqOf i →
    last = decide (a.setting.segments ≤ a.finished.length + 1) →
    p0 = when ((a.violation.isSome || last) && a.setting.gapless && a.setting.m != 0)
      (fun p => flushPairs i (closeIntervals i (segEnd a (a.open_.headD {})) p)) p → p1 = closeSegment i p0 →
    (acqActive a = false ∨ segmentReady a = false → exec (.segmentComplete i) ⟨p, q⟩ = .next ⟨p, q⟩) ∧
    (acqActive a = true → segmentReady a = true →
      ((p1.acqOf i).violation ≠ none → exec (.segmentComplete i) ⟨p, q⟩ = .next ⟨doneAcq i 3 p1, q⟩) ∧
      ((p1.acqOf i).violation = none → last = true → exec (.segmentComplete i) ⟨p, q⟩ = .next ⟨doneAcq i 1 p1, q⟩) ∧
      ((p1.acqOf i).violation = none → last = false → exec (.segmentComplete i) ⟨p, q⟩ =
        .next ⟨when (((onAcq i nextSegment p1).acqOf i).setting.m != 0) (reduce i) (onAcq i nextSegment p1), q⟩))

/-- Closing a segment writes a header of 64 bytes to its directory entry and takes the segment off those in progress (R203, R210). -/
def Sys2Proof.Claim.SegmentHeaderHas64Bytes : Prop :=
  (∀ (p : Piece) (a : Acq) (s : Segment) (n : Nat) (b : Bool), (segmentHeader p a s n b).length = 64) ∧
  (∀ (p : Piece) (k : Nat), k < p.acq.acqs.length → (p.acqOf k).open_ ≠ [] → (p.acqOf k).setting.m = 0 →
    ((closeSegment k p).acqOf k).open_ = (p.acqOf k).open_.tail ∧ ((closeSegment k p).acqOf k).finished.length = (p.acqOf k).finished.length + 1)

/-- A pair is the least and the greatest valid sample of its interval: every valid sample lies between them (R214). -/
def Sys2Proof.Claim.PairBoundsItsSamples : Prop :=
  ∀ (a : Acq) (first stop : Nat) (h : HeldBlock) (k : Nat), h ∈ heldIn a first stop → k < blockLen → first ≤ h.num * blockLen + k → h.num * blockLen + k < stop →
    h.block.invalidAt k = false → (pairOf a first stop).valid = true ∧
    (pairOf a first stop).least ≤ component (a.setting.stream == 8) a.setting.component (nth h.block.samples k) ∧
    component (a.setting.stream == 8) a.setting.component (nth h.block.samples k) ≤ (pairOf a first stop).greatest

/-- An acquisition that ends is DONE with its cause and writes its header, and the event ring is told; one that does not run is left alone (R212, R219, R225). -/
def Sys2Proof.Claim.EndedAcquisitionIsDone : Prop :=
  ∀ (p : Piece) (k c : Nat), (acqActive (p.acqOf k) = false → endAcq k c p = p) ∧
    (k < p.acq.acqs.length → ((doneAcq k c p).acqOf k).state = .done ∧ ((doneAcq k c p).acqOf k).cause = c ∧ ((doneAcq k c p).acqOf k).open_ = [] ∧
      ∃ x : EventRecord, (doneAcq k c p).transport.raised = p.transport.raised ++ [x] ∧ x.kind = 0x03 ∧ x.panelType = 0x08 ∧ x.inst = 0 ∧
        x.body = acqHeader k ((doneAcq k c p).acqOf k))

/-- Acquisition: arm points, blocks, triggers, segments and pairs. It says where these answer a next state: acqArmPoint, acqBlockReceive, acqTriggerArrive, segmentComplete. -/
def Obligations.Acquisition : Prop :=
  Claim.FirstBlockSetsTheArmPoint ∧ Claim.BlockIsStoredReducedOrLost ∧ Claim.BlockGoesToItsRingBlock ∧ Claim.TriggerIsJudged ∧
  Claim.AcceptedTriggerOpensASegment ∧ Claim.SegmentIsClosed ∧ Claim.SegmentHeaderHas64Bytes ∧ Claim.PairBoundsItsSamples ∧
  Claim.EndedAcquisitionIsDone

/-- STAMP_INPUT_SET arms new settings of a stamp input, of REFIN or of PPSIN for 16 stamp-island cycles on, behind those that wait already (R25, R228, R229, R477). -/
def Sys2Proof.Claim.StampSettingIsArmed : Prop :=
  ∀ (p : Piece) (q : List Instr) (c : Cmd) (f : Flight) (p1 : Piece) (b : Bytes) (n : Nat) (s : StampSetting) (z0 r0 s0 t0 v0 : Bool), Claim.Starts 0x0701 c p f p1 →
    b = f.body → n = u b 0 1 → s = stampSettingOf n b →
    z0 = (!decide (n < 16) && n != 20 && n != 21) →
    r0 = (field (u b 1 1) 2 5 != 0 || u b 3 1 != 0 || u b 6 2 != 0 || u b 12 4 != 0 || decide (16 < s.prescale)) →
    s0 = (decide (n < 16) && (u b 1 1 % 4 == 3 || decide (4095 < s.threshold) || breaksExpress p1 n s)) →
    t0 = (decide (n < 16) && bitAt (u b 1 1) 7 && (p1.input n).faultActive) →
    v0 = (bitAt (u b 1 1) 7 && calibrating p1) →
    (z0 = true → exec (.stampInputSet c) ⟨p, q⟩ = .next ⟨finish f 1 [] p1, q⟩) ∧
    (z0 = false → r0 = true → exec (.stampInputSet c) ⟨p, q⟩ = .next ⟨finish f 1 [] p1, q⟩) ∧
    (z0 = false → r0 = false → s0 = true → exec (.stampInputSet c) ⟨p, q⟩ = .next ⟨finish f 1 [] p1, q⟩) ∧
    (z0 = false → r0 = false → s0 = false → t0 = true → exec (.stampInputSet c) ⟨p, q⟩ = .next ⟨finish f 9 [] p1, q⟩) ∧
    (z0 = false → r0 = false → s0 = false → t0 = false → v0 = true → exec (.stampInputSet c) ⟨p, q⟩ = .next ⟨finish f 3 [] p1, q⟩) ∧
    (z0 = false → r0 = false → s0 = false → t0 = false → v0 = false → 
      (n < 16 → exec (.stampInputSet c) ⟨p, q⟩ = .next ⟨settle (setFlight { f with progress := .waiting .stampSetting n [] } (onInput n (fun i => { i with pending := i.pending ++ [(s, p1.now + 16)] }) p1)), q⟩) ∧
      (16 ≤ n → exec (.stampInputSet c) ⟨p, q⟩ = .next ⟨settle (setFlight { f with progress := .waiting .stampSetting n [] } (onAux n (fun a => { a with pending := a.pending ++ [(s, p1.now + 16)] }) p1)), q⟩))

/-- STAMP_RAW_STREAM arms a source mask and a channel for the first tally-island cycle at least 16 cycles on; a closed channel gives ST_STATE (R253, R478). -/
def Sys2Proof.Claim.RawStreamIsArmed : Prop :=
  ∀ (p : Piece) (q : List Instr) (c : Cmd) (f : Flight) (p1 : Piece) (b : Bytes) (t : Nat) (z0 r0 : Bool), Claim.Starts 0x0702 c p f p1 →
    b = f.body → t = (p1.now + 33) / 2 * 2 →
    z0 = (decide (2 ^ 24 ≤ u b 0 4) || decide (63 < u b 4 1) || u b 5 3 != 0) →
    r0 = ((nth p1.stream.channels (u b 4 1)).state == .closed) →
    (z0 = true → exec (.stampRawStream c) ⟨p, q⟩ = .next ⟨finish f 1 [] p1, q⟩) ∧
    (z0 = false → r0 = true → exec (.stampRawStream c) ⟨p, q⟩ = .next ⟨finish f 9 [] p1, q⟩) ∧
    (z0 = false → r0 = false → exec (.stampRawStream c) ⟨p, q⟩ = .next ⟨finish f 0 [low32 t, high32 t] ({ p1 with fabric := { p1.fabric with rawNext := some (u b 0 4, u b 4 1, t) } }), q⟩)

/-- STAMP_SETTINGS_APPLY: settings that wait take effect once their tick has come, the oldest first, and not before (R25, R229). -/
def Sys2Proof.Claim.StampSettingTakesEffect : Prop :=
  ∀ (p : Piece) (q : List Instr) (n : Fin 24),
    ((∀ x ∈ pendingSettings p n, p.now < x.2) → exec (.stampSettingsApply n) ⟨p, q⟩ = .next ⟨p, q⟩) ∧
    (∀ (s : StampSetting) (t : Nat), pendingSettings p n = [(s, t)] → t ≤ p.now → exec (.stampSettingsApply n) ⟨p, q⟩ = .next ⟨takeSetting n s t p, q⟩) ∧
    (∀ (s s' : StampSetting) (t t' : Nat), pendingSettings p n = [(s, t), (s', t')] → t ≤ p.now → t' ≤ (takeSetting n s t p).now →
      exec (.stampSettingsApply n) ⟨p, q⟩ = .next ⟨takeSetting n s' t' (takeSetting n s t p), q⟩)

/-- An enable starts SEQ at 0 and clears the prescaler; an enable or a new THRESHOLD blanks the input for 1 µs; a new PRESCALE clears the prescaler; any change begins a
calibration epoch, so that the next record carries CAL (R229, R230, R234, R250, R251). -/
def Sys2Proof.Claim.ChangeBlanksTheInput : Prop :=
  ∀ (s : StampSetting) (t : Nat) (i j : StampInput), j = setInput s t i →
    j.setting = s ∧ j.pending = i.pending.drop 1 ∧ (i.setting.en = false → s.en = true → j.seq = 0 ∧ j.prescaled = 0 ∧ j.blankUntil = some (t + 2560)) ∧
    (s.threshold ≠ i.setting.threshold → j.blankUntil = some (t + 2560)) ∧ (s.prescale ≠ i.setting.prescale → j.prescaled = 0) ∧
    (s.threshold ≠ i.setting.threshold ∨ s.slope ≠ i.setting.slope ∨ s.prescale ≠ i.setting.prescale ∨ s.cableDelay ≠ i.setting.cableDelay → j.calDue = true) ∧
    (s = i.setting → j.seq = i.seq ∧ j.prescaled = i.prescaled ∧ j.blankUntil = i.blankUntil ∧ j.calDue = i.calDue) ∧ j.fifo = i.fifo ∧ j.captured = i.captured

/-- THRESHOLD_BLANK_END: the input detects edges again 1 µs after the change, and not before (R230). -/
def Sys2Proof.Claim.BlankEnds : Prop :=
  ∀ (p : Piece) (q : List Instr) (n : Fin 16),
    ((p.input n).blankUntil = none → exec (.thresholdBlankEnd n) ⟨p, q⟩ = .next ⟨p, q⟩) ∧
    (∀ t : Nat, (p.input n).blankUntil = some t → exec (.thresholdBlankEnd n) ⟨p, q⟩ =
      .next ⟨if t ≤ p.now then onInput n (fun i => { i with blankUntil := none }) p else p, q⟩)

/-- STAMP_EDGE_CAPTURE, sources 0 to 15: after settings that are due, an edge at a disabled, faulted or blank input, or of the other slope, is passed over; one in 2^PRESCALE goes on, and is
captured, or lost and counted in the dead time (R230, R232 to R240). Source 20 takes the edges of REFIN; the other sources take none (R252). -/
def Sys2Proof.Claim.EdgeIsCapturedOrPassed : Prop :=
  ∀ (p p0 p1 : Piece) (q : List Instr) (n : Fin 24) (e : StampEdge) (i : StampInput) (raw : T16), p0 = applySetting n p → i = p0.input n →
    p1 = onInput n (fun i => { i with prescaled := (i.prescaled + 1) % 2 ^ i.setting.prescale }) p0 → raw = T16.ofTick p1.now + fraction p1 n e →
    (n.val < 16 →
      (i.setting.en = false ∨ i.faultActive = true ∨ (∃ t, i.blankUntil = some t ∧ p0.now < t) ∨ detects i = false ∨ i.setting.slope.passes e.rising = false →
        exec (.stampEdgeCapture n e) ⟨p, q⟩ = .next ⟨p0, q⟩) ∧
      (i.setting.en = true → i.faultActive = false → (∀ t, i.blankUntil = some t → t ≤ p0.now) → detects i = true → i.setting.slope.passes e.rising = true →
        (i.prescaled ≠ 0 → exec (.stampEdgeCapture n e) ⟨p, q⟩ = .next ⟨p1, q⟩) ∧
        (i.prescaled = 0 → inDeadTime i.lastCapture raw e.greyCaptured = true → exec (.stampEdgeCapture n e) ⟨p, q⟩ =
          .next ⟨onInput n (fun i => { i with lostDt := sat32 i.lostDt 1, crowdDue := true }) p1, q⟩) ∧
        (i.prescaled = 0 → inDeadTime i.lastCapture raw e.greyCaptured = false → exec (.stampEdgeCapture n e) ⟨p, q⟩ =
          .next ⟨captureEdge n raw e p1, q⟩))) ∧
    (n.val = 20 → exec (.stampEdgeCapture n e) ⟨p, q⟩ = .next ⟨refinEdge e p0, q⟩) ∧
    (16 ≤ n.val → n.val ≠ 20 → exec (.stampEdgeCapture n e) ⟨p, q⟩ = .next ⟨p0, q⟩)

/-- An edge less than 790 ps after the last captured one is lost, one 810 ps or more after it is captured; between them either may be (R239). -/
def Sys2Proof.Claim.DeadTimeIs800Picoseconds : Prop :=
  ∀ (l t : T16) (g : Bool), inDeadTime none t g = false ∧
    ((t - l) * 390625 < 790 * 65536000 → inDeadTime (some l) t g = true) ∧ (810 * 65536000 ≤ (t - l) * 390625 → inDeadTime (some l) t g = false) ∧
    (790 * 65536000 ≤ (t - l) * 390625 → (t - l) * 390625 < 810 * 65536000 → inDeadTime (some l) t g = !g)

/-- A captured edge takes the source's SEQ; its record joins the burst FIFO of 8,192 entries, or is counted as an overflow, or as lost to an interpolator's fault; its flags, with those
that passed on to it, are the record's, or pass on where it is lost (R235, R241, R243, R247, R250). -/
def Sys2Proof.Claim.CapturedEdgeTakesASeq : Prop :=
  ∀ (p p' : Piece) (n fl : Nat) (raw : T16) (e : StampEdge) (i j : StampInput), p' = captureEdge n raw e p → i = p.input n → j = p'.input n → n < 16 →
    n / 4 < p.stamp.length → n % 4 < (p.motif (n / 4)).inputs.length →
    fl = (flag i.spareActive 2 + flag i.crowdDue 3 + flag (edgeSat e) 5 + flag i.calDue 6) ||| i.passed →
    j.seq = (i.seq + 1) % 2 ^ 32 ∧ j.captured = (i.captured + 1) % 2 ^ 32 ∧ j.lastCapture = some raw ∧ j.setting = i.setting ∧ j.crowdDue = false ∧ j.calDue = false ∧
    (i.interpFaulted = true ∨ i.interpRetired = true → i.spareActive = false → j.fifo = i.fifo ∧ j.lostFault = min (i.lostFault + 1) (2 ^ 32 - 1) ∧ j.overflow = i.overflow ∧ j.passed = fl) ∧
    (i.interpFaulted = false ∧ i.interpRetired = false ∨ i.spareActive = true →
      (8192 ≤ i.fifo.length → j.fifo = i.fifo ∧ j.overflow = min (i.overflow + 1) (2 ^ 32 - 1) ∧ j.passed = fl) ∧
      (i.fifo.length < 8192 → j.overflow = i.overflow ∧ j.passed = 0 ∧ ∃ r : FifoRecord, j.fifo = i.fifo ++ [r] ∧ r.entered = p.now ∧
        r.stamp.source = n ∧ r.stamp.seq = i.seq ∧ r.stamp.rising = e.rising ∧ r.stamp.flags = fl ∧ r.stamp.time = stampTime p n raw))

/-- STAMP_FIFO_WAIT_EXPIRY: a head record that has waited 13.11 µs is discarded and counted, and its flags pass to the next record; before that time nothing changes (R241, R250). -/
def Sys2Proof.Claim.WaitingRecordExpires : Prop :=
  ∀ (p : Piece) (q : List Instr) (n : Fin 16) (i : StampInput), i = p.input n →
    (i.fifo = [] → exec (.stampFifoWaitExpiry n) ⟨p, q⟩ = .next ⟨p, q⟩) ∧
    (∀ (h : FifoRecord) (r : List FifoRecord), i.fifo = h :: r →
      (p.now < h.entered + 33562 → exec (.stampFifoWaitExpiry n) ⟨p, q⟩ = .next ⟨p, q⟩) ∧
      (h.entered + 33562 ≤ p.now → r = [] → exec (.stampFifoWaitExpiry n) ⟨p, q⟩ = .next ⟨onInput n (fun _ => { i with overflow := sat32 i.overflow 1, fifo := [], passed := i.passed ||| h.stamp.flags }) p, q⟩) ∧
      (∀ (x : FifoRecord) (m : List FifoRecord), h.entered + 33562 ≤ p.now → r = x :: m → p.now < x.entered + 33562 →
        exec (.stampFifoWaitExpiry n) ⟨p, q⟩ = .next ⟨onInput n (fun _ => { i with overflow := sat32 i.overflow 1, fifo := { x with stamp := { x.stamp with flags := x.stamp.flags ||| h.stamp.flags } } :: m }) p, q⟩))

/-- SAT and the fine code: the four tap positions, less the quarter-tap offsets of their lines, spread over more than one tap, or the DLL has lost lock; the code is the sum of the four positions,
or where they spread their median, within 0 to 255 (R236, R237; the mean of the middle two is the model's choice, log entry 13). -/
def Sys2Proof.Claim.SpreadTapsAreSaturated : Prop :=
  ∀ (e : StampEdge) (x a b c d : Int), a = e.tap0.val → b = e.tap1.val → c = e.tap2.val → d = e.tap3.val →
    ((∀ y ∈ [4 * a, 4 * b - 1, 4 * c - 2, 4 * d - 3], ∀ z ∈ [4 * a, 4 * b - 1, 4 * c - 2, 4 * d - 3], y - z ≤ 4) → e.dllLost = false → edgeSat e = false) ∧ (e.dllLost = true → edgeSat e = true) ∧ edgeCode e ≤ 255 ∧
    (edgeSpread e = false → x = a + b + c + d → x ≤ 255 → (edgeCode e : Int) = x)

/-- Stamp inputs: settings, edges, dead time and burst FIFOs. It says where these answer a next state: stampInputSet, stampRawStream, stampSettingsApply, thresholdBlankEnd, stampEdgeCapture, stampFifoWaitExpiry. -/
def Obligations.StampInputs : Prop :=
  Claim.StampSettingIsArmed ∧ Claim.RawStreamIsArmed ∧ Claim.StampSettingTakesEffect ∧ Claim.ChangeBlanksTheInput ∧ Claim.BlankEnds ∧
  Claim.EdgeIsCapturedOrPassed ∧ Claim.DeadTimeIs800Picoseconds ∧ Claim.CapturedEdgeTakesASeq ∧ Claim.WaitingRecordExpires ∧
  Claim.SpreadTapsAreSaturated

/-- INTERP_ROUND_START: once ROT_INTERVAL has passed since the last round began, a motif that rotates starts a round where its spare is idle; while a round still runs, the new one is delayed and
counted once (R322). Outside the startup mode and a full calibration, an input whose interpolator has failed is covered first, where the spare can (R247). -/
def Sys2Proof.Claim.RoundStartsOrIsDelayed : Prop :=
  ∀ (p p0 : Piece) (q : List Instr) (k : Fin 4) (due : Bool), p0 = when (p.cal.mode != .startup && !p.cal.running) (coverAgain k) p →
    due = (match nth p.cal.roundBegan k with | some t => decide (t + p.cal.rotInterval * ticksPerUs ≤ p.now) | none => true) →
    (rotates p0 k = false ∨ due = false → exec (.interpRoundStart k) ⟨p, q⟩ = .next ⟨p0, q⟩) ∧
    (rotates p0 k = true → due = true →
      ((p0.motif k).inRound = true → nth p0.cal.roundLate k = true → exec (.interpRoundStart k) ⟨p, q⟩ = .next ⟨p0, q⟩) ∧
      ((p0.motif k).inRound = true → nth p0.cal.roundLate k = false → exec (.interpRoundStart k) ⟨p, q⟩ = .next ⟨onCal (fun c => { c with overrun := sat32 c.overrun 1, roundLate := put c.roundLate k true }) p0, q⟩) ∧
      ((p0.motif k).inRound = false → (p0.motif k).role = .idle → exec (.interpRoundStart k) ⟨p, q⟩ = .next ⟨startRound k p0, q⟩) ∧
      ((p0.motif k).inRound = false → (p0.motif k).role ≠ .idle → exec (.interpRoundStart k) ⟨p, q⟩ = .next ⟨p0, q⟩))

/-- INTERP_ROLE_END: SELF_CAL lasts 100 µs and STANDING_IN 250 µs; OVERLAP and HANDBACK last until 64 edges or 250 µs, and then the handover is made, or the match fails; in the other roles nothing
ends (R245, R322 to R324). -/
def Sys2Proof.Claim.RoleLastsItsTime : Prop :=
  ∀ (p : Piece) (q : List Instr) (k : Fin 4) (r : RoleResult) (m : Motif) (b : Nat), m = p.motif k → b = m.roleBegan →
    (m.role = .selfCal → exec (.interpRoleEnd k r) ⟨p, q⟩ = .next ⟨if b + 100 * ticksPerUs ≤ p.now then
      visitFrom k 0 (onMotif k (fun m => { m with spareEpoch := m.spareEpoch + 1 }) p) else p, q⟩) ∧
    (m.role = .standingIn → exec (.interpRoleEnd k r) ⟨p, q⟩ = .next ⟨if b + 250 * ticksPerUs ≤ p.now then takeRole k .handback m.spareInput p else p, q⟩) ∧
    (m.role = .overlap →
      (m.roleEdges < 64 → p.now < b + 250 * ticksPerUs → exec (.interpRoleEnd k r) ⟨p, q⟩ = .next ⟨p, q⟩) ∧
      (64 ≤ m.roleEdges ∨ b + 250 * ticksPerUs ≤ p.now → exec (.interpRoleEnd k r) ⟨p, q⟩ = .next ⟨endOverlap k m.spareInput m.roleEdges r p, q⟩)) ∧
    (m.role = .handback →
      (m.roleEdges < 64 → p.now < b + 250 * ticksPerUs → exec (.interpRoleEnd k r) ⟨p, q⟩ = .next ⟨p, q⟩) ∧
      (64 ≤ m.roleEdges ∨ b + 250 * ticksPerUs ≤ p.now → exec (.interpRoleEnd k r) ⟨p, q⟩ = .next ⟨endHandback k m.spareInput m.roleEdges r p, q⟩)) ∧
    (m.role = .idle ∨ m.role = .faultCover → exec (.interpRoleEnd k r) ⟨p, q⟩ = .next ⟨p, q⟩)

/-- The handover at the end of OVERLAP and HANDBACK: with fewer than 64 edges it is made and counted as unverified; with a mean of at most 0.5 ps and an rms of at most 2 ps it is made; else the match fails,
is counted, and a test of the interpolator is called for (R245, R246, R323, R324). -/
def Sys2Proof.Claim.HandoverNeedsAMatch : Prop :=
  ∀ (k n edges : Nat) (r : RoleResult) (p : Piece) (ok : Bool), ok = (decide (r.mean.natAbs ≤ 500) && decide (r.rms ≤ 2000)) →
    (edges < 64 → endOverlap k n edges r p = takeRole k .standingIn n (handOver k n true (countUnverified k p)) ∧
      endHandback k n edges r p = afterVisit k n (handOver k n false (countUnverified k p))) ∧
    (64 ≤ edges → ok = true → endOverlap k n edges r p = takeRole k .standingIn n (handOver k n true p) ∧
      endHandback k n edges r p = afterVisit k n (handOver k n false p)) ∧
    (64 ≤ edges → ok = false → endOverlap k n edges r p = detectError (interpElement k 4) (countMatchFail (onMotif k (fun m => { m with role := .idle, inRound := false, spareFaulted := true }) p)) ∧
      endHandback k n edges r p = detectError (interpElement k n) (countMatchFail (coverInput k n (onInput (4 * k + n) (fun i => { i with interpFaulted := true }) p))))

/-- INTERP_FAULT: INTERP_FAULT latches with its journal entry, the spare covers the input, or what the spare served returns to its own interpolator, and the element is to be tested; a retired
interpolator raises nothing (R247, R248, R594, R598). -/
def Sys2Proof.Claim.InterpolatorFaultIsCovered : Prop :=
  ∀ (p p0 : Piece) (q : List Instr) (k : Fin 4) (n : Fin 5), p0 = alarmWith 0x0401 (elementEntry p (interpElement k n) 0) p →
    (n.val < 4 → (p.input (4 * k + n)).interpRetired = false → exec (.interpFault k n) ⟨p, q⟩ = .next ⟨detectError (interpElement k n) (faultInterp k n p0), q⟩) ∧
    (n.val = 4 → (p.motif k).spareRetired = false → exec (.interpFault k n) ⟨p, q⟩ = .next ⟨detectError (interpElement k n) (faultSpare k p0), q⟩) ∧
    (n.val < 4 → (p.input (4 * k + n)).interpRetired = true → exec (.interpFault k n) ⟨p, q⟩ = .next ⟨p, q⟩) ∧
    (n.val = 4 → (p.motif k).spareRetired = true → exec (.interpFault k n) ⟨p, q⟩ = .next ⟨p, q⟩)

/-- COMP_FAULT: COMP_FAULT latches; the lowest-numbered other comparator that is neither retired nor held takes over with its own constants; the faulted one is to be tested. An input that is lost or has no
comparator raises nothing (R232, R594). -/
def Sys2Proof.Claim.NextComparatorTakesOver : Prop :=
  ∀ (p p0 : Piece) (q : List Instr) (n : Fin 16) (i : StampInput), i = p.input n → p0 = alarmWith 0x0402 (elementEntry p (compElement n i.compSel) 0) p →
    (i.faultActive = false → detects i = true → ∃ f : StampInput → StampInput, exec (.compFault n) ⟨p, q⟩ = .next ⟨detectError (compElement n i.compSel) (onInput n f p0), q⟩ ∧
      ∀ (j : StampInput) (r : Option Nat), r = ((List.range 4).find? fun c => c != j.compSel && !bitAt (j.compRetired ||| (j.compHeld ||| 2 ^ j.compSel)) c) →
        (f j).compHeld = j.compHeld ||| 2 ^ j.compSel ∧ (f j).compRetired = j.compRetired ∧ (f j).interpEpoch = j.interpEpoch ∧
        (r = none → (f j).compSel = j.compSel) ∧
        (∀ c, r = some c → (f j).compSel = c ∧ (f j).calDue = true ∧ c < 4 ∧ c ≠ j.compSel ∧ bitAt j.compRetired c = false)) ∧
    (i.faultActive = true ∨ detects i = false → exec (.compFault n) ⟨p, q⟩ = .next ⟨p, q⟩)

/-- Interpolator rotation, handovers, and faults of interpolators and comparators. It says where these answer a next state: interpRoundStart, interpRoleEnd, interpFault, compFault. -/
def Obligations.Interpolators : Prop :=
  Claim.RoundStartsOrIsDelayed ∧ Claim.RoleLastsItsTime ∧ Claim.HandoverNeedsAMatch ∧ Claim.InterpolatorFaultIsCovered ∧ Claim.NextComparatorTakesOver

/-- FABRIC_GRANT: the source next in rotation that holds a record and is eligible hands over one record, which is labelled, where it has no label yet, and delivered; at most two records
a tally-island cycle; every other source is not served. Records that have waited 13.11 µs at the head of a FIFO leave first (R241, R242, R249). -/
def Sys2Proof.Claim.FabricServesInRotation : Prop :=
  ∀ (p p0 : Piece) (q : List Instr) (n : Fin 24) (cycle m : Nat), p0 = (List.range 16).foldl (fun p n => expireInput n p) (flushRaw (applyRaw p)) →
    cycle = tallyCycle p0.now → m = (if p0.fabric.granted.1 = cycle then p0.fabric.granted.2 else 0) →
    (nextGrant p0 ≠ some n.val ∨ 2 ≤ m → exec (.fabricGrant n) ⟨p, q⟩ = .next ⟨p0, q⟩) ∧
    (∀ (s : Stamp) (b : Bool) (p1 p2 p3 : Piece), nextGrant p0 = some n.val → m < 2 → takeRecord n p0 = some (s, b, p1) → p2 = when (n.val != 22) (grantPermit n) p1 →
      p3 = { p2 with fabric := { p2.fabric with pointer := n, granted := (cycle, m + 1) } } →
      (b = false → exec (.fabricGrant n) ⟨p, q⟩ = .next ⟨deliverStamp (labelStamp s p3).1 (labelStamp s p3).2, q⟩) ∧
      (b = true → exec (.fabricGrant n) ⟨p, q⟩ = .next ⟨deliverStamp s p3, q⟩))

/-- The rotation starts after the source served last; the source it names may be granted, and none between them may (R242). A record of the fabric has 16 bytes (R249). -/
def Sys2Proof.Claim.RotationFindsTheNextSource : Prop :=
  (∀ (p : Piece) (n : Nat), nextGrant p = some n → n < 24 ∧ mayGrant p n = true ∧ ∃ k, k < 24 ∧ n = (p.fabric.pointer + 1 + k) % 24 ∧
    ∀ j, j < k → mayGrant p ((p.fabric.pointer + 1 + j) % 24) = false) ∧
  (∀ (p : Piece) (n : Nat), nextGrant p = none → n < 24 → mayGrant p n = false) ∧ (∀ s : Stamp, (stampBytes s).length = 16)

/-- The stamp fabric serves its sources in rotation. It says where these answer a next state: fabricGrant. -/
def Obligations.StampFabric : Prop :=
  Claim.FabricServesInRotation ∧ Claim.RotationFindsTheNextSource

/-- COUNT_START arms a slot that is not running for the first tally-island cycle at least 16 cycles on: its gates, holds, openings and marks are empty; it completes with B0 (R259 to R261, R288, R350, R479). -/
def Sys2Proof.Claim.CountStartArmsASlot : Prop :=
  ∀ (p : Piece) (q : List Instr) (c : Cmd) (f : Flight) (p1 : Piece) (b : Bytes) (n : Nat) (s : CountSetting) (o : CountSlot) (z0 r0 s0 t0 v0 : Bool), Claim.Starts 0x0703 c p f p1 →
    b = f.body → n = u b 0 1 → s = countSettingOf b → o = p1.slot n →
    z0 = ((decide (s.mode < 2) && s.gate == 0) || (!s.continuous && s.gates == 0)) →
    r0 = (countRange p1 b o.window) →
    s0 = (o.state == .running || !sourceReady p1 s.src || (s.two && !sourceReady p1 s.stopSrc) || !slopesSuit p1 s || (s.stream && (nth p1.stream.channels s.streamCh).state == .closed)) →
    t0 = (calibrating p1 || p1.tally.contexts.any (fun x => decide (slotContexts n ≤ x.index) && decide (x.index < slotContexts n + 128))) →
    v0 = ((s.mode == 0 && decide (2000000 < committedRate p1 s.gate)) || userKernels p1) →
    (z0 = true → exec (.countStart c) ⟨p, q⟩ = .next ⟨finish f 2 [] p1, q⟩) ∧
    (z0 = false → r0 = true → exec (.countStart c) ⟨p, q⟩ = .next ⟨finish f 1 [] p1, q⟩) ∧
    (z0 = false → r0 = false → s0 = true → exec (.countStart c) ⟨p, q⟩ = .next ⟨finish f 9 [] p1, q⟩) ∧
    (z0 = false → r0 = false → s0 = false → t0 = true → exec (.countStart c) ⟨p, q⟩ = .next ⟨finish f 3 [] p1, q⟩) ∧
    (z0 = false → r0 = false → s0 = false → t0 = false → v0 = true → exec (.countStart c) ⟨p, q⟩ = .next ⟨finish f 8 [] p1, q⟩) ∧
    (z0 = false → r0 = false → s0 = false → t0 = false → v0 = false → exec (.countStart c) ⟨p, q⟩ = .next ⟨settle (setFlight { f with progress := .waiting .countStart n [] } (onSlot n (fun c => { c with setting := s, state := .running, cause := 0, startAt := some (sixteenCycles p1.now), effectAt := sixteenCycles p1.now, ordering := [], gates := [], gateSeq := 0, eventSeq := none, eventCount := 0, multiple := 0, lastSeqs := [], passedGap := 0, passedCrowd := 0, held := [], heldB := none, openings := [], stopAt := none, lossAt := none, marks := [], block := [], issued := false }) (loadFirmwareKernels p1))), q⟩)

/-- COUNT_STOP gives each named slot that runs an end tick, the first one given; with none running it completes at once, else when all have closed (R291, R480). -/
def Sys2Proof.Claim.CountStopSetsTheEnd : Prop :=
  ∀ (p : Piece) (q : List Instr) (c : Cmd) (f : Flight) (p1 : Piece) (m : Nat) (t : Nat) (g : Nat) (p2 : Piece) (z0 r0 : Bool), Claim.Starts 0x0704 c p f p1 →
    m = u f.body 0 4 → t = sixteenCycles p1.now → g = (maskOf 32 fun s => bitAt m s && (p1.slot s).state == .running) → p2 = ({ p1 with tally := { p1.tally with slots := p1.tally.slots.mapIdx (fun s c => if bitAt g s then { c with stopAt := some (c.stopAt.getD t) } else c) } }) →
    z0 = (m == 0) →
    r0 = (u f.body 4 4 != 0) →
    (z0 = true → exec (.countStop c) ⟨p, q⟩ = .next ⟨finish f 2 [] p1, q⟩) ∧
    (z0 = false → r0 = true → exec (.countStop c) ⟨p, q⟩ = .next ⟨finish f 1 [] p1, q⟩) ∧
    (z0 = false → r0 = false → 
      (g = 0 → exec (.countStop c) ⟨p, q⟩ = .next ⟨finish f 0 [0, low32 t, high32 t] (p2), q⟩) ∧
      (g ≠ 0 → exec (.countStop c) ⟨p, q⟩ = .next ⟨settle (setFlight { f with progress := .waiting .countStop g [low32 t, high32 t] } (p2)), q⟩))

/-- COUNT_READ returns fields of a slot's latest record, and writes that record and the latest statistics record, 256 bytes, where DEST is not zero (R290, R481). -/
def Sys2Proof.Claim.CountReadReturnsTheLatest : Prop :=
  ∀ (p : Piece) (q : List Instr) (c : Cmd) (f : Flight) (p1 : Piece) (b : Bytes) (o : CountSlot) (l : Bytes) (z0 r0 : Bool), Claim.Starts 0x0705 c p f p1 →
    b = f.body → o = p1.slot (u b 0 1) → l = pad 128 (o.last.getD []) →
    z0 = (decide (31 < u b 0 1) || u b 1 7 != 0 || (u b 8 8 != 0 && !destOk p1.dmc (u b 8 8) 256)) →
    r0 = (!o.issued) →
    (z0 = true → exec (.countRead c) ⟨p, q⟩ = .next ⟨finish f 1 [] p1, q⟩) ∧
    (z0 = false → r0 = true → exec (.countRead c) ⟨p, q⟩ = .next ⟨finish f 9 [] p1, q⟩) ∧
    (z0 = false → r0 = false → 
      (u b 8 8 = 0 → exec (.countRead c) ⟨p, q⟩ = .next ⟨finish f 0 [u l 0 4, u l 6 2 * 2 ^ 16 + u l 26 1 * 2 ^ 8 + u l 5 1, u l 40 4, u l 44 4, u l 48 4, u l 52 4] (p1), q⟩) ∧
      (∀ (p2 : Piece), u b 8 8 ≠ 0 → pieceWrite (u b 8 8) (l ++ pad 128 (o.lastStats.getD [])) p1 = (p2, .ok) → exec (.countRead c) ⟨p, q⟩ = .next ⟨finish f 0 [u l 0 4, u l 6 2 * 2 ^ 16 + u l 26 1 * 2 ^ 8 + u l 5 1, u l 40 4, u l 44 4, u l 48 4, u l 52 4] (p2), q⟩) ∧
      (∀ (p2 : Piece) (t : Transfer), u b 8 8 ≠ 0 → t ≠ .ok → pieceWrite (u b 8 8) (l ++ pad 128 (o.lastStats.getD [])) p1 = (p2, t) → exec (.countRead c) ⟨p, q⟩ = .next ⟨finish f (transferStatus t) [] (p2), q⟩))

/-- TI_WINDOW_SET sets the acceptance window of a slot that does not run (R270, R482). -/
def Sys2Proof.Claim.WindowIsSet : Prop :=
  ∀ (p : Piece) (q : List Instr) (c : Cmd) (f : Flight) (p1 : Piece) (b : Bytes) (n : Nat) (w : CountWindow) (z0 r0 s0 t0 v0 : Bool), Claim.Starts 0x0706 c p f p1 →
    b = f.body → n = u b 0 1 → w = { armSrc := u b 1 1, armEdge := bitAt (u b 2 1) 0, openDelay := u b 8 8, width := u b 16 8, winMin := sgn b 24 8, winMax := sgn b 32 8 } →
    z0 = (!(w.armSrc == 0xFF) && w.width == 0) →
    r0 = (decide (31 < n) || (!(w.armSrc == 0xFF) && decide (23 < w.armSrc)) || decide (1 < u b 2 1) || u b 3 5 != 0) →
    s0 = (decide (10 ^ 18 < w.openDelay) || (w.width != 0 && decide (w.width < 1000)) || decide (10 ^ 18 < w.width)) →
    t0 = (decide (w.winMin < -(10 ^ 10)) || decide (w.winMax ≤ w.winMin) || decide (10 ^ 18 < w.winMax)) →
    v0 = ((p1.slot n).state == .running) →
    (z0 = true → exec (.tiWindowSet c) ⟨p, q⟩ = .next ⟨finish f 2 [] p1, q⟩) ∧
    (z0 = false → r0 = true → exec (.tiWindowSet c) ⟨p, q⟩ = .next ⟨finish f 1 [] p1, q⟩) ∧
    (z0 = false → r0 = false → s0 = true → exec (.tiWindowSet c) ⟨p, q⟩ = .next ⟨finish f 1 [] p1, q⟩) ∧
    (z0 = false → r0 = false → s0 = false → t0 = true → exec (.tiWindowSet c) ⟨p, q⟩ = .next ⟨finish f 1 [] p1, q⟩) ∧
    (z0 = false → r0 = false → s0 = false → t0 = false → v0 = true → exec (.tiWindowSet c) ⟨p, q⟩ = .next ⟨finish f 9 [] p1, q⟩) ∧
    (z0 = false → r0 = false → s0 = false → t0 = false → v0 = false → exec (.tiWindowSet c) ⟨p, q⟩ = .next ⟨finish f 0 [] (onSlot n (fun c => { c with window := w }) p1), q⟩)

/-- COUNT_START_APPLY: at its tick a start takes effect: a TIME or MANUAL slot opens gate 0 at B0 and the command returns B0, another waits for its stamp and the command returns the tick; before it
nothing changes (R261, R262, R279, R479). -/
def Sys2Proof.Claim.CountStartTakesEffect : Prop :=
  ∀ (p : Piece) (q : List Instr) (n : Fin 32) (c : CountSlot) (m : List SlotMark) (t b0 : Nat), islandDead p 0x20 = false → c = p.slot n →
    m = (if freqValid p then c.marks else { start := t, stop := none, cause := 4 } :: c.marks) → b0 = firstBoundary p c.setting t →
    (c.startAt = none → exec (.countStartApply n) ⟨p, q⟩ = .next ⟨p, q⟩) ∧
    (c.startAt = some t →
      (p.now < t → exec (.countStartApply n) ⟨p, q⟩ = .next ⟨p, q⟩) ∧
      (t ≤ p.now → c.setting.mode = 1 ∨ c.setting.mode = 2 → exec (.countStartApply n) ⟨p, q⟩ =
        .next ⟨finishWaiting .countStart n 0 (fun _ => [low32 t, high32 t, 1]) (onSlot n (fun c => { c with startAt := none, marks := m }) p), q⟩) ∧
      (t ≤ p.now → c.setting.mode ≠ 1 → c.setting.mode ≠ 2 → exec (.countStartApply n) ⟨p, q⟩ =
        .next ⟨finishWaiting .countStart n 0 (fun _ => [low32 b0, high32 b0, 0])
          (onSlot n (fun c => openGate p 0 (T16.ofTick b0) { c with startAt := none, marks := m }) p), q⟩))

/-- COUNT_START, COUNT_STOP, COUNT_READ and TI_WINDOW_SET. It says where these answer a next state: countStart, countStop, countRead, tiWindowSet, countStartApply. -/
def Obligations.CounterCommands : Prop :=
  Claim.CountStartArmsASlot ∧ Claim.CountStopSetsTheEnd ∧ Claim.CountReadReturnsTheLatest ∧ Claim.WindowIsSet ∧ Claim.CountStartTakesEffect

/-- A gate opens at its boundary with its number; in TIME mode it ends GATE ticks later; a slot that has had all its GATES opens no more (R262, R265). -/
def Sys2Proof.Claim.GateOpensAtItsBoundary : Prop :=
  ∀ (p : Piece) (seq : Nat) (b : T16) (c d : CountSlot), d = openGate p seq b c →
    (c.setting.continuous = false → c.setting.gates ≤ seq → d = c) ∧
    (c.setting.continuous = true ∨ seq < c.setting.gates → d.gateSeq = seq ∧ ∃ g : Gate, d.gates = c.gates ++ [g] ∧ g.seq = seq ∧ g.b0 = b ∧ g.stamps = [] ∧ g.items = [] ∧
      (c.setting.mode = 0 → g.b1 = some (b + T16.ofTick c.setting.gate) ∧ g.b2 = some (b + 2 * T16.ofTick c.setting.gate)) ∧
      (c.setting.mode ≠ 0 → g.b1 = none ∧ g.b2 = none))

/-- ORDERING_RELEASE: the earliest stamp of a started slot is released once 16 µs have passed since its time and no gate closes before it; else nothing changes (R266, R267). -/
def Sys2Proof.Claim.EarliestStampIsReleased : Prop :=
  ∀ (p : Piece) (q : List Instr) (n : Fin 32) (c : CountSlot), islandDead p 0x20 = false → c = p.slot n →
    (c.ordering = [] → exec (.orderingRelease n) ⟨p, q⟩ = .next ⟨p, q⟩) ∧
    (∀ (s : Stamp) (r : List Stamp), c.ordering = s :: r →
      (c.startAt = none → tapReached p s.time = true → closeFirst c s = false → exec (.orderingRelease n) ⟨p, q⟩ =
        .next ⟨onSlot n (fun c => releaseStamp p s { c with ordering := r }) p, q⟩) ∧
      (c.startAt ≠ none ∨ tapReached p s.time = false ∨ closeFirst c s = true → exec (.orderingRelease n) ⟨p, q⟩ = .next ⟨p, q⟩))

/-- The ordering stage of a slot keeps its stamps in the order of their times: a stamp that enters one in order leaves it in order, and none is lost (R267). -/
def Sys2Proof.Claim.OrderingStageKeepsOrder : Prop :=
  ∀ (c : CountSlot) (s : Stamp) (l : List Stamp), l.Pairwise (fun a b => a.time ≤ b.time) →
    (insertBy (stampBefore c) s l).Pairwise (fun a b => a.time ≤ b.time) ∧ (insertBy (stampBefore c) s l).length = l.length + 1 ∧
    ∀ x, x ∈ insertBy (stampBefore c) s l ↔ x = s ∨ x ∈ l

/-- GATE_CLOSE: the oldest gate of a running slot closes when its end stamp has come or the released order reaches its end, before the slot's own end; else the slot ends at its end tick; else
nothing changes (R266, R280, R291). -/
def Sys2Proof.Claim.GateCloses : Prop :=
  ∀ (p : Piece) (q : List Instr) (n : Fin 32) (c : CountSlot) (g : Gate) (cl : Bool), islandDead p 0x20 = false → c = p.slot n → g = c.gates.headD {} →
    (cl = true ↔ c.gates ≠ [] ∧ ((c.setting.single = true ∧ g.endTaken = true) ∨ ∃ b, timedClose c = some b ∧ orderReached p c b = true ∧
      ∀ t x y, c.ending = some (t, x, y) → b ≤ T16.ofTick t)) →
    (c.state ≠ .running → exec (.gateClose n) ⟨p, q⟩ = .next ⟨p, q⟩) ∧
    (c.state = .running →
      (∀ upTo : Int, cl = true → ((∀ b, g.b1 = some b → upTo = fine b) ∧ (g.b1 = none → upTo = 0)) → exec (.gateClose n) ⟨p, q⟩ =
        .next ⟨afterClose n g.seq (closeOldest n false 0 (onSlot n (decideOpenings upTo) p)), q⟩) ∧
      (cl = false → c.ending = none → exec (.gateClose n) ⟨p, q⟩ = .next ⟨p, q⟩) ∧
      (∀ t x y, cl = false → c.ending = some (t, x, y) → exec (.gateClose n) ⟨p, q⟩ =
        .next ⟨if orderReached p c (T16.ofTick t) then closeAtEnd n t x y p else p, q⟩))

/-- The end of a slot is the earlier of its COUNT_STOP, with cause 2, and the loss of its source; of equal ticks COUNT_STOP holds (R280, R291). -/
def Sys2Proof.Claim.EarlierEndHolds : Prop :=
  ∀ c : CountSlot, (c.stopAt = none → c.lossAt = none → c.ending = none) ∧ (∀ s, c.stopAt = some s → c.lossAt = none → c.ending = some (s, 2, 0)) ∧
    (∀ s t x, c.stopAt = some s → c.lossAt = some (t, x) → s ≤ t → c.ending = some (s, 2, 0)) ∧
    (∀ s t x, c.stopAt = some s → c.lossAt = some (t, x) → t < s → c.ending = some (t, x - 3, x)) ∧
    (∀ t x, c.stopAt = none → c.lossAt = some (t, x) → c.ending = some (t, x - 3, x))

/-- RESULT_ISSUE: records that waited longer than 20 µs are dropped and counted; the oldest of the rest is issued where 500 ns have passed since the last (R288). -/
def Sys2Proof.Claim.ResultIsIssuedInItsTurn : Prop :=
  ∀ (p p0 : Piece) (q : List Instr), islandDead p 0x20 = false → p0 = dropLate p →
    (p0.tally.results = [] → exec .resultIssue ⟨p, q⟩ = .next ⟨p0, q⟩) ∧
    (∀ (r : CountRecord) (l : List CountRecord), p0.tally.results = r :: l →
      ((∀ t, p0.tally.issuedAt = some t → t + 1280 ≤ p0.now) → exec .resultIssue ⟨p, q⟩ =
        .next ⟨issueRecord r { p0 with tally := { p0.tally with results := l, issuedAt := some p0.now } }, q⟩) ∧
      (∀ t, p0.tally.issuedAt = some t → p0.now < t + 1280 → exec .resultIssue ⟨p, q⟩ = .next ⟨p0, q⟩))

/-- A record has 128 bytes, and an issued one keeps them (R286). -/
def Sys2Proof.Claim.RecordHas128Bytes : Prop :=
  ∀ (slot f n v a d l g : Nat) (r : CountResult) (st : Bool), (recordBytes slot r f n v a d l g st).length = 128 ∧
    u (recordBytes slot r f n v a d l g st) 0 4 = r.gateSeq % 2 ^ 32 ∧
    ∀ x : Nat, ((recordBytes slot r f n v a d l g st).take 120 ++ leBytes 4 x ++ (recordBytes slot r f n v a d l g st).drop 124).length = 128

/-- A record that falls due waits for its turn, one in 500 ns; one whose turn would come more than 20 µs later is dropped, counted at its slot and at the panel (R288, R289). -/
def Sys2Proof.Claim.LateRecordIsCounted : Prop :=
  ∀ (p p' : Piece) (n : Nat) (bs : Bytes) (st : Bool), p' = pushRecord n bs st p → n < p.tally.slots.length →
    (issueTick p ≤ p.now + 20 * ticksPerUs → p'.tally.slots = p.tally.slots ∧ p'.tally.resultsLost = p.tally.resultsLost ∧
      p'.tally.results = p.tally.results ++ [{ slot := n, closed := p.now, record := bs, stats := st }]) ∧
    (p.now + 20 * ticksPerUs < issueTick p → p'.tally.results = p.tally.results ∧ p'.tally.resultsLost = min (p.tally.resultsLost + 1) (2 ^ 32 - 1) ∧
      (p'.slot n).lost = min ((p.slot n).lost + 1) (2 ^ 32 - 1) ∧ (p'.slot n).lostSince = min ((p.slot n).lostSince + 1) (2 ^ 32 - 1))

/-- The numbers missing before a record are those between the source's last SEQ and its own, mod 2^32 (R264, R284). -/
def Sys2Proof.Claim.MissingRecordsAreCounted : Prop :=
  ∀ (s : Stamp) (c : CountSlot), (lookup c.lastSeqs s.source = none → (noteSeq s c).1 = 0) ∧
    (∀ prev : Nat, lookup c.lastSeqs s.source = some prev → prev < 2 ^ 32 → s.seq < 2 ^ 32 → (prev + 1 + (noteSeq s c).1) % 2 ^ 32 = s.seq)

/-- Counter slots: gates, the ordering stage, ends, and result records. It says where these answer a next state: orderingRelease, gateClose, resultIssue. -/
def Obligations.Counter : Prop :=
  Claim.GateOpensAtItsBoundary ∧ Claim.EarliestStampIsReleased ∧ Claim.OrderingStageKeepsOrder ∧ Claim.GateCloses ∧ Claim.EarlierEndHolds ∧
  Claim.ResultIsIssuedInItsTurn ∧ Claim.RecordHas128Bytes ∧ Claim.LateRecordIsCounted ∧ Claim.MissingRecordsAreCounted

/-- KERNEL_LOAD checks the mask, the image's header, its magic, version and CRC, and then writes the image into every named core and returns its CRC; a core that runs gives ST_STATE (R346, R347, R486). -/
def Sys2Proof.Claim.KernelLoadWritesTheImage : Prop :=
  ∀ (p : Piece) (q : List Instr) (c : Cmd) (f : Flight) (p1 : Piece) (b : Bytes) (cs : List Nat) (n : Nat) (z0 r0 s0 t0 : Bool), Claim.Starts 0x0901 c p f p1 →
    b = f.body → cs = namedCores b → n = u b 16 4 →
    z0 = (u b 1 1 % 16 == 0) →
    r0 = (decide (3 < u b 0 1) || u b 1 1 / 16 != 0 || !isZero (slice b 2 6) || (u b 20 4 != 0 || u b 8 8 % 64 != 0 || !rangeOk p1.dmc (u b 8 8) n)) →
    s0 = (anyCore p1 b (·.state == .running)) →
    t0 = (slotRuns p1 && cs.any (decide <| 12 ≤ ·)) →
    (z0 = true → exec (.kernelLoad c) ⟨p, q⟩ = .next ⟨finish f 2 [] p1, q⟩) ∧
    (z0 = false → r0 = true → exec (.kernelLoad c) ⟨p, q⟩ = .next ⟨finish f 1 [] p1, q⟩) ∧
    (z0 = false → r0 = false → s0 = true → exec (.kernelLoad c) ⟨p, q⟩ = .next ⟨finish f 9 [] p1, q⟩) ∧
    (z0 = false → r0 = false → s0 = false → t0 = true → exec (.kernelLoad c) ⟨p, q⟩ = .next ⟨finish f 8 [] p1, q⟩) ∧
    (z0 = false → r0 = false → s0 = false → t0 = false → 
      (∀ (t : Transfer), pieceRead p1 (u b 8 8) 64 c.read = .error t → exec (.kernelLoad c) ⟨p, q⟩ = .next ⟨finish f (transferStatus t) [] (p1), q⟩) ∧
      (∀ (d : Bytes), pieceRead p1 (u b 8 8) 64 c.read = .ok d → (u d 12 4 == 0) = true → exec (.kernelLoad c) ⟨p, q⟩ = .next ⟨finish f 2 [] (p1), q⟩) ∧
      (∀ (d : Bytes), pieceRead p1 (u b 8 8) 64 c.read = .ok d → (u d 12 4 == 0) = false → headerBad d n = true → exec (.kernelLoad c) ⟨p, q⟩ = .next ⟨finish f 1 [] (p1), q⟩) ∧
      (∀ (d : Bytes) (t : Transfer), pieceRead p1 (u b 8 8) 64 c.read = .ok d → (u d 12 4 == 0) = false → headerBad d n = false → pieceRead p1 (u b 8 8) n c.read = .error t → exec (.kernelLoad c) ⟨p, q⟩ = .next ⟨finish f (transferStatus t) [] (p1), q⟩) ∧
      (∀ (d i : Bytes), pieceRead p1 (u b 8 8) 64 c.read = .ok d → (u d 12 4 == 0) = false → headerBad d n = false → pieceRead p1 (u b 8 8) n c.read = .ok i → (u i 0 4 != 0x4E524B47 || u i 4 2 != 1 || imageCrc i != u i 48 4) = true → exec (.kernelLoad c) ⟨p, q⟩ = .next ⟨finish f 10 [] (p1), q⟩) ∧
      (∀ (d i : Bytes), pieceRead p1 (u b 8 8) 64 c.read = .ok d → (u d 12 4 == 0) = false → headerBad d n = false → pieceRead p1 (u b 8 8) n c.read = .ok i → (u i 0 4 != 0x4E524B47 || u i 4 2 != 1 || imageCrc i != u i 48 4) = false → exec (.kernelLoad c) ⟨p, q⟩ = .next ⟨finish f 0 [u i 48 4] (cs.foldl (fun p k => onCore k (loadCore i) p) p1), q⟩))

/-- KERNEL_START starts every named core at its ENTRY with cleared registers and four arguments in S1 to S4, at one tick, the first Gythen cycle at least 16 cycles on (R335, R348, R486). -/
def Sys2Proof.Claim.KernelStartRunsTheNamed : Prop :=
  ∀ (p : Piece) (q : List Instr) (c : Cmd) (f : Flight) (p1 : Piece) (b : Bytes) (cs : List Nat) (t : Nat) (a : List Nat) (z0 r0 s0 t0 : Bool), Claim.Starts 0x0902 c p f p1 →
    b = f.body → cs = namedCores b → t = kernelTick p1.now → a = (((List.range 4).map fun i => u b (8 + 4 * i) 4)) →
    z0 = (u b 1 1 % 16 == 0) →
    r0 = (decide (3 < u b 0 1) || u b 1 1 / 16 != 0 || !isZero (slice b 2 6) || false) →
    s0 = (anyCore p1 b (fun c => c.image.isNone || c.state == .running)) →
    t0 = (slotRuns p1 && cs.any (decide <| 12 ≤ ·)) →
    (z0 = true → exec (.kernelStart c) ⟨p, q⟩ = .next ⟨finish f 2 [] p1, q⟩) ∧
    (z0 = false → r0 = true → exec (.kernelStart c) ⟨p, q⟩ = .next ⟨finish f 1 [] p1, q⟩) ∧
    (z0 = false → r0 = false → s0 = true → exec (.kernelStart c) ⟨p, q⟩ = .next ⟨finish f 9 [] p1, q⟩) ∧
    (z0 = false → r0 = false → s0 = false → t0 = true → exec (.kernelStart c) ⟨p, q⟩ = .next ⟨finish f 8 [] p1, q⟩) ∧
    (z0 = false → r0 = false → s0 = false → t0 = false → exec (.kernelStart c) ⟨p, q⟩ = .next ⟨finish f 0 [low32 t, high32 t] (cs.foldl (fun p k => onCore k (startCore a t) p) p1), q⟩)

/-- KERNEL_STOP stops each named core that runs and has not halted, and returns which they were; a firmware kernel is not to be had (R349, R350, R486). -/
def Sys2Proof.Claim.KernelStopStopsTheNamed : Prop :=
  ∀ (p : Piece) (q : List Instr) (c : Cmd) (f : Flight) (p1 : Piece) (b : Bytes) (cs : List Nat) (s : List Nat) (z0 r0 s0 : Bool), Claim.Starts 0x0903 c p f p1 →
    b = f.body → cs = namedCores b → s = (cs.filter fun i => (p1.core i).state == .running && !(p1.core i).halted) →
    z0 = (u b 1 1 % 16 == 0) →
    r0 = (decide (3 < u b 0 1) || u b 1 1 / 16 != 0 || !isZero (slice b 2 6) || false) →
    s0 = (anyCore p1 b (·.firmware)) →
    (z0 = true → exec (.kernelStop c) ⟨p, q⟩ = .next ⟨finish f 2 [] p1, q⟩) ∧
    (z0 = false → r0 = true → exec (.kernelStop c) ⟨p, q⟩ = .next ⟨finish f 1 [] p1, q⟩) ∧
    (z0 = false → r0 = false → s0 = true → exec (.kernelStop c) ⟨p, q⟩ = .next ⟨finish f 8 [] p1, q⟩) ∧
    (z0 = false → r0 = false → s0 = false → exec (.kernelStop c) ⟨p, q⟩ = .next ⟨finish f 0 [maskOf 4 fun i => s.contains (4 * u b 0 1 + i)] (s.foldl (fun p k => onCore k (fun c => { c with state := .stopped, lastPc := c.pc }) p) p1), q⟩)

/-- GYTHEN_BUNDLE: a core that issues takes its late writes, and then faults on a memory error, on a PC beyond its code, or as its bundle says; a post waits on a full queue; else both slots act,
slot X first, and the core goes on as slot Y says. A core that is not running a started user kernel issues nothing (R338, R341 to R345, R372). -/
def Sys2Proof.Claim.CoreIssuesItsBundle : Prop :=
  ∀ (p : Piece) (q : List Instr) (k : Fin 16) (c : Core) (w : Nat), islandDead p (0x28 + k.val / 4) = false → c = ageLate (p.core k) →
    w = (lookup c.imem (c.pc / 8)).getD (Config.instructionMemory k (c.pc / 8)).toNat →
    (issues p (p.core k) = false → exec (.gythenBundle k) ⟨p, q⟩ = .next ⟨p, q⟩) ∧
    (issues p (p.core k) = true →
      (c.memErr = true → exec (.gythenBundle k) ⟨p, q⟩ = .next ⟨coreFault k 7 0 p, q⟩) ∧
      (c.memErr = false → c.codeLen ≤ c.pc → exec (.gythenBundle k) ⟨p, q⟩ = .next ⟨coreFault k 3 0 p, q⟩) ∧
      (c.memErr = false → c.pc < c.codeLen →
        (∀ cause addr, decodeBundle { core := k, now := p.now, free := p.free } w p c = .error (cause, addr) →
          exec (.gythenBundle k) ⟨p, q⟩ = .next ⟨coreFault k cause addr p, q⟩) ∧
        (∀ sx sy f, decodeBundle { core := k, now := p.now, free := p.free } w p c = .ok (sx, sy, f) →
          (stalls c f = true → exec (.gythenBundle k) ⟨p, q⟩ = .next ⟨onCore k (fun c => { c with cycles := c.cycles + 1 }) p, q⟩) ∧
          (stalls c f = false → ∃ c' : Core, c' = noteReady (readyCycle c (sx.uses ++ sy.uses) (sx.chains ++ sy.chains)) sy
              (noteReady (readyCycle c (sx.uses ++ sy.uses) (sx.chains ++ sy.chains)) sx (sy.act (sx.act { c with cycles := readyCycle c (sx.uses ++ sy.uses) (sx.chains ++ sy.chains) + 1 }))) ∧
            exec (.gythenBundle k) ⟨p, q⟩ = .next ⟨when (f == .fetch) (issueFetch k) (onCore k (fun _ => follow c.pc f c') { p with free := p.free + 1 }), q⟩))))

/-- A core that faults shows FAULT with the cause, the data address and the PC of the bundle, and a KERNEL_END record of its panel is raised; no other core changes (R345, R351). -/
def Sys2Proof.Claim.FaultStopsTheCore : Prop :=
  ∀ (p p' : Piece) (k cause addr : Nat) (c : Core), p' = coreFault k cause addr p → c = p.core k → k < p.gythen.cores.length →
    p'.core k = { c with state := .fault, cause := cause, faultAddr := addr, lastPc := c.pc } ∧ (∀ j : Nat, j ≠ k → p'.core j = p.core j) ∧
    ∃ x : EventRecord, p'.transport.raised = p.transport.raised ++ [x] ∧ x.kind = 0x05 ∧ x.panelType = 0x0C ∧ x.inst = k / 4

/-- KERNEL_DONE: a core whose HALT has issued is DONE once its post queue is empty, with its KERNEL_END record; POST_QUEUE_DRAIN: the oldest entry leaves toward TALLY or STREAM (R345, R349, R371, R372). -/
def Sys2Proof.Claim.PostsDrainBeforeDone : Prop :=
  ∀ (p p0 : Piece) (q : List Instr) (k : Fin 16) (c : Core) (r : List PostEntry), islandDead p (0x28 + k.val / 4) = false → c = p.core k →
    p0 = onCore k (fun c => { c with queue := r }) p →
    (c.state = .running → c.halted = true → c.queue = [] → exec (.kernelDone k) ⟨p, q⟩ = .next ⟨kernelEnd k (onCore k (fun c => { c with state := .done, lastPc := c.pc, cause := 0 }) p), q⟩) ∧
    (c.state ≠ .running ∨ c.halted = false ∨ c.queue ≠ [] → exec (.kernelDone k) ⟨p, q⟩ = .next ⟨p, q⟩) ∧
    (c.queue = [] → exec (.postQueueDrain k) ⟨p, q⟩ = .next ⟨p, q⟩) ∧
    (∀ x v, c.queue = .tally x v :: r → exec (.postQueueDrain k) ⟨p, q⟩ = .next ⟨onTally (fun t => { t with posts := t.posts ++
      [{ core := k, context := x, value := signed 32 v, at_ := p.now }] }) p0, q⟩) ∧
    (∀ ch d, c.queue = .stream ch d :: r → exec (.postQueueDrain k) ⟨p, q⟩ =
      .next ⟨sendStream { channel := ch, kind := 0x13, panelType := 0x0C, inst := k, record := d } p0, q⟩)

/-- FETCH_GO: a running core that has not halted issues a fetch of its declared contexts, or faults; a third outstanding fetch is ignored and counted. FETCH_COMPLETE: the oldest lands in data memory
(R333, R334). -/
def Sys2Proof.Claim.FetchIsIssuedAndLands : Prop :=
  ∀ (p : Piece) (q : List Instr) (k : Fin 16) (c : Core), islandDead p (0x28 + k.val / 4) = false → c = p.core k →
    (c.state ≠ .running ∨ c.halted = true → exec (.fetchGo k) ⟨p, q⟩ = .next ⟨p, q⟩) ∧
    (∀ cause addr, c.state = .running → c.halted = false → fetchFault c = some (cause, addr) → exec (.fetchGo k) ⟨p, q⟩ = .next ⟨coreFault k cause addr p, q⟩) ∧
    (c.state = .running → c.halted = false → fetchFault c = none → 2 ≤ c.fetches.length → exec (.fetchGo k) ⟨p, q⟩ = .next ⟨onCore k (fun c => { c with refused := sat32 c.refused 1 }) p, q⟩) ∧
    (c.state = .running → c.halted = false → fetchFault c = none → c.fetches.length < 2 → exec (.fetchGo k) ⟨p, q⟩ = .next ⟨onCore k (fun x => { x with fetches := x.fetches ++ [{ dest := c.fetchDest, data := (List.range c.fetchCount).flatMap fun i => indexBytes (slotSums p) p.tally.contexts (c.fetchCtx + i) }] }) p, q⟩) ∧
    (c.fetches = [] → exec (.fetchComplete k) ⟨p, q⟩ = .next ⟨p, q⟩) ∧
    (∀ f r, c.fetches = f :: r → exec (.fetchComplete k) ⟨p, q⟩ = .next ⟨onCore k (fun c => dataWrite f.dest f.data { c with fetches := r, fetchDone := min 15 (c.fetchDone + 1) }) p, q⟩) ∧
    (c.fetchCount = 0 ∨ 64 < c.fetchCount → fetchFault c = some (3, 0x10001C))

/-- TIME_LO_READ captures the high word of the tick for a running core. STAMP_POP gives a firmware kernel its next word; a user kernel faults with BOUNDS (R332, R350). -/
def Sys2Proof.Claim.PortsAreReadAsStated : Prop :=
  ∀ (p : Piece) (q : List Instr) (k : Fin 16) (c : Core), islandDead p (0x28 + k.val / 4) = false → c = p.core k →
    (c.state = .running → exec (.timeLoRead k) ⟨p, q⟩ = .next ⟨onCore k (fun c => { c with timeHi := some (high32 p.now) }) p, q⟩) ∧
    (c.state ≠ .running → exec (.timeLoRead k) ⟨p, q⟩ = .next ⟨p, q⟩) ∧
    (c.state = .running → c.halted = false → c.firmware = true → exec (.stampPop k) ⟨p, q⟩ = .next ⟨onCore k (fun c => (popStamp p.free c).2) { p with free := p.free + 1 }, q⟩) ∧
    (c.state = .running → c.halted = false → c.firmware = false → exec (.stampPop k) ⟨p, q⟩ = .next ⟨coreFault k 1 0x100030 p, q⟩) ∧
    (c.state ≠ .running ∨ c.halted = true → exec (.stampPop k) ⟨p, q⟩ = .next ⟨p, q⟩)

/-- FIRMWARE_KERNEL_HALT: once the last slot has stopped, every core with a firmware kernel is IDLE with no image; user kernels go on (R350). -/
def Sys2Proof.Claim.FirmwareKernelsHalt : Prop :=
  ∀ (p : Piece) (q : List Instr),
    (p.gythen.idleSince = none → exec .firmwareKernelHalt ⟨p, q⟩ = .next ⟨p, q⟩) ∧
    (p.gythen.idleSince ≠ none → ∃ p', exec .firmwareKernelHalt ⟨p, q⟩ = .next ⟨p', q⟩ ∧ p' = { p with gythen := p'.gythen } ∧ p'.gythen.idleSince = none ∧
      ∀ k : Nat, k < p.gythen.cores.length → ((p.core k).firmware = false → p'.core k = p.core k) ∧
        ((p.core k).firmware = true → (p'.core k).state = .idle ∧ (p'.core k).firmware = false ∧ (p'.core k).image = none ∧ (p'.core k).lastPc = (p.core k).pc))

/-- GYTHEN: kernel commands, bundles, faults, posts, fetches, ports and firmware kernels. It says where these answer a next state: kernelLoad, kernelStart, kernelStop, gythenBundle, kernelDone, postQueueDrain, fetchGo, fetchComplete, timeLoRead, stampPop, firmwareKernelHalt. -/
def Obligations.GythenCores : Prop :=
  Claim.KernelLoadWritesTheImage ∧ Claim.KernelStartRunsTheNamed ∧ Claim.KernelStopStopsTheNamed ∧ Claim.CoreIssuesItsBundle ∧
  Claim.FaultStopsTheCore ∧ Claim.PostsDrainBeforeDone ∧ Claim.FetchIsIssuedAndLands ∧ Claim.PortsAreReadAsStated ∧
  Claim.FirmwareKernelsHalt

/-- Where a core goes on: to the next bundle, or to a branch target with the loops it leaves closed and two cycles more; HALT stays and takes S1 as the exit value; a post that the sandbox takes joins the queue
(R340, R341, R369, R371, R372). -/
def Sys2Proof.Claim.FlowMovesThePc : Prop :=
  ∀ (pc : Nat) (c : Core),
    (c.levels = [] → follow pc .next c = { c with pc := pc + 8 }) ∧
    (∀ t, (follow pc (.jump t) c).pc = t ∧ (follow pc (.jump t) c).cycles = c.cycles + 2 ∧ (follow pc (.jump t) c).s = c.s ∧
      ∀ l ∈ (follow pc (.jump t) c).levels, l.start ≤ t ∧ t ≤ l.stop) ∧
    (follow pc .halt c).pc = pc ∧ (follow pc .halt c).halted = true ∧ (follow pc .halt c).exit = nth c.s 1 ∧
    (∀ e, c.levels = [] → (follow pc (.post e) c).queue = c.queue ++ [e] ∧ (follow pc (.post e) c).posts = (c.posts + 1) % 2 ^ 32 ∧ (follow pc (.post e) c).pc = pc + 8) ∧
    (c.levels = [] → (follow pc .denied c).queue = c.queue ∧ (follow pc .denied c).denied = min (c.denied + 1) (2 ^ 32 - 1) ∧ (follow pc .denied c).pc = pc + 8) ∧
    (∀ stop, c.levels = [] → (follow pc (.rep 0 stop) c).pc = stop + 8 ∧ (follow pc (.rep 0 stop) c).levels = [])

/-- At the END of the innermost loop: a count above 1 is reduced and the body begins again; else the count is 0 and the loop is closed (R340). -/
def Sys2Proof.Claim.LoopEndRepeatsOrCloses : Prop :=
  ∀ (pc d : Nat) (c : Core), (nth c.levels d).stop = pc → d < c.lc.length →
    (1 < nth c.lc d → endCheck pc (d + 1) c = { c with lc := put c.lc d (nth c.lc d - 1), pc := (nth c.levels d).start }) ∧
    (nth c.lc d ≤ 1 → d = 0 → endCheck pc (d + 1) c = { c with lc := put c.lc d 0, levels := [] }) ∧
    ((nth c.levels d).stop = pc → ∀ e : Core, (nth e.levels d).stop ≠ pc → endCheck pc (d + 1) e = e)

/-- ADD and SUB give the sum or difference in 32 bits, with Z, N, C and V of it; C of a difference is no borrow; the sticky bits stay (R357, R364). -/
def Sys2Proof.Claim.AddAndSubtractSetTheFlags : Prop :=
  ∀ (c e : Core) (d a b x y r : Nat) (t : Int) (sub : Bool), x = nth c.s a → y = nth c.s b → x < 2 ^ 32 → y < 2 ^ 32 → d < e.s.length →
    r = (if sub then (x + 2 ^ 32 - y) % 2 ^ 32 else (x + y) % 2 ^ 32) → t = (if sub then signed 32 x - signed 32 y else signed 32 x + signed 32 y) →
    ∃ z : SlotEffect, alu d a b (if sub then 1 else 0) c = .ok z ∧ z.writes = [.s d] ∧ z.uses = [.s a, .s b] ∧ nth (z.act e).s d = r ∧
      (bitAt (z.act e).flags 0 = true ↔ r = 0) ∧ bitAt (z.act e).flags 1 = bitAt r 31 ∧
      (bitAt (z.act e).flags 2 = true ↔ if sub then y ≤ x else 2 ^ 32 ≤ x + y) ∧ (bitAt (z.act e).flags 3 = true ↔ satW 32 t ≠ t) ∧
      (z.act e).flags / 16 = e.flags / 16 ∧ (z.act e).pc = e.pc ∧ (z.act e).v = e.v ∧ (z.act e).acc = e.acc ∧ ∀ j, j ≠ d → nth (z.act e).s j = nth e.s j

/-- AND, OR and XOR; shifts by the low six bits; the upper and lower halves of the product; each writes its one register (R364). -/
def Sys2Proof.Claim.LogicShiftsAndProducts : Prop :=
  ∀ (c e : Core) (d a b x y fn r : Nat), x = nth c.s a → y = nth c.s b → d < e.s.length →
    ((fn = 4 ∧ r = x &&& y) ∨ (fn = 5 ∧ r = x ||| y) ∨ (fn = 6 ∧ r = x ^^^ y) ∨ (fn = 7 ∧ r = x * 2 ^ (y % 64)) ∨ (fn = 8 ∧ r = x / 2 ^ (y % 64)) ∨
      (fn = 9 ∧ r = twos 32 (signed 32 x / 2 ^ (y % 64))) ∨ (fn = 11 ∧ r = twos 32 (signed 32 x * signed 32 y)) ∨
      (fn = 12 ∧ r = twos 32 (signed 32 x * signed 32 y / 2 ^ 32)) ∨ (fn = 13 ∧ r = twos 32 (min (signed 32 x) (signed 32 y))) ∨
      (fn = 14 ∧ r = twos 32 (max (signed 32 x) (signed 32 y)))) →
    ∃ z : SlotEffect, alu d a b fn c = .ok z ∧ z.writes = [.s d] ∧ nth (z.act e).s d = r % 2 ^ 32 ∧ (∀ j, j ≠ d → nth (z.act e).s j = nth e.s j) ∧
      (z.act e).v = e.v ∧ (z.act e).acc = e.acc ∧ (z.act e).pc = e.pc ∧ (z.act e).flags / 16 = e.flags / 16

/-- A saturating vector write clamps every lane to its width and sets SATV where that changed one; SATV is sticky (R356). A wrapping write sets nothing. -/
def Sys2Proof.Claim.VectorWritesSaturateOrWrap : Prop :=
  ∀ (w d : Nat) (ls : List Int) (c : Core), d < c.v.length →
    nth (writeSat w d ls c).v d = pack w (ls.map (satW w)) ∧ nth (writeWrap w d ls c).v d = pack w ls ∧ (writeWrap w d ls c).flags = c.flags ∧
    ((∀ x ∈ ls, satW w x = x) → (writeSat w d ls c).flags = c.flags) ∧ (∀ x ∈ ls, satW w x ≠ x → (writeSat w d ls c).flags = c.flags ||| 0x20) ∧
    (writeSat w d ls c).acc = c.acc ∧ (writeSat w d ls c).s = c.s ∧ ∀ j, j ≠ d → nth (writeSat w d ls c).v j = nth c.v j

/-- The vector operations VADD, VSUB, VMIN and VMAX act on lanes of 16 or 32 bits; a field that they do not use must be zero (R354, R358). -/
def Sys2Proof.Claim.VectorOperationsActOnLanes : Prop :=
  ∀ (x w : Nat) (c : Core) (l : List Int → List Int → List Int), w = (if bitAt x 25 then 32 else 16) → field x 0 12 = 0 →
    ((field x 26 6 = 1 ∧ l = List.zipWith (· + ·)) ∨ (field x 26 6 = 2 ∧ l = List.zipWith (· - ·)) ∨ (field x 26 6 = 3 ∧ bitAt x 24 = false ∧ l = List.zipWith min) ∨
      (field x 26 6 = 4 ∧ bitAt x 24 = false ∧ l = List.zipWith max)) →
    slotX x c = .ok { uses := [.v (field x 16 4), .v (field x 12 4)], writes := [.v (field x 20 4)], distance := 2, act := (if bitAt x 24 then writeSat else writeWrap) w (field x 20 4) (l (lanes w (nth c.v (field x 16 4))) (lanes w (nth c.v (field x 12 4)))) }

/-- MAC: the accumulator, of the width of its tag, takes the lane products added; another width is illegal (R359). -/
def Sys2Proof.Claim.MacAccumulates : Prop :=
  ∀ (x w n : Nat) (c : Core), w = (if bitAt x 25 then 32 else 16) → n = field x 10 2 → field x 26 6 = 0x11 → field x 0 10 = 0 → field x 20 5 = 0 →
    (bitAt c.wide n = bitAt x 25 → slotX x c = .ok { uses := [.v (field x 16 4), .v (field x 12 4)], chains := [.acc n], writes := [.acc n], distance := 3, chain := 1, act := writeAcc n (bitAt x 25) (List.zipWith (· + ·) (nth c.acc n) (List.zipWith (· * ·) (lanes w (nth c.v (field x 16 4))) (lanes w (nth c.v (field x 12 4))))) }) ∧
    (bitAt c.wide n ≠ bitAt x 25 → slotX x c = .error (4, 0))

/-- Circular addressing keeps An in its buffer of Ln bytes from Bn; with Ln zero the update is linear in 32 bits; Ln above 1,048,576 faults (R336 to R338). -/
def Sys2Proof.Claim.CircularAddressStaysInside : Prop :=
  ∀ (n : Nat) (t : Int) (c : Core), n < c.a.length →
    (nth c.l n = 0 → ∃ e, updateAddress n t c = some e ∧ nth e.a n = twos 32 (Int.ofNat (nth c.a n) + t)) ∧ (0x100000 < nth c.l n → updateAddress n t c = none) ∧
    (0 < nth c.l n → nth c.l n ≤ 0x100000 → nth c.b n + nth c.l n ≤ 2 ^ 32 →
      ∃ e, updateAddress n t c = some e ∧ nth c.b n ≤ nth e.a n ∧ nth e.a n < nth c.b n + nth c.l n ∧
        (Int.ofNat (nth e.a n) - (Int.ofNat (nth c.a n) + t)) % Int.ofNat (nth c.l n) = 0)

/-- A write of On is seen from the second bundle on (R343). -/
def Sys2Proof.Claim.LateWriteIsSeenByTheSecondBundle : Prop :=
  ∀ (n v : Nat) (c : Core), c.late = [] → n < c.o.length →
    (ageLate (later (.o n) v c)).o = c.o ∧ nth (ageLate (ageLate (later (.o n) v c))).o n = v ∧ (ageLate (ageLate (later (.o n) v c))).late = []

/-- Gythen instructions: flow, loops, scalar and vector operations, accumulators, addressing and late writes. -/
def Obligations.GythenInstructions : Prop :=
  Claim.FlowMovesThePc ∧ Claim.LoopEndRepeatsOrCloses ∧ Claim.AddAndSubtractSetTheFlags ∧ Claim.LogicShiftsAndProducts ∧
  Claim.VectorWritesSaturateOrWrap ∧ Claim.VectorOperationsActOnLanes ∧ Claim.MacAccumulates ∧ Claim.CircularAddressStaysInside ∧
  Claim.LateWriteIsSeenByTheSecondBundle

/-- TALLY_BIND gives a range its class, binding and parameter with empty data from the first tally-island cycle at least 16 cycles on, or frees it with class 0; WATCH sets or clears a watch entry; it returns the tick (R306, R312, R483). -/
def Sys2Proof.Claim.BindSetsTheContexts : Prop :=
  ∀ (p : Piece) (q : List Instr) (c : Cmd) (f : Flight) (p1 : Piece) (b : Bytes) (first : Nat) (n : Nat) (cls : Nat) (m : Nat) (bd : Nat) (pm : Nat) (bs : Nat) (t : Nat) (bad : Bool) (full : Bool) (l : List (Nat × Nat)) (z0 r0 s0 t0 v0 : Bool), Claim.Starts 0x0801 c p f p1 →
    b = f.body → first = u b 0 4 → n = u b 4 4 → cls = u b 8 1 → m = u b 9 1 → bd = u b 10 2 → pm = u b 12 4 → bs = u b 16 8 → t = sixteenCycles p1.now → bad = (match classOf cls with | some c => !bindOk p1 c bd pm bs first n | none => cls != 0 || pm != 0 || bs != 0) → full = (match classOf cls with | some c => bindFull p1 c bd pm n | none => false) → l = (if !bitAt m 7 then p1.tally.watch else if cls == 0 then p1.tally.watch.filter (·.1 != m % 64) else insert' p1.tally.watch (m % 64) first) →
    z0 = (n == 0) →
    r0 = (decide (2 ^ 20 < first + n) || bitAt m 6 || bad) →
    s0 = (cls != 0 && p1.tally.contexts.any (Context.within first n)) →
    t0 = (rangeOwned p1 first n || p1.tally.clearing) →
    v0 = (full) →
    (z0 = true → exec (.tallyBind c) ⟨p, q⟩ = .next ⟨finish f 2 [] p1, q⟩) ∧
    (z0 = false → r0 = true → exec (.tallyBind c) ⟨p, q⟩ = .next ⟨finish f 1 [] p1, q⟩) ∧
    (z0 = false → r0 = false → s0 = true → exec (.tallyBind c) ⟨p, q⟩ = .next ⟨finish f 9 [] p1, q⟩) ∧
    (z0 = false → r0 = false → s0 = false → t0 = true → exec (.tallyBind c) ⟨p, q⟩ = .next ⟨finish f 3 [] p1, q⟩) ∧
    (z0 = false → r0 = false → s0 = false → t0 = false → v0 = true → exec (.tallyBind c) ⟨p, q⟩ = .next ⟨finish f 8 [] p1, q⟩) ∧
    (z0 = false → r0 = false → s0 = false → t0 = false → v0 = false → 
      (∀ (k : TallyClass), classOf cls = some k → exec (.tallyBind c) ⟨p, q⟩ = .next ⟨finish f 0 [low32 t, high32 t] ({ p1 with tally := { p1.tally with contexts := p1.tally.contexts ++ boundContexts k bd pm bs first n t, watch := l } }), q⟩) ∧
      (cls = 0 → exec (.tallyBind c) ⟨p, q⟩ = .next ⟨finish f 0 [low32 t, high32 t] ({ p1 with tally := { p1.tally with contexts := p1.tally.contexts.filter (fun x => !x.within first n), watch := l } }), q⟩))

/-- TALLY_SNAPSHOT takes one of four slots, gets the panel-wide number and waits until its last line is written; its cut is the arrival or CUT_MINT (R310, R311, R484). -/
def Sys2Proof.Claim.SnapshotTakesASlot : Prop :=
  ∀ (p : Piece) (q : List Instr) (c : Cmd) (f : Flight) (p1 : Piece) (b : Bytes) (first : Nat) (n : Nat) (cl : Bool) (sh : Bool) (cut : Nat) (dest : Nat) (mixed : Bool) (z0 r0 s0 : Bool), Claim.Starts 0x0802 c p f p1 →
    b = f.body → first = u b 0 4 → n = u b 4 4 → cl = bitAt (u b 8 1) 7 → sh = bitAt (u b 8 1) 6 → cut = u b 16 8 → dest = u b 24 8 → mixed = (p1.tally.contexts.filter (Context.within first n)).any (·.cls != .regr) →
    z0 = (n == 0) →
    r0 = (decide (65536 < n) || decide (2 ^ 20 < first + n) || u b 8 1 % 64 != 0 || u b 9 7 != 0 || !destOk p1.dmc dest (64 + 64 * n) || (sh && (!cl || mixed)) || (cut != 0 && (decide (cut < p1.now + 32) || decide (p1.now + 10 * ticksPerSecond < cut)))) →
    s0 = (((List.range 4).find? fun k => (nth p1.tally.snaps k).isNone).isNone || overlapsSnap p1 first n || (cl && rangeOwned p1 first n)) →
    (z0 = true → exec (.tallySnapshot c) ⟨p, q⟩ = .next ⟨finish f 2 [] p1, q⟩) ∧
    (z0 = false → r0 = true → exec (.tallySnapshot c) ⟨p, q⟩ = .next ⟨finish f 1 [] p1, q⟩) ∧
    (z0 = false → r0 = false → s0 = true → exec (.tallySnapshot c) ⟨p, q⟩ = .next ⟨finish f 3 [] p1, q⟩) ∧
    (z0 = false → r0 = false → s0 = false → ∀ (k : Nat), (List.range 4).find? (fun k => (nth p1.tally.snaps k).isNone) = some k → exec (.tallySnapshot c) ⟨p, q⟩ = .next ⟨settle (setFlight { f with progress := .waiting .tallySnapshot k [] } ({ p1 with tally := { p1.tally with snapSeq := (p1.tally.snapSeq + 1) % 2 ^ 32, snaps := put p1.tally.snaps k (some { seq := p1.tally.snapSeq, first := first, count := n, clear := cl, share := sh, dest := dest, cutMint := cut }) } })), q⟩)

/-- TALLY_CLEAR empties the data and the sticky bits of a range in one cycle and keeps class, binding, parameter, BASE, P and the reference of R299; it returns the tick (R308, R485). -/
def Sys2Proof.Claim.ClearEmptiesTheRange : Prop :=
  ∀ (p : Piece) (q : List Instr) (c : Cmd) (f : Flight) (p1 : Piece) (first : Nat) (n : Nat) (z0 r0 s0 : Bool), Claim.Starts 0x0803 c p f p1 →
    first = u f.body 0 4 → n = u f.body 4 4 →
    z0 = (n == 0) →
    r0 = (decide (2 ^ 20 < first + n)) →
    s0 = (rangeOwned p1 first n || overlapsSnap p1 first n || p1.tally.clearing) →
    (z0 = true → exec (.tallyClear c) ⟨p, q⟩ = .next ⟨finish f 2 [] p1, q⟩) ∧
    (z0 = false → r0 = true → exec (.tallyClear c) ⟨p, q⟩ = .next ⟨finish f 1 [] p1, q⟩) ∧
    (z0 = false → r0 = false → s0 = true → exec (.tallyClear c) ⟨p, q⟩ = .next ⟨finish f 3 [] p1, q⟩) ∧
    (z0 = false → r0 = false → s0 = false → exec (.tallyClear c) ⟨p, q⟩ = .next ⟨finish f 0 [low32 p1.now, high32 p1.now] ({ p1 with tally := { p1.tally with contexts := p1.tally.contexts.map (fun x => if x.within first n then { x with sticky := 0, data := { base := x.data.base, period := x.data.period } } else x) } }), q⟩)

/-- A SUM context takes a value: COUNT, SUM and SUMSQ grow by 1, v and v², MIN and MAX follow; a field that would pass its limit stays there and sets SAT; a COUNT at its maximum stops all (R300, R305). -/
def Sys2Proof.Claim.SumTakesAValue : Prop :=
  ∀ (w : Nat) (v : Int) (x y : Context), y = takeSum w v x →
    (x.data.count = 2 ^ w - 1 → y = { x with sticky := x.sticky ||| 32 }) ∧
    (x.data.count ≠ 2 ^ w - 1 →
      y.data = { x.data with count := x.data.count + 1, sum := max (-(2 ^ 95)) (min (2 ^ 95 - 1) (x.data.sum + v)), sumSq := min (2 ^ 128 - 1) (x.data.sumSq + (v * v).toNat), least := (if x.data.count = 0 then v else min x.data.least v), greatest := (if x.data.count = 0 then v else max x.data.greatest v) } ∧
      (-(2 ^ 95) ≤ x.data.sum + v → x.data.sum + v < 2 ^ 95 → x.data.sumSq + (v * v).toNat < 2 ^ 128 → y.sticky = x.sticky) ∧
      (x.data.sum + v < -(2 ^ 95) ∨ 2 ^ 95 ≤ x.data.sum + v ∨ 2 ^ 128 ≤ x.data.sumSq + (v * v).toNat → y.sticky = x.sticky ||| 32)) ∧
    y.index = x.index ∧ y.cls = x.cls ∧ y.binding = x.binding ∧ y.param = x.param ∧ y.ref = x.ref

/-- A HIST8 context counts a value in one place: below BASE in UNDER, beyond bucket 7 in OVER, else in its bucket; no count passes its limit (R301, R305). -/
def Sys2Proof.Claim.HistCountsInOnePlace : Prop :=
  ∀ (v b : Int) (x y : Context), y = takeHist v x → b = (v - x.data.base) / 2 ^ (x.param % 64) →
    (v < x.data.base → y.data = { x.data with under := min (2 ^ 32 - 1) (x.data.under + 1) }) ∧
    (x.data.base ≤ v → 8 ≤ b → y.data = { x.data with above := min (2 ^ 32 - 1) (x.data.above + 1) }) ∧
    (x.data.base ≤ v → b < 8 → y.data = { x.data with buckets := put x.data.buckets b.toNat (min (2 ^ 40 - 1) (nth x.data.buckets b.toNat + 1)) } ∧ 0 ≤ b)

/-- A stamp gives its interval from the last stamp the context took; the first one, one after a gap, and one with CROWD set the reference and make no update, with GAP or CROWD (R299). -/
def Sys2Proof.Claim.StampGivesItsInterval : Prop :=
  ∀ (s : Stamp) (x y : Context), y = takeInterval64 s x →
    y.ref = some (s.seq, s.time) ∧ (x.ref = none → y.data = x.data) ∧ (bitAt s.flags 3 = true → y.data = x.data) ∧
    (∀ n t, x.ref = some (n, t) → s.seq ≠ (n + 1) % 2 ^ 32 → y.data = x.data ∧ y.sticky = x.sticky ||| (4 + stampSticks s)) ∧
    (∀ n t, x.ref = some (n, t) → s.seq = (n + 1) % 2 ^ 32 → bitAt s.flags 3 = true → y.sticky = x.sticky ||| (2 + stampSticks s)) ∧
    (∀ n t, x.ref = some (n, t) → s.seq = (n + 1) % 2 ^ 32 → bitAt s.flags 3 = false →
      y = takeValue (max (-(2 ^ 47)) (min (2 ^ 47 - 1) (s.time - t))) { x with ref := some (s.seq, s.time), sticky := x.sticky ||| stampSticks s })

/-- A PAIR context holds one start: a new start replaces it and counts in NO_STOP; a stop without a start counts in NO_START; a stop takes its start, and counts a pair less than 2⁴⁷ units long (R303). -/
def Sys2Proof.Claim.PairTakesStartsAndStops : Prop :=
  ∀ (s : Stamp) (x : Context),
    (takeStart s x).data = { x.data with start := some s.time, noStop := min (2 ^ 16 - 1) (x.data.noStop + if x.data.start.isSome then 1 else 0) } ∧
    (x.data.start = none → (takeStop s x).data = { x.data with noStart := min (2 ^ 16 - 1) (x.data.noStart + 1) }) ∧
    (∀ t, x.data.start = some t → 2 ^ 47 ≤ s.time - t → (takeStop s x).data = { x.data with start := none, noStop := min (2 ^ 16 - 1) (x.data.noStop + 1) }) ∧
    (∀ t, x.data.start = some t → s.time - t < 2 ^ 47 → takeStop s x = takeSum 32 (s.time - t) { x with data := { x.data with start := none } })

/-- TALLY_STAMP_UPDATE: the oldest stamp on its way updates the contexts of its key, waits for the PAIR contexts that take it, and PAIR contexts take what 16 µs have passed for (R297 to R303). -/
def Sys2Proof.Claim.StampUpdatesItsContexts : Prop :=
  ∀ (p p1 p2 : Piece) (q : List Instr) (s : Stamp) (r : List Stamp), islandDead p 0x20 = false →
    p1 = updateStamp s { p with tally := { p.tally with stamps := r } } →
    p2 = (if p1.tally.contexts.any (fun x => takesStart s x || takesStop s x) then
      { p1 with tally := { p1.tally with pairStamps := insertBy (fun (a b : Stamp) => decide (a.time < b.time)) s p1.tally.pairStamps } } else p1) →
    (p.tally.stamps = s :: r → exec .tallyStampUpdate ⟨p, q⟩ = .next ⟨releasePairs p2.tally.pairStamps.length p2, q⟩) ∧
    (p.tally.stamps = [] → exec .tallyStampUpdate ⟨p, q⟩ = .next ⟨releasePairs p.tally.pairStamps.length p, q⟩) ∧
    (p.tally.stamps = [] → (∀ x ∈ p.tally.pairStamps, tapReached p x.time = false) → exec .tallyStampUpdate ⟨p, q⟩ = .next ⟨p, q⟩)

/-- TALLY_XFORM_UPDATE: the oldest item on its way leaves; it updates the contexts of its stream whose bin it has, each with its bin; with no context of its stream it changes nothing more; within the
capacity no item is dropped (R304, R307). -/
def Sys2Proof.Claim.ItemUpdatesItsContexts : Prop :=
  ∀ (p p1 : Piece) (q : List Instr) (it : TallyItem) (r : List TallyItem) (mine : Context → Bool), islandDead p 0x20 = false →
    p1 = { p with tally := { p.tally with items := r } } → mine = (fun x => x.cls == .spec && x.binding == 0x2000 + 4 * it.item.src + it.inst) →
    (p.tally.items = [] → exec .tallyXformUpdate ⟨p, q⟩ = .next ⟨p, q⟩) ∧
    (p.tally.items = it :: r → p1.tally.contexts.any mine = false → exec .tallyXformUpdate ⟨p, q⟩ = .next ⟨p1, q⟩) ∧
    (p.tally.items = it :: r → p1.tally.contexts.any mine = true → specRate p1 ≤ specLimit → exec .tallyXformUpdate ⟨p, q⟩ =
      .next ⟨updateAll (T16.ofTick it.item.mint) (fun x => mine x && decide (x.param < it.item.values.length))
        (fun x => takeBin it.item (nth it.item.values x.param) x) { p1 with free := p1.free + 1 }, q⟩)

/-- TALLY_POST_UPDATE: the oldest post, at its tick, updates its context where that is bound to POST and is SUM or HIST8; else it is discarded and counted (R309). -/
def Sys2Proof.Claim.PostUpdatesItsContext : Prop :=
  ∀ (p p1 : Piece) (q : List Instr) (t : TallyPost) (r : List TallyPost) (f : Context → Bool), islandDead p 0x20 = false →
    p1 = { p with tally := { p.tally with posts := r } } →
    f = (fun x => x.index == t.context && x.binding / 4096 == 3 && (x.cls == .sum || x.cls == .hist) && decide (x.from_ ≤ p.now)) →
    (p.tally.posts = [] → exec .tallyPostUpdate ⟨p, q⟩ = .next ⟨p, q⟩) ∧
    (p.tally.posts = t :: r → p.now < t.at_ → exec .tallyPostUpdate ⟨p, q⟩ = .next ⟨p, q⟩) ∧
    (p.tally.posts = t :: r → t.at_ ≤ p.now → p.tally.contexts.any f = true → exec .tallyPostUpdate ⟨p, q⟩ =
      .next ⟨updateAll (T16.ofTick t.at_) f (takeValue t.value) p1, q⟩) ∧
    (p.tally.posts = t :: r → t.at_ ≤ p.now → p.tally.contexts.any f = false → exec .tallyPostUpdate ⟨p, q⟩ =
      .next ⟨{ p1 with tally := { p1.tally with postRejected := min (p.tally.postRejected + 1) (2 ^ 32 - 1) } }, q⟩)

/-- An update outside every snapshot's range changes its one context and no other thing of the piece (R298, R310). -/
def Sys2Proof.Claim.UpdateChangesOneContext : Prop :=
  ∀ (p : Piece) (t : T16) (f : Context → Context) (x : Context), (∀ k n, k < 4 → nth p.tally.snaps k = some n → n.covers x.index = false) →
    updateContext t f x p = { p with tally := { p.tally with contexts := p.tally.contexts.map (fun z => if z.index == x.index then f x else z) } }

/-- TALLY_SNAPSHOT_CUT: a final cut freezes every context of the range not frozen yet, and with CLEAR each starts again; the rest waits (R310, R311). -/
def Sys2Proof.Claim.CutFreezesTheRange : Prop :=
  ∀ (p p' : Piece) (q : List Instr) (k : Fin 4) (n : TallySnap) (at_ : Nat), islandDead p 0x20 = false → k.val < p.tally.snaps.length → at_ = (if n.cutMint = 0 then p.now else n.cutMint) →
    (nth p.tally.snaps k = none → exec (.tallySnapshotCut k) ⟨p, q⟩ = .next ⟨p, q⟩) ∧
    (nth p.tally.snaps k = some n → cutFinal p n = false → exec (.tallySnapshotCut k) ⟨p, q⟩ = .next ⟨p, q⟩) ∧
    (nth p.tally.snaps k = some n → cutFinal p n = true → n.cut = true → exec (.tallySnapshotCut k) ⟨p, q⟩ = .next ⟨p, q⟩) ∧
    (nth p.tally.snaps k = some n → cutFinal p n = true → n.cut = false → p' = cutSnap k p → exec (.tallySnapshotCut k) ⟨p, q⟩ = .next ⟨p', q⟩ ∧
      (∃ n' : TallySnap, nth p'.tally.snaps k = some n' ∧ n' = { n with cut := true, cutAt := at_, frozen := n'.frozen, sums := slotSums p, label := n'.label } ∧
        n'.frozen = n.frozen ++ p.tally.contexts.filter (fun x => x.within n.first n.count && !n.frozen.any (·.index == x.index))) ∧
      p'.tally.contexts = p.tally.contexts.map (fun x => if n.clear && (x.within n.first n.count && !n.frozen.any (·.index == x.index)) then x.emptied else x) ∧
      p' = { p with tally := { p.tally with contexts := p'.tally.contexts, snaps := p'.tally.snaps } })

/-- A snapshot's header is 64 bytes and begins with its number, its first context and its count (R311). -/
def Sys2Proof.Claim.SnapshotHeaderHas64Bytes : Prop :=
  ∀ (n : TallySnap) (a : Bool), (snapHeader n a).length = 64 ∧ u (snapHeader n a) 0 4 = n.seq % 2 ^ 32

/-- TALLY_SNAPSHOT_DONE: after its cut the header and the contexts in index order are written, its slot is free, and its command completes with its number and the contexts written; a snapshot that is
not cut yet, or none, changes nothing (R311). -/
def Sys2Proof.Claim.SnapshotIsWritten : Prop :=
  ∀ (p p2 : Piece) (q : List Instr) (k : Fin 4) (r : Option Nat) (n : TallySnap) (bs : Bytes) (st w : Nat),
    bs = snapHeader n (isDevice n.dest && dmcRefuses p.dmc) ++ (List.range n.count).flatMap (fun m => indexBytes n.sums n.frozen (n.first + m)) →
    readoutWrite (isDevice n.dest) n.dest bs r p = (p2, st, w) →
    (nth p.tally.snaps k = none → exec (.tallySnapshotDone k r) ⟨p, q⟩ = .next ⟨p, q⟩) ∧
    (nth p.tally.snaps k = some n → n.cut = false → exec (.tallySnapshotDone k r) ⟨p, q⟩ = .next ⟨p, q⟩) ∧
    (nth p.tally.snaps k = some n → n.cut = true → exec (.tallySnapshotDone k r) ⟨p, q⟩ = .next ⟨finishWaiting .tallySnapshot k st (fun _ => [n.seq, w / 64 - 1])
      { p2 with tally := { p2.tally with snaps := put p2.tally.snaps k none } }, q⟩)

/-- TALLY_STORE_CLEAR_DONE ends CLEARING and changes nothing else (R312, R314). -/
def Sys2Proof.Claim.StoreClearEnds : Prop :=
  ∀ (p : Piece) (q : List Instr), islandDead p 0x20 = false → exec .tallyStoreClearDone ⟨p, q⟩ = .next ⟨{ p with tally := { p.tally with clearing := false } }, q⟩

/-- The 64 bytes of each class of context, REGR_EXT included (R298, R300 to R304). -/
def Sys2Proof.Claim.ContextHas64Bytes : Prop :=
  ∀ x : Context, (x.data.buckets.length = 8 → (contextBytes x).length = 64) ∧ (extBytes x).length = 64

/-- The tally engine: contexts, statistics, histograms, stamps, cuts, snapshots and clears. It says where these answer a next state: tallyBind, tallySnapshot, tallyClear, tallyStampUpdate, tallyXformUpdate, tallyPostUpdate, tallySnapshotCut, tallySnapshotDone, tallyStoreClearDone. -/
def Obligations.Tally : Prop :=
  Claim.BindSetsTheContexts ∧ Claim.SnapshotTakesASlot ∧ Claim.ClearEmptiesTheRange ∧ Claim.SumTakesAValue ∧ Claim.HistCountsInOnePlace ∧
  Claim.StampGivesItsInterval ∧ Claim.PairTakesStartsAndStops ∧ Claim.StampUpdatesItsContexts ∧ Claim.ItemUpdatesItsContexts ∧
  Claim.PostUpdatesItsContext ∧ Claim.UpdateChangesOneContext ∧ Claim.CutFreezesTheRange ∧ Claim.SnapshotHeaderHas64Bytes ∧
  Claim.SnapshotIsWritten ∧ Claim.StoreClearEnds ∧ Claim.ContextHas64Bytes

/-- CAL_POLICY_SET sets periods, DELTA_T and both enable masks; an override reads the constants of its element, fixes them, clears the enable bit and changes the epoch; constants that cannot be read change nothing (R326, R517). -/
def Sys2Proof.Claim.PolicyIsSetWithItsOverride : Prop :=
  ∀ (p : Piece) (q : List Instr) (c : Cmd) (f : Flight) (p1 : Piece) (b : Bytes) (a : Nat) (o : Nat) (z : Nat) (e : Nat) (p2 : Piece) (z0 r0 : Bool), Claim.Starts 0x0D01 c p f p1 →
    b = f.body → a = u b 16 8 → o = u b 15 1 → z = (if bitAt o 6 then 512 else 16) → e = o % 64 → p2 = { p1 with cal := { p1.cal with slicePeriod := u b 0 4, sliceAway := u b 4 2, rotInterval := u b 8 4, deltaT := u b 12 1, sliceEn := u b 13 1, interpEn := u b 14 1 } } →
    z0 = (u b 0 4 == 0 || u b 4 2 == 0 || u b 8 4 == 0 || u b 12 1 == 0) →
    r0 = (decide (u b 0 4 < 10) || decide (10000 < u b 0 4) || decide (50 < u b 4 2) || decide (u b 8 4 < 1000) || decide (1000000 < u b 8 4) || decide (u b 12 1 < 4) || decide (160 < u b 12 1) || u b 6 2 != 0 || decide (15 < u b 13 1) || decide (15 < u b 14 1) || (if bitAt o 7 then decide ((if bitAt o 6 then 16 else 12) ≤ e) || !tableAddrOk p1.dmc a z else a != 0)) →
    (z0 = true → exec (.calPolicySet c) ⟨p, q⟩ = .next ⟨finish f 2 [] p1, q⟩) ∧
    (z0 = false → r0 = true → exec (.calPolicySet c) ⟨p, q⟩ = .next ⟨finish f 1 [] p1, q⟩) ∧
    (z0 = false → r0 = false → 
      (bitAt o 7 = false → exec (.calPolicySet c) ⟨p, q⟩ = .next ⟨finish f 0 [] (p2), q⟩) ∧
      (∀ (t : Transfer), bitAt o 7 = true → pieceRead p1 a z c.read = .error t → exec (.calPolicySet c) ⟨p, q⟩ = .next ⟨finish f (transferStatus t) [] (p1), q⟩) ∧
      (∀ (d : Bytes), bitAt o 7 = true → bitAt o 6 = true → pieceRead p1 a z c.read = .ok d → exec (.calPolicySet c) ⟨p, q⟩ = .next ⟨finish f 0 [] (overrideInterp (e / 4) (e % 4) ((List.range 256).map (fun i => u d (2 * i) 2)) p2), q⟩) ∧
      (∀ (d : Bytes), bitAt o 7 = true → bitAt o 6 = false → pieceRead p1 a z c.read = .ok d → u d 12 4 ≠ 0 → exec (.calPolicySet c) ⟨p, q⟩ = .next ⟨finish f 1 [] (p1), q⟩) ∧
      (∀ (d : Bytes), bitAt o 7 = true → bitAt o 6 = false → pieceRead p1 a z c.read = .ok d → u d 12 4 = 0 → exec (.calPolicySet c) ⟨p, q⟩ = .next ⟨finish f 0 [] (overrideSlice (e / 3) (e % 3) { offset := sgn d 0 4, gain := sgn d 4 4, skew := sgn d 8 4 } p2), q⟩))

/-- CAL_RUN: FULL starts a run with the engines idle and completes at its end; the other actions change the mode at once with a CALIBRATION record; any action in STARTUP gives ST_STATE (R315, R316, R320, R518). -/
def Sys2Proof.Claim.CalRunStartsOrChangesMode : Prop :=
  ∀ (p : Piece) (q : List Instr) (c : Cmd) (f : Flight) (p1 : Piece) (b : Bytes) (z0 r0 s0 : Bool), Claim.Starts 0x0D02 c p f p1 →
    b = f.body →
    z0 = (decide (3 < u b 0 1) || u b 1 7 != 0) →
    r0 = (p1.cal.mode == .startup || (u b 0 1 == 0 && !p1.cal.running && !enginesIdle p1)) →
    s0 = (u b 0 1 == 0 && p1.cal.running) →
    (z0 = true → exec (.calRun c) ⟨p, q⟩ = .next ⟨finish f 1 [] p1, q⟩) ∧
    (z0 = false → r0 = true → exec (.calRun c) ⟨p, q⟩ = .next ⟨finish f 9 [] p1, q⟩) ∧
    (z0 = false → r0 = false → s0 = true → exec (.calRun c) ⟨p, q⟩ = .next ⟨finish f 3 [] p1, q⟩) ∧
    (z0 = false → r0 = false → s0 = false → 
      (∀ (p2 : Piece), u b 0 1 = 0 → p2 = endVisits p1 → exec (.calRun c) ⟨p, q⟩ = .next ⟨settle (setFlight { f with progress := .waiting .calRun 0 [] } ({ p2 with cal := { p2.cal with running := true, began := p1.now, beganTemp := dieTemp p1, startDue := false } })), q⟩) ∧
      (∀ (m : CalMode), (u b 0 1 = 1 ∧ m = .service) ∨ (u b 0 1 = 2 ∧ m = .test) ∨ (u b 0 1 = 3 ∧ m = .recovery) → exec (.calRun c) ⟨p, q⟩ = .next ⟨finish f 0 [] (calEvent false { p1 with cal := { p1.cal with mode := m } }), q⟩))

/-- CAL_STATUS returns status, policy, the end of the last full run with its temperature, and the match failures, and changes nothing else (R518). -/
def Sys2Proof.Claim.CalStatusReports : Prop :=
  ∀ (p : Piece) (q : List Instr) (c : Cmd) (f : Flight) (p1 : Piece) (z0 : Bool), Claim.Starts 0x0D03 c p f p1 →
    
    z0 = (!isZero f.body) →
    (z0 = true → exec (.calStatus c) ⟨p, q⟩ = .next ⟨finish f 1 [] p1, q⟩) ∧
    (z0 = false → exec (.calStatus c) ⟨p, q⟩ = .next ⟨finish f 0 [calStatus p1, p1.cal.deltaT * 2 ^ 16 + p1.cal.interpEn * 2 ^ 8 + p1.cal.sliceEn, low32 p1.cal.lastFull, high32 p1.cal.lastFull, p1.cal.lastTemp, p1.cal.matchFail] (p1), q⟩)

/-- FULL_CAL_START: a run that fell due starts once the engines are idle and no run is on; else nothing changes (R318, R319, R320). -/
def Sys2Proof.Claim.DueRunStartsWhenIdle : Prop :=
  ∀ (p p2 : Piece) (q : List Instr) (due : Bool), due = (p.cal.startDue || (p.cal.rerunDue && (p.cal.mode == .test || p.cal.mode == .recovery))) → p2 = endVisits p →
    (due = true → p.cal.running = false → enginesIdle p = true → exec .fullCalStart ⟨p, q⟩ = .next ⟨{ p2 with cal := { p2.cal with running := true, began := p.now, beganTemp := dieTemp p, startDue := false } }, q⟩) ∧
    (due = false ∨ p.cal.running = true ∨ enginesIdle p = false → exec .fullCalStart ⟨p, q⟩ = .next ⟨p, q⟩)

/-- FULL_CAL_END: 1.2 s after its start a run ends: LAST_FULL and its temperature are recorded, the run is counted, overrides end and the epoch changes; before that, or with no run, nothing changes
(R317, R326). -/
def Sys2Proof.Claim.FullRunEnds : Prop :=
  ∀ (p : Piece) (q : List Instr) (o : CalOutcome),
    (p.cal.running = false ∨ p.now < p.cal.began + 1200 * ticksPerMs → exec (.fullCalEnd o) ⟨p, q⟩ = .next ⟨p, q⟩) ∧
    (p.cal.running = true → p.cal.began + 1200 * ticksPerMs ≤ p.now → ∃ p', exec (.fullCalEnd o) ⟨p, q⟩ = .next ⟨p', q⟩ ∧
      p'.cal.running = false ∧ p'.cal.rerunDue = false ∧ p'.cal.lastFull = p.now ∧ p'.cal.lastTemp = dieTemp p ∧ p'.cal.fullCount = min (p.cal.fullCount + 1) (2 ^ 32 - 1) ∧
      p'.cal.epoch = p.cal.epoch + 1 ∧ p'.cal.sliceOverrides = 0 ∧ p'.cal.interpOverrides = 0 ∧ p'.cal.mode = p.cal.mode)

/-- A full run selects for an input the comparator of least jitter among those that are not retired and whose offset is within 1 mV; with none it selects none (R231). -/
def Sys2Proof.Claim.ComparatorIsSelected : Prop :=
  ∀ (o : CalOutcome) (n ret : Nat) (m : Nat → Nat × Int) (fit : Nat → Prop), m = (fun c => o.comps.getD (4 * n + c) (0, 0)) →
    (∀ c, fit c ↔ c < 4 ∧ bitAt ret c = false ∧ (m c).2.natAbs ≤ 1000) →
    (∀ c, selectComp o n ret = some c → fit c ∧ ∀ d, fit d → (m c).1 ≤ (m d).1) ∧ (selectComp o n ret = none → ∀ c, ¬fit c)

/-- In STARTUP a run whose temperature moved by more than DELTA_T is due again up to the third, which latches CAL_UNSTABLE (R319). -/
def Sys2Proof.Claim.StartupRepeatsUpToTheThird : Prop :=
  ∀ (p p' : Piece) (d : Nat), p' = judgeStartup p → d = apart (dieTemp p) p.cal.beganTemp →
    (p.cal.mode ≠ .startup → p' = p) ∧
    (p.cal.mode = .startup → p'.cal.startupRuns = p.cal.startupRuns + 1 ∧ (d ≤ p.cal.deltaT → p' = { p with cal := { p.cal with startupRuns := p.cal.startupRuns + 1 } }) ∧
      (p.cal.deltaT < d → p.cal.startupRuns < 2 → p'.cal.startDue = true ∧ p'.cal.unstable = p.cal.unstable) ∧
      (p.cal.deltaT < d → 2 ≤ p.cal.startupRuns → p'.cal.unstable = true ∧ p'.cal.startDue = p.cal.startDue))

/-- The steps of a run with their durations (R317). -/
def Sys2Proof.Claim.FullStepsFollowTheirTimes : Prop :=
  ∀ (p : Piece) (ms : Nat), (p.cal.running = false → fullStep p = 0) ∧ (p.cal.running = true → ms = (p.now - p.cal.began) / ticksPerMs →
    (fullStep p = 1 ↔ ms < 50) ∧ (fullStep p = 2 ↔ 50 ≤ ms ∧ ms < 450) ∧ (fullStep p = 3 ↔ 450 ≤ ms ∧ ms < 650) ∧ (fullStep p = 4 ↔ 650 ≤ ms ∧ ms < 900) ∧
    (fullStep p = 5 ↔ 900 ≤ ms ∧ ms < 1100) ∧ (fullStep p = 6 ↔ 1100 ≤ ms))

/-- Calibration: policy, runs, start-up repeats and the steps of the full run. It says where these answer a next state: calPolicySet, calRun, calStatus, fullCalStart, fullCalEnd. -/
def Obligations.Calibration : Prop :=
  Claim.PolicyIsSetWithItsOverride ∧ Claim.CalRunStartsOrChangesMode ∧ Claim.CalStatusReports ∧ Claim.DueRunStartsWhenIdle ∧
  Claim.FullRunEnds ∧ Claim.ComparatorIsSelected ∧ Claim.StartupRepeatsUpToTheThird ∧ Claim.FullStepsFollowTheirTimes

/-- STREAM_OPEN opens a closed channel as CHAIN or SOURCE, idle, with its check, seed and owner and all counters zero; an open one gives ST_STATE to its own session and ST_BUSY to another (R507, R522, R540). -/
def Sys2Proof.Claim.StreamOpenOpensAChannel : Prop :=
  ∀ (p : Piece) (q : List Instr) (c : Cmd) (f : Flight) (p1 : Piece) (b : Bytes) (ch : Nat) (fl : Nat) (o : StreamChannel) (z0 r0 s0 : Bool), Claim.Starts 0x0A01 c p f p1 →
    b = f.body → ch = u b 0 1 → fl = u b 3 1 → o = p1.streamCh ch →
    z0 = (decide (63 < ch) || decide (1 < u b 1 1) || decide (4 < u b 2 1) || fl % 64 != 0 || (bitAt fl 6 && u b 1 1 == 0) || (bitAt fl 7 && u b 1 1 == 1) || (bitAt fl 6 && !vdifOk (u b 4 4) (u b 8 8))) →
    r0 = (o.state != .closed && o.owner == f.session) →
    s0 = (o.state != .closed) →
    (z0 = true → exec (.streamOpen c) ⟨p, q⟩ = .next ⟨finish f 1 [] p1, q⟩) ∧
    (z0 = false → r0 = true → exec (.streamOpen c) ⟨p, q⟩ = .next ⟨finish f 9 [] p1, q⟩) ∧
    (z0 = false → r0 = false → s0 = true → exec (.streamOpen c) ⟨p, q⟩ = .next ⟨finish f 3 [] p1, q⟩) ∧
    (z0 = false → r0 = false → s0 = false → exec (.streamOpen c) ⟨p, q⟩ = .next ⟨finish f 0 [] (onStream ch (fun _ => { state := .idle, source := u b 1 1 == 1, vdifMode := bitAt fl 6, hallmark := bitAt fl 7, alg := u b 2 1, owner := f.session, streamId := u b 4 4, seed := u b 8 8 }) p1), q⟩)

/-- STREAM_CHAIN_SET starts the chain of an open CHAIN channel of its session at a 64-byte aligned descriptor, if none runs (R489, R508, R531). -/
def Sys2Proof.Claim.ChainSetStartsAChain : Prop :=
  ∀ (p : Piece) (q : List Instr) (c : Cmd) (f : Flight) (p1 : Piece) (b : Bytes) (ch : Nat) (a : Nat) (o : StreamChannel) (m : Bool) (z0 r0 s0 : Bool), Claim.Starts 0x0A02 c p f p1 →
    b = f.body → ch = u b 0 1 → a = u b 8 8 → o = p1.streamCh ch → m = (o.source || o.state == .running) →
    z0 = (decide (63 < ch) || !isZero (slice b 1 7) || !(a % 64 == 0 && rangeOk p1.dmc a 64)) →
    r0 = (o.state == .closed || (o.owner == f.session && m)) →
    s0 = (o.owner != f.session) →
    (z0 = true → exec (.streamChainSet c) ⟨p, q⟩ = .next ⟨finish f 1 [] p1, q⟩) ∧
    (z0 = false → r0 = true → exec (.streamChainSet c) ⟨p, q⟩ = .next ⟨finish f 9 [] p1, q⟩) ∧
    (z0 = false → r0 = false → s0 = true → exec (.streamChainSet c) ⟨p, q⟩ = .next ⟨finish f 3 [] p1, q⟩) ∧
    (z0 = false → r0 = false → s0 = false → exec (.streamChainSet c) ⟨p, q⟩ = .next ⟨finish f 0 [] (onStream ch (fun c => { c with state := .running, desc := a, first := true, atLink := false, linkIssued := false, extendPending := false }) p1), q⟩)

/-- STREAM_RING_SET disables a ring, stages a new length on a ring in use at the same addresses, with word 0 at 1, or starts a new ring at offset 0 and PASS 0 (R509, R522, R538, R539). -/
def Sys2Proof.Claim.RingSetStartsOrStagesARing : Prop :=
  ∀ (p : Piece) (q : List Instr) (c : Cmd) (f : Flight) (p1 : Piece) (b : Bytes) (ch : Nat) (len : Nat) (a : Nat) (k : Nat) (o : StreamChannel) (new : StreamRing) (same : Bool) (z0 r0 s0 : Bool), Claim.Starts 0x0A03 c p f p1 →
    b = f.body → ch = u b 0 1 → len = u b 4 4 → a = u b 8 8 → k = u b 16 8 → o = p1.streamCh ch → new = { base := a, length := len, consumerAddr := k, check := if o.vdifMode then 0 else o.seed } → same = (o.state == .running && o.ring.base == a && o.ring.consumerAddr == k && !ringEmpty p1 o.ring) →
    z0 = (decide (63 < ch) || !isZero (slice b 1 3) || a % 64 != 0 || k % 32 != 0 || !rangeOk p1.dmc a (64 * len) || !rangeOk p1.dmc k 32) →
    r0 = (o.state == .closed || (o.owner == f.session && !o.source)) →
    s0 = (o.owner != f.session) →
    (z0 = true → exec (.streamRingSet c) ⟨p, q⟩ = .next ⟨finish f 1 [] p1, q⟩) ∧
    (z0 = false → r0 = true → exec (.streamRingSet c) ⟨p, q⟩ = .next ⟨finish f 9 [] p1, q⟩) ∧
    (z0 = false → r0 = false → s0 = true → exec (.streamRingSet c) ⟨p, q⟩ = .next ⟨finish f 3 [] p1, q⟩) ∧
    (z0 = false → r0 = false → s0 = false → 
      ((len == 0) = true → exec (.streamRingSet c) ⟨p, q⟩ = .next ⟨finish f 0 [0] (onStream ch (fun c => { c with state := .idle, ring := new }) p1), q⟩) ∧
      ((len == 0) = false → same = true → exec (.streamRingSet c) ⟨p, q⟩ = .next ⟨finish f 0 [flag (len != o.ring.length) 0] (onStream ch (fun c => { c with ring := { c.ring with staged := if len == c.ring.length then none else some len } }) p1), q⟩) ∧
      ((len == 0) = false → same = false → exec (.streamRingSet c) ⟨p, q⟩ = .next ⟨finish f 0 [0] (onStream ch (fun c => { c with state := .running, ring := new }) p1), q⟩))

/-- STREAM_CLOSE closes a channel of its session, with everything of it at reset, and returns the bytes moved since it was opened (R489, R510, R551). -/
def Sys2Proof.Claim.StreamCloseClosesAChannel : Prop :=
  ∀ (p : Piece) (q : List Instr) (c : Cmd) (f : Flight) (p1 : Piece) (b : Bytes) (ch : Nat) (o : StreamChannel) (z0 r0 s0 : Bool), Claim.Starts 0x0A04 c p f p1 →
    b = f.body → ch = u b 0 1 → o = p1.streamCh ch →
    z0 = (decide (63 < ch) || !isZero (slice b 1 7)) →
    r0 = (o.state == .closed || (o.owner == f.session && false)) →
    s0 = (o.owner != f.session) →
    (z0 = true → exec (.streamClose c) ⟨p, q⟩ = .next ⟨finish f 1 [] p1, q⟩) ∧
    (z0 = false → r0 = true → exec (.streamClose c) ⟨p, q⟩ = .next ⟨finish f 9 [] p1, q⟩) ∧
    (z0 = false → r0 = false → s0 = true → exec (.streamClose c) ⟨p, q⟩ = .next ⟨finish f 3 [] p1, q⟩) ∧
    (z0 = false → r0 = false → s0 = false → exec (.streamClose c) ⟨p, q⟩ = .next ⟨finish f 0 [low32 o.bytes, high32 o.bytes] (onStream ch (fun _ => {}) p1), q⟩)

/-- CHECK_SCAN starts a scan on a free unit and waits for its value; a new scan of the same session replaces a periodic one, at the end of a running pass; an empty scan has its value at once; unit 7, and a unit in use, give ST_BUSY (R511, R547). -/
def Sys2Proof.Claim.CheckScanStartsOrReplaces : Prop :=
  ∀ (p : Piece) (q : List Instr) (c : Cmd) (f : Flight) (p1 : Piece) (b : Bytes) (i : Nat) (s : Scan) (x : CheckUnit) (old : Bool) (z0 r0 s0 : Bool), Claim.Starts 0x0A05 c p f p1 →
    b = f.body → i = u b 0 1 → s = scanOf b f.session → x = nth p1.check.units i → old = (match x.scan with | some o => o.session != f.session || !o.periodic | none => false) →
    z0 = (s.periodic && s.period == 0) →
    r0 = (decide (7 < i) || s.alg == 0 || decide (4 < s.alg) || u b 2 1 % 32 != 0 || u b 3 1 != 0 || !rangeOk p1.dmc s.start s.length) →
    s0 = (i == 7 || x.replacing.isSome || old) →
    (z0 = true → exec (.checkScan c) ⟨p, q⟩ = .next ⟨finish f 2 [] p1, q⟩) ∧
    (z0 = false → r0 = true → exec (.checkScan c) ⟨p, q⟩ = .next ⟨finish f 1 [] p1, q⟩) ∧
    (z0 = false → r0 = false → s0 = true → exec (.checkScan c) ⟨p, q⟩ = .next ⟨finish f 3 [] p1, q⟩) ∧
    (z0 = false → r0 = false → s0 = false → 
      (x.scanning = true → exec (.checkScan c) ⟨p, q⟩ = .next ⟨settle (setFlight { f with progress := .waiting .checkScan (i + 8) [] } (onUnit i (fun x => { x with replacing := some s }) p1)), q⟩) ∧
      (∀ (v : Nat), x.scanning = false → (s.length == 0) = true → v = scanValue s [] → exec (.checkScan c) ⟨p, q⟩ = .next ⟨finish f 0 [low32 v, high32 v, flag (s.compare && v == s.expected) 0] (recordScan i s v (beginScan i s p1)), q⟩) ∧
      (x.scanning = false → (s.length == 0) = false → exec (.checkScan c) ⟨p, q⟩ = .next ⟨settle (setFlight { f with progress := .waiting .checkScan i [] } (beginScan i s p1)), q⟩))

/-- DESCRIPTOR_COMPLETE on a running chain: the bytes of an accepted descriptor are moved, its bytes 40 to 63 are written with DONE and the check value, and the engine goes to its link; one that R526
rejects moves nothing and halts the channel with ERR_DESC; a failed fetch halts it with ERR_READ (R526, R528 to R531). -/
def Sys2Proof.Claim.DescriptorIsCarriedOut : Prop :=
  ∀ (p : Piece) (q : List Instr) (ch : Fin 64) (a x : Answer) (e : Option Nat) (c : StreamChannel), c = p.streamCh ch →
    (c.state ≠ .running ∨ c.source = true ∨ c.atLink = true → exec (.descriptorComplete ch a x e) ⟨p, q⟩ = .next ⟨p, q⟩) ∧
    (c.state = .running → c.source = false → c.atLink = false →
      (∀ t, pieceRead p c.desc 64 a = .error t → exec (.descriptorComplete ch a x e) ⟨p, q⟩ = .next ⟨onStream ch (fun c => { c with state := .halted, err := 1 }) p, q⟩) ∧
      (∀ b, pieceRead p c.desc 64 a = .ok b →
        (descriptorOk p.dmc b = false → exec (.descriptorComplete ch a x e) ⟨p, q⟩ =
          .next ⟨onStream ch (fun c => { c with state := .halted, err := 3, atLink := false, linkIssued := false }) (writeBack c.desc 3 0 0 false p), q⟩) ∧
        (∀ d v, descriptorOk p.dmc b = true → sourceBytes p b x = .ok d → (u b 16 4 = 0 ∨ (isDevice (u b 8 8) = true ∧ dmcRefuses p.dmc = false) ∨
            (isDevice (u b 8 8) = false ∧ p.hostif.linkUp = true)) → v = checkFrom c.alg (chainStart c b) d →
          exec (.descriptorComplete ch a x e) ⟨p, q⟩ = .next ⟨onStream ch (fun c => { c with bytes := (c.bytes + u b 16 4) % 2 ^ 64, running := v, first := false, atLink := true, linkIssued := true, extendPending := false })
            (writeBack c.desc 0 0 v (c.alg != 0) (moveBytes b d p)), q⟩)))

/-- A refused write halts the channel with ERR_WRITE and a failed read with ERR_READ; ERR_OFFSET is that of the failing line, and what lies before it was moved (R531). -/
def Sys2Proof.Claim.FailedTransferHaltsTheChannel : Prop :=
  ∀ (p : Piece) (ch : Nat) (b d : Bytes) (x : Answer) (e off : Nat) (c : StreamChannel), c = p.streamCh ch → descriptorOk p.dmc b = true →
    (sourceBytes p b x = .ok d → u b 16 4 ≠ 0 → isDevice (u b 8 8) = true → dmcRefuses p.dmc = true → off = lineOffset (u b 8 8) (min e (u b 16 4)) →
      runDescriptor ch b x (some e) p = failDescriptor ch 2 off (onStream ch (fun c => { c with bytes := c.bytes + off }) (moveBytes b (d.take off) p))) ∧
    (∀ t, sourceBytes p b x = .error t → off = lineOffset (u b 0 8) (min e (u b 16 4)) → isDevice (u b 8 8) = false ∨ dmcRefuses p.dmc = false ∨ off ≠ 0 →
      runDescriptor ch b x (some e) p = failDescriptor ch 1 off (onStream ch (fun c => { c with bytes := c.bytes + off }) (moveBytes b (movedBefore p b x off) p))) ∧
    (∀ k, (p.streamCh ch).desc = c.desc → failDescriptor ch k off p = onStream ch (fun c => { c with state := .halted, err := k, atLink := false, linkIssued := false })
      (writeBack c.desc k off 0 false p))

/-- The check of a descriptor starts from the seed, with the hallmark folded in where the channel says so, or with CHECK_CONT goes on from the last value; the first of a chain always restarts (R529,
R546). -/
def Sys2Proof.Claim.CheckStartsOrContinues : Prop :=
  ∀ (c : StreamChannel) (b : Bytes), (bitAt (u b 20 4) 31 = true → c.first = false → chainStart c b = c.running) ∧
    (bitAt (u b 20 4) 31 = false ∨ c.first = true → c.hallmark = false → chainStart c b = c.seed) ∧
    (bitAt (u b 20 4) 31 = false ∨ c.first = true → c.hallmark = true → chainStart c b = checkFrom c.alg c.seed (leBytes 8 (u b 8 8) ++ leBytes 4 (u b 24 4) ++ leBytes 4 c.streamId))

/-- CHAIN_LINK_READ: a link without END is followed; with END the engine reads again where a doorbell is pending, else parks; a failed read halts with ERR_READ (R531, R532). -/
def Sys2Proof.Claim.LinkIsFollowedOrParks : Prop :=
  ∀ (p : Piece) (q : List Instr) (ch : Fin 64) (a : Answer) (c : StreamChannel), c = p.streamCh ch →
    ((c.state ≠ .running ∧ c.state ≠ .parked) ∨ c.atLink = false ∨ c.linkIssued = false → exec (.chainLinkRead ch a) ⟨p, q⟩ = .next ⟨p, q⟩) ∧
    (c.state = .running ∨ c.state = .parked → c.atLink = true → c.linkIssued = true →
      (∀ t, pieceRead p (c.desc + 32) 8 a = .error t → exec (.chainLinkRead ch a) ⟨p, q⟩ =
        .next ⟨onStream ch (fun c => { c with state := .halted, err := 1, atLink := false, linkIssued := false }) p, q⟩) ∧
      (∀ w, pieceRead p (c.desc + 32) 8 a = .ok w → leNat w % 2 = 0 → exec (.chainLinkRead ch a) ⟨p, q⟩ =
        .next ⟨onStream ch (fun c => { c with state := .running, desc := leNat w / 64 * 64, atLink := false, linkIssued := false }) p, q⟩) ∧
      (∀ w, pieceRead p (c.desc + 32) 8 a = .ok w → leNat w % 2 = 1 → c.extendPending = true → exec (.chainLinkRead ch a) ⟨p, q⟩ =
        .next ⟨onStream ch (fun c => { c with extendPending := false }) p, q⟩) ∧
      (∀ w, pieceRead p (c.desc + 32) 8 a = .ok w → leNat w % 2 = 1 → c.extendPending = false → exec (.chainLinkRead ch a) ⟨p, q⟩ =
        .next ⟨onStream ch (fun c => { c with state := .parked, linkIssued := false }) p, q⟩))

/-- CHAIN_EXTEND: a doorbell after the link read was issued sets EXTEND_PENDING; on a parked chain the link is read again; any other is ignored (R532). -/
def Sys2Proof.Claim.DoorbellIsNeverLost : Prop :=
  ∀ (p : Piece) (q : List Instr) (ch : Fin 64) (c : StreamChannel), c = p.streamCh ch →
    (c.source = true ∨ c.atLink = false → exec (.chainExtend ch) ⟨p, q⟩ = .next ⟨p, q⟩) ∧
    (c.source = false → c.atLink = true → c.linkIssued = true → exec (.chainExtend ch) ⟨p, q⟩ = .next ⟨onStream ch (fun c => { c with extendPending := true }) p, q⟩) ∧
    (c.source = false → c.atLink = true → c.linkIssued = false → c.state = .parked → exec (.chainExtend ch) ⟨p, q⟩ =
      .next ⟨onStream ch (fun c => { c with linkIssued := true, extendPending := false }) p, q⟩) ∧
    (c.source = false → c.atLink = true → c.linkIssued = false → c.state ≠ .parked → exec (.chainExtend ch) ⟨p, q⟩ = .next ⟨p, q⟩)

/-- SOURCE_RECORD_ARRIVE: the oldest record reaches its channel: discarded where that is closed, refused and counted where it is no SOURCE channel, else taken to the ring or the VDIF frames (R523, R537,
R541). Where real-time demand exceeds the memory or the link the raw stamp log yields, and below 64 GT/s the sample streams to the host (R34, R35). -/
def Sys2Proof.Claim.RecordReachesItsChannel : Prop :=
  ∀ (p p1 : Piece) (q : List Instr) (i : StreamItem) (r : List StreamItem) (c : StreamChannel) (b : Bool), p1 = { p with stream := { p.stream with arrivals := r, pathFull := pathIsFull b p i } } → c = p.streamCh i.channel →
    (p.stream.arrivals = [] → exec (.sourceRecordArrive b) ⟨p, q⟩ = .next ⟨p, q⟩) ∧
    (p.stream.arrivals = i :: r →
      (c.state = .closed → exec (.sourceRecordArrive b) ⟨p, q⟩ = .next ⟨p1, q⟩) ∧
      (c.state ≠ .closed → c.source = false → exec (.sourceRecordArrive b) ⟨p, q⟩ = .next ⟨onStream i.channel (fun c => { c with refused := min (c.refused + 1) (2 ^ 32 - 1) }) p1, q⟩) ∧
      (c.state ≠ .closed → c.source = true → c.vdifMode = true → exec (.sourceRecordArrive b) ⟨p, q⟩ = .next ⟨vdifBlock i.channel i p1, q⟩) ∧
      (c.state ≠ .closed → c.source = true → c.vdifMode = false → exec (.sourceRecordArrive b) ⟨p, q⟩ = .next ⟨enterRing i.channel i p1, q⟩)) ∧
    pathIsFull false p i = false ∧ (i.rawLog = true → pathIsFull true p i = true) ∧
    (i.rawLog = false → i.samples = [] → pathIsFull true p i = false) ∧
    (i.rawLog = false → 6 ≤ p.hostif.rate → pathIsFull true p i = false)

/-- An entry that finds its ring disabled, stopped or frozen is dropped whole, and counted with the drops of the next GAP (R537, R539). -/
def Sys2Proof.Claim.BlockedRingDropsWholeEntries : Prop :=
  ∀ (p : Piece) (ch : Nat) (i : StreamItem) (c : StreamChannel), c = p.streamCh ch → ringBlocked p c = true →
    enterRing ch i p = onStream ch (fun c => { c with dropped := min (c.dropped + 1) (2 ^ 32 - 1), lost := c.lost + 1, lostMint := (if c.lost == 0 then p.now else c.lostMint) }) p

/-- An entry that fits an idle ring is written at once, whole, with the index block after it; one that does not fit, or for which the memory or the link has
no capacity left, waits in the staging store of 128 KiB, or is dropped whole (R34, R524, R535 to R537). -/
def Sys2Proof.Claim.EntryIsWrittenStagedOrDropped : Prop :=
  ∀ (p : Piece) (ch : Nat) (i : StreamItem) (c : StreamChannel), c = p.streamCh ch → ringBlocked p c = false → c.staging = [] → c.lost = 0 →
    (p.stream.pathFull = false → entryFits p c i = true → enterRing ch i p = writeEntry ch i p) ∧
    (p.stream.pathFull = true ∨ entryFits p c i = false → (entryBytes c i).length ≤ 131072 → enterRing ch i p = onStream ch (fun c => { c with staging := c.staging ++ [i] }) p) ∧
    (p.stream.pathFull = true ∨ entryFits p c i = false → 131072 < (entryBytes c i).length →
      enterRing ch i p = onStream ch (fun c => { c with dropped := min (c.dropped + 1) (2 ^ 32 - 1), lost := c.lost + 1, lostMint := (if c.lost == 0 then p.now else c.lostMint) }) p)

/-- A framed entry is a 16-byte header and its record, padded to a multiple of 16; the header begins with ENTRY_SEQ; a stamp record or a VDIF frame stands alone (R535, R540). -/
def Sys2Proof.Claim.EntryIsFramed : Prop :=
  ∀ (c : StreamChannel) (i : StreamItem),
    (i.kind = 0 ∨ i.kind = 256 → entryBytes c i = i.record) ∧
    (i.kind ≠ 0 → i.kind ≠ 256 → (entryBytes c i).length % 16 = 0 ∧ 16 + i.record.length ≤ (entryBytes c i).length ∧ (entryBytes c i).length < 32 + i.record.length ∧
      (entryBytes c i).take (16 + i.record.length) = leBytes 4 c.entrySeq ++ leBytes 1 i.kind ++ [0xFF] ++ leBytes 1 i.panelType ++ leBytes 1 i.inst ++
        leBytes 4 i.record.length ++ leBytes 4 0 ++ i.record)

/-- The ring wraps at its end: there the pass number grows, LAST_END is the old size, and a staged length takes effect (R536, R538). -/
def Sys2Proof.Claim.RingWrapsAtItsEnd : Prop :=
  ∀ (r : StreamRing) (n : Nat),
    (r.off + n < r.length * 64 → ringAdvance r n = { r with off := r.off + n }) ∧
    (r.length * 64 ≤ r.off + n → ringAdvance r n = { r with off := r.off + n - r.length * 64, pass := (r.pass + 1) % 2 ^ 24, lastEnd := r.length * 64, length := r.staged.getD r.length, staged := none })

/-- RING_CONSUMER_REREAD: CONSUMED as the host answers, its pass and its offset, and then what waits is written; with nothing waiting and nothing lost only CONSUMED changes (R536, R537). -/
def Sys2Proof.Claim.ConsumerIsReread : Prop :=
  ∀ (p : Piece) (q : List Instr) (ch : Fin 64) (a : Answer) (p1 : Piece),
    p1 = (match a with | .data d => onStream ch (fun c => { c with ring := { c.ring with consumedPass := u d 5 3, consumedOff := u d 0 5 } }) p | _ => p) →
    exec (.ringConsumerReread ch a) ⟨p, q⟩ = .next ⟨flushRing ((p1.streamCh ch).staging.length + 1) ch p1, q⟩ ∧
    ((p1.streamCh ch).staging = [] → (p1.streamCh ch).lost = 0 → exec (.ringConsumerReread ch a) ⟨p, q⟩ = .next ⟨p1, q⟩)

/-- The codes of VDIF samples: two bits by the threshold, eight bits rounded, saturated and offset, sixteen bits offset (R541). -/
def Sys2Proof.Claim.VdifCodesSamples : Prop :=
  ∀ (seed : Nat) (x t : Int), t = (field seed 32 16 : Nat) →
    (field seed 48 8 = 2 → 0 ≤ t → (vdifCode seed x = 0 ↔ x < -t) ∧ (vdifCode seed x = 1 ↔ -t ≤ x ∧ x < 0) ∧ (0 ≤ x → x < t → vdifCode seed x = 2) ∧ (0 ≤ x → t ≤ x → vdifCode seed x = 3)) ∧
    (field seed 48 8 = 8 → vdifCode seed x = (satW 8 (rnd x (field seed 24 8)) + 128).toNat ∧ vdifCode seed x < 256) ∧
    (field seed 48 8 = 16 → -32768 ≤ x → x < 32768 → vdifCode seed x = (x + 32768).toNat)

/-- A VDIF channel takes one sample stream: a record of any other producer, or a kind other than a sample block, is refused and counted (R523, R541). -/
def Sys2Proof.Claim.VdifTakesOneStream : Prop :=
  ∀ (p : Piece) (ch : Nat) (i : StreamItem) (c : StreamChannel) (p1 : Piece), c = p.streamCh ch → p1 = onStream ch (fun c => { c with refused := min (c.refused + 1) (2 ^ 32 - 1) }) p →
    (i.kind ≠ 0x10 → vdifBlock ch i p = p1) ∧
    (∀ v : Vdif, i.kind = 0x10 → c.vdif = some v → v.panelType ≠ i.panelType ∨ v.inst ≠ i.inst ∨ v.sub ≠ i.sub → vdifBlock ch i p = p1) ∧
    (i.kind = 0x10 → c.vdif = none → framesPerSecond c i = none ∨ p.clocks.timecode.offsetSet = false → vdifBlock ch i p = p1)

/-- CHECK_SCAN_PASS_DONE: the pass has its value: recorded, compared and counted, the waiting command completes, and a periodic unit waits for its next pass, another is idle; a failed read ends the scan
(R547, R548). -/
def Sys2Proof.Claim.PassRecordsItsValue : Prop :=
  ∀ (p : Piece) (q : List Instr) (n : Fin 8) (a : Answer) (x : CheckUnit), x = nth p.check.units n →
    (x.scan = none ∨ x.scanning = false → exec (.checkScanPassDone n a) ⟨p, q⟩ = .next ⟨p, q⟩) ∧
    (∀ s, x.scan = some s → x.scanning = true →
      (∀ d v, pieceRead p s.start s.length a = .ok d → v = scanValue s d → exec (.checkScanPassDone n a) ⟨p, q⟩ =
        .next ⟨afterPass n s true (finishWaiting .checkScan n 0 (fun _ => [low32 v, high32 v, flag (s.compare && v == s.expected) 0]) (recordScan n s v p)), q⟩) ∧
      (∀ t, pieceRead p s.start s.length a = .error t → exec (.checkScanPassDone n a) ⟨p, q⟩ =
        .next ⟨afterPass n s false (finishWaiting .checkScan n (transferStatus t) (fun _ => []) p), q⟩))

/-- A value recorded: VALUE and PASSES; with COMPARE a value other than EXPECTED counts a mismatch and latches CHECK_MISMATCH (R548). -/
def Sys2Proof.Claim.MismatchIsCountedAndLatched : Prop :=
  ∀ (p p1 : Piece) (i : Nat) (s : Scan) (v : Nat) (bad : Bool), bad = (s.compare && v != s.expected) →
    p1 = { p with check := { p.check with units := upd p.check.units i (fun x => { x with value := v, passes := (x.passes + 1) % 2 ^ 32, mismatch := (if bad then min (x.mismatch + 1) (2 ^ 32 - 1) else x.mismatch) }) } } →
    recordScan i s v p = (if bad then raiseAlarm 0x0600 0x0E 0 p1 else p1)

/-- After a pass with no scan that replaces it: a periodic unit waits PERIOD for its next pass, a single scan, or one whose read failed, leaves the unit idle (R547). -/
def Sys2Proof.Claim.PeriodicUnitWaitsItsPeriod : Prop :=
  ∀ (p : Piece) (i : Nat) (s : Scan) (go : Bool), (nth p.check.units i).replacing = none →
    (s.periodic = true → go = true → afterPass i s go p = onUnit i (fun x => { x with scanning := false, due := p.now + s.period * ticksPerMs }) p) ∧
    (s.periodic = false ∨ go = false → afterPass i s go p = onUnit i (fun x => { x with scanning := false, scan := none }) p)

/-- CHECK_PERIODIC_START: when its time has come a waiting periodic unit scans again; else nothing changes (R511, R547). -/
def Sys2Proof.Claim.PeriodicPassStarts : Prop :=
  ∀ (p : Piece) (q : List Instr) (n : Fin 8) (x : CheckUnit), x = nth p.check.units n →
    (x.scan = none → exec (.checkPeriodicStart n) ⟨p, q⟩ = .next ⟨p, q⟩) ∧
    (∀ s, x.scan = some s → s.periodic = true → x.scanning = false → x.due ≤ p.now → exec (.checkPeriodicStart n) ⟨p, q⟩ = .next ⟨onUnit n (fun x => { x with scanning := true }) p, q⟩) ∧
    (∀ s, x.scan = some s → s.periodic = false ∨ x.scanning = true ∨ p.now < x.due → exec (.checkPeriodicStart n) ⟨p, q⟩ = .next ⟨p, q⟩)

/-- Streams, chains, rings, doorbells, VDIF coding and checking units. It says where these answer a next state: streamOpen, streamChainSet, streamRingSet, streamClose, checkScan, descriptorComplete, chainLinkRead, chainExtend, sourceRecordArrive, ringConsumerReread, checkScanPassDone, checkPeriodicStart. -/
def Obligations.StreamsAndChecks : Prop :=
  Claim.StreamOpenOpensAChannel ∧ Claim.ChainSetStartsAChain ∧ Claim.RingSetStartsOrStagesARing ∧ Claim.StreamCloseClosesAChannel ∧
  Claim.CheckScanStartsOrReplaces ∧ Claim.DescriptorIsCarriedOut ∧ Claim.FailedTransferHaltsTheChannel ∧ Claim.CheckStartsOrContinues ∧
  Claim.LinkIsFollowedOrParks ∧ Claim.DoorbellIsNeverLost ∧ Claim.RecordReachesItsChannel ∧ Claim.BlockedRingDropsWholeEntries ∧
  Claim.EntryIsWrittenStagedOrDropped ∧ Claim.EntryIsFramed ∧ Claim.RingWrapsAtItsEnd ∧ Claim.ConsumerIsReread ∧ Claim.VdifCodesSamples ∧
  Claim.VdifTakesOneStream ∧ Claim.PassRecordsItsValue ∧ Claim.MismatchIsCountedAndLatched ∧ Claim.PeriodicUnitWaitsItsPeriod ∧
  Claim.PeriodicPassStarts

/-- SCAN_MODE_SET: on a panel that shows frames the new mode waits for the end of the frame; else with EN both ports train and the command waits, and without EN the ports are off; a mode beyond the link gives ST_NORESOURCE (R514, R577 to R579). -/
def Sys2Proof.Claim.ScanModeTrainsOrWaits : Prop :=
  ∀ (p : Piece) (q : List Instr) (c : Cmd) (f : Flight) (p1 : Piece) (b : Bytes) (m : ScanMode) (z0 r0 s0 : Bool), Claim.Starts 0x0C01 c p f p1 →
    b = f.body → m = scanModeOf b →
    z0 = (m.en && (m.hActive == 0 || m.vActive == 0 || m.pixelKhz == 0)) →
    r0 = (field (u b 0 1) 2 5 != 0 || decide (3 < m.rate) || decide (3840 < m.hActive) || decide (2160 < m.vActive) || u b 18 2 != 0 || !isZero (slice b 24 8) || (m.en && (decide (m.pixelKhz < 25000) || decide (600000 < m.pixelKhz)))) →
    s0 = (m.en && decide (4 * laneRate m.rate * 800 < 30 * m.pixelKhz)) →
    (z0 = true → exec (.scanModeSet c) ⟨p, q⟩ = .next ⟨finish f 2 [] p1, q⟩) ∧
    (z0 = false → r0 = true → exec (.scanModeSet c) ⟨p, q⟩ = .next ⟨finish f 1 [] p1, q⟩) ∧
    (z0 = false → r0 = false → s0 = true → exec (.scanModeSet c) ⟨p, q⟩ = .next ⟨finish f 8 [] p1, q⟩) ∧
    (z0 = false → r0 = false → s0 = false → 
      (framesRun p1.scan = true → exec (.scanModeSet c) ⟨p, q⟩ = .next ⟨settle (setFlight { f with progress := .waiting .scanMode 0 [] } ({ p1 with scan := { p1.scan with next := some m, state := .stopping, retraining := false } })), q⟩) ∧
      (framesRun p1.scan = false → m.en = true → exec (.scanModeSet c) ⟨p, q⟩ = .next ⟨settle (setFlight { f with progress := .waiting .scanMode 0 [] } ({ p1 with scan := { p1.scan with mode := m, next := none, stopDue := false, retraining := false, vblank := false, state := .training } })), q⟩) ∧
      (framesRun p1.scan = false → m.en = false → exec (.scanModeSet c) ⟨p, q⟩ = .next ⟨finish f 0 [] (finishAllWaiting .scanMode 0 0 (fun _ => []) { p1 with scan := { p1.scan with mode := m, next := none, stopDue := false, retraining := false, vblank := false, state := .off } }), q⟩))

/-- SCAN_LAYER_SET holds the settings of a layer until SCAN_COMMIT; what lies beyond the panel, the memory or the format gives ST_RANGE (R515, R581 to R584). -/
def Sys2Proof.Claim.LayerSettingIsHeld : Prop :=
  ∀ (p : Piece) (q : List Instr) (c : Cmd) (f : Flight) (p1 : Piece) (b : Bytes) (i : Nat) (l : Layer) (z0 r0 : Bool), Claim.Starts 0x0C02 c p f p1 →
    b = f.body → i = u b 0 1 → l = layerOf b →
    z0 = (l.en && (l.width == 0 || l.height == 0)) →
    r0 = (decide (3 < i) || u b 1 1 % 64 != 0 || decide (3 < l.format % 16) || (l.format % 16 != 3 && l.format / 16 != 0) || l.stride % 64 != 0 || l.base % 64 != 0 || !isDevice l.base || !rangeOk p1.dmc l.base (layerSpan l) || !isZero (slice b 24 8) || decide (l.stride < l.width * pixelBytes l.format) || !layerFits (acceptedMode p1.scan) l || (l.opaque_ && l.alpha != 255)) →
    (z0 = true → exec (.scanLayerSet c) ⟨p, q⟩ = .next ⟨finish f 2 [] p1, q⟩) ∧
    (z0 = false → r0 = true → exec (.scanLayerSet c) ⟨p, q⟩ = .next ⟨finish f 1 [] p1, q⟩) ∧
    (z0 = false → r0 = false → exec (.scanLayerSet c) ⟨p, q⟩ = .next ⟨finish f 0 [] ({ p1 with scan := { p1.scan with held := put p1.scan.held i l } }), q⟩)

/-- SCAN_COMMIT makes the held settings of its layers pending, with the tick of its arrival, and waits for the latch (R516, R586). -/
def Sys2Proof.Claim.CommitMakesSettingsPending : Prop :=
  ∀ (p : Piece) (q : List Instr) (c : Cmd) (f : Flight) (p1 : Piece) (m : Nat) (z0 r0 : Bool), Claim.Starts 0x0C03 c p f p1 →
    m = u f.body 0 1 →
    z0 = (m % 16 == 0) →
    r0 = (m / 16 != 0 || !isZero (slice f.body 1 7)) →
    (z0 = true → exec (.scanCommit c) ⟨p, q⟩ = .next ⟨finish f 2 [] p1, q⟩) ∧
    (z0 = false → r0 = true → exec (.scanCommit c) ⟨p, q⟩ = .next ⟨finish f 1 [] p1, q⟩) ∧
    (z0 = false → r0 = false → exec (.scanCommit c) ⟨p, q⟩ = .next ⟨settle (setFlight { f with progress := .waiting .scanCommit 0 [] } ({ p1 with scan := { p1.scan with pending := p1.scan.pending.mapIdx (fun i x => if bitAt m i then some (nth p1.scan.held i, p1.now) else x) } })), q⟩)

/-- DP_TRAINING_DONE: with both ports trained the panel runs and the waiting SCAN_mode := m, next := none, stopDue := false, retraining := false, vblank := false_SET completes; with one failed STATE is FAULT and it completes with ST_FAULT; outside training nothing changes
(R514, R577, R580). -/
def Sys2Proof.Claim.TrainingEnds : Prop :=
  ∀ (p : Piece) (q : List Instr) (t : Bool), t = (p.scan.state == .training || p.scan.retraining) →
    (t = false → ∀ ok, exec (.dpTrainingDone ok) ⟨p, q⟩ = .next ⟨p, q⟩) ∧
    (t = true → exec (.dpTrainingDone true) ⟨p, q⟩ = .next ⟨finishAllWaiting .scanMode 0 0 (fun _ => [])
      { p with scan := { p.scan with state := .running, retraining := false, hpd := [true, true] } }, q⟩) ∧
    (t = true → exec (.dpTrainingDone false) ⟨p, q⟩ = .next ⟨finishAllWaiting .scanMode 0 12 (fun _ => [])
      { p with scan := { p.scan with state := .fault, retraining := false, vblank := false } }, q⟩)

/-- SCAN_mode := m, next := none, stopDue := false, retraining := false, vblank := false_APPLY: at the end of the frame a panel that stops goes off and its command fails, or the waiting mode begins; a panel that is not stopping keeps its mode (R579, R580). -/
def Sys2Proof.Claim.ModeChangesAfterTheFrame : Prop :=
  ∀ (p : Piece) (q : List Instr),
    (p.scan.state ≠ .stopping → exec .scanModeApply ⟨p, q⟩ = .next ⟨p, q⟩) ∧
    (p.scan.state = .stopping → p.scan.stopDue = true → exec .scanModeApply ⟨p, q⟩ = .next ⟨finishAllWaiting .scanMode 0 12 (fun _ => [])
      { p with scan := { p.scan with state := .off, stopDue := false, next := none, vblank := false } }, q⟩) ∧
    (∀ m, p.scan.state = .stopping → p.scan.stopDue = false → p.scan.next = some m → m.en = true → exec .scanModeApply ⟨p, q⟩ =
      .next ⟨{ p with scan := { p.scan with mode := m, next := none, stopDue := false, retraining := false, vblank := false, state := .training } }, q⟩) ∧
    (∀ m, p.scan.state = .stopping → p.scan.stopDue = false → p.scan.next = some m → m.en = false → exec .scanModeApply ⟨p, q⟩ =
      .next ⟨finishAllWaiting .scanMode 0 0 (fun _ => []) { p with scan := { p.scan with mode := m, next := none, stopDue := false, retraining := false, vblank := false, state := .off } }, q⟩) ∧
    (p.scan.state = .stopping → p.scan.stopDue = false → p.scan.next = none → exec .scanModeApply ⟨p, q⟩ = .next ⟨p, q⟩)

/-- A mode change keeps the frame counter and the held, pending and latched layers (R579). -/
def Sys2Proof.Claim.ModeChangeKeepsLayersAndFrames : Prop :=
  ∀ (m : ScanMode) (p p' : Piece), p' = beginMode m p →
    p'.scan.frame = p.scan.frame ∧ p'.scan.held = p.scan.held ∧ p'.scan.pending = p.scan.pending ∧ p'.scan.latched = p.scan.latched ∧ p'.scan.mode = m

/-- HPD_LOSS: a panel that shows frames stops both ports at the end of the frame; in training the ports go off and the waiting command fails; the port's HPD reads low (R580, R588). -/
def Sys2Proof.Claim.HpdLossStopsThePanel : Prop :=
  ∀ (p p1 : Piece) (q : List Instr) (k : Fin 2), p1 = { p with scan := { p.scan with hpd := put p.scan.hpd k false } } →
    (framesRun p.scan = true → exec (.hpdLoss k) ⟨p, q⟩ = .next ⟨{ p1 with scan := { p1.scan with state := .stopping, stopDue := true, retraining := false } }, q⟩) ∧
    (framesRun p.scan = false → p.scan.state = .training → exec (.hpdLoss k) ⟨p, q⟩ = .next ⟨finishAllWaiting .scanMode 0 12 (fun _ => []) { p1 with scan := { p1.scan with state := .off } }, q⟩) ∧
    (framesRun p.scan = false → p.scan.state ≠ .training → exec (.hpdLoss k) ⟨p, q⟩ = .next ⟨p1, q⟩)

/-- IRQ_HPD: a lost link of a running panel is trained again while frames go on being counted; with the link held only HPD reads high (R580, R588). -/
def Sys2Proof.Claim.IrqHpdRetrainsALostLink : Prop :=
  ∀ (p p1 : Piece) (q : List Instr) (k : Fin 2), p1 = { p with scan := { p.scan with hpd := put p.scan.hpd k true } } →
    (p.scan.state = .running → exec (.irqHpd k true) ⟨p, q⟩ = .next ⟨{ p1 with scan := { p1.scan with state := .training, retraining := true } }, q⟩) ∧
    (p.scan.state ≠ .running → exec (.irqHpd k true) ⟨p, q⟩ = .next ⟨p1, q⟩) ∧ exec (.irqHpd k false) ⟨p, q⟩ = .next ⟨p1, q⟩

/-- SCAN_LATCH: blanking begins; with nothing committed in an earlier cycle no flip is recorded; with a commit due the flip record takes the Mint count, the label and the next frame, and once nothing waits
every waiting SCAN_COMMIT completes with that frame; a panel in blanking, or that shows no frames, is unchanged (R516, R586, R587). -/
def Sys2Proof.Claim.LatchTakesCommittedSettings : Prop :=
  ∀ (p p1 : Piece) (q : List Instr) (d : Bool),
    p1 = { p with scan := { p.scan with vblank := true, latched := p.scan.latched.map (latchLayer p.scan.mode) } } →
    (d = true ↔ ∃ x ∈ p.scan.pending, ∃ l t, x = some (l, t) ∧ t < p.now) →
    (framesRun p.scan = false ∨ p.scan.vblank = true → exec .scanLatch ⟨p, q⟩ = .next ⟨p, q⟩) ∧
    (framesRun p.scan = true → p.scan.vblank = false → d = false → exec .scanLatch ⟨p, q⟩ = .next ⟨p1, q⟩) ∧
    (framesRun p.scan = true → p.scan.vblank = false → d = true → ∃ p2 : Piece, exec .scanLatch ⟨p, q⟩ = .next ⟨when (p2.scan.pending.all (·.isNone))
        (finishAllWaiting .scanCommit 0 0 (fun _ => [low32 (p.scan.frame + 1), high32 (p.scan.frame + 1)])) p2, q⟩ ∧
      p2 = { p1 with scan := { p1.scan with flipMint := p.now, flipLabel := p.label, flipFrame := low32 (p.scan.frame + 1), latched := p2.scan.latched, pending := p2.scan.pending } } ∧
      (p.scan.pending.length = 4 → p.scan.latched.length = 4 → ∀ i, i < 4 →
        (∀ l t, nth p.scan.pending i = some (l, t) → t < p.now → nth p2.scan.latched i = latchLayer p.scan.mode l ∧ nth p2.scan.pending i = none) ∧
        ((∀ l t, nth p.scan.pending i = some (l, t) → p.now ≤ t) → nth p2.scan.latched i = latchLayer p.scan.mode (nth p.scan.latched i) ∧ nth p2.scan.pending i = nth p.scan.pending i)))

/-- A layer that extends beyond the panel latches disabled, with the rest of its settings; another latches as it is (R579). -/
def Sys2Proof.Claim.LayerBeyondThePanelIsDisabled : Prop :=
  ∀ (m : ScanMode) (l : Layer), (l.x + l.width ≤ 2 * m.hActive → l.y + l.height ≤ m.vActive → latchLayer m l = l) ∧
    (2 * m.hActive < l.x + l.width ∨ m.vActive < l.y + l.height → latchLayer m l = { l with en := false })

/-- SCAN_FRAME_START: the frame counter of 64 bits advances, blanking ends, the tiles skipped in the last frame are shown, and both ports send the frame, but for a link that is being retrained; no
frame starts on a panel that shows none (R578, R583, R584, R587). -/
def Sys2Proof.Claim.FrameIsCounted : Prop :=
  ∀ (p p1 : Piece) (q : List Instr), p1 = { p with scan := { p.scan with frame := (p.scan.frame + 1) % 2 ^ 64, vblank := false, tiles := p.scan.tilesNow, tilesNow := skippedTiles p.scan } } →
    (framesRun p.scan = false → exec .scanFrameStart ⟨p, q⟩ = .next ⟨p, q⟩) ∧
    (framesRun p.scan = true → p.scan.retraining = true → exec .scanFrameStart ⟨p, q⟩ = .next ⟨p1, q⟩) ∧
    (framesRun p.scan = true → p.scan.retraining = false → exec .scanFrameStart ⟨p, q⟩ =
      .next ⟨emit (.scanFrame p1.scan.frame (panelLines p1 0) (panelLines p1 p.scan.mode.hActive)) p1, q⟩)

/-- The layers stack in number order above a black background: each that shows at a position lies over those below it with α × src + (1 − α) × out, rounded half up; one that is disabled, lies elsewhere
or is refused by the DMC is transparent; an OPAQUE layer of ALPHA 255 shows its own colour (R582 to R585). -/
def Sys2Proof.Claim.LayersStackAboveBlack : Prop :=
  (∀ (p : Piece) (x y : Nat), p.scan.latched = [] → panelColour p x y = (0, 0, 0)) ∧
  (∀ (p : Piece) (x y n : Nat) (ls : List Layer) (l : Layer) (low src : Colour) (a α : Rat), p.scan.latched = ls ++ [l] →
    low = panelColour { p with scan := { p.scan with latched := ls } } x y → n = pixelBytes l.format →
    (src, a) = pixelColour l.format (memRead p.dmc.dram (deviceAddr l.base + (y - l.y) * l.stride + (x - l.x) * n) n) → α = layerAlpha l a →
    (l.en = false ∨ x < l.x ∨ l.x + l.width ≤ x ∨ y < l.y ∨ l.y + l.height ≤ y ∨ dmcRefuses p.dmc = true → panelColour p x y = low) ∧
    (l.en = true → l.x ≤ x → x < l.x + l.width → l.y ≤ y → y < l.y + l.height → dmcRefuses p.dmc = false →
      panelColour p x y = (blendPart α src.1 low.1, blendPart α src.2.1 low.2.1, blendPart α src.2.2 low.2.2) ∧
      (l.opaque_ = true → l.alpha = 255 → panelColour p x y = src))) ∧
  (∀ (α : Rat) (s o : Nat), 0 ≤ α → α ≤ 1 → (blendPart α s o : Rat) - 1 / 2 ≤ α * s + (1 - α) * o ∧ α * s + (1 - α) * o < (blendPart α s o : Rat) + 1 / 2)

/-- A tile is skipped by an enabled OPAQUE layer that covers the whole of its part of the panel (R584). -/
def Sys2Proof.Claim.TileIsCovered : Prop :=
  ∀ (m : ScanMode) (l : Layer) (x y : Nat), 64 * x < 2 * m.hActive → 32 * y < m.vActive →
    (covers m l x y = true ↔ l.en = true ∧ l.opaque_ = true ∧
      ∀ u v, 64 * x ≤ u → u < 64 * (x + 1) → u < 2 * m.hActive → 32 * y ≤ v → v < 32 * (y + 1) → v < m.vActive → l.x ≤ u ∧ u < l.x + l.width ∧ l.y ≤ v ∧ v < l.y + l.height)

/-- Scanout: modes, training, layers, commits, latching, hot plug and frame counts. It says where these answer a next state: scanModeSet, scanLayerSet, scanCommit, dpTrainingDone, scanModeApply, hpdLoss, irqHpd, scanLatch, scanFrameStart. -/
def Obligations.Scanout : Prop :=
  Claim.ScanModeTrainsOrWaits ∧ Claim.LayerSettingIsHeld ∧ Claim.CommitMakesSettingsPending ∧ Claim.TrainingEnds ∧
  Claim.ModeChangesAfterTheFrame ∧ Claim.ModeChangeKeepsLayersAndFrames ∧ Claim.HpdLossStopsThePanel ∧ Claim.IrqHpdRetrainsALostLink ∧
  Claim.LatchTakesCommittedSettings ∧ Claim.LayerBeyondThePanelIsDisabled ∧ Claim.FrameIsCounted ∧ Claim.LayersStackAboveBlack ∧
  Claim.TileIsCovered

/-- NET_PORT_SET gives a port its role and returns its state byte; a second UP port gives ST_RANGE, and a change of the UP port of a joined piece ST_STATE (R512, R553, R554). -/
def Sys2Proof.Claim.PortTakesItsRole : Prop :=
  ∀ (p : Piece) (q : List Instr) (c : Cmd) (f : Flight) (p1 : Piece) (b : Bytes) (i : Nat) (r : PortRole) (w : Bool) (p2 : Piece) (z0 r0 : Bool), Claim.Starts 0x0B01 c p f p1 →
    b = f.body → i = u b 0 1 → r = roleOf (u b 1 1) → w = (match upPort p1 with | some j => j != i | none => false) → p2 = setRole i r p1 →
    z0 = (decide (3 < i) || decide (3 < u b 1 1) || !isZero (slice b 2 6) || (r == .up && w)) →
    r0 = (p1.net.joined && (p1.portOf i).role == .up && r != .up) →
    (z0 = true → exec (.netPortSet c) ⟨p, q⟩ = .next ⟨finish f 1 [] p1, q⟩) ∧
    (z0 = false → r0 = true → exec (.netPortSet c) ⟨p, q⟩ = .next ⟨finish f 9 [] p1, q⟩) ∧
    (z0 = false → r0 = false → exec (.netPortSet c) ⟨p, q⟩ = .next ⟨finish f 0 [(p2.portOf i).role.code * 64 + flag (p2.portOf i).calibrated 5 + (p2.portOf i).state.code] (p2), q⟩)

/-- NET_JOIN: with ROOT the piece is the root of a new Net at once, with itself its one node, and its linked ports carry traffic; else a join request leaves by the UP port and the command waits (R512, R556, R558). -/
def Sys2Proof.Claim.JoinMakesARootOrAsks : Prop :=
  ∀ (p : Piece) (q : List Instr) (c : Cmd) (f : Flight) (p1 : Piece) (b : Bytes) (n : Nat) (g : Bool) (w : Bool) (z0 r0 s0 : Bool), Claim.Starts 0x0B02 c p f p1 →
    b = f.body → n = u b 0 2 → g = bitAt (u b 2 1) 7 → w = (match upPort p1 with | some j => (p1.portOf j).up | none => false) →
    z0 = (u b 2 1 % 128 != 0 || !isZero (slice b 3 5)) →
    r0 = (p1.net.joined || (!g && !w) || (g && p1.ledger.source == .net)) →
    s0 = (p1.net.joinSince.isSome) →
    (z0 = true → exec (.netJoin c) ⟨p, q⟩ = .next ⟨finish f 1 [] p1, q⟩) ∧
    (z0 = false → r0 = true → exec (.netJoin c) ⟨p, q⟩ = .next ⟨finish f 9 [] p1, q⟩) ∧
    (z0 = false → r0 = false → s0 = true → exec (.netJoin c) ⟨p, q⟩ = .next ⟨finish f 3 [] p1, q⟩) ∧
    (z0 = false → r0 = false → s0 = false → 
      (g = true → exec (.netJoin c) ⟨p, q⟩ = .next ⟨finish f 0 [0x1FFFF] (activate { p1 with net := { p1.net with joined := true, root := true, detached := false, nodeId := n, rootNode := n, parent := 0xFFFF, path := 0, nodes := 1, horizon := p1.net.storedHorizon.getD 200, members := [] } }), q⟩) ∧
      (g = false → exec (.netJoin c) ⟨p, q⟩ = .next ⟨settle (setFlight { f with progress := .waiting .netJoin 0 [] } (manageUp "join" [n, p1.net.path] { p1 with net := { p1.net with joinSince := some p1.now, joinNode := n } })), q⟩))

/-- NET_LEAVE of a joined piece sends a notice down each DOWN port and a request up, and waits (R512, R557). -/
def Sys2Proof.Claim.LeaveSendsNoticeAndRequest : Prop :=
  ∀ (p : Piece) (q : List Instr) (c : Cmd) (f : Flight) (p1 : Piece) (z0 r0 s0 : Bool), Claim.Starts 0x0B03 c p f p1 →
    
    z0 = (!isZero f.body) →
    r0 = (!p1.net.joined) →
    s0 = (p1.net.leaveSince.isSome) →
    (z0 = true → exec (.netLeave c) ⟨p, q⟩ = .next ⟨finish f 1 [] p1, q⟩) ∧
    (z0 = false → r0 = true → exec (.netLeave c) ⟨p, q⟩ = .next ⟨finish f 9 [] p1, q⟩) ∧
    (z0 = false → r0 = false → s0 = true → exec (.netLeave c) ⟨p, q⟩ = .next ⟨finish f 3 [] p1, q⟩) ∧
    (z0 = false → r0 = false → s0 = false → exec (.netLeave c) ⟨p, q⟩ = .next ⟨settle (setFlight { f with progress := .waiting .netLeave 0 [] } (manageUp "leave" [p1.net.nodeId] (manageDown "leaveNotice" [] { p1 with net := { p1.net with leaveSince := some p1.now } }))), q⟩)

/-- NET_DELAY_TABLE_LOAD replaces the table of one port by its valid entries; a bad entry, two valid entries for one peer, or a table that cannot be read changes nothing (R513, R562). -/
def Sys2Proof.Claim.DelayTableIsReplaced : Prop :=
  ∀ (p : Piece) (q : List Instr) (c : Cmd) (f : Flight) (p1 : Piece) (b : Bytes) (n : Nat) (a : Nat) (z0 r0 : Bool), Claim.Starts 0x0B04 c p f p1 →
    b = f.body → n = u b 1 1 → a = u b 8 8 →
    z0 = (n == 0) →
    r0 = (decide (3 < u b 0 1) || !isZero (slice b 2 6) || !tableAddrOk p1.dmc a (24 * n)) →
    (z0 = true → exec (.netDelayTableLoad c) ⟨p, q⟩ = .next ⟨finish f 2 [] p1, q⟩) ∧
    (z0 = false → r0 = true → exec (.netDelayTableLoad c) ⟨p, q⟩ = .next ⟨finish f 1 [] p1, q⟩) ∧
    (z0 = false → r0 = false → 
      (∀ (t : Transfer), pieceRead p1 a (24 * n) c.read = .error t → exec (.netDelayTableLoad c) ⟨p, q⟩ = .next ⟨finish f (transferStatus t) [] (p1), q⟩) ∧
      (∀ (d : Bytes) (es : List Bytes) (l : List Bytes) (bad : Bool), pieceRead p1 a (24 * n) c.read = .ok d → es = (List.range n).map (fun i => slice d (24 * i) 24) → l = es.filter (fun e => bitAt (u e 2 2) 0) → bad = ((es.any fun e => decide (3 < u e 2 2) || u e 20 4 != 0) || !(decide (l.map fun e => u e 0 2).Nodup)) → bad = true → exec (.netDelayTableLoad c) ⟨p, q⟩ = .next ⟨finish f 1 [] (p1), q⟩) ∧
      (∀ (d : Bytes) (es : List Bytes) (l : List Bytes) (bad : Bool), pieceRead p1 a (24 * n) c.read = .ok d → es = (List.range n).map (fun i => slice d (24 * i) 24) → l = es.filter (fun e => bitAt (u e 2 2) 0) → bad = ((es.any fun e => decide (3 < u e 2 2) || u e 20 4 != 0) || !(decide (l.map fun e => u e 0 2).Nodup)) → bad = false → exec (.netDelayTableLoad c) ⟨p, q⟩ = .next ⟨finish f 0 [] (onPort (u b 0 1) (fun o => calibrate { o with table := l.map delayOf }) p1), q⟩))

/-- NET_HORIZON_SET sets the horizon of the Net on its root, not below twice the largest PATH; on any other piece it stores the value for later; word 0 holds the horizon in force (R512, R558). -/
def Sys2Proof.Claim.HorizonIsSetOrStored : Prop :=
  ∀ (p : Piece) (q : List Instr) (c : Cmd) (f : Flight) (p1 : Piece) (h1 : Nat) (far : Nat) (g : Bool) (z0 r0 s0 : Bool), Claim.Starts 0x0B06 c p f p1 →
    h1 = u f.body 0 4 → far = (p1.net.members.foldl (fun m n => max m n.path) 0) → g = (p1.net.joined && p1.net.root) →
    z0 = (h1 == 0) →
    r0 = (decide (10000 < h1) || u f.body 4 4 != 0) →
    s0 = (g && decide (h1 * 1000 < 2 * far)) →
    (z0 = true → exec (.netHorizonSet c) ⟨p, q⟩ = .next ⟨finish f 2 [] p1, q⟩) ∧
    (z0 = false → r0 = true → exec (.netHorizonSet c) ⟨p, q⟩ = .next ⟨finish f 1 [] p1, q⟩) ∧
    (z0 = false → r0 = false → s0 = true → exec (.netHorizonSet c) ⟨p, q⟩ = .next ⟨finish f 9 [] p1, q⟩) ∧
    (z0 = false → r0 = false → s0 = false → 
      (g = true → exec (.netHorizonSet c) ⟨p, q⟩ = .next ⟨finish f 0 [h1] ({ p1 with net := { p1.net with horizon := h1 } }), q⟩) ∧
      (g = false → exec (.netHorizonSet c) ⟨p, q⟩ = .next ⟨finish f 0 [p1.net.horizon] ({ p1 with net := { p1.net with storedHorizon := some h1 } }), q⟩))

/-- NET_STATUS returns the node, the port states and the nodes of the Net, and writes the 320-byte block where DEST is not zero; the codes of the piece's role and state are free values, which the spec does not give (R512, R573; log entry 38). -/
def Sys2Proof.Claim.NetStatusReports : Prop :=
  ∀ (p : Piece) (q : List Instr) (c : Cmd) (f : Flight) (p1 : Piece) (d : Nat) (r : Nat) (p2 : Piece) (z0 : Bool), Claim.Starts 0x0B05 c p f p1 →
    d = u f.body 8 8 → r = (Config.freeWord p1.free).toNat % 65536 → p2 = { p1 with free := p1.free + 1 } →
    z0 = (!isZero (slice f.body 0 8) || !destOk p1.dmc d 320) →
    (z0 = true → exec (.netStatus c) ⟨p, q⟩ = .next ⟨finish f 1 [] p1, q⟩) ∧
    (z0 = false → 
      ((d == 0) = true → exec (.netStatus c) ⟨p, q⟩ = .next ⟨finish f 0 [p2.net.nodeId * 65536 + r % 256, ((List.range 4).map fun i => (p2.portOf i).byte * 256 ^ i).sum, p2.net.nodes] (p2), q⟩) ∧
      (∀ (p3 : Piece), (d == 0) = false → pieceWrite d (netBlock p2 r) p2 = (p3, .ok) → exec (.netStatus c) ⟨p, q⟩ = .next ⟨finish f 0 [p2.net.nodeId * 65536 + r % 256, ((List.range 4).map fun i => (p2.portOf i).byte * 256 ^ i).sum, p2.net.nodes] (p3), q⟩) ∧
      (∀ (p3 : Piece) (t : Transfer), (d == 0) = false → t ≠ .ok → pieceWrite d (netBlock p2 r) p2 = (p3, t) → exec (.netStatus c) ⟨p, q⟩ = .next ⟨finish f (transferStatus t) [] (p3), q⟩))

/-- The status block has 320 bytes for four ports and at most sixteen summaries of 8 bytes (R573). -/
def Sys2Proof.Claim.NetBlockHas320Bytes : Prop :=
  ∀ (p : Piece) (r : Nat), p.net.ports.length = 4 → (netBlock p r).length = 320 ∧ u (netBlock p r) 0 2 = p.net.nodeId % 65536

/-- A role: the same role changes nothing; DISABLED ends the link of the port, which is OFF; a linked port takes the state of its new role; a port without link waits for its signal (R553, R554). -/
def Sys2Proof.Claim.RoleChangesTheState : Prop :=
  ∀ (p : Piece) (i : Nat) (r : PortRole) (o : NetPort), o = p.portOf i → i < p.net.ports.length →
    (o.role = r → setRole i r p = p) ∧
    (r = .disabled → o.role ≠ r → setRole i r p = onPort i (fun o => { o with role := .disabled }) (dropLink i .off p)) ∧
    (r ≠ .disabled → o.role ≠ r → o.up = false → o.state ≠ .fault → setRole i r p = onPort i (fun o => { o with role := r, state := .noSignal }) p) ∧
    (r ≠ .disabled → o.role ≠ r → o.up = true → o.role ≠ .down → setRole i r p = onPort i (fun o => { o with role := r, state := linkedState p.net r, childJoined := false }) p)

/-- The state of a linked port by its role: STANDBY is BLOCKED, a DOWN or UP port of a joined piece ACTIVE (R554). -/
def Sys2Proof.Claim.LinkedStateFollowsTheRole : Prop :=
  ∀ n : Net, linkedState n .standby = .blocked ∧ (n.joined = true → linkedState n .down = .active) ∧ (n.joined = false → linkedState n .down = .linked ∧ linkedState n .up = .linked) ∧
    (n.joined = true → n.detached = false → linkedState n .up = .active) ∧ (n.joined = true → n.detached = true → linkedState n .up = .linked)

/-- PORT_LINKED: an enabled port without fault or link takes its peer's identity and its linked state, with the exchanges of the old link gone; the UP port of a DETACHED piece asks a joined peer to be taken
in again; any other port is unchanged (R554, R570, R571). -/
def Sys2Proof.Claim.PortGainsItsLink : Prop :=
  ∀ (p p1 : Piece) (q : List Instr) (i : Fin 4) (x : NetPeer) (o : NetPort) (ok : Bool), o = p.portOf i →
    ok = (o.role != .disabled && o.state != .fault && !o.up && !islandDead p (0x48 + i.val)) →
    p1 = onPort i (fun o => calibrate { endLink o with state := linkedState p.net o.role, peerNode := x.node, peerJoined := x.joined, peerDetached := x.detached }) p →
    (ok = false → exec (.portLinked i x) ⟨p, q⟩ = .next ⟨p, q⟩) ∧
    (ok = true → o.role ≠ .up ∨ p.net.detached = false ∨ x.joined = false ∨ x.detached = true → exec (.portLinked i x) ⟨p, q⟩ = .next ⟨p1, q⟩) ∧
    (ok = true → o.role = .up → p.net.detached = true → x.joined = true → x.detached = false → exec (.portLinked i x) ⟨p, q⟩ =
      .next ⟨manage i "join" [p1.net.nodeId, p1.net.path] { p1 with net := { p1.net with joinSince := some p1.now, joinNode := p1.net.nodeId } }, q⟩)

/-- NET_LINK_LOSS: a port that holds its link loses it, latches its alarm and is tested; a port without link is unchanged (R554, R598). -/
def Sys2Proof.Claim.LinkLossDropsTheLink : Prop :=
  ∀ (p : Piece) (q : List Instr) (i : Fin 4), ((p.portOf i).up = false → exec (.netLinkLoss i) ⟨p, q⟩ = .next ⟨p, q⟩) ∧
    ((p.portOf i).up = true → exec (.netLinkLoss i) ⟨p, q⟩ = .next ⟨detectError (portElement i) (raiseAlarm 0x0800 0x12 i (dropLink i .noSignal p)), q⟩)

/-- Loss of the parent: a STANDBY port that is BLOCKED, with a joined peer that is not DETACHED and 16 good exchanges, takes over, and a re-parent request leaves; with none the source is lost and the
piece is DETACHED (R563, R570, R571). -/
def Sys2Proof.Claim.StandbyTakesOver : Prop :=
  ∀ (p : Piece) (k : Nat), p.net.joined = true → p.net.root = false →
    (∀ i, usableStandby p k = some i → i < p.net.ports.length → (p.portOf k).role = .up → k ≠ i → k < p.net.ports.length →
      ((loseParent k p).portOf i).role = .up ∧ ((loseParent k p).portOf i).state = .active ∧ ((loseParent k p).portOf k).role = .standby ∧
      (loseParent k p).net.parent = (p.portOf i).peerNode ∧ (loseParent k p).net.reparentSince = some p.now ∧ (loseParent k p).net.sourcePresent = p.net.sourcePresent ∧
      (loseParent k p).net.detached = p.net.detached ∧ (loseParent k p).net.nodeId = p.net.nodeId ∧ (loseParent k p).net.members = p.net.members) ∧
    (usableStandby p k = none → (loseParent k p).net.detached = true ∧ (loseParent k p).net.sourcePresent = false) ∧
    (∀ i, usableStandby p k = some i → i ≠ k ∧ standbyOk (p.portOf i) = true ∧ ∀ j, j < i → j ≠ k → standbyOk (p.portOf j) = false)

/-- JOIN_REQUEST_RECEIVE: a root refuses a node it has and a path whose double passes the horizon, and takes in any other, counting it; a piece that is no root sends the request up; a request at any other
port changes nothing (R556, R558). -/
def Sys2Proof.Claim.JoinRequestIsAnswered : Prop :=
  ∀ (p : Piece) (q : List Instr) (i : Fin 4) (n : Fin 65536) (d : Nat) (m : NetNode), m = { node := n, port := i, path := d } →
    (p.net.joined = false ∨ (p.portOf i).role ≠ .down ∨ (p.portOf i).up = false → exec (.joinRequestReceive i n d) ⟨p, q⟩ = .next ⟨p, q⟩) ∧
    (p.net.joined = true → (p.portOf i).role = .down → (p.portOf i).up = true →
      (p.net.root = false → exec (.joinRequestReceive i n d) ⟨p, q⟩ = .next ⟨manageUp "join" [n.val, d] { p with net := { p.net with joins := p.net.joins ++ [m] } }, q⟩) ∧
      (p.net.root = true → hasNode p.net n = true → exec (.joinRequestReceive i n d) ⟨p, q⟩ = .next ⟨manage i "joinRefusedNode" [n.val] p, q⟩) ∧
      (p.net.root = true → hasNode p.net n = false → p.net.horizon * 1000 < 2 * d → exec (.joinRequestReceive i n d) ⟨p, q⟩ = .next ⟨manage i "joinRefusedHorizon" [n.val] p, q⟩) ∧
      (p.net.root = true → hasNode p.net n = false → 2 * d ≤ p.net.horizon * 1000 → exec (.joinRequestReceive i n d) ⟨p, q⟩ = .next ⟨manage i "joinAccepted" [n.val]
        (markChild m 0 (addMember m { p with net := { p.net with nodes := p.net.nodes + 1 } })), q⟩))

/-- JOIN_RESPONSE_RECEIVE: the answer to the piece's own request completes NET_JOIN with its parent, ST_BUSY or ST_NORESOURCE; else it goes to the oldest request that was sent on (R556). -/
def Sys2Proof.Claim.JoinResponseCompletes : Prop :=
  ∀ (p p1 : Piece) (q : List Instr) (r : JoinResponse) (g : Nat), p1 = { p with net := { p.net with joinSince := none } } →
    ((∀ i, upPort p = some i → g = (p.portOf i).peerNode) ∧ (upPort p = none → g = 0xFFFF)) →
    (p.net.joinSince.isSome = true →
      exec (.joinResponseReceive .accepted) ⟨p, q⟩ = .next ⟨finishWaiting .netJoin 0 0 (fun _ => [g]) (activate { p1 with net := { p1.net with joined := true, root := false, detached := false, nodeId := p.net.joinNode, parent := g } }), q⟩ ∧
      exec (.joinResponseReceive .duplicate) ⟨p, q⟩ = .next ⟨finishWaiting .netJoin 0 3 (fun _ => []) p1, q⟩ ∧
      exec (.joinResponseReceive .horizon) ⟨p, q⟩ = .next ⟨finishWaiting .netJoin 0 8 (fun _ => []) p1, q⟩) ∧
    (p.net.joinSince = none → p.net.joins = [] → exec (.joinResponseReceive r) ⟨p, q⟩ = .next ⟨p, q⟩) ∧
    (∀ m l p2, p.net.joinSince = none → p.net.joins = m :: l → p2 = { p with net := { p.net with joins := l } } →
      exec (.joinResponseReceive .accepted) ⟨p, q⟩ = .next ⟨manage m.port "joinAccepted" [m.node] (markChild m 0 (addMember m p2)), q⟩ ∧
      exec (.joinResponseReceive .duplicate) ⟨p, q⟩ = .next ⟨manage m.port "joinRefusedNode" [m.node] p2, q⟩ ∧
      exec (.joinResponseReceive .horizon) ⟨p, q⟩ = .next ⟨manage m.port "joinRefusedHorizon" [m.node] p2, q⟩)

/-- JOIN_TIMEOUT: one horizon after its request left with no answer NET_JOIN completes with ST_TIMEOUT; before that nothing changes (R556). REPARENT_TIMEOUT: with no confirmation within one horizon the piece
is DETACHED (R571). -/
def Sys2Proof.Claim.RequestsTimeOutAfterOneHorizon : Prop :=
  ∀ (p : Piece) (q : List Instr),
    (∀ t, p.net.joinSince = some t → t + p.net.horizon * ticksPerUs ≤ p.now → exec .joinTimeout ⟨p, q⟩ =
      .next ⟨finishWaiting .netJoin 0 11 (fun _ => []) { p with net := { p.net with joinSince := none } }, q⟩) ∧
    (p.net.joinSince = none ∨ (∃ t, p.net.joinSince = some t ∧ p.now < t + p.net.horizon * ticksPerUs) → exec .joinTimeout ⟨p, q⟩ = .next ⟨p, q⟩) ∧
    (∀ t, p.net.reparentSince = some t → t + p.net.horizon * ticksPerUs ≤ p.now → ∃ p', exec .reparentTimeout ⟨p, q⟩ = .next ⟨p', q⟩ ∧ p'.net.detached = true ∧
      (p.net.detached = true → p' = p)) ∧
    (p.net.reparentSince = none ∨ (∃ t, p.net.reparentSince = some t ∧ p.now < t + p.net.horizon * ticksPerUs) → exec .reparentTimeout ⟨p, q⟩ = .next ⟨p, q⟩)

/-- LEAVE_NOTICE_RECEIVE at the linked UP port is loss of the parent; at any other port nothing (R557). -/
def Sys2Proof.Claim.LeaveNoticeIsLossOfTheParent : Prop :=
  ∀ (p : Piece) (q : List Instr) (i : Fin 4), ((p.portOf i).role = .up → (p.portOf i).up = true → exec (.leaveNoticeReceive i) ⟨p, q⟩ =
      .next ⟨loseParent i (onPort i (fun o => { o with state := .linked, peerJoined := false }) p), q⟩) ∧
    ((p.portOf i).role ≠ .up ∨ (p.portOf i).up = false → exec (.leaveNoticeReceive i) ⟨p, q⟩ = .next ⟨p, q⟩)

/-- LEAVE_REQUEST_RECEIVE at a DOWN port of a joined piece, of a node it has: its parent confirms, the node is forgotten, and the request goes on to the root; any other changes nothing (R557, R572). -/
def Sys2Proof.Claim.LeaveRequestIsConfirmed : Prop :=
  ∀ (p p1 p2 : Piece) (q : List Instr) (i : Fin 4) (n : Fin 65536) (d : Bool), d = ((p.portOf i).peerNode == n.val) →
    p1 = markChild { node := n, port := i, path := 0 } 1 p →
    p2 = { p1 with net := { p1.net with members := p1.net.members.filter (fun m => m.node != n.val), nodes := if p1.net.root then p1.net.nodes - 1 else p1.net.nodes } } →
    (p.net.joined = false ∨ (p.portOf i).role ≠ .down ∨ hasNode p.net n = false → exec (.leaveRequestReceive i n) ⟨p, q⟩ = .next ⟨p, q⟩) ∧
    (p.net.joined = true → (p.portOf i).role = .down → hasNode p.net n = true → ∃ p3, p3 = (if d then manage i "leaveConfirmed" [n.val] p2 else p2) ∧
      (p3.net.root = true → exec (.leaveRequestReceive i n) ⟨p, q⟩ = .next ⟨p3, q⟩) ∧ (p3.net.root = false → exec (.leaveRequestReceive i n) ⟨p, q⟩ = .next ⟨manageUp "leave" [n.val] p3, q⟩))

/-- LEAVE_CONFIRM: the leave completes with the nodes re-parented, and the piece is unjoined: its ACTIVE ports stay LINKED and the NET source is lost; a root waits for one horizon (R557). -/
def Sys2Proof.Claim.LeaveEndsTheMembership : Prop :=
  ∀ (p : Piece) (q : List Instr) (k : Nat),
    (p.net.leaveSince = none → exec (.leaveConfirm k) ⟨p, q⟩ = .next ⟨p, q⟩) ∧
    (∀ t, p.net.leaveSince = some t → p.net.root = true → p.now < t + p.net.horizon * ticksPerUs → exec (.leaveConfirm k) ⟨p, q⟩ = .next ⟨p, q⟩) ∧
    (∀ t, p.net.leaveSince = some t → p.net.root = false ∨ t + p.net.horizon * ticksPerUs ≤ p.now → exec (.leaveConfirm k) ⟨p, q⟩ = .next ⟨finishWaiting .netLeave 0 0 (fun _ => [k]) (unjoin p), q⟩) ∧
    (unjoin p).net.joined = false ∧ (unjoin p).net.sourcePresent = false ∧ (unjoin p).net.nodeId = p.net.nodeId ∧ (∀ o ∈ (unjoin p).net.ports, o.state ≠ .active) ∧
    ∃ x : Net, unjoin p = { p with net := x }

/-- REPARENT_REQUEST_RECEIVE: a root always confirms, and a path whose double passes the horizon sets HORIZON_EXCEEDED and latches NET_HORIZON; a piece that is no root sends it up (R570). -/
def Sys2Proof.Claim.ReparentIsAlwaysConfirmed : Prop :=
  ∀ (p p1 : Piece) (q : List Instr) (i : Fin 4) (n : Fin 65536) (d : Nat) (m : NetNode) (e : Bool), m = { node := n, port := i, path := d } → e = decide (p.net.horizon * 1000 < 2 * d) →
    p1 = { p with net := { p.net with nodes := if hasNode p.net n then p.net.nodes else p.net.nodes + 1, horizonExceeded := p.net.horizonExceeded || e } } →
    (p.net.joined = false ∨ (p.portOf i).role ≠ .down ∨ (p.portOf i).up = false → exec (.reparentRequestReceive i n d) ⟨p, q⟩ = .next ⟨p, q⟩) ∧
    (p.net.joined = true → (p.portOf i).role = .down → (p.portOf i).up = true →
      (p.net.root = false → exec (.reparentRequestReceive i n d) ⟨p, q⟩ = .next ⟨manageUp "reparent" [n.val, d] { p with net := { p.net with reparents := p.net.reparents ++ [m] } }, q⟩) ∧
      (p.net.root = true → e = false → exec (.reparentRequestReceive i n d) ⟨p, q⟩ = .next ⟨manage i "reparentConfirmed" [n.val, 0] (markChild m 0 (addMember m p1)), q⟩) ∧
      (p.net.root = true → e = true → exec (.reparentRequestReceive i n d) ⟨p, q⟩ = .next ⟨manage i "reparentConfirmed" [n.val, 1] (markChild m 0 (addMember m (raiseAlarm 0x0801 0x12 0 p1))), q⟩))

/-- REPARENT_CONFIRM_RECEIVE: the piece's own request is confirmed, with a NET record of a piece re-parented; else the oldest request sent on is (R570, R572). -/
def Sys2Proof.Claim.ReparentConfirmationArrives : Prop :=
  ∀ (p : Piece) (q : List Instr) (e : Bool) (j : Nat), j = (upPort p).getD 0 →
    (p.net.reparentSince.isSome = true → exec (.reparentConfirmReceive e) ⟨p, q⟩ =
      .next ⟨netEvent p.net.nodeId j 2 { p with net := { p.net with reparentSince := none, horizonExceeded := p.net.horizonExceeded || e } }, q⟩) ∧
    (p.net.reparentSince = none → p.net.reparents = [] → exec (.reparentConfirmReceive e) ⟨p, q⟩ = .next ⟨p, q⟩) ∧
    (∀ m l, p.net.reparentSince = none → p.net.reparents = m :: l → exec (.reparentConfirmReceive e) ⟨p, q⟩ =
      .next ⟨manage m.port "reparentConfirmed" [m.node, if e then 1 else 0] (markChild m 0 (addMember m { p with net := { p.net with reparents := l } })), q⟩)

/-- SFP_MODULE_READ: presence, loss of signal and transmit fault of a port's module, and nothing else (R552). -/
def Sys2Proof.Claim.ModuleIsRead : Prop :=
  ∀ (p : Piece) (q : List Instr) (i : Fin 4) (a l t : Bool), exec (.sfpModuleRead i a l t) ⟨p, q⟩ =
    .next ⟨{ p with net := { p.net with ports := upd p.net.ports i (fun o => { o with modulePresent := a, lossOfSignal := l, txFault := t }) } }, q⟩

/-- NET: ports, joining, leaving, links, standby, reparenting, delay table and horizon. It says where these answer a next state: netPortSet, netJoin, netLeave, netDelayTableLoad, netHorizonSet, netStatus, portLinked, netLinkLoss, joinRequestReceive, joinResponseReceive, joinTimeout, reparentTimeout, leaveNoticeReceive, leaveRequestReceive, leaveConfirm, reparentRequestReceive, reparentConfirmReceive, sfpModuleRead. -/
def Obligations.NetPortsAndJoining : Prop :=
  Claim.PortTakesItsRole ∧ Claim.JoinMakesARootOrAsks ∧ Claim.LeaveSendsNoticeAndRequest ∧ Claim.DelayTableIsReplaced ∧
  Claim.HorizonIsSetOrStored ∧ Claim.NetStatusReports ∧ Claim.NetBlockHas320Bytes ∧ Claim.RoleChangesTheState ∧
  Claim.LinkedStateFollowsTheRole ∧ Claim.PortGainsItsLink ∧ Claim.LinkLossDropsTheLink ∧ Claim.StandbyTakesOver ∧
  Claim.JoinRequestIsAnswered ∧ Claim.JoinResponseCompletes ∧ Claim.RequestsTimeOutAfterOneHorizon ∧ Claim.LeaveNoticeIsLossOfTheParent ∧
  Claim.LeaveRequestIsConfirmed ∧ Claim.LeaveEndsTheMembership ∧ Claim.ReparentIsAlwaysConfirmed ∧ Claim.ReparentConfirmationArrives ∧
  Claim.ModuleIsRead

/-- TIME_MESSAGE_SEND: an ACTIVE or BLOCKED port sends its message with the label of its departure at the ball, keeps that label under its SEQ, and counts; another port sends nothing (R560). -/
def Sys2Proof.Claim.TimeMessageIsSent : Prop :=
  ∀ (p : Piece) (q : List Instr) (i : Fin 4) (t : T16) (o : NetPort) (d : Rat), o = p.portOf i → d = exactLabel p t + fsUnits (delayEntry o).dTx →
    (o.state = .active ∨ o.state = .blocked → exec (.timeMessageSend i t) ⟨p, q⟩ = .next ⟨emit (.netFrame i (timeMessage p o d))
      (onPort i (fun o => { o with txSeq := (o.txSeq + 1) % 256, departures := ((o.txSeq, d, t) :: o.departures).take 16 }) p), q⟩) ∧
    (o.state ≠ .active → o.state ≠ .blocked → exec (.timeMessageSend i t) ⟨p, q⟩ = .next ⟨p, q⟩)

/-- A time message has 32 bytes, its type first, and the CRC-32C of bytes 0 to 27 in bytes 28 to 31 (R560). -/
def Sys2Proof.Claim.TimeMessageHas32Bytes : Prop :=
  ∀ (p : Piece) (o : NetPort) (d : Rat) (b : Bytes), b = timeMessage p o d →
    b.length = 32 ∧ u b 0 1 = 0xB1 ∧ u b 28 4 = crc32c (b.take 28) % 2 ^ 32

/-- TIME_MESSAGE_RECEIVE on a linked port: a CRC that does not hold is a bad exchange; else SEQ, arrival at the ball and DETACHED are kept, DETACHED of the parent loses the NET source, and the exchange is
judged; other bytes change nothing; a length that is not 32 is no message (R560 to R563). -/
def Sys2Proof.Claim.TimeMessageIsTaken : Prop :=
  ∀ (p : Piece) (q : List Instr) (i : Fin 4) (t : T16) (b : Bytes) (o : NetPort) (a : Rat) (w dt : Bool) (p1 p2 : Piece), o = p.portOf i → a = exactLabel p t - fsUnits (delayEntry o).dRx →
    (o.rxSeq = none → w = true) → (∀ s, o.rxSeq = some s → (w = true ↔ u b 1 1 = (s + 1) % 256)) → dt = bitAt (u b 2 1) 6 →
    p1 = onPort i (fun o => { o with rxSeq := some (u b 1 1), rxLabel := a, peerDetached := dt }) p →
    p2 = (if dt && o.role == .up then { p1 with net := { p1.net with sourcePresent := false } } else p1) →
    (b.length ≠ 32 → exec (.timeMessageReceive i t b) ⟨p, q⟩ = .refused .illFormed) ∧
    (b.length = 32 → o.up = false ∨ u b 0 1 ≠ 0xB1 → exec (.timeMessageReceive i t b) ⟨p, q⟩ = .next ⟨p, q⟩) ∧
    (b.length = 32 → o.up = true → u b 0 1 = 0xB1 → crc32c (b.take 28) ≠ u b 28 4 → exec (.timeMessageReceive i t b) ⟨p, q⟩ = .next ⟨badExchange i p, q⟩) ∧
    (b.length = 32 → o.up = true → u b 0 1 = 0xB1 → crc32c (b.take 28) = u b 28 4 → exec (.timeMessageReceive i t b) ⟨p, q⟩ = .next ⟨recover i (judgeExchange i t a w b p2), q⟩)

/-- R, and θ on the UP port, from the four times of an exchange: R = (t2 − t1) + (t4 − t3), A from the entry of the delay table, θ = [(t2 − t1) − (t4 − t3) − A] / 2; a message whose echo names no departure
of this piece gives none (R561). -/
def Sys2Proof.Claim.ExchangeMeasuresTheOffset : Prop :=
  ∀ (o : NetPort) (b : Bytes) (arr : Rat) (n : Nat) (dep : Rat) (m : T16) (x y z : Rat),
    x = labelDiff arr (u b 4 4 * 2 ^ 48 + u b 8 6) → y = -labelDiff dep (u b 14 4 * 2 ^ 48 + u b 18 6) → z = fsUnits (delayEntry o).asymFixed + ((delayEntry o).asymRatio : Rat) * (x + y) / 10 ^ 12 →
    (o.departures.find? (fun e => e.1 == u b 3 1) = some (n, dep, m) → o.role ≠ .down → exchange o arr b = some (x + y, (x - y - z) / 2, m)) ∧
    (o.departures.find? (fun e => e.1 == u b 3 1) = some (n, dep, m) → o.role = .down → exchange o arr b = some (x + y, (y - x) / 2, m)) ∧
    (o.departures.find? (fun e => e.1 == u b 3 1) = none → exchange o arr b = none)

/-- A good exchange keeps R and θ and counts in its run; a bad one ends the run, and the fourth in a row on the UP port loses the NET source (R563). -/
def Sys2Proof.Claim.ExchangesAreCounted : Prop :=
  ∀ (p : Piece) (i : Nat) (r e : Rat) (o : NetPort), o = p.portOf i → i < p.net.ports.length →
    ((goodExchange i r e p).portOf i).goodRun = o.goodRun + 1 ∧ ((goodExchange i r e p).portOf i).badRun = 0 ∧ ((goodExchange i r e p).portOf i).goodR = (r :: o.goodR).take 16 ∧
    ((goodExchange i r e p).portOf i).theta = roundRat e ∧ ((goodExchange i r e p).portOf i).good = min (o.good + 1) (2 ^ 32 - 1) ∧
    ((badExchange i p).portOf i).goodRun = 0 ∧ ((badExchange i p).portOf i).badRun = o.badRun + 1 ∧ ((badExchange i p).portOf i).bad = min (o.bad + 1) (2 ^ 32 - 1) ∧
    (o.role = .up → 3 ≤ o.badRun → (badExchange i p).net.sourcePresent = false) ∧ (o.role ≠ .up ∨ o.badRun < 3 → (badExchange i p).net.sourcePresent = p.net.sourcePresent)

/-- An exchange is discarded where it spans a Ledger step, and bad where no departure matches, its SEQ does not follow, or its R lies more than 10 ns from the median of the last good ones; a new link takes its
first R as that median (R563, R564). -/
def Sys2Proof.Claim.ExchangeIsJudged : Prop :=
  ∀ (p : Piece) (i : Nat) (t : T16) (a : Rat) (w : Bool) (b : Bytes) (o : NetPort), o = p.portOf i →
    (exchange o a b = none → judgeExchange i t a w b p = badExchange i p) ∧
    (∀ r e m, exchange o a b = some (r, e, m) → spansStep p m t = true → judgeExchange i t a w b p = p) ∧
    (∀ r e m, exchange o a b = some (r, e, m) → spansStep p m t = false → w = false → judgeExchange i t a w b p = badExchange i p) ∧
    (∀ r e m, exchange o a b = some (r, e, m) → spansStep p m t = false → o.goodR ≠ [] → tenNs < max (r - median o.goodR) (median o.goodR - r) → judgeExchange i t a w b p = badExchange i p) ∧
    (∀ r e m, exchange o a b = some (r, e, m) → spansStep p m t = false → w = true → o.role ≠ .up → o.goodR = [] ∨ max (r - median o.goodR) (median o.goodR - r) ≤ tenNs →
      judgeExchange i t a w b p = goodExchange i r e p)

/-- An announcement is 16 bytes with its type, the root, the horizon and the nodes in their places (R559). -/
def Sys2Proof.Claim.AnnouncementHas16Bytes : Prop :=
  ∀ (d v : Bool) (r h e pa n : Nat), (announcement d v r h e pa n).length = 16 ∧ u (announcement d v r h e pa n) 0 1 = 0xA1

/-- ANNOUNCEMENT_SEND: the root of a Net announces through each ACTIVE DOWN port; another piece sends none (R559). -/
def Sys2Proof.Claim.RootAnnounces : Prop :=
  ∀ (p : Piece) (q : List Instr),
    (p.net.joined = true → p.net.root = true → exec .announcementSend ⟨p, q⟩ = .next ⟨(List.range 4).foldl (fun x i =>
      if (x.portOf i).role == .down && (x.portOf i).state == .active then
        emit (.netFrame i (announcement p.net.detached (timeValid p) p.net.nodeId p.net.horizon p.net.epoch 0 p.net.nodes)) x else x) p, q⟩) ∧
    (p.net.joined = false ∨ p.net.root = false → exec .announcementSend ⟨p, q⟩ = .next ⟨p, q⟩)

/-- ANNOUNCEMENT_RECEIVE on the linked UP port: root, horizon, epoch, nodes and ROOT_TIME_VALID are the parent's, PATH is the parent's and this hop's; DETACHED loses the NET source; a joined piece relays its
own; other bytes change nothing (R558, R559, R563). -/
def Sys2Proof.Claim.AnnouncementIsTakenAndRelayed : Prop :=
  ∀ (p p1 p2 : Piece) (q : List Instr) (i : Fin 4) (b : Bytes) (o : NetPort), o = p.portOf i →
    p1 = { p with net := { p.net with ports := upd p.net.ports i (fun o => { o with peerDetached := bitAt (u b 1 1) 7 }), rootNode := u b 2 2, horizon := u b 4 2, epoch := u b 6 1, nodes := u b 12 4, path := childPath (u b 8 4) o.r, rootTimeValid := bitAt (u b 1 1) 6 } } →
    p2 = (if bitAt (u b 1 1) 7 then { p1 with net := { p1.net with sourcePresent := false } } else p1) →
    (b.length ≠ 16 → exec (.announcementReceive i b) ⟨p, q⟩ = .refused .illFormed) ∧
    (b.length = 16 → o.role ≠ .up ∨ o.up = false ∨ u b 0 1 ≠ 0xA1 → exec (.announcementReceive i b) ⟨p, q⟩ = .next ⟨p, q⟩) ∧
    (b.length = 16 → o.role = .up → o.up = true → u b 0 1 = 0xA1 → p2.net.joined = false → exec (.announcementReceive i b) ⟨p, q⟩ = .next ⟨p2, q⟩) ∧
    (b.length = 16 → o.role = .up → o.up = true → u b 0 1 = 0xA1 → p2.net.joined = true → exec (.announcementReceive i b) ⟨p, q⟩ = .next ⟨announce
      (announcement (sendsDetached p2) p2.net.rootTimeValid p2.net.rootNode p2.net.horizon p2.net.epoch p2.net.path p2.net.nodes) p2, q⟩)

/-- A cross-trigger is 16 bytes that end in the CRC-8 of the rest; going on it has HOPS one higher, and its CRC holds then exactly where it held before (R565, R566). -/
def Sys2Proof.Claim.CrossTriggerKeepsItsCheck : Prop :=
  (∀ c n h s l : Nat, (xtrigBytes c n h s l).length = 16 ∧ u (xtrigBytes c n h s l) 0 1 = 0xC1 ∧ u (xtrigBytes c n h s l) 15 1 = crc8 ((xtrigBytes c n h s l).take 15) % 256) ∧
  ∀ b : Bytes, b.length = 16 → u b 4 1 < 255 → (hopOn b).length = 16 ∧ u (hopOn b) 4 1 = u b 4 1 + 1 ∧ (u (hopOn b) 15 1 = crc8 ((hopOn b).take 15) ↔ u b 15 1 = crc8 (b.take 15))

/-- CROSS_TRIGGER_RECEIVE: one at 255 hops is not sent on, any other is, before the check; a corrupt one and a late one are counted and not delivered; the rest reach TRIGGER (R565 to R567). -/
def Sys2Proof.Claim.CrossTriggerIsForwardedAndDelivered : Prop :=
  ∀ (p p1 : Piece) (q : List Instr) (i : Fin 4) (b : Bytes) (s l : Nat) (age : Int),
    p1 = (if u b 4 1 != 255 then spreadXtrig (some i.val) (hopOn b) p else p) →
    s = (nearest 16 (labelSeconds p1.label) (u b 12 2)).toNat % 2 ^ 32 → l = s * 2 ^ 48 + u b 6 6 → age = signed 80 (twos 80 ((p1.label : Int) - l)) →
    (b.length ≠ 16 → exec (.crossTriggerReceive i b) ⟨p, q⟩ = .refused .illFormed) ∧
    (b.length = 16 → p.net.joined = false ∨ carries (p.portOf i) = false ∨ u b 0 1 ≠ 0xC1 → exec (.crossTriggerReceive i b) ⟨p, q⟩ = .next ⟨p, q⟩) ∧
    (b.length = 16 → p.net.joined = true → carries (p.portOf i) = true → u b 0 1 = 0xC1 →
      (crc8 (b.take 15) ≠ u b 15 1 → exec (.crossTriggerReceive i b) ⟨p, q⟩ = .next ⟨{ p1 with net := { p1.net with xtrigCrc := min (p1.net.xtrigCrc + 1) (2 ^ 32 - 1) } }, q⟩) ∧
      (crc8 (b.take 15) = u b 15 1 → (p1.net.horizon : Int) * 2 ^ 48 < age * 10 ^ 6 → exec (.crossTriggerReceive i b) ⟨p, q⟩ =
        .next ⟨{ p1 with net := { p1.net with xtrigLate := min (p1.net.xtrigLate + 1) (2 ^ 32 - 1) } }, q⟩) ∧
      (crc8 (b.take 15) = u b 15 1 → age * 10 ^ 6 ≤ (p1.net.horizon : Int) * 2 ^ 48 → exec (.crossTriggerReceive i b) ⟨p, q⟩ = .next ⟨deliverXtrig (u b 1 1) (u b 2 2) l p1, q⟩))

/-- A cross-trigger that goes out waits in the queue of its port, of 16 entries; one that finds the queue full is dropped there and counted (R566). -/
def Sys2Proof.Claim.FullQueueDropsACrossTrigger : Prop :=
  ∀ (p : Piece) (i : Nat) (b : Bytes),
    ((p.portOf i).queue.length < 16 → queueXtrig i b p = onPort i (fun o => { o with queue := o.queue ++ [b] }) p) ∧
    (16 ≤ (p.portOf i).queue.length → queueXtrig i b p = { p with net := { p.net with xtrigDropped := min (p.net.xtrigDropped + 1) (2 ^ 32 - 1) } })

/-- CROSS_TRIGGER_SEND: the first of the queue of an ACTIVE UP or DOWN port enters the frame; with an empty queue or another port nothing changes (R555, R566). -/
def Sys2Proof.Claim.QueuedCrossTriggerIsSent : Prop :=
  ∀ (p : Piece) (q : List Instr) (i : Fin 4), ((p.portOf i).queue = [] → exec (.crossTriggerSend i) ⟨p, q⟩ = .next ⟨p, q⟩) ∧
    (∀ b r, (p.portOf i).queue = b :: r → carries (p.portOf i) = false → exec (.crossTriggerSend i) ⟨p, q⟩ = .next ⟨p, q⟩) ∧
    (∀ b r, (p.portOf i).queue = b :: r → carries (p.portOf i) = true → exec (.crossTriggerSend i) ⟨p, q⟩ = .next ⟨emit (.netFrame i b) (onPort i (fun o => { o with queue := r }) p), q⟩)

/-- ALARM_SUMMARY_SEND: the first entry with news whose last summary left at least 100 µs ago goes up the ACTIVE UP port of a joined piece, and is empty then; with none, or no such port, nothing changes
(R568, R569). -/
def Sys2Proof.Claim.SummaryIsSentOncePer100us : Prop :=
  ∀ (p : Piece) (q : List Instr),
    (upPort p = none ∨ p.net.joined = false ∨ (∀ e ∈ p.net.table, e.due = false ∨ ∃ m, e.lastSent = some m ∧ p.now < m + 100 * ticksPerUs) → exec .alarmSummarySend ⟨p, q⟩ = .next ⟨p, q⟩) ∧
    (∀ i e, upPort p = some i → p.net.table.find? (fun e => e.due && (match e.lastSent with | some m => decide (m + 100 * ticksPerUs ≤ p.now) | none => true)) = some e →
      p.net.joined = true → (p.portOf i).state = .active → exec .alarmSummarySend ⟨p, q⟩ = .next ⟨emit (.netFrame i (summaryBytes e)) { p with net := { p.net with table := p.net.table.map (fun x => if x.origin == e.origin then { x with groups := 0, fresh := 0, due := false, lastSent := some p.now } else x) } }, q⟩)

/-- A summary is 8 bytes, its type first, the CRC-8 of the rest last (R568). -/
def Sys2Proof.Claim.SummaryHas8Bytes : Prop :=
  ∀ e : Summary, (summaryBytes e).length = 8 ∧ u (summaryBytes e) 0 1 = 0xD1 ∧ u (summaryBytes e) 7 1 = crc8 ((summaryBytes e).take 7) % 256

/-- ALARM_SUMMARY_RECEIVE at an ACTIVE DOWN port: a summary whose CRC holds merges into the entry of its origin, is counted, and is among the latest sixteen; any other bytes change nothing (R568, R569,
R573). -/
def Sys2Proof.Claim.SummaryMergesIntoItsEntry : Prop :=
  ∀ (p : Piece) (q : List Instr) (i : Fin 4) (b : Bytes) (ok : Bool), ok = ((p.portOf i).role == .down && carries (p.portOf i) && u b 0 1 == 0xD1 && crc8 (b.take 7) == u b 7 1) →
    (b.length ≠ 8 → exec (.alarmSummaryReceive i b) ⟨p, q⟩ = .refused .illFormed) ∧
    (b.length = 8 → ok = false → exec (.alarmSummaryReceive i b) ⟨p, q⟩ = .next ⟨p, q⟩) ∧
    (b.length = 8 → ok = true → exec (.alarmSummaryReceive i b) ⟨p, q⟩ = .next ⟨{ p with net := { p.net with table := mergeSummary p.net.table (u b 1 2) (u b 3 2) (u b 5 1) (u b 6 1), summaries := (p.net.summaries + 1) % 2 ^ 32, latest := lastN 16 (p.net.latest ++ [b]) } }, q⟩)

/-- Of one origin a summary is merged: GROUPS is ORed, NEW is added up to 255, the latest SEQ is kept; of a new origin an entry is made; the entries of other origins stay (R569). -/
def Sys2Proof.Claim.MergeKeepsOneEntryPerOrigin : Prop :=
  ∀ (l : List Summary) (o g n s : Nat),
    ((∀ e ∈ l, e.origin ≠ o) → ∃ x : Summary, mergeSummary l o g n s = l ++ [x] ∧ x.origin = o ∧ x.groups = g ∧ x.fresh = min 255 n ∧ x.seq = s ∧ x.due = true) ∧
    (∀ e ∈ l, e.origin = o → mergeSummary l o g n s = l.map (fun x => if x.origin == o then { x with groups := x.groups ||| g, fresh := min 255 (x.fresh + n), seq := s, due := true } else x))

/-- EPOCH_MESSAGE_RECEIVE: a joined piece below the root takes the epoch and sends it down; with TIME_SOURCE NET its Ledger steps by Δ at the tick, else it writes its mark of source 23 only; any other piece is
unchanged (R564). -/
def Sys2Proof.Claim.EpochStepsTheLedger : Prop :=
  ∀ (p p1 : Piece) (q : List Instr) (d : Int) (e : Fin 256) (t : T16), t = T16.ofTick p.now →
    p1 = manageDown "epoch" [d, e.val] { p with net := { p.net with epoch := e, epochTick := some p.now } } →
    (p.net.joined = false ∨ p.net.root = true → exec (.epochMessageReceive d e) ⟨p, q⟩ = .next ⟨p, q⟩) ∧
    (p.net.joined = true → p.net.root = false → p.ledger.source = .net → exec (.epochMessageReceive d e) ⟨p, q⟩ = .next ⟨stepLedger t (p.ledger.current.exact t + d * labelUnits) p1, q⟩) ∧
    (p.net.joined = true → p.net.root = false → p.ledger.source ≠ .net → exec (.epochMessageReceive d e) ⟨p, q⟩ = .next ⟨pushSource 23 t true 0 0 p1, q⟩)

/-- NET: time messages, exchanges, announcements, cross-triggers, alarm summaries and epoch messages. It says where these answer a next state: timeMessageSend, timeMessageReceive, announcementSend, announcementReceive, crossTriggerReceive, crossTriggerSend, alarmSummarySend, alarmSummaryReceive, epochMessageReceive. -/
def Obligations.NetTimeAndTriggers : Prop :=
  Claim.TimeMessageIsSent ∧ Claim.TimeMessageHas32Bytes ∧ Claim.TimeMessageIsTaken ∧ Claim.ExchangeMeasuresTheOffset ∧
  Claim.ExchangesAreCounted ∧ Claim.ExchangeIsJudged ∧ Claim.AnnouncementHas16Bytes ∧ Claim.RootAnnounces ∧
  Claim.AnnouncementIsTakenAndRelayed ∧ Claim.CrossTriggerKeepsItsCheck ∧ Claim.CrossTriggerIsForwardedAndDelivered ∧
  Claim.FullQueueDropsACrossTrigger ∧ Claim.QueuedCrossTriggerIsSent ∧ Claim.SummaryIsSentOncePer100us ∧ Claim.SummaryHas8Bytes ∧
  Claim.SummaryMergesIntoItsEntry ∧ Claim.MergeKeepsOneEntryPerOrigin ∧ Claim.EpochStepsTheLedger

/-- SAFETY_CONFIGURE sets ACT_THRESHOLD, 256 to 8,192, and FAULT_MASK of 16 bits, and writes a journal entry of code 0x1003 with its requester (R519, R604). -/
def Sys2Proof.Claim.ThresholdAndMaskAreSet : Prop :=
  ∀ (p : Piece) (q : List Instr) (c : Cmd) (f : Flight) (p1 : Piece) (b : Bytes) (t : Nat) (p2 : Piece) (z0 : Bool), Claim.Starts 0x0E01 c p f p1 →
    b = f.body → t = u b 0 2 → p2 = { p1 with dmc := { p1.dmc with actThreshold := t }, safety := { p1.safety with faultMask := u b 4 4 } } →
    z0 = (decide (t < 256) || decide (8192 < t) || u b 2 2 != 0 || decide (65535 < u b 4 4) || u b 8 8 != 0) →
    (z0 = true → exec (.safetyConfigure c) ⟨p, q⟩ = .next ⟨finish f 1 [] p1, q⟩) ∧
    (z0 = false → exec (.safetyConfigure c) ⟨p, q⟩ = .next ⟨finish f 0 [] (writeJournal { code := 0x1003, panelType := 0x14, requester := (owner p1 f.channel).number } p2), q⟩)

/-- JOURNAL_READ writes, in SEQ order, up to COUNT of the entries held at or after FIRST modulo 2^16, or of the persistent list from its entry FIRST; it returns how many and the index of the next, and removes none (R519, R609). -/
def Sys2Proof.Claim.JournalIsReadInOrder : Prop :=
  ∀ (p : Piece) (q : List Instr) (c : Cmd) (f : Flight) (p1 : Piece) (b : Bytes) (first : Nat) (n : Nat) (dest : Nat) (pers : Bool) (es : List JournalEntry) (nx : Nat) (z0 r0 : Bool), Claim.Starts 0x0E02 c p f p1 →
    b = f.body → first = u b 0 2 → n = u b 2 2 → dest = u b 8 8 → pers = bitAt (u b 4 1) 7 → es = ((if pers then p1.safety.persistent.drop first else (heldEntries p1.safety).filter (fun e => decide ((e.seq + 65536 - first) % 65536 < 32768))).take n) → nx = (if pers then first + es.length else (es.getLast?.map (fun e => (e.seq + 1) % 65536)).getD first) →
    z0 = (n == 0) →
    r0 = (decide (4096 < n) || u b 4 1 % 128 != 0 || u b 5 3 != 0 || (pers && decide (255 < first)) || !destOk p1.dmc dest (64 * n)) →
    (z0 = true → exec (.journalRead c) ⟨p, q⟩ = .next ⟨finish f 2 [] p1, q⟩) ∧
    (z0 = false → r0 = true → exec (.journalRead c) ⟨p, q⟩ = .next ⟨finish f 1 [] p1, q⟩) ∧
    (z0 = false → r0 = false → 
      (∀ (p2 : Piece), pieceWrite dest (es.flatMap (·.bytes)) p1 = (p2, .ok) → exec (.journalRead c) ⟨p, q⟩ = .next ⟨finish f 0 [es.length, nx] (p2), q⟩) ∧
      (∀ (p2 : Piece) (t : Transfer), pieceWrite dest (es.flatMap (·.bytes)) p1 = (p2, t) → t ≠ .ok → exec (.journalRead c) ⟨p, q⟩ = .next ⟨finish f (transferStatus t) [] (p2), q⟩))

/-- SELFTEST_RUN tests one element that R600 names, if something is free to cover it and no test of it waits or runs, and completes at the end of the test (R519, R600). -/
def Sys2Proof.Claim.SelftestRunTestsAnElement : Prop :=
  ∀ (p : Piece) (q : List Instr) (c : Cmd) (f : Flight) (p1 : Piece) (b : Bytes) (e : Element) (z0 r0 : Bool), Claim.Starts 0x0E03 c p f p1 →
    b = f.body → e = { test := u b 0 1, panel := u b 1 1, inst := u b 2 1, element := u b 3 1 } →
    z0 = (!elementOk e || u b 4 4 != 0) →
    r0 = (!coverFree p1 e || p1.safety.tests.any (·.element == e)) →
    (z0 = true → exec (.selftestRun c) ⟨p, q⟩ = .next ⟨finish f 1 [] p1, q⟩) ∧
    (z0 = false → r0 = true → exec (.selftestRun c) ⟨p, q⟩ = .next ⟨finish f 9 [] p1, q⟩) ∧
    (z0 = false → r0 = false → exec (.selftestRun c) ⟨p, q⟩ = .next ⟨settle (setFlight { f with progress := .waiting .selfTest (e.test * 2 ^ 24 + e.panel * 2 ^ 16 + e.inst * 2 ^ 8 + e.element) [] } ({ p1 with safety := { p1.safety with selftests := (p1.safety.selftests + 1) % 2 ^ 32, tests := p1.safety.tests ++ [{ element := e, running := true, hostRun := true }] } })), q⟩)

/-- DUMP_REGION_SET sets the host region of the freeze's dump; LENGTH 0 disables it, and a LENGTH below 4 MiB or a device address gives ST_RANGE (R519). -/
def Sys2Proof.Claim.DumpRegionIsSet : Prop :=
  ∀ (p : Piece) (q : List Instr) (c : Cmd) (f : Flight) (p1 : Piece) (b : Bytes) (z0 : Bool), Claim.Starts 0x0E04 c p f p1 →
    b = f.body →
    z0 = ((u b 8 4 != 0 && decide (u b 8 4 < 4 * 2 ^ 20)) || isDevice (u b 0 8) || u b 12 4 != 0) →
    (z0 = true → exec (.dumpRegionSet c) ⟨p, q⟩ = .next ⟨finish f 1 [] p1, q⟩) ∧
    (z0 = false → exec (.dumpRegionSet c) ⟨p, q⟩ = .next ⟨finish f 0 [] ({ p1 with safety := { p1.safety with regionAddr := u b 0 8, regionLen := u b 8 4 } }), q⟩)

/-- DUMP_READ writes the dump held to DEST, frees the strongroom, sets RELEASE_ARMED, and returns its bytes and its number; with none held it gives ST_STATE, and one that cannot be written stays held (R519, R612). -/
def Sys2Proof.Claim.DumpIsReadAndReleased : Prop :=
  ∀ (p : Piece) (q : List Instr) (c : Cmd) (f : Flight) (p1 : Piece) (b : Bytes) (d : Dump) (dest : Nat) (z0 r0 : Bool), Claim.Starts 0x0E05 c p f p1 →
    b = f.body → d = p1.safety.dump.getD {} → dest = u b 0 8 →
    z0 = (!destOk p1.dmc dest d.bytes.length || u b 8 8 != 0) →
    r0 = (p1.safety.dump.isNone) →
    (z0 = true → exec (.dumpRead c) ⟨p, q⟩ = .next ⟨finish f 1 [] p1, q⟩) ∧
    (z0 = false → r0 = true → exec (.dumpRead c) ⟨p, q⟩ = .next ⟨finish f 9 [] p1, q⟩) ∧
    (z0 = false → r0 = false → 
      (∀ (p2 : Piece), pieceWrite dest d.bytes p1 = (p2, .ok) → exec (.dumpRead c) ⟨p, q⟩ = .next ⟨finish f 0 [d.bytes.length, p1.safety.dumpSeq] ({ p2 with safety := { p2.safety with dump := none, releaseArmed := true } }), q⟩) ∧
      (∀ (p2 : Piece) (t : Transfer), pieceWrite dest d.bytes p1 = (p2, t) → t ≠ .ok → exec (.dumpRead c) ⟨p, q⟩ = .next ⟨finish f (transferStatus t) [] (p2), q⟩))

/-- FW_UPDATE_BEGIN opens an update of 1 byte to 6 MiB, erases the slot that does not hold the running image, and returns that slot; while one is open it gives ST_BUSY (R521). -/
def Sys2Proof.Claim.UpdateErasesTheInactiveSlot : Prop :=
  ∀ (p : Piece) (q : List Instr) (c : Cmd) (f : Flight) (p1 : Piece) (b : Bytes) (n : Nat) (s : Nat) (z0 r0 s0 : Bool), Claim.Starts 0x0F01 c p f p1 →
    b = f.body → n = u b 0 4 → s = 1 - p1.boot.slot →
    z0 = (n == 0) →
    r0 = (decide (6 * 2 ^ 20 < n) || !isZero (slice b 4 12)) →
    s0 = (p1.boot.updateOpen) →
    (z0 = true → exec (.fwUpdateBegin c) ⟨p, q⟩ = .next ⟨finish f 2 [] p1, q⟩) ∧
    (z0 = false → r0 = true → exec (.fwUpdateBegin c) ⟨p, q⟩ = .next ⟨finish f 1 [] p1, q⟩) ∧
    (z0 = false → r0 = false → s0 = true → exec (.fwUpdateBegin c) ⟨p, q⟩ = .next ⟨finish f 3 [] p1, q⟩) ∧
    (z0 = false → r0 = false → s0 = false → exec (.fwUpdateBegin c) ⟨p, q⟩ = .next ⟨finish f 0 [s] ({ p1 with boot := { p1.boot with updateOpen := true, updateLen := n, updateBytes := [], images := put p1.boot.images s (some []) } }), q⟩)

/-- FW_UPDATE_CHUNK places bytes of the image at an offset that is a multiple of 256, in place of what it overlaps, and returns the bytes written so far; a chunk that cannot be read changes nothing (R521). -/
def Sys2Proof.Claim.ChunkIsPlacedInTheUpdate : Prop :=
  ∀ (p : Piece) (q : List Instr) (c : Cmd) (f : Flight) (p1 : Piece) (b : Bytes) (off : Nat) (n : Nat) (a : Nat) (z0 r0 s0 : Bool), Claim.Starts 0x0F02 c p f p1 →
    b = f.body → off = u b 0 4 → n = u b 4 4 → a = u b 8 8 →
    z0 = (n == 0) →
    r0 = (off % 256 != 0 || decide (65536 < n) || !tableAddrOk p1.dmc a n || (p1.boot.updateOpen && decide (p1.boot.updateLen < off + n))) →
    s0 = (!p1.boot.updateOpen) →
    (z0 = true → exec (.fwUpdateChunk c) ⟨p, q⟩ = .next ⟨finish f 2 [] p1, q⟩) ∧
    (z0 = false → r0 = true → exec (.fwUpdateChunk c) ⟨p, q⟩ = .next ⟨finish f 1 [] p1, q⟩) ∧
    (z0 = false → r0 = false → s0 = true → exec (.fwUpdateChunk c) ⟨p, q⟩ = .next ⟨finish f 9 [] p1, q⟩) ∧
    (z0 = false → r0 = false → s0 = false → 
      (∀ (t : Transfer), pieceRead p1 a n c.read = .error t → exec (.fwUpdateChunk c) ⟨p, q⟩ = .next ⟨finish f (transferStatus t) [] (p1), q⟩) ∧
      (∀ (d : Bytes) (l : List Host.Cell), pieceRead p1 a n c.read = .ok d → l = p1.boot.updateBytes.filter (fun x => decide (x.1 < off)) ++ d.mapIdx (fun i x => (off + i, x)) ++ p1.boot.updateBytes.filter (fun x => decide (off + d.length ≤ x.1)) → exec (.fwUpdateChunk c) ⟨p, q⟩ = .next ⟨finish f 0 [l.length] ({ p1 with boot := { p1.boot with updateBytes := l } }), q⟩))

/-- FW_UPDATE_COMMIT of an update whose every byte is written and whose signature holds makes its slot the one to load at the next reset, writes an FW_UPDATE entry and returns its version; else it gives ST_CHECK and changes nothing. Which signatures hold is open (R402, R521; log entry 20). -/
def Sys2Proof.Claim.CommitNeedsAWholeSignedImage : Prop :=
  ∀ (p : Piece) (q : List Instr) (c : Cmd) (f : Flight) (p1 : Piece) (img : Bytes) (s : Nat) (z0 r0 : Bool), Claim.Starts 0x0F03 c p f p1 →
    img = p1.boot.updateBytes.map (·.2) → s = 1 - p1.boot.slot →
    z0 = (!isZero f.body) →
    r0 = (!p1.boot.updateOpen) →
    (z0 = true → exec (.fwUpdateCommit c) ⟨p, q⟩ = .next ⟨finish f 1 [] p1, q⟩) ∧
    (z0 = false → r0 = true → exec (.fwUpdateCommit c) ⟨p, q⟩ = .next ⟨finish f 9 [] p1, q⟩) ∧
    (z0 = false → r0 = false → 
      (p1.boot.updateBytes.length = p1.boot.updateLen → Config.signatureHolds img = true → exec (.fwUpdateCommit c) ⟨p, q⟩ = .next ⟨finish f 0 [(Config.imageVersion img).toNat] (writeJournal { code := 0x1004, panelType := 0x17, requester := (owner p1 f.channel).number } { p1 with boot := { p1.boot with updateOpen := false, updateLen := 0, updateBytes := [], images := put p1.boot.images s (some img), selector := s } }), q⟩) ∧
      (p1.boot.updateBytes.length ≠ p1.boot.updateLen ∨ Config.signatureHolds img = false → exec (.fwUpdateCommit c) ⟨p, q⟩ = .next ⟨finish f 10 [] (p1), q⟩))

/-- KEY_HASH_QUERY writes the 48 bytes of the fused hash at DEST and returns 48 (R521). -/
def Sys2Proof.Claim.KeyHashIsWritten : Prop :=
  ∀ (p : Piece) (q : List Instr) (c : Cmd) (f : Flight) (p1 : Piece) (b : Bytes) (dest : Nat) (z0 : Bool), Claim.Starts 0x0F04 c p f p1 →
    b = f.body → dest = u b 8 8 →
    z0 = (!isZero (slice b 0 8) || !destOk p1.dmc dest 48) →
    (z0 = true → exec (.keyHashQuery c) ⟨p, q⟩ = .next ⟨finish f 1 [] p1, q⟩) ∧
    (z0 = false → 
      (∀ (p2 : Piece), pieceWrite dest ((List.range 48).map Config.keyHash) p1 = (p2, .ok) → exec (.keyHashQuery c) ⟨p, q⟩ = .next ⟨finish f 0 [48] (p2), q⟩) ∧
      (∀ (p2 : Piece) (t : Transfer), pieceWrite dest ((List.range 48).map Config.keyHash) p1 = (p2, t) → t ≠ .ok → exec (.keyHashQuery c) ⟨p, q⟩ = .next ⟨finish f (transferStatus t) [] (p2), q⟩))

/-- SAFETY_CONFIGURE, JOURNAL_READ, SELFTEST_RUN, dumps and firmware updates (which signatures hold is open, log entry 20). It says where these answer a next state: safetyConfigure, journalRead, selftestRun, dumpRegionSet, dumpRead, fwUpdateBegin, fwUpdateChunk, fwUpdateCommit, keyHashQuery. -/
def Obligations.SafetyCommands : Prop :=
  Claim.ThresholdAndMaskAreSet ∧ Claim.JournalIsReadInOrder ∧ Claim.SelftestRunTestsAnElement ∧ Claim.DumpRegionIsSet ∧
  Claim.DumpIsReadAndReleased ∧ Claim.UpdateErasesTheInactiveSlot ∧ Claim.ChunkIsPlacedInTheUpdate ∧ Claim.CommitNeedsAWholeSignedImage ∧
  Claim.KeyHashIsWritten

/-- In the safe state SAFE_STATE_N, TIME_VALID, FREQ_VALID and FAULT_N are low, whatever else holds (R591, R592). -/
def Sys2Proof.Claim.SafeStateHoldsTheOutputsLow : Prop :=
  ∀ p : Piece, p.safety.safeState = true → safeStateN p = false ∧ timeValid p = false ∧ freqValid p = false ∧ faultN p = false

/-- RAIL_WINDOW of channels 16 to 27, OVER_TEMP and OUTPUT_READBACK of a released piece enter the safe state and latch their alarm; a dump of cause 2 begins where none is held and the steward is not
halted; a rail of another channel does nothing (R592, R594, R610). -/
def Sys2Proof.Claim.SafetyFaultsEnterTheSafeState : Prop :=
  ∀ (p : Piece) (q : List Instr) (i : Instr) (a : Nat),
    (∃ c : Fin 40, i = .railWindow c ∧ 16 ≤ c.val ∧ c.val ≤ 27 ∧ a = 0x0200 ∧ p.boot.released = true) ∨ (∃ n, i = .overTemp n ∧ a = 0x0201) ∨ (∃ n, i = .outputReadback n ∧ a = 0x0202) →
    (∃ t : Piece, exec i ⟨p, q⟩ = .next ⟨t, q⟩ ∧ t.safety.safeState = true ∧ (∀ x ∈ t.safety.alarms, x.code = a → x.latched = true) ∧
      (p.safety.safeState = true ∨ p.transport.state = .halted ∨ p.safety.dump.isSome = true → t.safety.dumpPending = p.safety.dumpPending) ∧
      (p.safety.safeState = false → p.transport.state ≠ .halted → p.safety.dump = none → p.safety.dumpPending = none →
        ∃ d, t.safety.dumpPending = some d ∧ d.cause = 2 ∧ d.code = a ∧ d.mint = p.now) ∧
      t.boot = p.boot ∧ t.clocks = p.clocks ∧ t.ledger = p.ledger ∧ t.dmc = p.dmc ∧ t.stamp = p.stamp ∧ t.rfin = p.rfin)

/-- A rail outside channels 16 to 27 changes nothing; while the piece is held in reset a rail raises no alarm, and only that of VDD_SRAM leaves a trace: the strongroom is lost (R594, R612, R628). -/
def Sys2Proof.Claim.RailInResetOnlyLosesTheStrongroom : Prop :=
  ∀ (p : Piece) (q : List Instr) (c : Fin 40),
    (c.val < 16 ∨ 27 < c.val → exec (.railWindow c) ⟨p, q⟩ = .next ⟨p, q⟩) ∧
    (16 ≤ c.val → c.val ≤ 27 → p.boot.released = false → c.val ≠ 20 → exec (.railWindow c) ⟨p, q⟩ = .next ⟨p, q⟩) ∧
    (c.val = 20 → p.boot.released = false → exec (.railWindow c) ⟨p, q⟩ = .next ⟨{ p with safety := { p.safety with sramLost := true } }, q⟩)

/-- ISLAND_CLOCK of an island with a checker, whose clock still ran: the fault is lasting and ISLAND_CLOCK latches (that of the steward island enters the safe state), and the consequence is that of R595: the
four inputs of a stamp island set FAULT_ACTIVE; the streams of a converter island end; the memory island freezes the DMC; the host island removes the link; a Net island loses its link. Any other ISLAND_CLOCK
changes nothing (R594, R595). -/
def Sys2Proof.Claim.IslandClockFaultIsLasting : Prop :=
  ∀ (p p1 p2 : Piece) (q : List Instr) (i : Nat), p1 = { p with safety := { p.safety with deadIslands := p.safety.deadIslands ++ [i] } } → p2 = raiseAlarm 0x0300 0x14 0 p1 →
    (checkedIslands.contains i = false ∨ p.safety.deadIslands.contains i = true → exec (.islandClock i) ⟨p, q⟩ = .next ⟨p, q⟩) ∧
    (checkedIslands.contains i = true → p.safety.deadIslands.contains i = false →
      (i < 16 → exec (.islandClock i) ⟨p, q⟩ = .next ⟨(List.range 4).foldl (fun p n => loseInput (4 * (i - 1) + n) p) p2, q⟩) ∧
      (16 ≤ i → i < 24 → exec (.islandClock i) ⟨p, q⟩ = .next ⟨streamLost (i - 16) 8 ((List.range 8).foldl (fun p n => if (p.ddc (i - 16) n).en then ddcLost (i - 16) n p else p) p2), q⟩) ∧
      (24 ≤ i → i < 0x30 → exec (.islandClock i) ⟨p, q⟩ = .next ⟨p2, q⟩) ∧
      (i = 0x30 → exec (.islandClock i) ⟨p, q⟩ = .next ⟨enterSafe 0x0300 p1, q⟩) ∧
      (i = 0x38 → p2.dmc.frozen = true → exec (.islandClock i) ⟨p, q⟩ = .next ⟨p2, q⟩) ∧
      (i = 0x38 → p2.dmc.frozen = false → exec (.islandClock i) ⟨p, q⟩ = .next ⟨faultAcqs (freezeDmc 0 0 p2), q⟩) ∧
      (i = 0x40 → exec (.islandClock i) ⟨p, q⟩ = .next ⟨removeLink p2, q⟩) ∧
      (0x48 ≤ i → exec (.islandClock i) ⟨p, q⟩ = .next ⟨linkLoss (i - 0x48) p2, q⟩))

/-- SRAM_UE of a panel that exists latches SRAM_UE, reaches the owner of the store, takes a spare row where its array of 1,024 rows has one left, and is a detected error of the row; that of a steward that runs
is a divergence of its cores; of no panel it changes nothing (R594, R596, R598). -/
def Sys2Proof.Claim.UncorrectableErrorReachesItsOwner : Prop :=
  ∀ (p : Piece) (q : List Instr) (t i n : Nat) (p1 : Piece) (e : Element), p1 = raiseAlarm 0x0500 t i p → e = { test := 0, panel := t, inst := i, element := n } →
    (panelInstances t ≤ i → exec (.sramUe t i n) ⟨p, q⟩ = .next ⟨p, q⟩) ∧
    (i < panelInstances t → t ≠ 0x17 → exec (.sramUe t i n) ⟨p, q⟩ = .next ⟨detectError e (mapRow e (corrupt t i n p1)), q⟩) ∧
    (i < panelInstances t → t = 0x17 → p1.transport.state ≠ .halted → exec (.sramUe t i n) ⟨p, q⟩ = .next ⟨lockstep p1, q⟩) ∧
    (i < panelInstances t → t = 0x17 → p1.transport.state = .halted → exec (.sramUe t i n) ⟨p, q⟩ = .next ⟨p1, q⟩)

/-- A row that no spare serves yet is served by one while its array has fewer than two lent; else the rows stay as they were (R596). -/
def Sys2Proof.Claim.SpareRowServesARow : Prop :=
  ∀ (p : Piece) (e : Element),
    (p.safety.mappedRows.contains e = false → rowsMapped p e < 2 → mapRow e p = { p with safety := { p.safety with mappedRows := p.safety.mappedRows ++ [e] } }) ∧
    (p.safety.mappedRows.contains e = true ∨ 2 ≤ rowsMapped p e → mapRow e p = p)

/-- SRAM_SCRUB and SPARE_ROW_MARCH change nothing of the piece: each error they find is a row of its own (R594, R597; log entry 39). -/
def Sys2Proof.Claim.ScrubAndMarchChangeNothing : Prop :=
  ∀ (p : Piece) (q : List Instr), exec .sramScrub ⟨p, q⟩ = .next ⟨p, q⟩ ∧ exec .spareRowMarch ⟨p, q⟩ = .next ⟨p, q⟩

/-- STEWARD_LOCKSTEP of a steward that is not halted latches STEWARD_LOCKSTEP and resets it; the fourth within 10 s halts it; a halted one stays so (R412, R594, R601). -/
def Sys2Proof.Claim.DivergenceResetsTheSteward : Prop :=
  ∀ (p : Piece) (q : List Instr),
    (p.transport.state = .halted → exec .stewardLockstep ⟨p, q⟩ = .next ⟨p, q⟩) ∧
    (p.transport.state ≠ .halted → ∃ t : Piece, exec .stewardLockstep ⟨p, q⟩ = .next ⟨t, q⟩ ∧
      t.transport.restarts = min (p.transport.restarts + 1) (2 ^ 32 - 1) ∧ (∀ x ∈ t.safety.alarms, x.code = 0x0700 → x.latched = true) ∧
      (3 ≤ (p.safety.lockstepLog.filter (fun m => decide (p.now < m + 10 * ticksPerSecond))).length → t.transport.state = .halted ∧ ∀ x ∈ t.safety.alarms, x.code = 0x0701 → x.latched = true) ∧
      ((p.safety.lockstepLog.filter (fun m => decide (p.now < m + 10 * ticksPerSecond))).length < 3 → p.boot.ready = true → t.transport.state = .restarting) ∧
      ((p.safety.lockstepLog.filter (fun m => decide (p.now < m + 10 * ticksPerSecond))).length < 3 → p.boot.ready = false → t.transport.state = .boot ∧ t.boot.phase = .boot))

/-- STEWARD_RESTART of a restarting steward: it runs again, and each command that its reset interrupted ends, ST_ABORTED where it had not started and ST_FAULT where it had; else nothing changes (R412). -/
def Sys2Proof.Claim.RestartEndsTheInterrupted : Prop :=
  ∀ (p : Piece) (q : List Instr),
    (p.transport.state = .restarting → exec .stewardRestart ⟨p, q⟩ = .next ⟨endInterrupted (raiseVector 1 34 (raiseVector 0 34 { p with transport := { p.transport with state := .running } })), q⟩) ∧
    (p.transport.state ≠ .restarting → exec .stewardRestart ⟨p, q⟩ = .next ⟨p, q⟩) ∧
    (∀ f : Flight, p.transport.flights = [f] → (f.progress = .notStarted → endInterrupted p = finish f 6 [] p) ∧ (∀ k i r, f.progress = .waiting k i r → endInterrupted p = finish f 12 [] p))

/-- TABLE_CHECK with a mismatch, of a running steward, latches TABLE_CHECK; any other changes nothing (R594). -/
def Sys2Proof.Claim.TableMismatchLatches : Prop :=
  ∀ (p : Piece) (q : List Instr) (b : Bool), (b = true → p.transport.state = .running → exec (.tableCheck b) ⟨p, q⟩ = .next ⟨raiseAlarm 0x0601 0x17 0 p, q⟩) ∧
    (b = false ∨ p.transport.state ≠ .running → exec (.tableCheck b) ⟨p, q⟩ = .next ⟨p, q⟩)

/-- TARGETED_SELFTEST_START of a running steward starts the test that waits for its element, and counts it; with none waiting nothing changes (R598). -/
def Sys2Proof.Claim.TargetedTestStarts : Prop :=
  ∀ (p : Piece) (q : List Instr) (e : Element) (w : Bool), w = p.safety.tests.any (fun t => t.element == e && !t.running) →
    (p.transport.state = .running → w = true → exec (.targetedSelftestStart e) ⟨p, q⟩ = .next ⟨{ p with safety := { p.safety with selftests := (p.safety.selftests + 1) % 2 ^ 32, tests := p.safety.tests.map (fun t => if t.element == e then { t with running := true } else t) } }, q⟩) ∧
    (p.transport.state ≠ .running ∨ w = false → exec (.targetedSelftestStart e) ⟨p, q⟩ = .next ⟨p, q⟩)

/-- TARGETED_SELFTEST_END: the oldest running test ends; it passes where it found no error and none came meanwhile; a pass is a transient verdict and a fail a lasting one; a test of the host writes a SELFTEST
entry and completes its command (R599, R600). -/
def Sys2Proof.Claim.TargetedTestGivesItsVerdict : Prop :=
  ∀ (p p1 : Piece) (q : List Instr) (b : Bool) (t : SelfTest), p1 = { p with safety := { p.safety with tests := p.safety.tests.filter (fun x => x != t) } } →
    (p.safety.tests.find? (fun x => x.running) = none → exec (.targetedSelftestEnd b) ⟨p, q⟩ = .next ⟨p, q⟩) ∧
    (p.safety.tests.find? (fun x => x.running) = some t →
      (t.hostRun = false → b = true → t.failed = false → exec (.targetedSelftestEnd b) ⟨p, q⟩ = .next ⟨transientElement t.element p1, q⟩) ∧
      (t.hostRun = false → b = false ∨ t.failed = true → exec (.targetedSelftestEnd b) ⟨p, q⟩ = .next ⟨retireElement t.element p1, q⟩) ∧
      (t.hostRun = true → b = true → t.failed = false → exec (.targetedSelftestEnd b) ⟨p, q⟩ = .next ⟨finishWaiting .selfTest (elementIndex t.element) 0 (fun _ => [0])
        (writeJournal { elementEntry p1 t.element 3 with code := 0x1001 } p1), q⟩) ∧
      (t.hostRun = true → b = false ∨ t.failed = true → exec (.targetedSelftestEnd b) ⟨p, q⟩ = .next ⟨finishWaiting .selfTest (elementIndex t.element) 0 (fun _ => [1])
        (retireElement t.element (writeJournal { elementEntry p1 t.element 4 with code := 0x1001 } p1)), q⟩))

/-- A detected error of an element: it fails a running test of it; of a retired element it does nothing; after three transients within 10 s it is lasting without a test; else one test waits (R598, R599). -/
def Sys2Proof.Claim.ErrorStartsOrFailsATest : Prop :=
  ∀ (p : Piece) (e : Element) (r w : Bool), r = p.safety.tests.any (fun t => t.element == e && t.running) → w = p.safety.tests.any (fun t => t.element == e) →
    (r = true → detectError e p = { p with safety := { p.safety with tests := p.safety.tests.map (fun t => if t.element == e && t.running then { t with failed := true } else t) } }) ∧
    (r = false → p.safety.retirements.contains e = true → detectError e p = p) ∧
    (r = false → p.safety.retirements.contains e = false → 3 ≤ transientsOf p e → detectError e p = retireElement e p) ∧
    (r = false → p.safety.retirements.contains e = false → transientsOf p e < 3 → w = true → detectError e p = p) ∧
    (r = false → p.safety.retirements.contains e = false → transientsOf p e < 3 → w = false →
      detectError e p = { p with safety := { p.safety with tests := p.safety.tests ++ [{ element := e }] } })

/-- A lasting verdict of an element not yet retired counts it, retires it, ends its tests, and latches ELEMENT_RETIRED with a persistent entry before its own consequence; a second one changes nothing
(R599, R608). -/
def Sys2Proof.Claim.LastingVerdictRetires : Prop :=
  ∀ (p p1 : Piece) (e : Element), p1 = { p with safety := { p.safety with retired := min (p.safety.retired + 1) (2 ^ 32 - 1), retirements := p.safety.retirements ++ [e], tests := p.safety.tests.filter (fun t => t.element != e) } } →
    (p.safety.retirements.contains e = true → retireElement e p = p) ∧
    (p.safety.retirements.contains e = false → retireElement e p = loseElement e (alarmWith 0x0403 { elementEntry p1 e 2 with persistent := true } p1))

/-- A transient verdict counts, is remembered for 10 s, writes a SELFTEST entry of verdict 1, and returns the element to its service (R599, R606). -/
def Sys2Proof.Claim.TransientVerdictReturns : Prop :=
  ∀ (p p1 : Piece) (e : Element), p1 = { p with safety := { p.safety with transients := min (p.safety.transients + 1) (2 ^ 32 - 1), transientLog := { element := e, mint := p.now } :: p.safety.transientLog.filter (fun f => decide (p.now < f.mint + 10 * ticksPerSecond)) } } →
    transientElement e p = returnElement e (writeJournal { elementEntry p1 e 1 with code := 0x1001 } p1)

/-- Safe state, island clocks, SRAM errors, steward resets, targeted tests and their verdicts. It says where these answer a next state: railWindow, overTemp, outputReadback, islandClock, sramUe, sramScrub, spareRowMarch, stewardLockstep, stewardRestart, tableCheck, targetedSelftestStart, targetedSelftestEnd. -/
def Obligations.DiagnosticsAndVerdicts : Prop :=
  Claim.SafeStateHoldsTheOutputsLow ∧ Claim.SafetyFaultsEnterTheSafeState ∧ Claim.RailInResetOnlyLosesTheStrongroom ∧
  Claim.IslandClockFaultIsLasting ∧ Claim.UncorrectableErrorReachesItsOwner ∧ Claim.SpareRowServesARow ∧ Claim.ScrubAndMarchChangeNothing ∧
  Claim.DivergenceResetsTheSteward ∧ Claim.RestartEndsTheInterrupted ∧ Claim.TableMismatchLatches ∧ Claim.TargetedTestStarts ∧
  Claim.TargetedTestGivesItsVerdict ∧ Claim.ErrorStartsOrFailsATest ∧ Claim.LastingVerdictRetires ∧ Claim.TransientVerdictReturns

/-- An occurrence of an alarm adds one to its 16-bit saturating COUNT and moves LAST; where the entry was clear it latches it and sets FIRST; no other entry changes (R602). -/
def Sys2Proof.Claim.OccurrenceCountsAndMovesLast : Prop :=
  ∀ (p : Piece) (c : Nat), (latchAlarm c p).1.safety.alarms = p.safety.alarms.map (fun a => if a.code = c then
      (if a.latched then { a with count := min (2 ^ 16 - 1) (a.count + 1), lastMint := p.now, lastLabel := p.label }
        else { a with latched := true, firstMint := p.now, firstLabel := p.label, count := min (2 ^ 16 - 1) (a.count + 1), lastMint := p.now, lastLabel := p.label }) else a) ∧
    ((latchAlarm c p).2 = true ↔ ∃ a ∈ p.safety.alarms, a.code = c ∧ a.latched = false)

/-- The first occurrence of an alarm since its clear sends vector 32 on both functions, raises an ALARM event record with its code and count, and queues a summary of the Net (R602). -/
def Sys2Proof.Claim.FirstOccurrenceIsAnnounced : Prop :=
  ∀ (p : Piece) (c n : Nat) (a : AlarmEntry), p.safety.alarms.find? (fun x => x.code == c) = some a → n = a.count →
    announceAlarm c p = queueOwnSummary (raiseEvent 8 0x14 0 (leBytes 2 c ++ leBytes 2 n ++ zeros 12) (raiseVector 1 32 (raiseVector 0 32 p)))

/-- Outside an incident the journal holds the latest 4,096 entries; an incident begins at the 64th entry within 1 ms, with those 64 frozen (R606, R607). -/
def Sys2Proof.Claim.JournalKeepsTheLatest : Prop :=
  ∀ (now : Nat) (e : JournalEntry) (s s1 : Safety) (l : List JournalEntry) (r : List Nat) (x : Incident) (b f : Bool), s.incident = none → (s1, b, f) = journalled now e s →
    l = lastN 4096 (s.journal ++ [e]) → r = (now :: s.recent).take 64 → x.frozen = lastN 64 l → x.began = now → x.drops = [] →
    s1.journalNext = (s.journalNext + 1) % 2 ^ 32 ∧ s1.recent = r ∧
    (r.length = 64 → now < r.getLastD 0 + ticksPerMs → b = true ∧ s1.incident = some x ∧ s1.journal = l.take (l.length - 64)) ∧
    (r.length ≠ 64 ∨ r.getLastD 0 + ticksPerMs ≤ now → b = false ∧ s1.incident = none ∧ s1.journal = l)

/-- In an incident the 960 entries after its first 64 are frozen too; later ones roll through the remaining 3,072 slots, and each overwritten entry counts as dropped (R607). -/
def Sys2Proof.Claim.IncidentFreezesAndRolls : Prop :=
  ∀ (now : Nat) (e d : JournalEntry) (s s1 : Safety) (i : Incident) (b f : Bool) (l : List JournalEntry), s.incident = some i → (s1, b, f) = journalled now e s → b = false ∧
    (i.frozen.length < 1024 → s.journal.length ≤ 4095 - i.frozen.length → s1.incident = some { i with frozen := i.frozen ++ [e] } ∧ s1.journal = s.journal ∧ s1.journalDropped = s.journalDropped) ∧
    (i.frozen.length = 1024 → s.journal.length < 3072 → s1.incident = some i ∧ s1.journal = s.journal ++ [e] ∧ s1.journalDropped = s.journalDropped) ∧
    (i.frozen.length = 1024 → s.journal = d :: l → l.length = 3071 → s1.incident = some { i with drops := countDrop i.drops d } ∧ s1.journal = l ++ [e] ∧
      s1.journalDropped = min (s.journalDropped + 1) (2 ^ 32 - 1))

/-- Dropped entries count under their code in up to 64 counters; codes beyond them share that of OTHER (R607). -/
def Sys2Proof.Claim.DropsCountUnderTheirCode : Prop :=
  ∀ (l : List DropCount) (e : JournalEntry), 
    ((∃ d ∈ l, d.code = e.code) → countDrop l e = l.map (fun d => if d.code = e.code then { d with count := d.count + 1, lastMint := e.mint } else d)) ∧
    ((∀ d ∈ l, d.code ≠ e.code) → (l.filter (fun d => d.code != 0xFFFF)).length < 64 → countDrop l e = l ++ [{ code := e.code, count := 1, firstMint := e.mint, lastMint := e.mint }]) ∧
    ((∀ d ∈ l, d.code ≠ e.code) → 64 ≤ (l.filter (fun d => d.code != 0xFFFF)).length → (∀ d ∈ l, d.code ≠ 0xFFFF) →
      countDrop l e = l ++ [{ code := 0xFFFF, count := 1, firstMint := e.mint, lastMint := e.mint }])

/-- An entry with PERSISTENT set is also copied to the persistent list, of 256 entries; a full list keeps what it holds (R608). -/
def Sys2Proof.Claim.PersistentEntryIsCopied : Prop :=
  ∀ (p : Piece) (e : JournalEntry),
    (e.persistent = true → p.safety.persistent.length < 256 → (writeJournal e p).safety.persistent = p.safety.persistent ++ [stampEntry e p]) ∧
    (e.persistent = false ∨ 256 ≤ p.safety.persistent.length → (writeJournal e p).safety.persistent = p.safety.persistent)

/-- JOURNAL_INCIDENT_END: 100 ms after its beginning, with fewer than 16 entries in the last 100 ms, an incident ends: frozen and rolling entries are the ring again, and one SUMMARY entry per counter is
written; before that, and with no incident, nothing changes (R607). -/
def Sys2Proof.Claim.IncidentEndsWithSummaries : Prop :=
  ∀ (p p1 : Piece) (q : List Instr) (i : Incident) (quiet : Bool), (quiet = true ↔ i.began + 100 * ticksPerMs ≤ p.now ∧ ∀ m, p.safety.recent[15]? = some m → m + 100 * ticksPerMs ≤ p.now) →
    p1 = { p with safety := { p.safety with incident := none, journal := lastN 4096 (i.frozen ++ p.safety.journal) } } →
    (p.safety.incident = none → exec .journalIncidentEnd ⟨p, q⟩ = .next ⟨p, q⟩) ∧
    (p.safety.incident = some i → quiet = false → exec .journalIncidentEnd ⟨p, q⟩ = .next ⟨p, q⟩) ∧
    (p.safety.incident = some i → quiet = true → exec .journalIncidentEnd ⟨p, q⟩ = .next ⟨i.drops.foldl (fun p d => writeJournal
        { code := d.code, summary := true, panelType := 0x14, detail := leBytes 4 d.count ++ zeros 4 ++ leBytes 8 d.firstMint ++ leBytes 8 d.lastMint } p) p1, q⟩)

/-- A journal entry is written out in 64 bytes, SEQ, CODE and REQUESTER in their places (R606). -/
def Sys2Proof.Claim.JournalEntryHas64Bytes : Prop :=
  ∀ e : JournalEntry, e.bytes.length = 64 ∧ u e.bytes 0 4 = e.seq % 2 ^ 32 ∧ u e.bytes 4 2 = e.code % 2 ^ 16 ∧ u e.bytes 7 1 = e.requester % 2 ^ 8

/-- A cause of a dump begins one where none is held and none is being written; else it is counted as suppressed; a halted steward writes none (R610). -/
def Sys2Proof.Claim.FirstFaultIsDumped : Prop :=
  ∀ (p : Piece) (c a : Nat),
    (p.transport.state = .halted → startDump c a p = p) ∧
    (p.transport.state ≠ .halted → p.safety.dump.isSome = true ∨ p.safety.dumpPending.isSome = true →
      startDump c a p = { p with safety := { p.safety with dumpsSuppressed := min (p.safety.dumpsSuppressed + 1) (2 ^ 32 - 1) } }) ∧
    (p.transport.state ≠ .halted → p.safety.dump = none → p.safety.dumpPending = none →
      startDump c a p = { p with safety := { p.safety with dumpPending := some { cause := c, mint := p.now, label := p.label, code := a } } })

/-- DUMP_WRITTEN of a running steward puts the dump into the strongroom under the next DUMP_SEQ and writes a DUMP_WRITTEN entry; that of a freeze is copied to the host region where it fits and the link is up;
with no dump in the making, or a steward that does not run, nothing changes (R395, R610, R612). -/
def Sys2Proof.Claim.DumpIsWritten : Prop :=
  ∀ (p p1 : Piece) (q : List Instr) (d : DumpPending) (n : Nat) (b : Bytes), n = (p.safety.dumpSeq + 1) % 2 ^ 32 → b = dumpBytes p d n →
    p1 = writeJournal { code := 0x1005, panelType := 0x17, detail := leBytes 4 n } { p with safety := { p.safety with dumpPending := none, dumpSeq := n, dump := some { cause := d.cause, mint := d.mint, label := d.label, code := d.code, bytes := b } } } →
    (p.safety.dumpPending = none ∨ p.transport.state ≠ .running → exec .dumpWritten ⟨p, q⟩ = .next ⟨p, q⟩) ∧
    (p.safety.dumpPending = some d → p.transport.state = .running →
      (d.cause ≠ 1 ∨ p.safety.regionLen < b.length ∨ p.hostif.linkUp = false → exec .dumpWritten ⟨p, q⟩ = .next ⟨p1, q⟩) ∧
      (d.cause = 1 → b.length ≤ p.safety.regionLen → p.hostif.linkUp = true → exec .dumpWritten ⟨p, q⟩ = .next ⟨emit (.hostWrite p.safety.regionAddr b) p1, q⟩))

/-- A dump begins with MAGIC, FORMAT 1, CAUSE and DUMP_SEQ, and TOTAL_LEN is its length (R611). -/
def Sys2Proof.Claim.DumpHasItsHeader : Prop :=
  ∀ (p : Piece) (d : DumpPending) (n : Nat) (b : Bytes), b = dumpBytes p d n →
    u b 0 4 = 0x504D5544 ∧ u b 4 2 = 1 ∧ u b 6 1 = d.cause % 256 ∧ u b 7 1 = 7 ∧ u b 8 4 = n % 2 ^ 32 ∧ u b 12 4 = b.length % 2 ^ 32

/-- The alarm bank, the journal with its incidents and persistent list, and the dump. It says where these answer a next state: journalIncidentEnd, dumpWritten. -/
def Obligations.AlarmsJournalAndDump : Prop :=
  Claim.OccurrenceCountsAndMovesLast ∧ Claim.FirstOccurrenceIsAnnounced ∧ Claim.JournalKeepsTheLatest ∧ Claim.IncidentFreezesAndRolls ∧
  Claim.DropsCountUnderTheirCode ∧ Claim.PersistentEntryIsCopied ∧ Claim.IncidentEndsWithSummaries ∧ Claim.JournalEntryHas64Bytes ∧
  Claim.FirstFaultIsDumped ∧ Claim.DumpIsWritten ∧ Claim.DumpHasItsHeader

/-- A source stage issues at most one condition event per tally-island cycle: of several it keeps the earliest, and counts the others as dropped (R169). -/
def Obligations.EarliestConditionIsIssued : Prop :=
  ∀ (p p' : Piece) (e : CondEvent), p' = issueCond e p → e.cell < p.trigger.cells.length →
    ((∀ o ∈ p.trigger.matrix, ¬(o.cell = e.cell ∧ o.cycle = e.cycle)) → p'.trigger.matrix = p.trigger.matrix ++ [e] ∧
      (p'.cell e.cell).fired = ((p.cell e.cell).fired + 1) % 2 ^ 32 ∧ (p'.cell e.cell).dropped = (p.cell e.cell).dropped) ∧
    (∀ o ∈ p.trigger.matrix, o.cell = e.cell → o.cycle = e.cycle → p'.trigger.matrix.length = p.trigger.matrix.length ∧
      (p'.cell e.cell).fired = (p.cell e.cell).fired ∧ (p'.cell e.cell).dropped = min ((p.cell e.cell).dropped + 1) (2 ^ 32 - 1) ∧
      ∃ x ∈ p'.trigger.matrix, x.cell = e.cell ∧ x.cycle = e.cycle ∧ x.time ≤ e.time ∧ x.time ≤ o.time)

/-- After a captured edge the input is blind to further edges that pass the prescaler: one less than 790 ps after it is lost, one 810 ps or more after it is captured, between them either; a captured edge
carries its measured time, and a lost edge does not restart the blind period (R239). -/
def Obligations.BlindPeriod : Prop :=
  ∀ (p p0 p1 : Piece) (q : List Instr) (n : Fin 24) (e : StampEdge) (i : StampInput) (raw l : T16), n.val < 16 → p0 = applySetting n p → i = p0.input n →
    i.setting.en = true → i.faultActive = false → (∀ t, i.blankUntil = some t → t ≤ p0.now) → detects i = true → i.setting.slope.passes e.rising = true →
    i.prescaled = 0 → i.lastCapture = some l →
    p1 = onInput n (fun i => { i with prescaled := (i.prescaled + 1) % 2 ^ i.setting.prescale }) p0 → raw = T16.ofTick p1.now + fraction p1 n e →
    n.val / 4 < p0.stamp.length → n.val % 4 < (p0.motif (n.val / 4)).inputs.length →
    ∃ p', exec (.stampEdgeCapture n e) ⟨p, q⟩ = .next ⟨p', q⟩ ∧
      ((raw - l) * 390625 < 790 * 65536000 → (p'.input n).lastCapture = some l ∧ (p'.input n).captured = i.captured) ∧
      (810 * 65536000 ≤ (raw - l) * 390625 → (p'.input n).lastCapture = some raw ∧ (p'.input n).captured = (i.captured + 1) % 2 ^ 32) ∧
      (790 * 65536000 ≤ (raw - l) * 390625 → (raw - l) * 390625 < 810 * 65536000 → (p'.input n).lastCapture = some (if e.greyCaptured then raw else l))

/-- Fletcher-64 runs over 32-bit words: A sums the words and B the sums, both mod 2^32 − 1, and the value is B × 2^32 + A; each entry zero-pads its own trailing partial word (R545). -/
def Obligations.FletcherSixtyFour : Prop :=
  (∀ a b : Nat, fletcherRun a b [] = b * 2 ^ 32 + a) ∧
  (∀ (a b w : Nat) (ws : List Nat), fletcherRun a b (w :: ws) = fletcherRun ((a + w) % (2 ^ 32 - 1)) ((b + (a + w) % (2 ^ 32 - 1)) % (2 ^ 32 - 1)) ws) ∧
  (∀ bs : Bytes, words bs = words (padTo 4 bs)) ∧
  (∀ (x y : List Nat) (a b : Nat), a < 2 ^ 32 - 1 → b < 2 ^ 32 - 1 →
    fletcherRun a b (x ++ y) = fletcherRun (fletcherRun a b x % 2 ^ 32) (fletcherRun a b x / 2 ^ 32) y)

/-- The condition codes of a branch, over Z, N, C and V of SR; a B with a reserved code 11 to 15 is illegal (R357, R368). -/
def Obligations.BranchConditions : Prop :=
  (∀ (fl : Nat) (z n cy v : Bool), z = bitAt fl 0 → n = bitAt fl 1 → cy = bitAt fl 2 → v = bitAt fl 3 →
    condHolds fl 0 = true ∧ condHolds fl 1 = z ∧ condHolds fl 2 = !z ∧ (condHolds fl 3 = true ↔ n ≠ v) ∧ (condHolds fl 4 = true ↔ n = v) ∧
    (condHolds fl 5 = true ↔ z = false ∧ n = v) ∧ (condHolds fl 6 = true ↔ z = true ∨ n ≠ v) ∧ condHolds fl 7 = !cy ∧ condHolds fl 8 = cy ∧ condHolds fl 9 = n ∧
    condHolds fl 10 = !n) ∧
  (∀ (e : CoreEnv) (x ext : Nat) (p : Piece) (c : Core), field x 26 6 = 0x10 → 10 < field x 22 4 → slotY e x ext p c = .error (4, 0)) ∧
  (∀ (e : CoreEnv) (x ext : Nat) (p : Piece) (c : Core), field x 26 6 = 0x10 → field x 16 6 = 0 → field x 22 4 ≤ 10 →
    (condHolds c.flags (field x 22 4) = false → slotY e x ext p c = .ok ({}, .next)) ∧
    (condHolds c.flags (field x 22 4) = true → slotY e x ext p c = jumpTo c [] (relative c x) [] id))

/-- Device DRAM stays in its canonical form over every step, whatever command stands in front of the queue: addresses strictly rising, and
no listed byte that reads as an unlisted one does. -/
def Obligations.StepKeepsMemoryCanonical : Prop :=
  ∀ (s t : State), Memory.wf s.piece.dmc.dram = true → step s = .next t → Memory.wf t.piece.dmc.dram = true

/-- The memory of the reset state is in its canonical form, and every byte of it reads zero. -/
def Obligations.ResetMemoryIsCanonical : Prop :=
  Memory.wf State.reset.piece.dmc.dram = true ∧ ∀ a, memByte State.reset.piece.dmc.dram a = 0
end

