-- ==== Sys2Proof/Laws/State.lean ====
section
/-! SUPPORT. One lemma for each field of the piece and each update of a part of it: the part changed holds the new value, every
other part is as before. -/

namespace Sys2Proof.Machine

/-! ### onClocks -/

@[simp] theorem onClocks_transport (f : Clocks → Clocks) (p : Piece) : (onClocks f p).transport = p.transport := rfl
@[simp] theorem onClocks_regs (f : Clocks → Clocks) (p : Piece) : (onClocks f p).regs = p.regs := rfl
@[simp] theorem onClocks_safety (f : Clocks → Clocks) (p : Piece) : (onClocks f p).safety = p.safety := rfl
@[simp] theorem onClocks_boot (f : Clocks → Clocks) (p : Piece) : (onClocks f p).boot = p.boot := rfl
@[simp] theorem onClocks_clocks (f : Clocks → Clocks) (p : Piece) : (onClocks f p).clocks = f p.clocks := rfl
@[simp] theorem onClocks_ledger (f : Clocks → Clocks) (p : Piece) : (onClocks f p).ledger = p.ledger := rfl
@[simp] theorem onClocks_monitor (f : Clocks → Clocks) (p : Piece) : (onClocks f p).monitor = p.monitor := rfl
@[simp] theorem onClocks_hostif (f : Clocks → Clocks) (p : Piece) : (onClocks f p).hostif = p.hostif := rfl
@[simp] theorem onClocks_dmc (f : Clocks → Clocks) (p : Piece) : (onClocks f p).dmc = p.dmc := rfl
@[simp] theorem onClocks_stream (f : Clocks → Clocks) (p : Piece) : (onClocks f p).stream = p.stream := rfl
@[simp] theorem onClocks_check (f : Clocks → Clocks) (p : Piece) : (onClocks f p).check = p.check := rfl
@[simp] theorem onClocks_net (f : Clocks → Clocks) (p : Piece) : (onClocks f p).net = p.net := rfl
@[simp] theorem onClocks_stamp (f : Clocks → Clocks) (p : Piece) : (onClocks f p).stamp = p.stamp := rfl
@[simp] theorem onClocks_fabric (f : Clocks → Clocks) (p : Piece) : (onClocks f p).fabric = p.fabric := rfl
@[simp] theorem onClocks_rfin (f : Clocks → Clocks) (p : Piece) : (onClocks f p).rfin = p.rfin := rfl
@[simp] theorem onClocks_chan (f : Clocks → Clocks) (p : Piece) : (onClocks f p).chan = p.chan := rfl
@[simp] theorem onClocks_xform (f : Clocks → Clocks) (p : Piece) : (onClocks f p).xform = p.xform := rfl
@[simp] theorem onClocks_density (f : Clocks → Clocks) (p : Piece) : (onClocks f p).density = p.density := rfl
@[simp] theorem onClocks_trigger (f : Clocks → Clocks) (p : Piece) : (onClocks f p).trigger = p.trigger := rfl
@[simp] theorem onClocks_acq (f : Clocks → Clocks) (p : Piece) : (onClocks f p).acq = p.acq := rfl
@[simp] theorem onClocks_gythen (f : Clocks → Clocks) (p : Piece) : (onClocks f p).gythen = p.gythen := rfl
@[simp] theorem onClocks_tally (f : Clocks → Clocks) (p : Piece) : (onClocks f p).tally = p.tally := rfl
@[simp] theorem onClocks_cal (f : Clocks → Clocks) (p : Piece) : (onClocks f p).cal = p.cal := rfl
@[simp] theorem onClocks_scan (f : Clocks → Clocks) (p : Piece) : (onClocks f p).scan = p.scan := rfl
@[simp] theorem onClocks_free (f : Clocks → Clocks) (p : Piece) : (onClocks f p).free = p.free := rfl
@[simp] theorem onClocks_out (f : Clocks → Clocks) (p : Piece) : (onClocks f p).out = p.out := rfl

/-! ### onLedger -/

@[simp] theorem onLedger_transport (f : Ledger → Ledger) (p : Piece) : (onLedger f p).transport = p.transport := rfl
@[simp] theorem onLedger_regs (f : Ledger → Ledger) (p : Piece) : (onLedger f p).regs = p.regs := rfl
@[simp] theorem onLedger_safety (f : Ledger → Ledger) (p : Piece) : (onLedger f p).safety = p.safety := rfl
@[simp] theorem onLedger_boot (f : Ledger → Ledger) (p : Piece) : (onLedger f p).boot = p.boot := rfl
@[simp] theorem onLedger_clocks (f : Ledger → Ledger) (p : Piece) : (onLedger f p).clocks = p.clocks := rfl
@[simp] theorem onLedger_ledger (f : Ledger → Ledger) (p : Piece) : (onLedger f p).ledger = f p.ledger := rfl
@[simp] theorem onLedger_monitor (f : Ledger → Ledger) (p : Piece) : (onLedger f p).monitor = p.monitor := rfl
@[simp] theorem onLedger_hostif (f : Ledger → Ledger) (p : Piece) : (onLedger f p).hostif = p.hostif := rfl
@[simp] theorem onLedger_dmc (f : Ledger → Ledger) (p : Piece) : (onLedger f p).dmc = p.dmc := rfl
@[simp] theorem onLedger_stream (f : Ledger → Ledger) (p : Piece) : (onLedger f p).stream = p.stream := rfl
@[simp] theorem onLedger_check (f : Ledger → Ledger) (p : Piece) : (onLedger f p).check = p.check := rfl
@[simp] theorem onLedger_net (f : Ledger → Ledger) (p : Piece) : (onLedger f p).net = p.net := rfl
@[simp] theorem onLedger_stamp (f : Ledger → Ledger) (p : Piece) : (onLedger f p).stamp = p.stamp := rfl
@[simp] theorem onLedger_fabric (f : Ledger → Ledger) (p : Piece) : (onLedger f p).fabric = p.fabric := rfl
@[simp] theorem onLedger_rfin (f : Ledger → Ledger) (p : Piece) : (onLedger f p).rfin = p.rfin := rfl
@[simp] theorem onLedger_chan (f : Ledger → Ledger) (p : Piece) : (onLedger f p).chan = p.chan := rfl
@[simp] theorem onLedger_xform (f : Ledger → Ledger) (p : Piece) : (onLedger f p).xform = p.xform := rfl
@[simp] theorem onLedger_density (f : Ledger → Ledger) (p : Piece) : (onLedger f p).density = p.density := rfl
@[simp] theorem onLedger_trigger (f : Ledger → Ledger) (p : Piece) : (onLedger f p).trigger = p.trigger := rfl
@[simp] theorem onLedger_acq (f : Ledger → Ledger) (p : Piece) : (onLedger f p).acq = p.acq := rfl
@[simp] theorem onLedger_gythen (f : Ledger → Ledger) (p : Piece) : (onLedger f p).gythen = p.gythen := rfl
@[simp] theorem onLedger_tally (f : Ledger → Ledger) (p : Piece) : (onLedger f p).tally = p.tally := rfl
@[simp] theorem onLedger_cal (f : Ledger → Ledger) (p : Piece) : (onLedger f p).cal = p.cal := rfl
@[simp] theorem onLedger_scan (f : Ledger → Ledger) (p : Piece) : (onLedger f p).scan = p.scan := rfl
@[simp] theorem onLedger_free (f : Ledger → Ledger) (p : Piece) : (onLedger f p).free = p.free := rfl
@[simp] theorem onLedger_out (f : Ledger → Ledger) (p : Piece) : (onLedger f p).out = p.out := rfl

/-! ### onTrigger -/

@[simp] theorem onTrigger_transport (f : Trigger → Trigger) (p : Piece) : (onTrigger f p).transport = p.transport := rfl
@[simp] theorem onTrigger_regs (f : Trigger → Trigger) (p : Piece) : (onTrigger f p).regs = p.regs := rfl
@[simp] theorem onTrigger_safety (f : Trigger → Trigger) (p : Piece) : (onTrigger f p).safety = p.safety := rfl
@[simp] theorem onTrigger_boot (f : Trigger → Trigger) (p : Piece) : (onTrigger f p).boot = p.boot := rfl
@[simp] theorem onTrigger_clocks (f : Trigger → Trigger) (p : Piece) : (onTrigger f p).clocks = p.clocks := rfl
@[simp] theorem onTrigger_ledger (f : Trigger → Trigger) (p : Piece) : (onTrigger f p).ledger = p.ledger := rfl
@[simp] theorem onTrigger_monitor (f : Trigger → Trigger) (p : Piece) : (onTrigger f p).monitor = p.monitor := rfl
@[simp] theorem onTrigger_hostif (f : Trigger → Trigger) (p : Piece) : (onTrigger f p).hostif = p.hostif := rfl
@[simp] theorem onTrigger_dmc (f : Trigger → Trigger) (p : Piece) : (onTrigger f p).dmc = p.dmc := rfl
@[simp] theorem onTrigger_stream (f : Trigger → Trigger) (p : Piece) : (onTrigger f p).stream = p.stream := rfl
@[simp] theorem onTrigger_check (f : Trigger → Trigger) (p : Piece) : (onTrigger f p).check = p.check := rfl
@[simp] theorem onTrigger_net (f : Trigger → Trigger) (p : Piece) : (onTrigger f p).net = p.net := rfl
@[simp] theorem onTrigger_stamp (f : Trigger → Trigger) (p : Piece) : (onTrigger f p).stamp = p.stamp := rfl
@[simp] theorem onTrigger_fabric (f : Trigger → Trigger) (p : Piece) : (onTrigger f p).fabric = p.fabric := rfl
@[simp] theorem onTrigger_rfin (f : Trigger → Trigger) (p : Piece) : (onTrigger f p).rfin = p.rfin := rfl
@[simp] theorem onTrigger_chan (f : Trigger → Trigger) (p : Piece) : (onTrigger f p).chan = p.chan := rfl
@[simp] theorem onTrigger_xform (f : Trigger → Trigger) (p : Piece) : (onTrigger f p).xform = p.xform := rfl
@[simp] theorem onTrigger_density (f : Trigger → Trigger) (p : Piece) : (onTrigger f p).density = p.density := rfl
@[simp] theorem onTrigger_trigger (f : Trigger → Trigger) (p : Piece) : (onTrigger f p).trigger = f p.trigger := rfl
@[simp] theorem onTrigger_acq (f : Trigger → Trigger) (p : Piece) : (onTrigger f p).acq = p.acq := rfl
@[simp] theorem onTrigger_gythen (f : Trigger → Trigger) (p : Piece) : (onTrigger f p).gythen = p.gythen := rfl
@[simp] theorem onTrigger_tally (f : Trigger → Trigger) (p : Piece) : (onTrigger f p).tally = p.tally := rfl
@[simp] theorem onTrigger_cal (f : Trigger → Trigger) (p : Piece) : (onTrigger f p).cal = p.cal := rfl
@[simp] theorem onTrigger_scan (f : Trigger → Trigger) (p : Piece) : (onTrigger f p).scan = p.scan := rfl
@[simp] theorem onTrigger_free (f : Trigger → Trigger) (p : Piece) : (onTrigger f p).free = p.free := rfl
@[simp] theorem onTrigger_out (f : Trigger → Trigger) (p : Piece) : (onTrigger f p).out = p.out := rfl

/-! ### onCell -/

@[simp] theorem onCell_transport (n : Nat) (f : Cell → Cell) (p : Piece) : (onCell n f p).transport = p.transport := rfl
@[simp] theorem onCell_regs (n : Nat) (f : Cell → Cell) (p : Piece) : (onCell n f p).regs = p.regs := rfl
@[simp] theorem onCell_safety (n : Nat) (f : Cell → Cell) (p : Piece) : (onCell n f p).safety = p.safety := rfl
@[simp] theorem onCell_boot (n : Nat) (f : Cell → Cell) (p : Piece) : (onCell n f p).boot = p.boot := rfl
@[simp] theorem onCell_clocks (n : Nat) (f : Cell → Cell) (p : Piece) : (onCell n f p).clocks = p.clocks := rfl
@[simp] theorem onCell_ledger (n : Nat) (f : Cell → Cell) (p : Piece) : (onCell n f p).ledger = p.ledger := rfl
@[simp] theorem onCell_monitor (n : Nat) (f : Cell → Cell) (p : Piece) : (onCell n f p).monitor = p.monitor := rfl
@[simp] theorem onCell_hostif (n : Nat) (f : Cell → Cell) (p : Piece) : (onCell n f p).hostif = p.hostif := rfl
@[simp] theorem onCell_dmc (n : Nat) (f : Cell → Cell) (p : Piece) : (onCell n f p).dmc = p.dmc := rfl
@[simp] theorem onCell_stream (n : Nat) (f : Cell → Cell) (p : Piece) : (onCell n f p).stream = p.stream := rfl
@[simp] theorem onCell_check (n : Nat) (f : Cell → Cell) (p : Piece) : (onCell n f p).check = p.check := rfl
@[simp] theorem onCell_net (n : Nat) (f : Cell → Cell) (p : Piece) : (onCell n f p).net = p.net := rfl
@[simp] theorem onCell_stamp (n : Nat) (f : Cell → Cell) (p : Piece) : (onCell n f p).stamp = p.stamp := rfl
@[simp] theorem onCell_fabric (n : Nat) (f : Cell → Cell) (p : Piece) : (onCell n f p).fabric = p.fabric := rfl
@[simp] theorem onCell_rfin (n : Nat) (f : Cell → Cell) (p : Piece) : (onCell n f p).rfin = p.rfin := rfl
@[simp] theorem onCell_chan (n : Nat) (f : Cell → Cell) (p : Piece) : (onCell n f p).chan = p.chan := rfl
@[simp] theorem onCell_xform (n : Nat) (f : Cell → Cell) (p : Piece) : (onCell n f p).xform = p.xform := rfl
@[simp] theorem onCell_density (n : Nat) (f : Cell → Cell) (p : Piece) : (onCell n f p).density = p.density := rfl
@[simp] theorem onCell_trigger (n : Nat) (f : Cell → Cell) (p : Piece) : (onCell n f p).trigger = { p.trigger with cells := upd p.trigger.cells n f } := rfl
@[simp] theorem onCell_acq (n : Nat) (f : Cell → Cell) (p : Piece) : (onCell n f p).acq = p.acq := rfl
@[simp] theorem onCell_gythen (n : Nat) (f : Cell → Cell) (p : Piece) : (onCell n f p).gythen = p.gythen := rfl
@[simp] theorem onCell_tally (n : Nat) (f : Cell → Cell) (p : Piece) : (onCell n f p).tally = p.tally := rfl
@[simp] theorem onCell_cal (n : Nat) (f : Cell → Cell) (p : Piece) : (onCell n f p).cal = p.cal := rfl
@[simp] theorem onCell_scan (n : Nat) (f : Cell → Cell) (p : Piece) : (onCell n f p).scan = p.scan := rfl
@[simp] theorem onCell_free (n : Nat) (f : Cell → Cell) (p : Piece) : (onCell n f p).free = p.free := rfl
@[simp] theorem onCell_out (n : Nat) (f : Cell → Cell) (p : Piece) : (onCell n f p).out = p.out := rfl

/-! ### onOut -/

@[simp] theorem onOut_transport (k : Nat) (f : TrigOut → TrigOut) (p : Piece) : (onOut k f p).transport = p.transport := rfl
@[simp] theorem onOut_regs (k : Nat) (f : TrigOut → TrigOut) (p : Piece) : (onOut k f p).regs = p.regs := rfl
@[simp] theorem onOut_safety (k : Nat) (f : TrigOut → TrigOut) (p : Piece) : (onOut k f p).safety = p.safety := rfl
@[simp] theorem onOut_boot (k : Nat) (f : TrigOut → TrigOut) (p : Piece) : (onOut k f p).boot = p.boot := rfl
@[simp] theorem onOut_clocks (k : Nat) (f : TrigOut → TrigOut) (p : Piece) : (onOut k f p).clocks = p.clocks := rfl
@[simp] theorem onOut_ledger (k : Nat) (f : TrigOut → TrigOut) (p : Piece) : (onOut k f p).ledger = p.ledger := rfl
@[simp] theorem onOut_monitor (k : Nat) (f : TrigOut → TrigOut) (p : Piece) : (onOut k f p).monitor = p.monitor := rfl
@[simp] theorem onOut_hostif (k : Nat) (f : TrigOut → TrigOut) (p : Piece) : (onOut k f p).hostif = p.hostif := rfl
@[simp] theorem onOut_dmc (k : Nat) (f : TrigOut → TrigOut) (p : Piece) : (onOut k f p).dmc = p.dmc := rfl
@[simp] theorem onOut_stream (k : Nat) (f : TrigOut → TrigOut) (p : Piece) : (onOut k f p).stream = p.stream := rfl
@[simp] theorem onOut_check (k : Nat) (f : TrigOut → TrigOut) (p : Piece) : (onOut k f p).check = p.check := rfl
@[simp] theorem onOut_net (k : Nat) (f : TrigOut → TrigOut) (p : Piece) : (onOut k f p).net = p.net := rfl
@[simp] theorem onOut_stamp (k : Nat) (f : TrigOut → TrigOut) (p : Piece) : (onOut k f p).stamp = p.stamp := rfl
@[simp] theorem onOut_fabric (k : Nat) (f : TrigOut → TrigOut) (p : Piece) : (onOut k f p).fabric = p.fabric := rfl
@[simp] theorem onOut_rfin (k : Nat) (f : TrigOut → TrigOut) (p : Piece) : (onOut k f p).rfin = p.rfin := rfl
@[simp] theorem onOut_chan (k : Nat) (f : TrigOut → TrigOut) (p : Piece) : (onOut k f p).chan = p.chan := rfl
@[simp] theorem onOut_xform (k : Nat) (f : TrigOut → TrigOut) (p : Piece) : (onOut k f p).xform = p.xform := rfl
@[simp] theorem onOut_density (k : Nat) (f : TrigOut → TrigOut) (p : Piece) : (onOut k f p).density = p.density := rfl
@[simp] theorem onOut_trigger (k : Nat) (f : TrigOut → TrigOut) (p : Piece) : (onOut k f p).trigger = { p.trigger with outs := upd p.trigger.outs k f } := rfl
@[simp] theorem onOut_acq (k : Nat) (f : TrigOut → TrigOut) (p : Piece) : (onOut k f p).acq = p.acq := rfl
@[simp] theorem onOut_gythen (k : Nat) (f : TrigOut → TrigOut) (p : Piece) : (onOut k f p).gythen = p.gythen := rfl
@[simp] theorem onOut_tally (k : Nat) (f : TrigOut → TrigOut) (p : Piece) : (onOut k f p).tally = p.tally := rfl
@[simp] theorem onOut_cal (k : Nat) (f : TrigOut → TrigOut) (p : Piece) : (onOut k f p).cal = p.cal := rfl
@[simp] theorem onOut_scan (k : Nat) (f : TrigOut → TrigOut) (p : Piece) : (onOut k f p).scan = p.scan := rfl
@[simp] theorem onOut_free (k : Nat) (f : TrigOut → TrigOut) (p : Piece) : (onOut k f p).free = p.free := rfl
@[simp] theorem onOut_out (k : Nat) (f : TrigOut → TrigOut) (p : Piece) : (onOut k f p).out = p.out := rfl

/-! ### onScan -/

@[simp] theorem onScan_transport (f : Scanout → Scanout) (p : Piece) : (onScan f p).transport = p.transport := rfl
@[simp] theorem onScan_regs (f : Scanout → Scanout) (p : Piece) : (onScan f p).regs = p.regs := rfl
@[simp] theorem onScan_safety (f : Scanout → Scanout) (p : Piece) : (onScan f p).safety = p.safety := rfl
@[simp] theorem onScan_boot (f : Scanout → Scanout) (p : Piece) : (onScan f p).boot = p.boot := rfl
@[simp] theorem onScan_clocks (f : Scanout → Scanout) (p : Piece) : (onScan f p).clocks = p.clocks := rfl
@[simp] theorem onScan_ledger (f : Scanout → Scanout) (p : Piece) : (onScan f p).ledger = p.ledger := rfl
@[simp] theorem onScan_monitor (f : Scanout → Scanout) (p : Piece) : (onScan f p).monitor = p.monitor := rfl
@[simp] theorem onScan_hostif (f : Scanout → Scanout) (p : Piece) : (onScan f p).hostif = p.hostif := rfl
@[simp] theorem onScan_dmc (f : Scanout → Scanout) (p : Piece) : (onScan f p).dmc = p.dmc := rfl
@[simp] theorem onScan_stream (f : Scanout → Scanout) (p : Piece) : (onScan f p).stream = p.stream := rfl
@[simp] theorem onScan_check (f : Scanout → Scanout) (p : Piece) : (onScan f p).check = p.check := rfl
@[simp] theorem onScan_net (f : Scanout → Scanout) (p : Piece) : (onScan f p).net = p.net := rfl
@[simp] theorem onScan_stamp (f : Scanout → Scanout) (p : Piece) : (onScan f p).stamp = p.stamp := rfl
@[simp] theorem onScan_fabric (f : Scanout → Scanout) (p : Piece) : (onScan f p).fabric = p.fabric := rfl
@[simp] theorem onScan_rfin (f : Scanout → Scanout) (p : Piece) : (onScan f p).rfin = p.rfin := rfl
@[simp] theorem onScan_chan (f : Scanout → Scanout) (p : Piece) : (onScan f p).chan = p.chan := rfl
@[simp] theorem onScan_xform (f : Scanout → Scanout) (p : Piece) : (onScan f p).xform = p.xform := rfl
@[simp] theorem onScan_density (f : Scanout → Scanout) (p : Piece) : (onScan f p).density = p.density := rfl
@[simp] theorem onScan_trigger (f : Scanout → Scanout) (p : Piece) : (onScan f p).trigger = p.trigger := rfl
@[simp] theorem onScan_acq (f : Scanout → Scanout) (p : Piece) : (onScan f p).acq = p.acq := rfl
@[simp] theorem onScan_gythen (f : Scanout → Scanout) (p : Piece) : (onScan f p).gythen = p.gythen := rfl
@[simp] theorem onScan_tally (f : Scanout → Scanout) (p : Piece) : (onScan f p).tally = p.tally := rfl
@[simp] theorem onScan_cal (f : Scanout → Scanout) (p : Piece) : (onScan f p).cal = p.cal := rfl
@[simp] theorem onScan_scan (f : Scanout → Scanout) (p : Piece) : (onScan f p).scan = f p.scan := rfl
@[simp] theorem onScan_free (f : Scanout → Scanout) (p : Piece) : (onScan f p).free = p.free := rfl
@[simp] theorem onScan_out (f : Scanout → Scanout) (p : Piece) : (onScan f p).out = p.out := rfl

/-! ### onStream -/

@[simp] theorem onStream_transport (ch : Nat) (f : StreamChannel → StreamChannel) (p : Piece) : (onStream ch f p).transport = p.transport := rfl
@[simp] theorem onStream_regs (ch : Nat) (f : StreamChannel → StreamChannel) (p : Piece) : (onStream ch f p).regs = p.regs := rfl
@[simp] theorem onStream_safety (ch : Nat) (f : StreamChannel → StreamChannel) (p : Piece) : (onStream ch f p).safety = p.safety := rfl
@[simp] theorem onStream_boot (ch : Nat) (f : StreamChannel → StreamChannel) (p : Piece) : (onStream ch f p).boot = p.boot := rfl
@[simp] theorem onStream_clocks (ch : Nat) (f : StreamChannel → StreamChannel) (p : Piece) : (onStream ch f p).clocks = p.clocks := rfl
@[simp] theorem onStream_ledger (ch : Nat) (f : StreamChannel → StreamChannel) (p : Piece) : (onStream ch f p).ledger = p.ledger := rfl
@[simp] theorem onStream_monitor (ch : Nat) (f : StreamChannel → StreamChannel) (p : Piece) : (onStream ch f p).monitor = p.monitor := rfl
@[simp] theorem onStream_hostif (ch : Nat) (f : StreamChannel → StreamChannel) (p : Piece) : (onStream ch f p).hostif = p.hostif := rfl
@[simp] theorem onStream_dmc (ch : Nat) (f : StreamChannel → StreamChannel) (p : Piece) : (onStream ch f p).dmc = p.dmc := rfl
@[simp] theorem onStream_stream (ch : Nat) (f : StreamChannel → StreamChannel) (p : Piece) : (onStream ch f p).stream = { p.stream with channels := upd p.stream.channels ch f } := rfl
@[simp] theorem onStream_check (ch : Nat) (f : StreamChannel → StreamChannel) (p : Piece) : (onStream ch f p).check = p.check := rfl
@[simp] theorem onStream_net (ch : Nat) (f : StreamChannel → StreamChannel) (p : Piece) : (onStream ch f p).net = p.net := rfl
@[simp] theorem onStream_stamp (ch : Nat) (f : StreamChannel → StreamChannel) (p : Piece) : (onStream ch f p).stamp = p.stamp := rfl
@[simp] theorem onStream_fabric (ch : Nat) (f : StreamChannel → StreamChannel) (p : Piece) : (onStream ch f p).fabric = p.fabric := rfl
@[simp] theorem onStream_rfin (ch : Nat) (f : StreamChannel → StreamChannel) (p : Piece) : (onStream ch f p).rfin = p.rfin := rfl
@[simp] theorem onStream_chan (ch : Nat) (f : StreamChannel → StreamChannel) (p : Piece) : (onStream ch f p).chan = p.chan := rfl
@[simp] theorem onStream_xform (ch : Nat) (f : StreamChannel → StreamChannel) (p : Piece) : (onStream ch f p).xform = p.xform := rfl
@[simp] theorem onStream_density (ch : Nat) (f : StreamChannel → StreamChannel) (p : Piece) : (onStream ch f p).density = p.density := rfl
@[simp] theorem onStream_trigger (ch : Nat) (f : StreamChannel → StreamChannel) (p : Piece) : (onStream ch f p).trigger = p.trigger := rfl
@[simp] theorem onStream_acq (ch : Nat) (f : StreamChannel → StreamChannel) (p : Piece) : (onStream ch f p).acq = p.acq := rfl
@[simp] theorem onStream_gythen (ch : Nat) (f : StreamChannel → StreamChannel) (p : Piece) : (onStream ch f p).gythen = p.gythen := rfl
@[simp] theorem onStream_tally (ch : Nat) (f : StreamChannel → StreamChannel) (p : Piece) : (onStream ch f p).tally = p.tally := rfl
@[simp] theorem onStream_cal (ch : Nat) (f : StreamChannel → StreamChannel) (p : Piece) : (onStream ch f p).cal = p.cal := rfl
@[simp] theorem onStream_scan (ch : Nat) (f : StreamChannel → StreamChannel) (p : Piece) : (onStream ch f p).scan = p.scan := rfl
@[simp] theorem onStream_free (ch : Nat) (f : StreamChannel → StreamChannel) (p : Piece) : (onStream ch f p).free = p.free := rfl
@[simp] theorem onStream_out (ch : Nat) (f : StreamChannel → StreamChannel) (p : Piece) : (onStream ch f p).out = p.out := rfl

/-! ### onUnit -/

@[simp] theorem onUnit_transport (i : Nat) (f : CheckUnit → CheckUnit) (p : Piece) : (onUnit i f p).transport = p.transport := rfl
@[simp] theorem onUnit_regs (i : Nat) (f : CheckUnit → CheckUnit) (p : Piece) : (onUnit i f p).regs = p.regs := rfl
@[simp] theorem onUnit_safety (i : Nat) (f : CheckUnit → CheckUnit) (p : Piece) : (onUnit i f p).safety = p.safety := rfl
@[simp] theorem onUnit_boot (i : Nat) (f : CheckUnit → CheckUnit) (p : Piece) : (onUnit i f p).boot = p.boot := rfl
@[simp] theorem onUnit_clocks (i : Nat) (f : CheckUnit → CheckUnit) (p : Piece) : (onUnit i f p).clocks = p.clocks := rfl
@[simp] theorem onUnit_ledger (i : Nat) (f : CheckUnit → CheckUnit) (p : Piece) : (onUnit i f p).ledger = p.ledger := rfl
@[simp] theorem onUnit_monitor (i : Nat) (f : CheckUnit → CheckUnit) (p : Piece) : (onUnit i f p).monitor = p.monitor := rfl
@[simp] theorem onUnit_hostif (i : Nat) (f : CheckUnit → CheckUnit) (p : Piece) : (onUnit i f p).hostif = p.hostif := rfl
@[simp] theorem onUnit_dmc (i : Nat) (f : CheckUnit → CheckUnit) (p : Piece) : (onUnit i f p).dmc = p.dmc := rfl
@[simp] theorem onUnit_stream (i : Nat) (f : CheckUnit → CheckUnit) (p : Piece) : (onUnit i f p).stream = p.stream := rfl
@[simp] theorem onUnit_check (i : Nat) (f : CheckUnit → CheckUnit) (p : Piece) : (onUnit i f p).check = { p.check with units := upd p.check.units i f } := rfl
@[simp] theorem onUnit_net (i : Nat) (f : CheckUnit → CheckUnit) (p : Piece) : (onUnit i f p).net = p.net := rfl
@[simp] theorem onUnit_stamp (i : Nat) (f : CheckUnit → CheckUnit) (p : Piece) : (onUnit i f p).stamp = p.stamp := rfl
@[simp] theorem onUnit_fabric (i : Nat) (f : CheckUnit → CheckUnit) (p : Piece) : (onUnit i f p).fabric = p.fabric := rfl
@[simp] theorem onUnit_rfin (i : Nat) (f : CheckUnit → CheckUnit) (p : Piece) : (onUnit i f p).rfin = p.rfin := rfl
@[simp] theorem onUnit_chan (i : Nat) (f : CheckUnit → CheckUnit) (p : Piece) : (onUnit i f p).chan = p.chan := rfl
@[simp] theorem onUnit_xform (i : Nat) (f : CheckUnit → CheckUnit) (p : Piece) : (onUnit i f p).xform = p.xform := rfl
@[simp] theorem onUnit_density (i : Nat) (f : CheckUnit → CheckUnit) (p : Piece) : (onUnit i f p).density = p.density := rfl
@[simp] theorem onUnit_trigger (i : Nat) (f : CheckUnit → CheckUnit) (p : Piece) : (onUnit i f p).trigger = p.trigger := rfl
@[simp] theorem onUnit_acq (i : Nat) (f : CheckUnit → CheckUnit) (p : Piece) : (onUnit i f p).acq = p.acq := rfl
@[simp] theorem onUnit_gythen (i : Nat) (f : CheckUnit → CheckUnit) (p : Piece) : (onUnit i f p).gythen = p.gythen := rfl
@[simp] theorem onUnit_tally (i : Nat) (f : CheckUnit → CheckUnit) (p : Piece) : (onUnit i f p).tally = p.tally := rfl
@[simp] theorem onUnit_cal (i : Nat) (f : CheckUnit → CheckUnit) (p : Piece) : (onUnit i f p).cal = p.cal := rfl
@[simp] theorem onUnit_scan (i : Nat) (f : CheckUnit → CheckUnit) (p : Piece) : (onUnit i f p).scan = p.scan := rfl
@[simp] theorem onUnit_free (i : Nat) (f : CheckUnit → CheckUnit) (p : Piece) : (onUnit i f p).free = p.free := rfl
@[simp] theorem onUnit_out (i : Nat) (f : CheckUnit → CheckUnit) (p : Piece) : (onUnit i f p).out = p.out := rfl

/-! ### onDmc -/

@[simp] theorem onDmc_transport (f : Dmc → Dmc) (p : Piece) : (onDmc f p).transport = p.transport := rfl
@[simp] theorem onDmc_regs (f : Dmc → Dmc) (p : Piece) : (onDmc f p).regs = p.regs := rfl
@[simp] theorem onDmc_safety (f : Dmc → Dmc) (p : Piece) : (onDmc f p).safety = p.safety := rfl
@[simp] theorem onDmc_boot (f : Dmc → Dmc) (p : Piece) : (onDmc f p).boot = p.boot := rfl
@[simp] theorem onDmc_clocks (f : Dmc → Dmc) (p : Piece) : (onDmc f p).clocks = p.clocks := rfl
@[simp] theorem onDmc_ledger (f : Dmc → Dmc) (p : Piece) : (onDmc f p).ledger = p.ledger := rfl
@[simp] theorem onDmc_monitor (f : Dmc → Dmc) (p : Piece) : (onDmc f p).monitor = p.monitor := rfl
@[simp] theorem onDmc_hostif (f : Dmc → Dmc) (p : Piece) : (onDmc f p).hostif = p.hostif := rfl
@[simp] theorem onDmc_dmc (f : Dmc → Dmc) (p : Piece) : (onDmc f p).dmc = f p.dmc := rfl
@[simp] theorem onDmc_stream (f : Dmc → Dmc) (p : Piece) : (onDmc f p).stream = p.stream := rfl
@[simp] theorem onDmc_check (f : Dmc → Dmc) (p : Piece) : (onDmc f p).check = p.check := rfl
@[simp] theorem onDmc_net (f : Dmc → Dmc) (p : Piece) : (onDmc f p).net = p.net := rfl
@[simp] theorem onDmc_stamp (f : Dmc → Dmc) (p : Piece) : (onDmc f p).stamp = p.stamp := rfl
@[simp] theorem onDmc_fabric (f : Dmc → Dmc) (p : Piece) : (onDmc f p).fabric = p.fabric := rfl
@[simp] theorem onDmc_rfin (f : Dmc → Dmc) (p : Piece) : (onDmc f p).rfin = p.rfin := rfl
@[simp] theorem onDmc_chan (f : Dmc → Dmc) (p : Piece) : (onDmc f p).chan = p.chan := rfl
@[simp] theorem onDmc_xform (f : Dmc → Dmc) (p : Piece) : (onDmc f p).xform = p.xform := rfl
@[simp] theorem onDmc_density (f : Dmc → Dmc) (p : Piece) : (onDmc f p).density = p.density := rfl
@[simp] theorem onDmc_trigger (f : Dmc → Dmc) (p : Piece) : (onDmc f p).trigger = p.trigger := rfl
@[simp] theorem onDmc_acq (f : Dmc → Dmc) (p : Piece) : (onDmc f p).acq = p.acq := rfl
@[simp] theorem onDmc_gythen (f : Dmc → Dmc) (p : Piece) : (onDmc f p).gythen = p.gythen := rfl
@[simp] theorem onDmc_tally (f : Dmc → Dmc) (p : Piece) : (onDmc f p).tally = p.tally := rfl
@[simp] theorem onDmc_cal (f : Dmc → Dmc) (p : Piece) : (onDmc f p).cal = p.cal := rfl
@[simp] theorem onDmc_scan (f : Dmc → Dmc) (p : Piece) : (onDmc f p).scan = p.scan := rfl
@[simp] theorem onDmc_free (f : Dmc → Dmc) (p : Piece) : (onDmc f p).free = p.free := rfl
@[simp] theorem onDmc_out (f : Dmc → Dmc) (p : Piece) : (onDmc f p).out = p.out := rfl

/-! ### onBoot -/

@[simp] theorem onBoot_transport (f : Boot → Boot) (p : Piece) : (onBoot f p).transport = p.transport := rfl
@[simp] theorem onBoot_regs (f : Boot → Boot) (p : Piece) : (onBoot f p).regs = p.regs := rfl
@[simp] theorem onBoot_safety (f : Boot → Boot) (p : Piece) : (onBoot f p).safety = p.safety := rfl
@[simp] theorem onBoot_boot (f : Boot → Boot) (p : Piece) : (onBoot f p).boot = f p.boot := rfl
@[simp] theorem onBoot_clocks (f : Boot → Boot) (p : Piece) : (onBoot f p).clocks = p.clocks := rfl
@[simp] theorem onBoot_ledger (f : Boot → Boot) (p : Piece) : (onBoot f p).ledger = p.ledger := rfl
@[simp] theorem onBoot_monitor (f : Boot → Boot) (p : Piece) : (onBoot f p).monitor = p.monitor := rfl
@[simp] theorem onBoot_hostif (f : Boot → Boot) (p : Piece) : (onBoot f p).hostif = p.hostif := rfl
@[simp] theorem onBoot_dmc (f : Boot → Boot) (p : Piece) : (onBoot f p).dmc = p.dmc := rfl
@[simp] theorem onBoot_stream (f : Boot → Boot) (p : Piece) : (onBoot f p).stream = p.stream := rfl
@[simp] theorem onBoot_check (f : Boot → Boot) (p : Piece) : (onBoot f p).check = p.check := rfl
@[simp] theorem onBoot_net (f : Boot → Boot) (p : Piece) : (onBoot f p).net = p.net := rfl
@[simp] theorem onBoot_stamp (f : Boot → Boot) (p : Piece) : (onBoot f p).stamp = p.stamp := rfl
@[simp] theorem onBoot_fabric (f : Boot → Boot) (p : Piece) : (onBoot f p).fabric = p.fabric := rfl
@[simp] theorem onBoot_rfin (f : Boot → Boot) (p : Piece) : (onBoot f p).rfin = p.rfin := rfl
@[simp] theorem onBoot_chan (f : Boot → Boot) (p : Piece) : (onBoot f p).chan = p.chan := rfl
@[simp] theorem onBoot_xform (f : Boot → Boot) (p : Piece) : (onBoot f p).xform = p.xform := rfl
@[simp] theorem onBoot_density (f : Boot → Boot) (p : Piece) : (onBoot f p).density = p.density := rfl
@[simp] theorem onBoot_trigger (f : Boot → Boot) (p : Piece) : (onBoot f p).trigger = p.trigger := rfl
@[simp] theorem onBoot_acq (f : Boot → Boot) (p : Piece) : (onBoot f p).acq = p.acq := rfl
@[simp] theorem onBoot_gythen (f : Boot → Boot) (p : Piece) : (onBoot f p).gythen = p.gythen := rfl
@[simp] theorem onBoot_tally (f : Boot → Boot) (p : Piece) : (onBoot f p).tally = p.tally := rfl
@[simp] theorem onBoot_cal (f : Boot → Boot) (p : Piece) : (onBoot f p).cal = p.cal := rfl
@[simp] theorem onBoot_scan (f : Boot → Boot) (p : Piece) : (onBoot f p).scan = p.scan := rfl
@[simp] theorem onBoot_free (f : Boot → Boot) (p : Piece) : (onBoot f p).free = p.free := rfl
@[simp] theorem onBoot_out (f : Boot → Boot) (p : Piece) : (onBoot f p).out = p.out := rfl

/-! ### onXform -/

@[simp] theorem onXform_transport (i : Nat) (f : Xform → Xform) (p : Piece) : (onXform i f p).transport = p.transport := rfl
@[simp] theorem onXform_regs (i : Nat) (f : Xform → Xform) (p : Piece) : (onXform i f p).regs = p.regs := rfl
@[simp] theorem onXform_safety (i : Nat) (f : Xform → Xform) (p : Piece) : (onXform i f p).safety = p.safety := rfl
@[simp] theorem onXform_boot (i : Nat) (f : Xform → Xform) (p : Piece) : (onXform i f p).boot = p.boot := rfl
@[simp] theorem onXform_clocks (i : Nat) (f : Xform → Xform) (p : Piece) : (onXform i f p).clocks = p.clocks := rfl
@[simp] theorem onXform_ledger (i : Nat) (f : Xform → Xform) (p : Piece) : (onXform i f p).ledger = p.ledger := rfl
@[simp] theorem onXform_monitor (i : Nat) (f : Xform → Xform) (p : Piece) : (onXform i f p).monitor = p.monitor := rfl
@[simp] theorem onXform_hostif (i : Nat) (f : Xform → Xform) (p : Piece) : (onXform i f p).hostif = p.hostif := rfl
@[simp] theorem onXform_dmc (i : Nat) (f : Xform → Xform) (p : Piece) : (onXform i f p).dmc = p.dmc := rfl
@[simp] theorem onXform_stream (i : Nat) (f : Xform → Xform) (p : Piece) : (onXform i f p).stream = p.stream := rfl
@[simp] theorem onXform_check (i : Nat) (f : Xform → Xform) (p : Piece) : (onXform i f p).check = p.check := rfl
@[simp] theorem onXform_net (i : Nat) (f : Xform → Xform) (p : Piece) : (onXform i f p).net = p.net := rfl
@[simp] theorem onXform_stamp (i : Nat) (f : Xform → Xform) (p : Piece) : (onXform i f p).stamp = p.stamp := rfl
@[simp] theorem onXform_fabric (i : Nat) (f : Xform → Xform) (p : Piece) : (onXform i f p).fabric = p.fabric := rfl
@[simp] theorem onXform_rfin (i : Nat) (f : Xform → Xform) (p : Piece) : (onXform i f p).rfin = p.rfin := rfl
@[simp] theorem onXform_chan (i : Nat) (f : Xform → Xform) (p : Piece) : (onXform i f p).chan = p.chan := rfl
@[simp] theorem onXform_xform (i : Nat) (f : Xform → Xform) (p : Piece) : (onXform i f p).xform = upd p.xform i f := rfl
@[simp] theorem onXform_density (i : Nat) (f : Xform → Xform) (p : Piece) : (onXform i f p).density = p.density := rfl
@[simp] theorem onXform_trigger (i : Nat) (f : Xform → Xform) (p : Piece) : (onXform i f p).trigger = p.trigger := rfl
@[simp] theorem onXform_acq (i : Nat) (f : Xform → Xform) (p : Piece) : (onXform i f p).acq = p.acq := rfl
@[simp] theorem onXform_gythen (i : Nat) (f : Xform → Xform) (p : Piece) : (onXform i f p).gythen = p.gythen := rfl
@[simp] theorem onXform_tally (i : Nat) (f : Xform → Xform) (p : Piece) : (onXform i f p).tally = p.tally := rfl
@[simp] theorem onXform_cal (i : Nat) (f : Xform → Xform) (p : Piece) : (onXform i f p).cal = p.cal := rfl
@[simp] theorem onXform_scan (i : Nat) (f : Xform → Xform) (p : Piece) : (onXform i f p).scan = p.scan := rfl
@[simp] theorem onXform_free (i : Nat) (f : Xform → Xform) (p : Piece) : (onXform i f p).free = p.free := rfl
@[simp] theorem onXform_out (i : Nat) (f : Xform → Xform) (p : Piece) : (onXform i f p).out = p.out := rfl

/-! ### onDensityCh -/

@[simp] theorem onDensityCh_transport (i : Nat) (f : DensityChannel → DensityChannel) (p : Piece) : (onDensityCh i f p).transport = p.transport := rfl
@[simp] theorem onDensityCh_regs (i : Nat) (f : DensityChannel → DensityChannel) (p : Piece) : (onDensityCh i f p).regs = p.regs := rfl
@[simp] theorem onDensityCh_safety (i : Nat) (f : DensityChannel → DensityChannel) (p : Piece) : (onDensityCh i f p).safety = p.safety := rfl
@[simp] theorem onDensityCh_boot (i : Nat) (f : DensityChannel → DensityChannel) (p : Piece) : (onDensityCh i f p).boot = p.boot := rfl
@[simp] theorem onDensityCh_clocks (i : Nat) (f : DensityChannel → DensityChannel) (p : Piece) : (onDensityCh i f p).clocks = p.clocks := rfl
@[simp] theorem onDensityCh_ledger (i : Nat) (f : DensityChannel → DensityChannel) (p : Piece) : (onDensityCh i f p).ledger = p.ledger := rfl
@[simp] theorem onDensityCh_monitor (i : Nat) (f : DensityChannel → DensityChannel) (p : Piece) : (onDensityCh i f p).monitor = p.monitor := rfl
@[simp] theorem onDensityCh_hostif (i : Nat) (f : DensityChannel → DensityChannel) (p : Piece) : (onDensityCh i f p).hostif = p.hostif := rfl
@[simp] theorem onDensityCh_dmc (i : Nat) (f : DensityChannel → DensityChannel) (p : Piece) : (onDensityCh i f p).dmc = p.dmc := rfl
@[simp] theorem onDensityCh_stream (i : Nat) (f : DensityChannel → DensityChannel) (p : Piece) : (onDensityCh i f p).stream = p.stream := rfl
@[simp] theorem onDensityCh_check (i : Nat) (f : DensityChannel → DensityChannel) (p : Piece) : (onDensityCh i f p).check = p.check := rfl
@[simp] theorem onDensityCh_net (i : Nat) (f : DensityChannel → DensityChannel) (p : Piece) : (onDensityCh i f p).net = p.net := rfl
@[simp] theorem onDensityCh_stamp (i : Nat) (f : DensityChannel → DensityChannel) (p : Piece) : (onDensityCh i f p).stamp = p.stamp := rfl
@[simp] theorem onDensityCh_fabric (i : Nat) (f : DensityChannel → DensityChannel) (p : Piece) : (onDensityCh i f p).fabric = p.fabric := rfl
@[simp] theorem onDensityCh_rfin (i : Nat) (f : DensityChannel → DensityChannel) (p : Piece) : (onDensityCh i f p).rfin = p.rfin := rfl
@[simp] theorem onDensityCh_chan (i : Nat) (f : DensityChannel → DensityChannel) (p : Piece) : (onDensityCh i f p).chan = p.chan := rfl
@[simp] theorem onDensityCh_xform (i : Nat) (f : DensityChannel → DensityChannel) (p : Piece) : (onDensityCh i f p).xform = p.xform := rfl
@[simp] theorem onDensityCh_density (i : Nat) (f : DensityChannel → DensityChannel) (p : Piece) : (onDensityCh i f p).density = { p.density with channels := upd p.density.channels i f } := rfl
@[simp] theorem onDensityCh_trigger (i : Nat) (f : DensityChannel → DensityChannel) (p : Piece) : (onDensityCh i f p).trigger = p.trigger := rfl
@[simp] theorem onDensityCh_acq (i : Nat) (f : DensityChannel → DensityChannel) (p : Piece) : (onDensityCh i f p).acq = p.acq := rfl
@[simp] theorem onDensityCh_gythen (i : Nat) (f : DensityChannel → DensityChannel) (p : Piece) : (onDensityCh i f p).gythen = p.gythen := rfl
@[simp] theorem onDensityCh_tally (i : Nat) (f : DensityChannel → DensityChannel) (p : Piece) : (onDensityCh i f p).tally = p.tally := rfl
@[simp] theorem onDensityCh_cal (i : Nat) (f : DensityChannel → DensityChannel) (p : Piece) : (onDensityCh i f p).cal = p.cal := rfl
@[simp] theorem onDensityCh_scan (i : Nat) (f : DensityChannel → DensityChannel) (p : Piece) : (onDensityCh i f p).scan = p.scan := rfl
@[simp] theorem onDensityCh_free (i : Nat) (f : DensityChannel → DensityChannel) (p : Piece) : (onDensityCh i f p).free = p.free := rfl
@[simp] theorem onDensityCh_out (i : Nat) (f : DensityChannel → DensityChannel) (p : Piece) : (onDensityCh i f p).out = p.out := rfl

/-! ### onTally -/

@[simp] theorem onTally_transport (f : Tally → Tally) (p : Piece) : (onTally f p).transport = p.transport := rfl
@[simp] theorem onTally_regs (f : Tally → Tally) (p : Piece) : (onTally f p).regs = p.regs := rfl
@[simp] theorem onTally_safety (f : Tally → Tally) (p : Piece) : (onTally f p).safety = p.safety := rfl
@[simp] theorem onTally_boot (f : Tally → Tally) (p : Piece) : (onTally f p).boot = p.boot := rfl
@[simp] theorem onTally_clocks (f : Tally → Tally) (p : Piece) : (onTally f p).clocks = p.clocks := rfl
@[simp] theorem onTally_ledger (f : Tally → Tally) (p : Piece) : (onTally f p).ledger = p.ledger := rfl
@[simp] theorem onTally_monitor (f : Tally → Tally) (p : Piece) : (onTally f p).monitor = p.monitor := rfl
@[simp] theorem onTally_hostif (f : Tally → Tally) (p : Piece) : (onTally f p).hostif = p.hostif := rfl
@[simp] theorem onTally_dmc (f : Tally → Tally) (p : Piece) : (onTally f p).dmc = p.dmc := rfl
@[simp] theorem onTally_stream (f : Tally → Tally) (p : Piece) : (onTally f p).stream = p.stream := rfl
@[simp] theorem onTally_check (f : Tally → Tally) (p : Piece) : (onTally f p).check = p.check := rfl
@[simp] theorem onTally_net (f : Tally → Tally) (p : Piece) : (onTally f p).net = p.net := rfl
@[simp] theorem onTally_stamp (f : Tally → Tally) (p : Piece) : (onTally f p).stamp = p.stamp := rfl
@[simp] theorem onTally_fabric (f : Tally → Tally) (p : Piece) : (onTally f p).fabric = p.fabric := rfl
@[simp] theorem onTally_rfin (f : Tally → Tally) (p : Piece) : (onTally f p).rfin = p.rfin := rfl
@[simp] theorem onTally_chan (f : Tally → Tally) (p : Piece) : (onTally f p).chan = p.chan := rfl
@[simp] theorem onTally_xform (f : Tally → Tally) (p : Piece) : (onTally f p).xform = p.xform := rfl
@[simp] theorem onTally_density (f : Tally → Tally) (p : Piece) : (onTally f p).density = p.density := rfl
@[simp] theorem onTally_trigger (f : Tally → Tally) (p : Piece) : (onTally f p).trigger = p.trigger := rfl
@[simp] theorem onTally_acq (f : Tally → Tally) (p : Piece) : (onTally f p).acq = p.acq := rfl
@[simp] theorem onTally_gythen (f : Tally → Tally) (p : Piece) : (onTally f p).gythen = p.gythen := rfl
@[simp] theorem onTally_tally (f : Tally → Tally) (p : Piece) : (onTally f p).tally = f p.tally := rfl
@[simp] theorem onTally_cal (f : Tally → Tally) (p : Piece) : (onTally f p).cal = p.cal := rfl
@[simp] theorem onTally_scan (f : Tally → Tally) (p : Piece) : (onTally f p).scan = p.scan := rfl
@[simp] theorem onTally_free (f : Tally → Tally) (p : Piece) : (onTally f p).free = p.free := rfl
@[simp] theorem onTally_out (f : Tally → Tally) (p : Piece) : (onTally f p).out = p.out := rfl

/-! ### onHostif -/

@[simp] theorem onHostif_transport (f : Hostif → Hostif) (p : Piece) : (onHostif f p).transport = p.transport := rfl
@[simp] theorem onHostif_regs (f : Hostif → Hostif) (p : Piece) : (onHostif f p).regs = p.regs := rfl
@[simp] theorem onHostif_safety (f : Hostif → Hostif) (p : Piece) : (onHostif f p).safety = p.safety := rfl
@[simp] theorem onHostif_boot (f : Hostif → Hostif) (p : Piece) : (onHostif f p).boot = p.boot := rfl
@[simp] theorem onHostif_clocks (f : Hostif → Hostif) (p : Piece) : (onHostif f p).clocks = p.clocks := rfl
@[simp] theorem onHostif_ledger (f : Hostif → Hostif) (p : Piece) : (onHostif f p).ledger = p.ledger := rfl
@[simp] theorem onHostif_monitor (f : Hostif → Hostif) (p : Piece) : (onHostif f p).monitor = p.monitor := rfl
@[simp] theorem onHostif_hostif (f : Hostif → Hostif) (p : Piece) : (onHostif f p).hostif = f p.hostif := rfl
@[simp] theorem onHostif_dmc (f : Hostif → Hostif) (p : Piece) : (onHostif f p).dmc = p.dmc := rfl
@[simp] theorem onHostif_stream (f : Hostif → Hostif) (p : Piece) : (onHostif f p).stream = p.stream := rfl
@[simp] theorem onHostif_check (f : Hostif → Hostif) (p : Piece) : (onHostif f p).check = p.check := rfl
@[simp] theorem onHostif_net (f : Hostif → Hostif) (p : Piece) : (onHostif f p).net = p.net := rfl
@[simp] theorem onHostif_stamp (f : Hostif → Hostif) (p : Piece) : (onHostif f p).stamp = p.stamp := rfl
@[simp] theorem onHostif_fabric (f : Hostif → Hostif) (p : Piece) : (onHostif f p).fabric = p.fabric := rfl
@[simp] theorem onHostif_rfin (f : Hostif → Hostif) (p : Piece) : (onHostif f p).rfin = p.rfin := rfl
@[simp] theorem onHostif_chan (f : Hostif → Hostif) (p : Piece) : (onHostif f p).chan = p.chan := rfl
@[simp] theorem onHostif_xform (f : Hostif → Hostif) (p : Piece) : (onHostif f p).xform = p.xform := rfl
@[simp] theorem onHostif_density (f : Hostif → Hostif) (p : Piece) : (onHostif f p).density = p.density := rfl
@[simp] theorem onHostif_trigger (f : Hostif → Hostif) (p : Piece) : (onHostif f p).trigger = p.trigger := rfl
@[simp] theorem onHostif_acq (f : Hostif → Hostif) (p : Piece) : (onHostif f p).acq = p.acq := rfl
@[simp] theorem onHostif_gythen (f : Hostif → Hostif) (p : Piece) : (onHostif f p).gythen = p.gythen := rfl
@[simp] theorem onHostif_tally (f : Hostif → Hostif) (p : Piece) : (onHostif f p).tally = p.tally := rfl
@[simp] theorem onHostif_cal (f : Hostif → Hostif) (p : Piece) : (onHostif f p).cal = p.cal := rfl
@[simp] theorem onHostif_scan (f : Hostif → Hostif) (p : Piece) : (onHostif f p).scan = p.scan := rfl
@[simp] theorem onHostif_free (f : Hostif → Hostif) (p : Piece) : (onHostif f p).free = p.free := rfl
@[simp] theorem onHostif_out (f : Hostif → Hostif) (p : Piece) : (onHostif f p).out = p.out := rfl

/-! ### onCal -/

@[simp] theorem onCal_transport (f : Cal → Cal) (p : Piece) : (onCal f p).transport = p.transport := rfl
@[simp] theorem onCal_regs (f : Cal → Cal) (p : Piece) : (onCal f p).regs = p.regs := rfl
@[simp] theorem onCal_safety (f : Cal → Cal) (p : Piece) : (onCal f p).safety = p.safety := rfl
@[simp] theorem onCal_boot (f : Cal → Cal) (p : Piece) : (onCal f p).boot = p.boot := rfl
@[simp] theorem onCal_clocks (f : Cal → Cal) (p : Piece) : (onCal f p).clocks = p.clocks := rfl
@[simp] theorem onCal_ledger (f : Cal → Cal) (p : Piece) : (onCal f p).ledger = p.ledger := rfl
@[simp] theorem onCal_monitor (f : Cal → Cal) (p : Piece) : (onCal f p).monitor = p.monitor := rfl
@[simp] theorem onCal_hostif (f : Cal → Cal) (p : Piece) : (onCal f p).hostif = p.hostif := rfl
@[simp] theorem onCal_dmc (f : Cal → Cal) (p : Piece) : (onCal f p).dmc = p.dmc := rfl
@[simp] theorem onCal_stream (f : Cal → Cal) (p : Piece) : (onCal f p).stream = p.stream := rfl
@[simp] theorem onCal_check (f : Cal → Cal) (p : Piece) : (onCal f p).check = p.check := rfl
@[simp] theorem onCal_net (f : Cal → Cal) (p : Piece) : (onCal f p).net = p.net := rfl
@[simp] theorem onCal_stamp (f : Cal → Cal) (p : Piece) : (onCal f p).stamp = p.stamp := rfl
@[simp] theorem onCal_fabric (f : Cal → Cal) (p : Piece) : (onCal f p).fabric = p.fabric := rfl
@[simp] theorem onCal_rfin (f : Cal → Cal) (p : Piece) : (onCal f p).rfin = p.rfin := rfl
@[simp] theorem onCal_chan (f : Cal → Cal) (p : Piece) : (onCal f p).chan = p.chan := rfl
@[simp] theorem onCal_xform (f : Cal → Cal) (p : Piece) : (onCal f p).xform = p.xform := rfl
@[simp] theorem onCal_density (f : Cal → Cal) (p : Piece) : (onCal f p).density = p.density := rfl
@[simp] theorem onCal_trigger (f : Cal → Cal) (p : Piece) : (onCal f p).trigger = p.trigger := rfl
@[simp] theorem onCal_acq (f : Cal → Cal) (p : Piece) : (onCal f p).acq = p.acq := rfl
@[simp] theorem onCal_gythen (f : Cal → Cal) (p : Piece) : (onCal f p).gythen = p.gythen := rfl
@[simp] theorem onCal_tally (f : Cal → Cal) (p : Piece) : (onCal f p).tally = p.tally := rfl
@[simp] theorem onCal_cal (f : Cal → Cal) (p : Piece) : (onCal f p).cal = f p.cal := rfl
@[simp] theorem onCal_scan (f : Cal → Cal) (p : Piece) : (onCal f p).scan = p.scan := rfl
@[simp] theorem onCal_free (f : Cal → Cal) (p : Piece) : (onCal f p).free = p.free := rfl
@[simp] theorem onCal_out (f : Cal → Cal) (p : Piece) : (onCal f p).out = p.out := rfl

/-! ### onMonitor -/

@[simp] theorem onMonitor_transport (f : Monitor → Monitor) (p : Piece) : (onMonitor f p).transport = p.transport := rfl
@[simp] theorem onMonitor_regs (f : Monitor → Monitor) (p : Piece) : (onMonitor f p).regs = p.regs := rfl
@[simp] theorem onMonitor_safety (f : Monitor → Monitor) (p : Piece) : (onMonitor f p).safety = p.safety := rfl
@[simp] theorem onMonitor_boot (f : Monitor → Monitor) (p : Piece) : (onMonitor f p).boot = p.boot := rfl
@[simp] theorem onMonitor_clocks (f : Monitor → Monitor) (p : Piece) : (onMonitor f p).clocks = p.clocks := rfl
@[simp] theorem onMonitor_ledger (f : Monitor → Monitor) (p : Piece) : (onMonitor f p).ledger = p.ledger := rfl
@[simp] theorem onMonitor_monitor (f : Monitor → Monitor) (p : Piece) : (onMonitor f p).monitor = f p.monitor := rfl
@[simp] theorem onMonitor_hostif (f : Monitor → Monitor) (p : Piece) : (onMonitor f p).hostif = p.hostif := rfl
@[simp] theorem onMonitor_dmc (f : Monitor → Monitor) (p : Piece) : (onMonitor f p).dmc = p.dmc := rfl
@[simp] theorem onMonitor_stream (f : Monitor → Monitor) (p : Piece) : (onMonitor f p).stream = p.stream := rfl
@[simp] theorem onMonitor_check (f : Monitor → Monitor) (p : Piece) : (onMonitor f p).check = p.check := rfl
@[simp] theorem onMonitor_net (f : Monitor → Monitor) (p : Piece) : (onMonitor f p).net = p.net := rfl
@[simp] theorem onMonitor_stamp (f : Monitor → Monitor) (p : Piece) : (onMonitor f p).stamp = p.stamp := rfl
@[simp] theorem onMonitor_fabric (f : Monitor → Monitor) (p : Piece) : (onMonitor f p).fabric = p.fabric := rfl
@[simp] theorem onMonitor_rfin (f : Monitor → Monitor) (p : Piece) : (onMonitor f p).rfin = p.rfin := rfl
@[simp] theorem onMonitor_chan (f : Monitor → Monitor) (p : Piece) : (onMonitor f p).chan = p.chan := rfl
@[simp] theorem onMonitor_xform (f : Monitor → Monitor) (p : Piece) : (onMonitor f p).xform = p.xform := rfl
@[simp] theorem onMonitor_density (f : Monitor → Monitor) (p : Piece) : (onMonitor f p).density = p.density := rfl
@[simp] theorem onMonitor_trigger (f : Monitor → Monitor) (p : Piece) : (onMonitor f p).trigger = p.trigger := rfl
@[simp] theorem onMonitor_acq (f : Monitor → Monitor) (p : Piece) : (onMonitor f p).acq = p.acq := rfl
@[simp] theorem onMonitor_gythen (f : Monitor → Monitor) (p : Piece) : (onMonitor f p).gythen = p.gythen := rfl
@[simp] theorem onMonitor_tally (f : Monitor → Monitor) (p : Piece) : (onMonitor f p).tally = p.tally := rfl
@[simp] theorem onMonitor_cal (f : Monitor → Monitor) (p : Piece) : (onMonitor f p).cal = p.cal := rfl
@[simp] theorem onMonitor_scan (f : Monitor → Monitor) (p : Piece) : (onMonitor f p).scan = p.scan := rfl
@[simp] theorem onMonitor_free (f : Monitor → Monitor) (p : Piece) : (onMonitor f p).free = p.free := rfl
@[simp] theorem onMonitor_out (f : Monitor → Monitor) (p : Piece) : (onMonitor f p).out = p.out := rfl

/-! ### onChannel -/

@[simp] theorem onChannel_transport (ch : Nat) (f : Channel → Channel) (p : Piece) : (onChannel ch f p).transport = { p.transport with channels := upd p.transport.channels ch f } := rfl
@[simp] theorem onChannel_regs (ch : Nat) (f : Channel → Channel) (p : Piece) : (onChannel ch f p).regs = p.regs := rfl
@[simp] theorem onChannel_safety (ch : Nat) (f : Channel → Channel) (p : Piece) : (onChannel ch f p).safety = p.safety := rfl
@[simp] theorem onChannel_boot (ch : Nat) (f : Channel → Channel) (p : Piece) : (onChannel ch f p).boot = p.boot := rfl
@[simp] theorem onChannel_clocks (ch : Nat) (f : Channel → Channel) (p : Piece) : (onChannel ch f p).clocks = p.clocks := rfl
@[simp] theorem onChannel_ledger (ch : Nat) (f : Channel → Channel) (p : Piece) : (onChannel ch f p).ledger = p.ledger := rfl
@[simp] theorem onChannel_monitor (ch : Nat) (f : Channel → Channel) (p : Piece) : (onChannel ch f p).monitor = p.monitor := rfl
@[simp] theorem onChannel_hostif (ch : Nat) (f : Channel → Channel) (p : Piece) : (onChannel ch f p).hostif = p.hostif := rfl
@[simp] theorem onChannel_dmc (ch : Nat) (f : Channel → Channel) (p : Piece) : (onChannel ch f p).dmc = p.dmc := rfl
@[simp] theorem onChannel_stream (ch : Nat) (f : Channel → Channel) (p : Piece) : (onChannel ch f p).stream = p.stream := rfl
@[simp] theorem onChannel_check (ch : Nat) (f : Channel → Channel) (p : Piece) : (onChannel ch f p).check = p.check := rfl
@[simp] theorem onChannel_net (ch : Nat) (f : Channel → Channel) (p : Piece) : (onChannel ch f p).net = p.net := rfl
@[simp] theorem onChannel_stamp (ch : Nat) (f : Channel → Channel) (p : Piece) : (onChannel ch f p).stamp = p.stamp := rfl
@[simp] theorem onChannel_fabric (ch : Nat) (f : Channel → Channel) (p : Piece) : (onChannel ch f p).fabric = p.fabric := rfl
@[simp] theorem onChannel_rfin (ch : Nat) (f : Channel → Channel) (p : Piece) : (onChannel ch f p).rfin = p.rfin := rfl
@[simp] theorem onChannel_chan (ch : Nat) (f : Channel → Channel) (p : Piece) : (onChannel ch f p).chan = p.chan := rfl
@[simp] theorem onChannel_xform (ch : Nat) (f : Channel → Channel) (p : Piece) : (onChannel ch f p).xform = p.xform := rfl
@[simp] theorem onChannel_density (ch : Nat) (f : Channel → Channel) (p : Piece) : (onChannel ch f p).density = p.density := rfl
@[simp] theorem onChannel_trigger (ch : Nat) (f : Channel → Channel) (p : Piece) : (onChannel ch f p).trigger = p.trigger := rfl
@[simp] theorem onChannel_acq (ch : Nat) (f : Channel → Channel) (p : Piece) : (onChannel ch f p).acq = p.acq := rfl
@[simp] theorem onChannel_gythen (ch : Nat) (f : Channel → Channel) (p : Piece) : (onChannel ch f p).gythen = p.gythen := rfl
@[simp] theorem onChannel_tally (ch : Nat) (f : Channel → Channel) (p : Piece) : (onChannel ch f p).tally = p.tally := rfl
@[simp] theorem onChannel_cal (ch : Nat) (f : Channel → Channel) (p : Piece) : (onChannel ch f p).cal = p.cal := rfl
@[simp] theorem onChannel_scan (ch : Nat) (f : Channel → Channel) (p : Piece) : (onChannel ch f p).scan = p.scan := rfl
@[simp] theorem onChannel_free (ch : Nat) (f : Channel → Channel) (p : Piece) : (onChannel ch f p).free = p.free := rfl
@[simp] theorem onChannel_out (ch : Nat) (f : Channel → Channel) (p : Piece) : (onChannel ch f p).out = p.out := rfl

/-! ### onSession -/

@[simp] theorem onSession_transport (id : Nat) (f : Session → Session) (p : Piece) : (onSession id f p).transport = { p.transport with sessions := (p.transport.sessions.map fun s => if s.id == id then f s else s) } := rfl
@[simp] theorem onSession_regs (id : Nat) (f : Session → Session) (p : Piece) : (onSession id f p).regs = p.regs := rfl
@[simp] theorem onSession_safety (id : Nat) (f : Session → Session) (p : Piece) : (onSession id f p).safety = p.safety := rfl
@[simp] theorem onSession_boot (id : Nat) (f : Session → Session) (p : Piece) : (onSession id f p).boot = p.boot := rfl
@[simp] theorem onSession_clocks (id : Nat) (f : Session → Session) (p : Piece) : (onSession id f p).clocks = p.clocks := rfl
@[simp] theorem onSession_ledger (id : Nat) (f : Session → Session) (p : Piece) : (onSession id f p).ledger = p.ledger := rfl
@[simp] theorem onSession_monitor (id : Nat) (f : Session → Session) (p : Piece) : (onSession id f p).monitor = p.monitor := rfl
@[simp] theorem onSession_hostif (id : Nat) (f : Session → Session) (p : Piece) : (onSession id f p).hostif = p.hostif := rfl
@[simp] theorem onSession_dmc (id : Nat) (f : Session → Session) (p : Piece) : (onSession id f p).dmc = p.dmc := rfl
@[simp] theorem onSession_stream (id : Nat) (f : Session → Session) (p : Piece) : (onSession id f p).stream = p.stream := rfl
@[simp] theorem onSession_check (id : Nat) (f : Session → Session) (p : Piece) : (onSession id f p).check = p.check := rfl
@[simp] theorem onSession_net (id : Nat) (f : Session → Session) (p : Piece) : (onSession id f p).net = p.net := rfl
@[simp] theorem onSession_stamp (id : Nat) (f : Session → Session) (p : Piece) : (onSession id f p).stamp = p.stamp := rfl
@[simp] theorem onSession_fabric (id : Nat) (f : Session → Session) (p : Piece) : (onSession id f p).fabric = p.fabric := rfl
@[simp] theorem onSession_rfin (id : Nat) (f : Session → Session) (p : Piece) : (onSession id f p).rfin = p.rfin := rfl
@[simp] theorem onSession_chan (id : Nat) (f : Session → Session) (p : Piece) : (onSession id f p).chan = p.chan := rfl
@[simp] theorem onSession_xform (id : Nat) (f : Session → Session) (p : Piece) : (onSession id f p).xform = p.xform := rfl
@[simp] theorem onSession_density (id : Nat) (f : Session → Session) (p : Piece) : (onSession id f p).density = p.density := rfl
@[simp] theorem onSession_trigger (id : Nat) (f : Session → Session) (p : Piece) : (onSession id f p).trigger = p.trigger := rfl
@[simp] theorem onSession_acq (id : Nat) (f : Session → Session) (p : Piece) : (onSession id f p).acq = p.acq := rfl
@[simp] theorem onSession_gythen (id : Nat) (f : Session → Session) (p : Piece) : (onSession id f p).gythen = p.gythen := rfl
@[simp] theorem onSession_tally (id : Nat) (f : Session → Session) (p : Piece) : (onSession id f p).tally = p.tally := rfl
@[simp] theorem onSession_cal (id : Nat) (f : Session → Session) (p : Piece) : (onSession id f p).cal = p.cal := rfl
@[simp] theorem onSession_scan (id : Nat) (f : Session → Session) (p : Piece) : (onSession id f p).scan = p.scan := rfl
@[simp] theorem onSession_free (id : Nat) (f : Session → Session) (p : Piece) : (onSession id f p).free = p.free := rfl
@[simp] theorem onSession_out (id : Nat) (f : Session → Session) (p : Piece) : (onSession id f p).out = p.out := rfl

/-! ### onAux -/

@[simp] theorem onAux_transport (source : Nat) (f : AuxSource → AuxSource) (p : Piece) : (onAux source f p).transport = p.transport := by simp only [onAux]
@[simp] theorem onAux_regs (source : Nat) (f : AuxSource → AuxSource) (p : Piece) : (onAux source f p).regs = p.regs := by simp only [onAux]
@[simp] theorem onAux_safety (source : Nat) (f : AuxSource → AuxSource) (p : Piece) : (onAux source f p).safety = p.safety := by simp only [onAux]
@[simp] theorem onAux_boot (source : Nat) (f : AuxSource → AuxSource) (p : Piece) : (onAux source f p).boot = p.boot := by simp only [onAux]
@[simp] theorem onAux_clocks (source : Nat) (f : AuxSource → AuxSource) (p : Piece) : (onAux source f p).clocks = p.clocks := by simp only [onAux]
@[simp] theorem onAux_ledger (source : Nat) (f : AuxSource → AuxSource) (p : Piece) : (onAux source f p).ledger = p.ledger := by simp only [onAux]
@[simp] theorem onAux_monitor (source : Nat) (f : AuxSource → AuxSource) (p : Piece) : (onAux source f p).monitor = p.monitor := by simp only [onAux]
@[simp] theorem onAux_hostif (source : Nat) (f : AuxSource → AuxSource) (p : Piece) : (onAux source f p).hostif = p.hostif := by simp only [onAux]
@[simp] theorem onAux_dmc (source : Nat) (f : AuxSource → AuxSource) (p : Piece) : (onAux source f p).dmc = p.dmc := by simp only [onAux]
@[simp] theorem onAux_stream (source : Nat) (f : AuxSource → AuxSource) (p : Piece) : (onAux source f p).stream = p.stream := by simp only [onAux]
@[simp] theorem onAux_check (source : Nat) (f : AuxSource → AuxSource) (p : Piece) : (onAux source f p).check = p.check := by simp only [onAux]
@[simp] theorem onAux_net (source : Nat) (f : AuxSource → AuxSource) (p : Piece) : (onAux source f p).net = p.net := by simp only [onAux]
@[simp] theorem onAux_stamp (source : Nat) (f : AuxSource → AuxSource) (p : Piece) : (onAux source f p).stamp = p.stamp := by simp only [onAux]
@[simp] theorem onAux_fabric (source : Nat) (f : AuxSource → AuxSource) (p : Piece) : (onAux source f p).fabric = { p.fabric with aux := upd p.fabric.aux (source - 16) f } := by simp only [onAux]
@[simp] theorem onAux_rfin (source : Nat) (f : AuxSource → AuxSource) (p : Piece) : (onAux source f p).rfin = p.rfin := by simp only [onAux]
@[simp] theorem onAux_chan (source : Nat) (f : AuxSource → AuxSource) (p : Piece) : (onAux source f p).chan = p.chan := by simp only [onAux]
@[simp] theorem onAux_xform (source : Nat) (f : AuxSource → AuxSource) (p : Piece) : (onAux source f p).xform = p.xform := by simp only [onAux]
@[simp] theorem onAux_density (source : Nat) (f : AuxSource → AuxSource) (p : Piece) : (onAux source f p).density = p.density := by simp only [onAux]
@[simp] theorem onAux_trigger (source : Nat) (f : AuxSource → AuxSource) (p : Piece) : (onAux source f p).trigger = p.trigger := by simp only [onAux]
@[simp] theorem onAux_acq (source : Nat) (f : AuxSource → AuxSource) (p : Piece) : (onAux source f p).acq = p.acq := by simp only [onAux]
@[simp] theorem onAux_gythen (source : Nat) (f : AuxSource → AuxSource) (p : Piece) : (onAux source f p).gythen = p.gythen := by simp only [onAux]
@[simp] theorem onAux_tally (source : Nat) (f : AuxSource → AuxSource) (p : Piece) : (onAux source f p).tally = p.tally := by simp only [onAux]
@[simp] theorem onAux_cal (source : Nat) (f : AuxSource → AuxSource) (p : Piece) : (onAux source f p).cal = p.cal := by simp only [onAux]
@[simp] theorem onAux_scan (source : Nat) (f : AuxSource → AuxSource) (p : Piece) : (onAux source f p).scan = p.scan := by simp only [onAux]
@[simp] theorem onAux_free (source : Nat) (f : AuxSource → AuxSource) (p : Piece) : (onAux source f p).free = p.free := by simp only [onAux]
@[simp] theorem onAux_out (source : Nat) (f : AuxSource → AuxSource) (p : Piece) : (onAux source f p).out = p.out := by simp only [onAux]

/-! ### onSlot -/

@[simp] theorem onSlot_transport (s : Nat) (f : CountSlot → CountSlot) (p : Piece) : (onSlot s f p).transport = p.transport := rfl
@[simp] theorem onSlot_regs (s : Nat) (f : CountSlot → CountSlot) (p : Piece) : (onSlot s f p).regs = p.regs := rfl
@[simp] theorem onSlot_safety (s : Nat) (f : CountSlot → CountSlot) (p : Piece) : (onSlot s f p).safety = p.safety := rfl
@[simp] theorem onSlot_boot (s : Nat) (f : CountSlot → CountSlot) (p : Piece) : (onSlot s f p).boot = p.boot := rfl
@[simp] theorem onSlot_clocks (s : Nat) (f : CountSlot → CountSlot) (p : Piece) : (onSlot s f p).clocks = p.clocks := rfl
@[simp] theorem onSlot_ledger (s : Nat) (f : CountSlot → CountSlot) (p : Piece) : (onSlot s f p).ledger = p.ledger := rfl
@[simp] theorem onSlot_monitor (s : Nat) (f : CountSlot → CountSlot) (p : Piece) : (onSlot s f p).monitor = p.monitor := rfl
@[simp] theorem onSlot_hostif (s : Nat) (f : CountSlot → CountSlot) (p : Piece) : (onSlot s f p).hostif = p.hostif := rfl
@[simp] theorem onSlot_dmc (s : Nat) (f : CountSlot → CountSlot) (p : Piece) : (onSlot s f p).dmc = p.dmc := rfl
@[simp] theorem onSlot_stream (s : Nat) (f : CountSlot → CountSlot) (p : Piece) : (onSlot s f p).stream = p.stream := rfl
@[simp] theorem onSlot_check (s : Nat) (f : CountSlot → CountSlot) (p : Piece) : (onSlot s f p).check = p.check := rfl
@[simp] theorem onSlot_net (s : Nat) (f : CountSlot → CountSlot) (p : Piece) : (onSlot s f p).net = p.net := rfl
@[simp] theorem onSlot_stamp (s : Nat) (f : CountSlot → CountSlot) (p : Piece) : (onSlot s f p).stamp = p.stamp := rfl
@[simp] theorem onSlot_fabric (s : Nat) (f : CountSlot → CountSlot) (p : Piece) : (onSlot s f p).fabric = p.fabric := rfl
@[simp] theorem onSlot_rfin (s : Nat) (f : CountSlot → CountSlot) (p : Piece) : (onSlot s f p).rfin = p.rfin := rfl
@[simp] theorem onSlot_chan (s : Nat) (f : CountSlot → CountSlot) (p : Piece) : (onSlot s f p).chan = p.chan := rfl
@[simp] theorem onSlot_xform (s : Nat) (f : CountSlot → CountSlot) (p : Piece) : (onSlot s f p).xform = p.xform := rfl
@[simp] theorem onSlot_density (s : Nat) (f : CountSlot → CountSlot) (p : Piece) : (onSlot s f p).density = p.density := rfl
@[simp] theorem onSlot_trigger (s : Nat) (f : CountSlot → CountSlot) (p : Piece) : (onSlot s f p).trigger = p.trigger := rfl
@[simp] theorem onSlot_acq (s : Nat) (f : CountSlot → CountSlot) (p : Piece) : (onSlot s f p).acq = p.acq := rfl
@[simp] theorem onSlot_gythen (s : Nat) (f : CountSlot → CountSlot) (p : Piece) : (onSlot s f p).gythen = p.gythen := rfl
@[simp] theorem onSlot_tally (s : Nat) (f : CountSlot → CountSlot) (p : Piece) : (onSlot s f p).tally = { p.tally with slots := upd p.tally.slots s f } := rfl
@[simp] theorem onSlot_cal (s : Nat) (f : CountSlot → CountSlot) (p : Piece) : (onSlot s f p).cal = p.cal := rfl
@[simp] theorem onSlot_scan (s : Nat) (f : CountSlot → CountSlot) (p : Piece) : (onSlot s f p).scan = p.scan := rfl
@[simp] theorem onSlot_free (s : Nat) (f : CountSlot → CountSlot) (p : Piece) : (onSlot s f p).free = p.free := rfl
@[simp] theorem onSlot_out (s : Nat) (f : CountSlot → CountSlot) (p : Piece) : (onSlot s f p).out = p.out := rfl

/-! ### onSafety -/

@[simp] theorem onSafety_transport (f : Safety → Safety) (p : Piece) : (onSafety f p).transport = p.transport := rfl
@[simp] theorem onSafety_regs (f : Safety → Safety) (p : Piece) : (onSafety f p).regs = p.regs := rfl
@[simp] theorem onSafety_safety (f : Safety → Safety) (p : Piece) : (onSafety f p).safety = f p.safety := rfl
@[simp] theorem onSafety_boot (f : Safety → Safety) (p : Piece) : (onSafety f p).boot = p.boot := rfl
@[simp] theorem onSafety_clocks (f : Safety → Safety) (p : Piece) : (onSafety f p).clocks = p.clocks := rfl
@[simp] theorem onSafety_ledger (f : Safety → Safety) (p : Piece) : (onSafety f p).ledger = p.ledger := rfl
@[simp] theorem onSafety_monitor (f : Safety → Safety) (p : Piece) : (onSafety f p).monitor = p.monitor := rfl
@[simp] theorem onSafety_hostif (f : Safety → Safety) (p : Piece) : (onSafety f p).hostif = p.hostif := rfl
@[simp] theorem onSafety_dmc (f : Safety → Safety) (p : Piece) : (onSafety f p).dmc = p.dmc := rfl
@[simp] theorem onSafety_stream (f : Safety → Safety) (p : Piece) : (onSafety f p).stream = p.stream := rfl
@[simp] theorem onSafety_check (f : Safety → Safety) (p : Piece) : (onSafety f p).check = p.check := rfl
@[simp] theorem onSafety_net (f : Safety → Safety) (p : Piece) : (onSafety f p).net = p.net := rfl
@[simp] theorem onSafety_stamp (f : Safety → Safety) (p : Piece) : (onSafety f p).stamp = p.stamp := rfl
@[simp] theorem onSafety_fabric (f : Safety → Safety) (p : Piece) : (onSafety f p).fabric = p.fabric := rfl
@[simp] theorem onSafety_rfin (f : Safety → Safety) (p : Piece) : (onSafety f p).rfin = p.rfin := rfl
@[simp] theorem onSafety_chan (f : Safety → Safety) (p : Piece) : (onSafety f p).chan = p.chan := rfl
@[simp] theorem onSafety_xform (f : Safety → Safety) (p : Piece) : (onSafety f p).xform = p.xform := rfl
@[simp] theorem onSafety_density (f : Safety → Safety) (p : Piece) : (onSafety f p).density = p.density := rfl
@[simp] theorem onSafety_trigger (f : Safety → Safety) (p : Piece) : (onSafety f p).trigger = p.trigger := rfl
@[simp] theorem onSafety_acq (f : Safety → Safety) (p : Piece) : (onSafety f p).acq = p.acq := rfl
@[simp] theorem onSafety_gythen (f : Safety → Safety) (p : Piece) : (onSafety f p).gythen = p.gythen := rfl
@[simp] theorem onSafety_tally (f : Safety → Safety) (p : Piece) : (onSafety f p).tally = p.tally := rfl
@[simp] theorem onSafety_cal (f : Safety → Safety) (p : Piece) : (onSafety f p).cal = p.cal := rfl
@[simp] theorem onSafety_scan (f : Safety → Safety) (p : Piece) : (onSafety f p).scan = p.scan := rfl
@[simp] theorem onSafety_free (f : Safety → Safety) (p : Piece) : (onSafety f p).free = p.free := rfl
@[simp] theorem onSafety_out (f : Safety → Safety) (p : Piece) : (onSafety f p).out = p.out := rfl

/-! ### onMotif -/

@[simp] theorem onMotif_transport (k : Nat) (f : Motif → Motif) (p : Piece) : (onMotif k f p).transport = p.transport := rfl
@[simp] theorem onMotif_regs (k : Nat) (f : Motif → Motif) (p : Piece) : (onMotif k f p).regs = p.regs := rfl
@[simp] theorem onMotif_safety (k : Nat) (f : Motif → Motif) (p : Piece) : (onMotif k f p).safety = p.safety := rfl
@[simp] theorem onMotif_boot (k : Nat) (f : Motif → Motif) (p : Piece) : (onMotif k f p).boot = p.boot := rfl
@[simp] theorem onMotif_clocks (k : Nat) (f : Motif → Motif) (p : Piece) : (onMotif k f p).clocks = p.clocks := rfl
@[simp] theorem onMotif_ledger (k : Nat) (f : Motif → Motif) (p : Piece) : (onMotif k f p).ledger = p.ledger := rfl
@[simp] theorem onMotif_monitor (k : Nat) (f : Motif → Motif) (p : Piece) : (onMotif k f p).monitor = p.monitor := rfl
@[simp] theorem onMotif_hostif (k : Nat) (f : Motif → Motif) (p : Piece) : (onMotif k f p).hostif = p.hostif := rfl
@[simp] theorem onMotif_dmc (k : Nat) (f : Motif → Motif) (p : Piece) : (onMotif k f p).dmc = p.dmc := rfl
@[simp] theorem onMotif_stream (k : Nat) (f : Motif → Motif) (p : Piece) : (onMotif k f p).stream = p.stream := rfl
@[simp] theorem onMotif_check (k : Nat) (f : Motif → Motif) (p : Piece) : (onMotif k f p).check = p.check := rfl
@[simp] theorem onMotif_net (k : Nat) (f : Motif → Motif) (p : Piece) : (onMotif k f p).net = p.net := rfl
@[simp] theorem onMotif_stamp (k : Nat) (f : Motif → Motif) (p : Piece) : (onMotif k f p).stamp = upd p.stamp k f := rfl
@[simp] theorem onMotif_fabric (k : Nat) (f : Motif → Motif) (p : Piece) : (onMotif k f p).fabric = p.fabric := rfl
@[simp] theorem onMotif_rfin (k : Nat) (f : Motif → Motif) (p : Piece) : (onMotif k f p).rfin = p.rfin := rfl
@[simp] theorem onMotif_chan (k : Nat) (f : Motif → Motif) (p : Piece) : (onMotif k f p).chan = p.chan := rfl
@[simp] theorem onMotif_xform (k : Nat) (f : Motif → Motif) (p : Piece) : (onMotif k f p).xform = p.xform := rfl
@[simp] theorem onMotif_density (k : Nat) (f : Motif → Motif) (p : Piece) : (onMotif k f p).density = p.density := rfl
@[simp] theorem onMotif_trigger (k : Nat) (f : Motif → Motif) (p : Piece) : (onMotif k f p).trigger = p.trigger := rfl
@[simp] theorem onMotif_acq (k : Nat) (f : Motif → Motif) (p : Piece) : (onMotif k f p).acq = p.acq := rfl
@[simp] theorem onMotif_gythen (k : Nat) (f : Motif → Motif) (p : Piece) : (onMotif k f p).gythen = p.gythen := rfl
@[simp] theorem onMotif_tally (k : Nat) (f : Motif → Motif) (p : Piece) : (onMotif k f p).tally = p.tally := rfl
@[simp] theorem onMotif_cal (k : Nat) (f : Motif → Motif) (p : Piece) : (onMotif k f p).cal = p.cal := rfl
@[simp] theorem onMotif_scan (k : Nat) (f : Motif → Motif) (p : Piece) : (onMotif k f p).scan = p.scan := rfl
@[simp] theorem onMotif_free (k : Nat) (f : Motif → Motif) (p : Piece) : (onMotif k f p).free = p.free := rfl
@[simp] theorem onMotif_out (k : Nat) (f : Motif → Motif) (p : Piece) : (onMotif k f p).out = p.out := rfl

/-! ### onInput -/

@[simp] theorem onInput_transport (source : Nat) (f : StampInput → StampInput) (p : Piece) : (onInput source f p).transport = p.transport := rfl
@[simp] theorem onInput_regs (source : Nat) (f : StampInput → StampInput) (p : Piece) : (onInput source f p).regs = p.regs := rfl
@[simp] theorem onInput_safety (source : Nat) (f : StampInput → StampInput) (p : Piece) : (onInput source f p).safety = p.safety := rfl
@[simp] theorem onInput_boot (source : Nat) (f : StampInput → StampInput) (p : Piece) : (onInput source f p).boot = p.boot := rfl
@[simp] theorem onInput_clocks (source : Nat) (f : StampInput → StampInput) (p : Piece) : (onInput source f p).clocks = p.clocks := rfl
@[simp] theorem onInput_ledger (source : Nat) (f : StampInput → StampInput) (p : Piece) : (onInput source f p).ledger = p.ledger := rfl
@[simp] theorem onInput_monitor (source : Nat) (f : StampInput → StampInput) (p : Piece) : (onInput source f p).monitor = p.monitor := rfl
@[simp] theorem onInput_hostif (source : Nat) (f : StampInput → StampInput) (p : Piece) : (onInput source f p).hostif = p.hostif := rfl
@[simp] theorem onInput_dmc (source : Nat) (f : StampInput → StampInput) (p : Piece) : (onInput source f p).dmc = p.dmc := rfl
@[simp] theorem onInput_stream (source : Nat) (f : StampInput → StampInput) (p : Piece) : (onInput source f p).stream = p.stream := rfl
@[simp] theorem onInput_check (source : Nat) (f : StampInput → StampInput) (p : Piece) : (onInput source f p).check = p.check := rfl
@[simp] theorem onInput_net (source : Nat) (f : StampInput → StampInput) (p : Piece) : (onInput source f p).net = p.net := rfl
@[simp] theorem onInput_stamp (source : Nat) (f : StampInput → StampInput) (p : Piece) : (onInput source f p).stamp = upd p.stamp (source / 4) fun m => { m with inputs := upd m.inputs (source % 4) f } := rfl
@[simp] theorem onInput_fabric (source : Nat) (f : StampInput → StampInput) (p : Piece) : (onInput source f p).fabric = p.fabric := rfl
@[simp] theorem onInput_rfin (source : Nat) (f : StampInput → StampInput) (p : Piece) : (onInput source f p).rfin = p.rfin := rfl
@[simp] theorem onInput_chan (source : Nat) (f : StampInput → StampInput) (p : Piece) : (onInput source f p).chan = p.chan := rfl
@[simp] theorem onInput_xform (source : Nat) (f : StampInput → StampInput) (p : Piece) : (onInput source f p).xform = p.xform := rfl
@[simp] theorem onInput_density (source : Nat) (f : StampInput → StampInput) (p : Piece) : (onInput source f p).density = p.density := rfl
@[simp] theorem onInput_trigger (source : Nat) (f : StampInput → StampInput) (p : Piece) : (onInput source f p).trigger = p.trigger := rfl
@[simp] theorem onInput_acq (source : Nat) (f : StampInput → StampInput) (p : Piece) : (onInput source f p).acq = p.acq := rfl
@[simp] theorem onInput_gythen (source : Nat) (f : StampInput → StampInput) (p : Piece) : (onInput source f p).gythen = p.gythen := rfl
@[simp] theorem onInput_tally (source : Nat) (f : StampInput → StampInput) (p : Piece) : (onInput source f p).tally = p.tally := rfl
@[simp] theorem onInput_cal (source : Nat) (f : StampInput → StampInput) (p : Piece) : (onInput source f p).cal = p.cal := rfl
@[simp] theorem onInput_scan (source : Nat) (f : StampInput → StampInput) (p : Piece) : (onInput source f p).scan = p.scan := rfl
@[simp] theorem onInput_free (source : Nat) (f : StampInput → StampInput) (p : Piece) : (onInput source f p).free = p.free := rfl
@[simp] theorem onInput_out (source : Nat) (f : StampInput → StampInput) (p : Piece) : (onInput source f p).out = p.out := rfl

/-! ### onRegs -/

@[simp] theorem onRegs_transport (f : Regs → Regs) (p : Piece) : (onRegs f p).transport = p.transport := rfl
@[simp] theorem onRegs_regs (f : Regs → Regs) (p : Piece) : (onRegs f p).regs = f p.regs := rfl
@[simp] theorem onRegs_safety (f : Regs → Regs) (p : Piece) : (onRegs f p).safety = p.safety := rfl
@[simp] theorem onRegs_boot (f : Regs → Regs) (p : Piece) : (onRegs f p).boot = p.boot := rfl
@[simp] theorem onRegs_clocks (f : Regs → Regs) (p : Piece) : (onRegs f p).clocks = p.clocks := rfl
@[simp] theorem onRegs_ledger (f : Regs → Regs) (p : Piece) : (onRegs f p).ledger = p.ledger := rfl
@[simp] theorem onRegs_monitor (f : Regs → Regs) (p : Piece) : (onRegs f p).monitor = p.monitor := rfl
@[simp] theorem onRegs_hostif (f : Regs → Regs) (p : Piece) : (onRegs f p).hostif = p.hostif := rfl
@[simp] theorem onRegs_dmc (f : Regs → Regs) (p : Piece) : (onRegs f p).dmc = p.dmc := rfl
@[simp] theorem onRegs_stream (f : Regs → Regs) (p : Piece) : (onRegs f p).stream = p.stream := rfl
@[simp] theorem onRegs_check (f : Regs → Regs) (p : Piece) : (onRegs f p).check = p.check := rfl
@[simp] theorem onRegs_net (f : Regs → Regs) (p : Piece) : (onRegs f p).net = p.net := rfl
@[simp] theorem onRegs_stamp (f : Regs → Regs) (p : Piece) : (onRegs f p).stamp = p.stamp := rfl
@[simp] theorem onRegs_fabric (f : Regs → Regs) (p : Piece) : (onRegs f p).fabric = p.fabric := rfl
@[simp] theorem onRegs_rfin (f : Regs → Regs) (p : Piece) : (onRegs f p).rfin = p.rfin := rfl
@[simp] theorem onRegs_chan (f : Regs → Regs) (p : Piece) : (onRegs f p).chan = p.chan := rfl
@[simp] theorem onRegs_xform (f : Regs → Regs) (p : Piece) : (onRegs f p).xform = p.xform := rfl
@[simp] theorem onRegs_density (f : Regs → Regs) (p : Piece) : (onRegs f p).density = p.density := rfl
@[simp] theorem onRegs_trigger (f : Regs → Regs) (p : Piece) : (onRegs f p).trigger = p.trigger := rfl
@[simp] theorem onRegs_acq (f : Regs → Regs) (p : Piece) : (onRegs f p).acq = p.acq := rfl
@[simp] theorem onRegs_gythen (f : Regs → Regs) (p : Piece) : (onRegs f p).gythen = p.gythen := rfl
@[simp] theorem onRegs_tally (f : Regs → Regs) (p : Piece) : (onRegs f p).tally = p.tally := rfl
@[simp] theorem onRegs_cal (f : Regs → Regs) (p : Piece) : (onRegs f p).cal = p.cal := rfl
@[simp] theorem onRegs_scan (f : Regs → Regs) (p : Piece) : (onRegs f p).scan = p.scan := rfl
@[simp] theorem onRegs_free (f : Regs → Regs) (p : Piece) : (onRegs f p).free = p.free := rfl
@[simp] theorem onRegs_out (f : Regs → Regs) (p : Piece) : (onRegs f p).out = p.out := rfl

/-! ### onCore -/

@[simp] theorem onCore_transport (core : Nat) (f : Core → Core) (p : Piece) : (onCore core f p).transport = p.transport := rfl
@[simp] theorem onCore_regs (core : Nat) (f : Core → Core) (p : Piece) : (onCore core f p).regs = p.regs := rfl
@[simp] theorem onCore_safety (core : Nat) (f : Core → Core) (p : Piece) : (onCore core f p).safety = p.safety := rfl
@[simp] theorem onCore_boot (core : Nat) (f : Core → Core) (p : Piece) : (onCore core f p).boot = p.boot := rfl
@[simp] theorem onCore_clocks (core : Nat) (f : Core → Core) (p : Piece) : (onCore core f p).clocks = p.clocks := rfl
@[simp] theorem onCore_ledger (core : Nat) (f : Core → Core) (p : Piece) : (onCore core f p).ledger = p.ledger := rfl
@[simp] theorem onCore_monitor (core : Nat) (f : Core → Core) (p : Piece) : (onCore core f p).monitor = p.monitor := rfl
@[simp] theorem onCore_hostif (core : Nat) (f : Core → Core) (p : Piece) : (onCore core f p).hostif = p.hostif := rfl
@[simp] theorem onCore_dmc (core : Nat) (f : Core → Core) (p : Piece) : (onCore core f p).dmc = p.dmc := rfl
@[simp] theorem onCore_stream (core : Nat) (f : Core → Core) (p : Piece) : (onCore core f p).stream = p.stream := rfl
@[simp] theorem onCore_check (core : Nat) (f : Core → Core) (p : Piece) : (onCore core f p).check = p.check := rfl
@[simp] theorem onCore_net (core : Nat) (f : Core → Core) (p : Piece) : (onCore core f p).net = p.net := rfl
@[simp] theorem onCore_stamp (core : Nat) (f : Core → Core) (p : Piece) : (onCore core f p).stamp = p.stamp := rfl
@[simp] theorem onCore_fabric (core : Nat) (f : Core → Core) (p : Piece) : (onCore core f p).fabric = p.fabric := rfl
@[simp] theorem onCore_rfin (core : Nat) (f : Core → Core) (p : Piece) : (onCore core f p).rfin = p.rfin := rfl
@[simp] theorem onCore_chan (core : Nat) (f : Core → Core) (p : Piece) : (onCore core f p).chan = p.chan := rfl
@[simp] theorem onCore_xform (core : Nat) (f : Core → Core) (p : Piece) : (onCore core f p).xform = p.xform := rfl
@[simp] theorem onCore_density (core : Nat) (f : Core → Core) (p : Piece) : (onCore core f p).density = p.density := rfl
@[simp] theorem onCore_trigger (core : Nat) (f : Core → Core) (p : Piece) : (onCore core f p).trigger = p.trigger := rfl
@[simp] theorem onCore_acq (core : Nat) (f : Core → Core) (p : Piece) : (onCore core f p).acq = p.acq := rfl
@[simp] theorem onCore_gythen (core : Nat) (f : Core → Core) (p : Piece) : (onCore core f p).gythen = { p.gythen with cores := upd p.gythen.cores core f } := rfl
@[simp] theorem onCore_tally (core : Nat) (f : Core → Core) (p : Piece) : (onCore core f p).tally = p.tally := rfl
@[simp] theorem onCore_cal (core : Nat) (f : Core → Core) (p : Piece) : (onCore core f p).cal = p.cal := rfl
@[simp] theorem onCore_scan (core : Nat) (f : Core → Core) (p : Piece) : (onCore core f p).scan = p.scan := rfl
@[simp] theorem onCore_free (core : Nat) (f : Core → Core) (p : Piece) : (onCore core f p).free = p.free := rfl
@[simp] theorem onCore_out (core : Nat) (f : Core → Core) (p : Piece) : (onCore core f p).out = p.out := rfl

/-! ### onRfin -/

@[simp] theorem onRfin_transport (i : Nat) (f : Rfin → Rfin) (p : Piece) : (onRfin i f p).transport = p.transport := rfl
@[simp] theorem onRfin_regs (i : Nat) (f : Rfin → Rfin) (p : Piece) : (onRfin i f p).regs = p.regs := rfl
@[simp] theorem onRfin_safety (i : Nat) (f : Rfin → Rfin) (p : Piece) : (onRfin i f p).safety = p.safety := rfl
@[simp] theorem onRfin_boot (i : Nat) (f : Rfin → Rfin) (p : Piece) : (onRfin i f p).boot = p.boot := rfl
@[simp] theorem onRfin_clocks (i : Nat) (f : Rfin → Rfin) (p : Piece) : (onRfin i f p).clocks = p.clocks := rfl
@[simp] theorem onRfin_ledger (i : Nat) (f : Rfin → Rfin) (p : Piece) : (onRfin i f p).ledger = p.ledger := rfl
@[simp] theorem onRfin_monitor (i : Nat) (f : Rfin → Rfin) (p : Piece) : (onRfin i f p).monitor = p.monitor := rfl
@[simp] theorem onRfin_hostif (i : Nat) (f : Rfin → Rfin) (p : Piece) : (onRfin i f p).hostif = p.hostif := rfl
@[simp] theorem onRfin_dmc (i : Nat) (f : Rfin → Rfin) (p : Piece) : (onRfin i f p).dmc = p.dmc := rfl
@[simp] theorem onRfin_stream (i : Nat) (f : Rfin → Rfin) (p : Piece) : (onRfin i f p).stream = p.stream := rfl
@[simp] theorem onRfin_check (i : Nat) (f : Rfin → Rfin) (p : Piece) : (onRfin i f p).check = p.check := rfl
@[simp] theorem onRfin_net (i : Nat) (f : Rfin → Rfin) (p : Piece) : (onRfin i f p).net = p.net := rfl
@[simp] theorem onRfin_stamp (i : Nat) (f : Rfin → Rfin) (p : Piece) : (onRfin i f p).stamp = p.stamp := rfl
@[simp] theorem onRfin_fabric (i : Nat) (f : Rfin → Rfin) (p : Piece) : (onRfin i f p).fabric = p.fabric := rfl
@[simp] theorem onRfin_rfin (i : Nat) (f : Rfin → Rfin) (p : Piece) : (onRfin i f p).rfin = upd p.rfin i f := rfl
@[simp] theorem onRfin_chan (i : Nat) (f : Rfin → Rfin) (p : Piece) : (onRfin i f p).chan = p.chan := rfl
@[simp] theorem onRfin_xform (i : Nat) (f : Rfin → Rfin) (p : Piece) : (onRfin i f p).xform = p.xform := rfl
@[simp] theorem onRfin_density (i : Nat) (f : Rfin → Rfin) (p : Piece) : (onRfin i f p).density = p.density := rfl
@[simp] theorem onRfin_trigger (i : Nat) (f : Rfin → Rfin) (p : Piece) : (onRfin i f p).trigger = p.trigger := rfl
@[simp] theorem onRfin_acq (i : Nat) (f : Rfin → Rfin) (p : Piece) : (onRfin i f p).acq = p.acq := rfl
@[simp] theorem onRfin_gythen (i : Nat) (f : Rfin → Rfin) (p : Piece) : (onRfin i f p).gythen = p.gythen := rfl
@[simp] theorem onRfin_tally (i : Nat) (f : Rfin → Rfin) (p : Piece) : (onRfin i f p).tally = p.tally := rfl
@[simp] theorem onRfin_cal (i : Nat) (f : Rfin → Rfin) (p : Piece) : (onRfin i f p).cal = p.cal := rfl
@[simp] theorem onRfin_scan (i : Nat) (f : Rfin → Rfin) (p : Piece) : (onRfin i f p).scan = p.scan := rfl
@[simp] theorem onRfin_free (i : Nat) (f : Rfin → Rfin) (p : Piece) : (onRfin i f p).free = p.free := rfl
@[simp] theorem onRfin_out (i : Nat) (f : Rfin → Rfin) (p : Piece) : (onRfin i f p).out = p.out := rfl

/-! ### onChan -/

@[simp] theorem onChan_transport (i : Nat) (f : Chan → Chan) (p : Piece) : (onChan i f p).transport = p.transport := rfl
@[simp] theorem onChan_regs (i : Nat) (f : Chan → Chan) (p : Piece) : (onChan i f p).regs = p.regs := rfl
@[simp] theorem onChan_safety (i : Nat) (f : Chan → Chan) (p : Piece) : (onChan i f p).safety = p.safety := rfl
@[simp] theorem onChan_boot (i : Nat) (f : Chan → Chan) (p : Piece) : (onChan i f p).boot = p.boot := rfl
@[simp] theorem onChan_clocks (i : Nat) (f : Chan → Chan) (p : Piece) : (onChan i f p).clocks = p.clocks := rfl
@[simp] theorem onChan_ledger (i : Nat) (f : Chan → Chan) (p : Piece) : (onChan i f p).ledger = p.ledger := rfl
@[simp] theorem onChan_monitor (i : Nat) (f : Chan → Chan) (p : Piece) : (onChan i f p).monitor = p.monitor := rfl
@[simp] theorem onChan_hostif (i : Nat) (f : Chan → Chan) (p : Piece) : (onChan i f p).hostif = p.hostif := rfl
@[simp] theorem onChan_dmc (i : Nat) (f : Chan → Chan) (p : Piece) : (onChan i f p).dmc = p.dmc := rfl
@[simp] theorem onChan_stream (i : Nat) (f : Chan → Chan) (p : Piece) : (onChan i f p).stream = p.stream := rfl
@[simp] theorem onChan_check (i : Nat) (f : Chan → Chan) (p : Piece) : (onChan i f p).check = p.check := rfl
@[simp] theorem onChan_net (i : Nat) (f : Chan → Chan) (p : Piece) : (onChan i f p).net = p.net := rfl
@[simp] theorem onChan_stamp (i : Nat) (f : Chan → Chan) (p : Piece) : (onChan i f p).stamp = p.stamp := rfl
@[simp] theorem onChan_fabric (i : Nat) (f : Chan → Chan) (p : Piece) : (onChan i f p).fabric = p.fabric := rfl
@[simp] theorem onChan_rfin (i : Nat) (f : Chan → Chan) (p : Piece) : (onChan i f p).rfin = p.rfin := rfl
@[simp] theorem onChan_chan (i : Nat) (f : Chan → Chan) (p : Piece) : (onChan i f p).chan = upd p.chan i f := rfl
@[simp] theorem onChan_xform (i : Nat) (f : Chan → Chan) (p : Piece) : (onChan i f p).xform = p.xform := rfl
@[simp] theorem onChan_density (i : Nat) (f : Chan → Chan) (p : Piece) : (onChan i f p).density = p.density := rfl
@[simp] theorem onChan_trigger (i : Nat) (f : Chan → Chan) (p : Piece) : (onChan i f p).trigger = p.trigger := rfl
@[simp] theorem onChan_acq (i : Nat) (f : Chan → Chan) (p : Piece) : (onChan i f p).acq = p.acq := rfl
@[simp] theorem onChan_gythen (i : Nat) (f : Chan → Chan) (p : Piece) : (onChan i f p).gythen = p.gythen := rfl
@[simp] theorem onChan_tally (i : Nat) (f : Chan → Chan) (p : Piece) : (onChan i f p).tally = p.tally := rfl
@[simp] theorem onChan_cal (i : Nat) (f : Chan → Chan) (p : Piece) : (onChan i f p).cal = p.cal := rfl
@[simp] theorem onChan_scan (i : Nat) (f : Chan → Chan) (p : Piece) : (onChan i f p).scan = p.scan := rfl
@[simp] theorem onChan_free (i : Nat) (f : Chan → Chan) (p : Piece) : (onChan i f p).free = p.free := rfl
@[simp] theorem onChan_out (i : Nat) (f : Chan → Chan) (p : Piece) : (onChan i f p).out = p.out := rfl

/-! ### onDdc -/

@[simp] theorem onDdc_transport (i n : Nat) (f : Ddc → Ddc) (p : Piece) : (onDdc i n f p).transport = p.transport := rfl
@[simp] theorem onDdc_regs (i n : Nat) (f : Ddc → Ddc) (p : Piece) : (onDdc i n f p).regs = p.regs := rfl
@[simp] theorem onDdc_safety (i n : Nat) (f : Ddc → Ddc) (p : Piece) : (onDdc i n f p).safety = p.safety := rfl
@[simp] theorem onDdc_boot (i n : Nat) (f : Ddc → Ddc) (p : Piece) : (onDdc i n f p).boot = p.boot := rfl
@[simp] theorem onDdc_clocks (i n : Nat) (f : Ddc → Ddc) (p : Piece) : (onDdc i n f p).clocks = p.clocks := rfl
@[simp] theorem onDdc_ledger (i n : Nat) (f : Ddc → Ddc) (p : Piece) : (onDdc i n f p).ledger = p.ledger := rfl
@[simp] theorem onDdc_monitor (i n : Nat) (f : Ddc → Ddc) (p : Piece) : (onDdc i n f p).monitor = p.monitor := rfl
@[simp] theorem onDdc_hostif (i n : Nat) (f : Ddc → Ddc) (p : Piece) : (onDdc i n f p).hostif = p.hostif := rfl
@[simp] theorem onDdc_dmc (i n : Nat) (f : Ddc → Ddc) (p : Piece) : (onDdc i n f p).dmc = p.dmc := rfl
@[simp] theorem onDdc_stream (i n : Nat) (f : Ddc → Ddc) (p : Piece) : (onDdc i n f p).stream = p.stream := rfl
@[simp] theorem onDdc_check (i n : Nat) (f : Ddc → Ddc) (p : Piece) : (onDdc i n f p).check = p.check := rfl
@[simp] theorem onDdc_net (i n : Nat) (f : Ddc → Ddc) (p : Piece) : (onDdc i n f p).net = p.net := rfl
@[simp] theorem onDdc_stamp (i n : Nat) (f : Ddc → Ddc) (p : Piece) : (onDdc i n f p).stamp = p.stamp := rfl
@[simp] theorem onDdc_fabric (i n : Nat) (f : Ddc → Ddc) (p : Piece) : (onDdc i n f p).fabric = p.fabric := rfl
@[simp] theorem onDdc_rfin (i n : Nat) (f : Ddc → Ddc) (p : Piece) : (onDdc i n f p).rfin = p.rfin := rfl
@[simp] theorem onDdc_chan (i n : Nat) (f : Ddc → Ddc) (p : Piece) : (onDdc i n f p).chan = upd p.chan i fun c => { c with ddcs := upd c.ddcs n f } := rfl
@[simp] theorem onDdc_xform (i n : Nat) (f : Ddc → Ddc) (p : Piece) : (onDdc i n f p).xform = p.xform := rfl
@[simp] theorem onDdc_density (i n : Nat) (f : Ddc → Ddc) (p : Piece) : (onDdc i n f p).density = p.density := rfl
@[simp] theorem onDdc_trigger (i n : Nat) (f : Ddc → Ddc) (p : Piece) : (onDdc i n f p).trigger = p.trigger := rfl
@[simp] theorem onDdc_acq (i n : Nat) (f : Ddc → Ddc) (p : Piece) : (onDdc i n f p).acq = p.acq := rfl
@[simp] theorem onDdc_gythen (i n : Nat) (f : Ddc → Ddc) (p : Piece) : (onDdc i n f p).gythen = p.gythen := rfl
@[simp] theorem onDdc_tally (i n : Nat) (f : Ddc → Ddc) (p : Piece) : (onDdc i n f p).tally = p.tally := rfl
@[simp] theorem onDdc_cal (i n : Nat) (f : Ddc → Ddc) (p : Piece) : (onDdc i n f p).cal = p.cal := rfl
@[simp] theorem onDdc_scan (i n : Nat) (f : Ddc → Ddc) (p : Piece) : (onDdc i n f p).scan = p.scan := rfl
@[simp] theorem onDdc_free (i n : Nat) (f : Ddc → Ddc) (p : Piece) : (onDdc i n f p).free = p.free := rfl
@[simp] theorem onDdc_out (i n : Nat) (f : Ddc → Ddc) (p : Piece) : (onDdc i n f p).out = p.out := rfl

/-! ### onAcq -/

@[simp] theorem onAcq_transport (k : Nat) (f : Acq → Acq) (p : Piece) : (onAcq k f p).transport = p.transport := rfl
@[simp] theorem onAcq_regs (k : Nat) (f : Acq → Acq) (p : Piece) : (onAcq k f p).regs = p.regs := rfl
@[simp] theorem onAcq_safety (k : Nat) (f : Acq → Acq) (p : Piece) : (onAcq k f p).safety = p.safety := rfl
@[simp] theorem onAcq_boot (k : Nat) (f : Acq → Acq) (p : Piece) : (onAcq k f p).boot = p.boot := rfl
@[simp] theorem onAcq_clocks (k : Nat) (f : Acq → Acq) (p : Piece) : (onAcq k f p).clocks = p.clocks := rfl
@[simp] theorem onAcq_ledger (k : Nat) (f : Acq → Acq) (p : Piece) : (onAcq k f p).ledger = p.ledger := rfl
@[simp] theorem onAcq_monitor (k : Nat) (f : Acq → Acq) (p : Piece) : (onAcq k f p).monitor = p.monitor := rfl
@[simp] theorem onAcq_hostif (k : Nat) (f : Acq → Acq) (p : Piece) : (onAcq k f p).hostif = p.hostif := rfl
@[simp] theorem onAcq_dmc (k : Nat) (f : Acq → Acq) (p : Piece) : (onAcq k f p).dmc = p.dmc := rfl
@[simp] theorem onAcq_stream (k : Nat) (f : Acq → Acq) (p : Piece) : (onAcq k f p).stream = p.stream := rfl
@[simp] theorem onAcq_check (k : Nat) (f : Acq → Acq) (p : Piece) : (onAcq k f p).check = p.check := rfl
@[simp] theorem onAcq_net (k : Nat) (f : Acq → Acq) (p : Piece) : (onAcq k f p).net = p.net := rfl
@[simp] theorem onAcq_stamp (k : Nat) (f : Acq → Acq) (p : Piece) : (onAcq k f p).stamp = p.stamp := rfl
@[simp] theorem onAcq_fabric (k : Nat) (f : Acq → Acq) (p : Piece) : (onAcq k f p).fabric = p.fabric := rfl
@[simp] theorem onAcq_rfin (k : Nat) (f : Acq → Acq) (p : Piece) : (onAcq k f p).rfin = p.rfin := rfl
@[simp] theorem onAcq_chan (k : Nat) (f : Acq → Acq) (p : Piece) : (onAcq k f p).chan = p.chan := rfl
@[simp] theorem onAcq_xform (k : Nat) (f : Acq → Acq) (p : Piece) : (onAcq k f p).xform = p.xform := rfl
@[simp] theorem onAcq_density (k : Nat) (f : Acq → Acq) (p : Piece) : (onAcq k f p).density = p.density := rfl
@[simp] theorem onAcq_trigger (k : Nat) (f : Acq → Acq) (p : Piece) : (onAcq k f p).trigger = p.trigger := rfl
@[simp] theorem onAcq_acq (k : Nat) (f : Acq → Acq) (p : Piece) : (onAcq k f p).acq = { p.acq with acqs := upd p.acq.acqs k f } := rfl
@[simp] theorem onAcq_gythen (k : Nat) (f : Acq → Acq) (p : Piece) : (onAcq k f p).gythen = p.gythen := rfl
@[simp] theorem onAcq_tally (k : Nat) (f : Acq → Acq) (p : Piece) : (onAcq k f p).tally = p.tally := rfl
@[simp] theorem onAcq_cal (k : Nat) (f : Acq → Acq) (p : Piece) : (onAcq k f p).cal = p.cal := rfl
@[simp] theorem onAcq_scan (k : Nat) (f : Acq → Acq) (p : Piece) : (onAcq k f p).scan = p.scan := rfl
@[simp] theorem onAcq_free (k : Nat) (f : Acq → Acq) (p : Piece) : (onAcq k f p).free = p.free := rfl
@[simp] theorem onAcq_out (k : Nat) (f : Acq → Acq) (p : Piece) : (onAcq k f p).out = p.out := rfl

/-! ### onNet -/

@[simp] theorem onNet_transport (f : Net → Net) (p : Piece) : (onNet f p).transport = p.transport := rfl
@[simp] theorem onNet_regs (f : Net → Net) (p : Piece) : (onNet f p).regs = p.regs := rfl
@[simp] theorem onNet_safety (f : Net → Net) (p : Piece) : (onNet f p).safety = p.safety := rfl
@[simp] theorem onNet_boot (f : Net → Net) (p : Piece) : (onNet f p).boot = p.boot := rfl
@[simp] theorem onNet_clocks (f : Net → Net) (p : Piece) : (onNet f p).clocks = p.clocks := rfl
@[simp] theorem onNet_ledger (f : Net → Net) (p : Piece) : (onNet f p).ledger = p.ledger := rfl
@[simp] theorem onNet_monitor (f : Net → Net) (p : Piece) : (onNet f p).monitor = p.monitor := rfl
@[simp] theorem onNet_hostif (f : Net → Net) (p : Piece) : (onNet f p).hostif = p.hostif := rfl
@[simp] theorem onNet_dmc (f : Net → Net) (p : Piece) : (onNet f p).dmc = p.dmc := rfl
@[simp] theorem onNet_stream (f : Net → Net) (p : Piece) : (onNet f p).stream = p.stream := rfl
@[simp] theorem onNet_check (f : Net → Net) (p : Piece) : (onNet f p).check = p.check := rfl
@[simp] theorem onNet_net (f : Net → Net) (p : Piece) : (onNet f p).net = f p.net := rfl
@[simp] theorem onNet_stamp (f : Net → Net) (p : Piece) : (onNet f p).stamp = p.stamp := rfl
@[simp] theorem onNet_fabric (f : Net → Net) (p : Piece) : (onNet f p).fabric = p.fabric := rfl
@[simp] theorem onNet_rfin (f : Net → Net) (p : Piece) : (onNet f p).rfin = p.rfin := rfl
@[simp] theorem onNet_chan (f : Net → Net) (p : Piece) : (onNet f p).chan = p.chan := rfl
@[simp] theorem onNet_xform (f : Net → Net) (p : Piece) : (onNet f p).xform = p.xform := rfl
@[simp] theorem onNet_density (f : Net → Net) (p : Piece) : (onNet f p).density = p.density := rfl
@[simp] theorem onNet_trigger (f : Net → Net) (p : Piece) : (onNet f p).trigger = p.trigger := rfl
@[simp] theorem onNet_acq (f : Net → Net) (p : Piece) : (onNet f p).acq = p.acq := rfl
@[simp] theorem onNet_gythen (f : Net → Net) (p : Piece) : (onNet f p).gythen = p.gythen := rfl
@[simp] theorem onNet_tally (f : Net → Net) (p : Piece) : (onNet f p).tally = p.tally := rfl
@[simp] theorem onNet_cal (f : Net → Net) (p : Piece) : (onNet f p).cal = p.cal := rfl
@[simp] theorem onNet_scan (f : Net → Net) (p : Piece) : (onNet f p).scan = p.scan := rfl
@[simp] theorem onNet_free (f : Net → Net) (p : Piece) : (onNet f p).free = p.free := rfl
@[simp] theorem onNet_out (f : Net → Net) (p : Piece) : (onNet f p).out = p.out := rfl

/-! ### onPort -/

@[simp] theorem onPort_transport (i : Nat) (f : NetPort → NetPort) (p : Piece) : (onPort i f p).transport = p.transport := rfl
@[simp] theorem onPort_regs (i : Nat) (f : NetPort → NetPort) (p : Piece) : (onPort i f p).regs = p.regs := rfl
@[simp] theorem onPort_safety (i : Nat) (f : NetPort → NetPort) (p : Piece) : (onPort i f p).safety = p.safety := rfl
@[simp] theorem onPort_boot (i : Nat) (f : NetPort → NetPort) (p : Piece) : (onPort i f p).boot = p.boot := rfl
@[simp] theorem onPort_clocks (i : Nat) (f : NetPort → NetPort) (p : Piece) : (onPort i f p).clocks = p.clocks := rfl
@[simp] theorem onPort_ledger (i : Nat) (f : NetPort → NetPort) (p : Piece) : (onPort i f p).ledger = p.ledger := rfl
@[simp] theorem onPort_monitor (i : Nat) (f : NetPort → NetPort) (p : Piece) : (onPort i f p).monitor = p.monitor := rfl
@[simp] theorem onPort_hostif (i : Nat) (f : NetPort → NetPort) (p : Piece) : (onPort i f p).hostif = p.hostif := rfl
@[simp] theorem onPort_dmc (i : Nat) (f : NetPort → NetPort) (p : Piece) : (onPort i f p).dmc = p.dmc := rfl
@[simp] theorem onPort_stream (i : Nat) (f : NetPort → NetPort) (p : Piece) : (onPort i f p).stream = p.stream := rfl
@[simp] theorem onPort_check (i : Nat) (f : NetPort → NetPort) (p : Piece) : (onPort i f p).check = p.check := rfl
@[simp] theorem onPort_net (i : Nat) (f : NetPort → NetPort) (p : Piece) : (onPort i f p).net = { p.net with ports := upd p.net.ports i f } := rfl
@[simp] theorem onPort_stamp (i : Nat) (f : NetPort → NetPort) (p : Piece) : (onPort i f p).stamp = p.stamp := rfl
@[simp] theorem onPort_fabric (i : Nat) (f : NetPort → NetPort) (p : Piece) : (onPort i f p).fabric = p.fabric := rfl
@[simp] theorem onPort_rfin (i : Nat) (f : NetPort → NetPort) (p : Piece) : (onPort i f p).rfin = p.rfin := rfl
@[simp] theorem onPort_chan (i : Nat) (f : NetPort → NetPort) (p : Piece) : (onPort i f p).chan = p.chan := rfl
@[simp] theorem onPort_xform (i : Nat) (f : NetPort → NetPort) (p : Piece) : (onPort i f p).xform = p.xform := rfl
@[simp] theorem onPort_density (i : Nat) (f : NetPort → NetPort) (p : Piece) : (onPort i f p).density = p.density := rfl
@[simp] theorem onPort_trigger (i : Nat) (f : NetPort → NetPort) (p : Piece) : (onPort i f p).trigger = p.trigger := rfl
@[simp] theorem onPort_acq (i : Nat) (f : NetPort → NetPort) (p : Piece) : (onPort i f p).acq = p.acq := rfl
@[simp] theorem onPort_gythen (i : Nat) (f : NetPort → NetPort) (p : Piece) : (onPort i f p).gythen = p.gythen := rfl
@[simp] theorem onPort_tally (i : Nat) (f : NetPort → NetPort) (p : Piece) : (onPort i f p).tally = p.tally := rfl
@[simp] theorem onPort_cal (i : Nat) (f : NetPort → NetPort) (p : Piece) : (onPort i f p).cal = p.cal := rfl
@[simp] theorem onPort_scan (i : Nat) (f : NetPort → NetPort) (p : Piece) : (onPort i f p).scan = p.scan := rfl
@[simp] theorem onPort_free (i : Nat) (f : NetPort → NetPort) (p : Piece) : (onPort i f p).free = p.free := rfl
@[simp] theorem onPort_out (i : Nat) (f : NetPort → NetPort) (p : Piece) : (onPort i f p).out = p.out := rfl

/-! ### emit -/

@[simp] theorem emit_transport (o : Output) (p : Piece) : (emit o p).transport = p.transport := rfl
@[simp] theorem emit_regs (o : Output) (p : Piece) : (emit o p).regs = p.regs := rfl
@[simp] theorem emit_safety (o : Output) (p : Piece) : (emit o p).safety = p.safety := rfl
@[simp] theorem emit_boot (o : Output) (p : Piece) : (emit o p).boot = p.boot := rfl
@[simp] theorem emit_clocks (o : Output) (p : Piece) : (emit o p).clocks = p.clocks := rfl
@[simp] theorem emit_ledger (o : Output) (p : Piece) : (emit o p).ledger = p.ledger := rfl
@[simp] theorem emit_monitor (o : Output) (p : Piece) : (emit o p).monitor = p.monitor := rfl
@[simp] theorem emit_hostif (o : Output) (p : Piece) : (emit o p).hostif = p.hostif := rfl
@[simp] theorem emit_dmc (o : Output) (p : Piece) : (emit o p).dmc = p.dmc := rfl
@[simp] theorem emit_stream (o : Output) (p : Piece) : (emit o p).stream = p.stream := rfl
@[simp] theorem emit_check (o : Output) (p : Piece) : (emit o p).check = p.check := rfl
@[simp] theorem emit_net (o : Output) (p : Piece) : (emit o p).net = p.net := rfl
@[simp] theorem emit_stamp (o : Output) (p : Piece) : (emit o p).stamp = p.stamp := rfl
@[simp] theorem emit_fabric (o : Output) (p : Piece) : (emit o p).fabric = p.fabric := rfl
@[simp] theorem emit_rfin (o : Output) (p : Piece) : (emit o p).rfin = p.rfin := rfl
@[simp] theorem emit_chan (o : Output) (p : Piece) : (emit o p).chan = p.chan := rfl
@[simp] theorem emit_xform (o : Output) (p : Piece) : (emit o p).xform = p.xform := rfl
@[simp] theorem emit_density (o : Output) (p : Piece) : (emit o p).density = p.density := rfl
@[simp] theorem emit_trigger (o : Output) (p : Piece) : (emit o p).trigger = p.trigger := rfl
@[simp] theorem emit_acq (o : Output) (p : Piece) : (emit o p).acq = p.acq := rfl
@[simp] theorem emit_gythen (o : Output) (p : Piece) : (emit o p).gythen = p.gythen := rfl
@[simp] theorem emit_tally (o : Output) (p : Piece) : (emit o p).tally = p.tally := rfl
@[simp] theorem emit_cal (o : Output) (p : Piece) : (emit o p).cal = p.cal := rfl
@[simp] theorem emit_scan (o : Output) (p : Piece) : (emit o p).scan = p.scan := rfl
@[simp] theorem emit_free (o : Output) (p : Piece) : (emit o p).free = p.free := rfl
@[simp] theorem emit_out (o : Output) (p : Piece) : (emit o p).out = p.out ++ [o] := rfl

/-! ### A condition -/

@[simp] theorem when_true (f : Piece → Piece) (p : Piece) : when true f p = f p := rfl
@[simp] theorem when_false (f : Piece → Piece) (p : Piece) : when false f p = p := rfl

end Sys2Proof.Machine
end

