-- ==== Sys2Proof/Laws/Frames.lean ====
section
/-! SUPPORT. The frames of the shared operations: what none of them touches. A completion changes the transport, the counters of
HOSTIF, device DRAM, the vectors and what is sent, and nothing else; an alarm or a journal entry changes the safety panel, the
transport, the Net's summaries, the vectors and what is sent, and nothing else. -/

namespace Sys2Proof.Machine

set_option linter.all false

/-- What holds of a piece and is kept by a change holds after the change under any condition. -/
theorem when_same {α : Type} (g : Piece → α) (c : Bool) (f : Piece → Piece) (p : Piece) (h : g (f p) = g p) :
    g (when c f p) = g p := by
  cases c <;> simp [h]

/-- What every change of a list keeps, the changes in a row keep. -/
theorem foldl_same {α β : Type} (g : Piece → α) (f : Piece → β → Piece) (h : ∀ p x, g (f p x) = g p) (l : List β)
    (p : Piece) : g (l.foldl f p) = g p := by
  induction l generalizing p with
  | nil => rfl
  | cons x l ih => simp [ih, h]

@[simp] theorem dramWrite_frame (a : Nat) (bs : Bytes) (p : Piece) :
    (dramWrite a bs p).transport = p.transport ∧ (dramWrite a bs p).regs = p.regs ∧ (dramWrite a bs p).safety = p.safety ∧
    (dramWrite a bs p).boot = p.boot ∧ (dramWrite a bs p).clocks = p.clocks ∧ (dramWrite a bs p).ledger = p.ledger ∧
    (dramWrite a bs p).monitor = p.monitor ∧ (dramWrite a bs p).hostif = p.hostif ∧ (dramWrite a bs p).stream = p.stream ∧
    (dramWrite a bs p).check = p.check ∧ (dramWrite a bs p).net = p.net ∧ (dramWrite a bs p).stamp = p.stamp ∧
    (dramWrite a bs p).fabric = p.fabric ∧ (dramWrite a bs p).rfin = p.rfin ∧ (dramWrite a bs p).chan = p.chan ∧
    (dramWrite a bs p).xform = p.xform ∧ (dramWrite a bs p).density = p.density ∧ (dramWrite a bs p).trigger = p.trigger ∧
    (dramWrite a bs p).acq = p.acq ∧ (dramWrite a bs p).gythen = p.gythen ∧ (dramWrite a bs p).tally = p.tally ∧
    (dramWrite a bs p).cal = p.cal ∧ (dramWrite a bs p).scan = p.scan ∧ (dramWrite a bs p).free = p.free ∧
    (dramWrite a bs p).out = p.out := by
  and_intros <;> simp only [dramWrite]

@[simp] theorem pieceWrite_frame (a : Nat) (bs : Bytes) (p : Piece) :
    (pieceWrite a bs p).1.transport = p.transport ∧ (pieceWrite a bs p).1.regs = p.regs ∧
    (pieceWrite a bs p).1.safety = p.safety ∧ (pieceWrite a bs p).1.boot = p.boot ∧ (pieceWrite a bs p).1.clocks = p.clocks ∧
    (pieceWrite a bs p).1.ledger = p.ledger ∧ (pieceWrite a bs p).1.monitor = p.monitor ∧
    (pieceWrite a bs p).1.hostif = p.hostif ∧ (pieceWrite a bs p).1.stream = p.stream ∧
    (pieceWrite a bs p).1.check = p.check ∧ (pieceWrite a bs p).1.net = p.net ∧ (pieceWrite a bs p).1.stamp = p.stamp ∧
    (pieceWrite a bs p).1.fabric = p.fabric ∧ (pieceWrite a bs p).1.rfin = p.rfin ∧ (pieceWrite a bs p).1.chan = p.chan ∧
    (pieceWrite a bs p).1.xform = p.xform ∧ (pieceWrite a bs p).1.density = p.density ∧
    (pieceWrite a bs p).1.trigger = p.trigger ∧ (pieceWrite a bs p).1.acq = p.acq ∧ (pieceWrite a bs p).1.gythen = p.gythen ∧
    (pieceWrite a bs p).1.tally = p.tally ∧ (pieceWrite a bs p).1.cal = p.cal ∧ (pieceWrite a bs p).1.scan = p.scan ∧
    (pieceWrite a bs p).1.free = p.free := by
  and_intros <;> (simp only [pieceWrite]; split <;> split <;> simp)

@[simp] theorem raiseVector_frame (fn v : Nat) (p : Piece) :
    (raiseVector fn v p).transport = p.transport ∧ (raiseVector fn v p).safety = p.safety ∧
    (raiseVector fn v p).boot = p.boot ∧ (raiseVector fn v p).clocks = p.clocks ∧ (raiseVector fn v p).ledger = p.ledger ∧
    (raiseVector fn v p).monitor = p.monitor ∧ (raiseVector fn v p).hostif = p.hostif ∧ (raiseVector fn v p).dmc = p.dmc ∧
    (raiseVector fn v p).stream = p.stream ∧ (raiseVector fn v p).check = p.check ∧ (raiseVector fn v p).net = p.net ∧
    (raiseVector fn v p).stamp = p.stamp ∧ (raiseVector fn v p).fabric = p.fabric ∧ (raiseVector fn v p).rfin = p.rfin ∧
    (raiseVector fn v p).chan = p.chan ∧ (raiseVector fn v p).xform = p.xform ∧ (raiseVector fn v p).density = p.density ∧
    (raiseVector fn v p).trigger = p.trigger ∧ (raiseVector fn v p).acq = p.acq ∧ (raiseVector fn v p).gythen = p.gythen ∧
    (raiseVector fn v p).tally = p.tally ∧ (raiseVector fn v p).cal = p.cal ∧ (raiseVector fn v p).scan = p.scan ∧
    (raiseVector fn v p).free = p.free := by
  and_intros <;> (unfold raiseVector; extract_lets; repeat' (first | rfl | split))

@[simp] theorem pushJournal_frame (e : JournalEntry) (p : Piece) :
    (pushJournal e p).1.transport = p.transport ∧ (pushJournal e p).1.regs = p.regs ∧ (pushJournal e p).1.boot = p.boot ∧
    (pushJournal e p).1.clocks = p.clocks ∧ (pushJournal e p).1.ledger = p.ledger ∧ (pushJournal e p).1.monitor = p.monitor ∧
    (pushJournal e p).1.hostif = p.hostif ∧ (pushJournal e p).1.dmc = p.dmc ∧ (pushJournal e p).1.stream = p.stream ∧
    (pushJournal e p).1.check = p.check ∧ (pushJournal e p).1.net = p.net ∧ (pushJournal e p).1.stamp = p.stamp ∧
    (pushJournal e p).1.fabric = p.fabric ∧ (pushJournal e p).1.rfin = p.rfin ∧ (pushJournal e p).1.chan = p.chan ∧
    (pushJournal e p).1.xform = p.xform ∧ (pushJournal e p).1.density = p.density ∧ (pushJournal e p).1.trigger = p.trigger ∧
    (pushJournal e p).1.acq = p.acq ∧ (pushJournal e p).1.gythen = p.gythen ∧ (pushJournal e p).1.tally = p.tally ∧
    (pushJournal e p).1.cal = p.cal ∧ (pushJournal e p).1.scan = p.scan ∧ (pushJournal e p).1.free = p.free ∧
    (pushJournal e p).1.out = p.out := by
  and_intros <;> simp only [pushJournal]

@[simp] theorem raiseEvent_frame (kind t i : Nat) (body : Bytes) (p : Piece) :
    (raiseEvent kind t i body p).regs = p.regs ∧ (raiseEvent kind t i body p).safety = p.safety ∧
    (raiseEvent kind t i body p).boot = p.boot ∧ (raiseEvent kind t i body p).clocks = p.clocks ∧
    (raiseEvent kind t i body p).ledger = p.ledger ∧ (raiseEvent kind t i body p).monitor = p.monitor ∧
    (raiseEvent kind t i body p).hostif = p.hostif ∧ (raiseEvent kind t i body p).dmc = p.dmc ∧
    (raiseEvent kind t i body p).stream = p.stream ∧ (raiseEvent kind t i body p).check = p.check ∧
    (raiseEvent kind t i body p).net = p.net ∧ (raiseEvent kind t i body p).stamp = p.stamp ∧
    (raiseEvent kind t i body p).fabric = p.fabric ∧ (raiseEvent kind t i body p).rfin = p.rfin ∧
    (raiseEvent kind t i body p).chan = p.chan ∧ (raiseEvent kind t i body p).xform = p.xform ∧
    (raiseEvent kind t i body p).density = p.density ∧ (raiseEvent kind t i body p).trigger = p.trigger ∧
    (raiseEvent kind t i body p).acq = p.acq ∧ (raiseEvent kind t i body p).gythen = p.gythen ∧
    (raiseEvent kind t i body p).tally = p.tally ∧ (raiseEvent kind t i body p).cal = p.cal ∧
    (raiseEvent kind t i body p).scan = p.scan ∧ (raiseEvent kind t i body p).free = p.free ∧
    (raiseEvent kind t i body p).out = p.out := by
  and_intros <;> simp only [raiseEvent]

@[simp] theorem raiseEventAt_frame (kind t i : Nat) (m : T16) (body : Bytes) (p : Piece) :
    (raiseEventAt kind t i m body p).regs = p.regs ∧ (raiseEventAt kind t i m body p).safety = p.safety ∧
    (raiseEventAt kind t i m body p).boot = p.boot ∧ (raiseEventAt kind t i m body p).clocks = p.clocks ∧
    (raiseEventAt kind t i m body p).ledger = p.ledger ∧ (raiseEventAt kind t i m body p).monitor = p.monitor ∧
    (raiseEventAt kind t i m body p).hostif = p.hostif ∧ (raiseEventAt kind t i m body p).dmc = p.dmc ∧
    (raiseEventAt kind t i m body p).stream = p.stream ∧ (raiseEventAt kind t i m body p).check = p.check ∧
    (raiseEventAt kind t i m body p).net = p.net ∧ (raiseEventAt kind t i m body p).stamp = p.stamp ∧
    (raiseEventAt kind t i m body p).fabric = p.fabric ∧ (raiseEventAt kind t i m body p).rfin = p.rfin ∧
    (raiseEventAt kind t i m body p).chan = p.chan ∧ (raiseEventAt kind t i m body p).xform = p.xform ∧
    (raiseEventAt kind t i m body p).density = p.density ∧ (raiseEventAt kind t i m body p).trigger = p.trigger ∧
    (raiseEventAt kind t i m body p).acq = p.acq ∧ (raiseEventAt kind t i m body p).gythen = p.gythen ∧
    (raiseEventAt kind t i m body p).tally = p.tally ∧ (raiseEventAt kind t i m body p).cal = p.cal ∧
    (raiseEventAt kind t i m body p).scan = p.scan ∧ (raiseEventAt kind t i m body p).free = p.free ∧
    (raiseEventAt kind t i m body p).out = p.out := by
  and_intros <;> simp only [raiseEventAt]

@[simp] theorem queueOwnSummary_frame (p : Piece) :
    (queueOwnSummary p).transport = p.transport ∧ (queueOwnSummary p).regs = p.regs ∧ (queueOwnSummary p).safety = p.safety ∧
    (queueOwnSummary p).boot = p.boot ∧ (queueOwnSummary p).clocks = p.clocks ∧ (queueOwnSummary p).ledger = p.ledger ∧
    (queueOwnSummary p).monitor = p.monitor ∧ (queueOwnSummary p).hostif = p.hostif ∧ (queueOwnSummary p).dmc = p.dmc ∧
    (queueOwnSummary p).stream = p.stream ∧ (queueOwnSummary p).check = p.check ∧ (queueOwnSummary p).stamp = p.stamp ∧
    (queueOwnSummary p).fabric = p.fabric ∧ (queueOwnSummary p).rfin = p.rfin ∧ (queueOwnSummary p).chan = p.chan ∧
    (queueOwnSummary p).xform = p.xform ∧ (queueOwnSummary p).density = p.density ∧ (queueOwnSummary p).trigger = p.trigger ∧
    (queueOwnSummary p).acq = p.acq ∧ (queueOwnSummary p).gythen = p.gythen ∧ (queueOwnSummary p).tally = p.tally ∧
    (queueOwnSummary p).cal = p.cal ∧ (queueOwnSummary p).scan = p.scan ∧ (queueOwnSummary p).free = p.free ∧
    (queueOwnSummary p).out = p.out := by
  and_intros <;> simp only [queueOwnSummary]

@[simp] theorem latchAlarm_frame (code : Nat) (p : Piece) :
    (latchAlarm code p).1.transport = p.transport ∧ (latchAlarm code p).1.regs = p.regs ∧
    (latchAlarm code p).1.boot = p.boot ∧ (latchAlarm code p).1.clocks = p.clocks ∧ (latchAlarm code p).1.ledger = p.ledger ∧
    (latchAlarm code p).1.monitor = p.monitor ∧ (latchAlarm code p).1.hostif = p.hostif ∧ (latchAlarm code p).1.dmc = p.dmc ∧
    (latchAlarm code p).1.stream = p.stream ∧ (latchAlarm code p).1.check = p.check ∧ (latchAlarm code p).1.net = p.net ∧
    (latchAlarm code p).1.stamp = p.stamp ∧ (latchAlarm code p).1.fabric = p.fabric ∧ (latchAlarm code p).1.rfin = p.rfin ∧
    (latchAlarm code p).1.chan = p.chan ∧ (latchAlarm code p).1.xform = p.xform ∧ (latchAlarm code p).1.density = p.density ∧
    (latchAlarm code p).1.trigger = p.trigger ∧ (latchAlarm code p).1.acq = p.acq ∧ (latchAlarm code p).1.gythen = p.gythen ∧
    (latchAlarm code p).1.tally = p.tally ∧ (latchAlarm code p).1.cal = p.cal ∧ (latchAlarm code p).1.scan = p.scan ∧
    (latchAlarm code p).1.free = p.free ∧ (latchAlarm code p).1.out = p.out := by
  and_intros <;> simp only [latchAlarm]

@[simp] theorem announceAlarm_frame (code : Nat) (p : Piece) :
    (announceAlarm code p).safety = p.safety ∧ (announceAlarm code p).boot = p.boot ∧
    (announceAlarm code p).clocks = p.clocks ∧ (announceAlarm code p).ledger = p.ledger ∧
    (announceAlarm code p).monitor = p.monitor ∧ (announceAlarm code p).hostif = p.hostif ∧
    (announceAlarm code p).dmc = p.dmc ∧ (announceAlarm code p).stream = p.stream ∧ (announceAlarm code p).check = p.check ∧
    (announceAlarm code p).stamp = p.stamp ∧ (announceAlarm code p).fabric = p.fabric ∧
    (announceAlarm code p).rfin = p.rfin ∧ (announceAlarm code p).chan = p.chan ∧ (announceAlarm code p).xform = p.xform ∧
    (announceAlarm code p).density = p.density ∧ (announceAlarm code p).trigger = p.trigger ∧
    (announceAlarm code p).acq = p.acq ∧ (announceAlarm code p).gythen = p.gythen ∧ (announceAlarm code p).tally = p.tally ∧
    (announceAlarm code p).cal = p.cal ∧ (announceAlarm code p).scan = p.scan ∧ (announceAlarm code p).free = p.free := by
  and_intros <;> simp [announceAlarm]

@[simp] theorem occurAlarm_frame (code t i : Nat) (p : Piece) :
    (occurAlarm code t i p).boot = p.boot ∧ (occurAlarm code t i p).clocks = p.clocks ∧
    (occurAlarm code t i p).ledger = p.ledger ∧ (occurAlarm code t i p).monitor = p.monitor ∧
    (occurAlarm code t i p).hostif = p.hostif ∧ (occurAlarm code t i p).dmc = p.dmc ∧
    (occurAlarm code t i p).stream = p.stream ∧ (occurAlarm code t i p).check = p.check ∧
    (occurAlarm code t i p).stamp = p.stamp ∧ (occurAlarm code t i p).fabric = p.fabric ∧
    (occurAlarm code t i p).rfin = p.rfin ∧ (occurAlarm code t i p).chan = p.chan ∧ (occurAlarm code t i p).xform = p.xform ∧
    (occurAlarm code t i p).density = p.density ∧ (occurAlarm code t i p).trigger = p.trigger ∧
    (occurAlarm code t i p).acq = p.acq ∧ (occurAlarm code t i p).gythen = p.gythen ∧
    (occurAlarm code t i p).tally = p.tally ∧ (occurAlarm code t i p).cal = p.cal ∧ (occurAlarm code t i p).scan = p.scan ∧
    (occurAlarm code t i p).free = p.free := by
  and_intros <;> (simp only [occurAlarm, when]; split <;> simp)

@[simp] theorem writeJournal_frame (e : JournalEntry) (p : Piece) :
    (writeJournal e p).boot = p.boot ∧ (writeJournal e p).clocks = p.clocks ∧ (writeJournal e p).ledger = p.ledger ∧
    (writeJournal e p).monitor = p.monitor ∧ (writeJournal e p).hostif = p.hostif ∧ (writeJournal e p).dmc = p.dmc ∧
    (writeJournal e p).stream = p.stream ∧ (writeJournal e p).check = p.check ∧ (writeJournal e p).stamp = p.stamp ∧
    (writeJournal e p).fabric = p.fabric ∧ (writeJournal e p).rfin = p.rfin ∧ (writeJournal e p).chan = p.chan ∧
    (writeJournal e p).xform = p.xform ∧ (writeJournal e p).density = p.density ∧ (writeJournal e p).trigger = p.trigger ∧
    (writeJournal e p).acq = p.acq ∧ (writeJournal e p).gythen = p.gythen ∧ (writeJournal e p).tally = p.tally ∧
    (writeJournal e p).cal = p.cal ∧ (writeJournal e p).scan = p.scan ∧ (writeJournal e p).free = p.free := by
  and_intros <;> (simp only [writeJournal, when]; split <;> split <;> simp)

@[simp] theorem alarmWith_frame (code : Nat) (e : JournalEntry) (p : Piece) :
    (alarmWith code e p).boot = p.boot ∧ (alarmWith code e p).clocks = p.clocks ∧ (alarmWith code e p).ledger = p.ledger ∧
    (alarmWith code e p).monitor = p.monitor ∧ (alarmWith code e p).hostif = p.hostif ∧ (alarmWith code e p).dmc = p.dmc ∧
    (alarmWith code e p).stream = p.stream ∧ (alarmWith code e p).check = p.check ∧ (alarmWith code e p).stamp = p.stamp ∧
    (alarmWith code e p).fabric = p.fabric ∧ (alarmWith code e p).rfin = p.rfin ∧ (alarmWith code e p).chan = p.chan ∧
    (alarmWith code e p).xform = p.xform ∧ (alarmWith code e p).density = p.density ∧
    (alarmWith code e p).trigger = p.trigger ∧ (alarmWith code e p).acq = p.acq ∧ (alarmWith code e p).gythen = p.gythen ∧
    (alarmWith code e p).tally = p.tally ∧ (alarmWith code e p).cal = p.cal ∧ (alarmWith code e p).scan = p.scan ∧
    (alarmWith code e p).free = p.free := by
  and_intros <;> (simp only [alarmWith, when]; split <;> simp)

@[simp] theorem raiseAlarm_frame (code t i : Nat) (p : Piece) :
    (raiseAlarm code t i p).boot = p.boot ∧ (raiseAlarm code t i p).clocks = p.clocks ∧
    (raiseAlarm code t i p).ledger = p.ledger ∧ (raiseAlarm code t i p).monitor = p.monitor ∧
    (raiseAlarm code t i p).hostif = p.hostif ∧ (raiseAlarm code t i p).dmc = p.dmc ∧
    (raiseAlarm code t i p).stream = p.stream ∧ (raiseAlarm code t i p).check = p.check ∧
    (raiseAlarm code t i p).stamp = p.stamp ∧ (raiseAlarm code t i p).fabric = p.fabric ∧
    (raiseAlarm code t i p).rfin = p.rfin ∧ (raiseAlarm code t i p).chan = p.chan ∧ (raiseAlarm code t i p).xform = p.xform ∧
    (raiseAlarm code t i p).density = p.density ∧ (raiseAlarm code t i p).trigger = p.trigger ∧
    (raiseAlarm code t i p).acq = p.acq ∧ (raiseAlarm code t i p).gythen = p.gythen ∧
    (raiseAlarm code t i p).tally = p.tally ∧ (raiseAlarm code t i p).cal = p.cal ∧ (raiseAlarm code t i p).scan = p.scan ∧
    (raiseAlarm code t i p).free = p.free := by
  and_intros <;> simp [raiseAlarm]

@[simp] theorem attention_frame (ch : Nat) (p : Piece) :
    (attention ch p).transport = p.transport ∧ (attention ch p).safety = p.safety ∧ (attention ch p).boot = p.boot ∧
    (attention ch p).clocks = p.clocks ∧ (attention ch p).ledger = p.ledger ∧ (attention ch p).monitor = p.monitor ∧
    (attention ch p).hostif = p.hostif ∧ (attention ch p).dmc = p.dmc ∧ (attention ch p).stream = p.stream ∧
    (attention ch p).check = p.check ∧ (attention ch p).net = p.net ∧ (attention ch p).stamp = p.stamp ∧
    (attention ch p).fabric = p.fabric ∧ (attention ch p).rfin = p.rfin ∧ (attention ch p).chan = p.chan ∧
    (attention ch p).xform = p.xform ∧ (attention ch p).density = p.density ∧ (attention ch p).trigger = p.trigger ∧
    (attention ch p).acq = p.acq ∧ (attention ch p).gythen = p.gythen ∧ (attention ch p).tally = p.tally ∧
    (attention ch p).cal = p.cal ∧ (attention ch p).scan = p.scan ∧ (attention ch p).free = p.free := by
  and_intros <;> simp [attention]

@[simp] theorem enterInbound_frame (ch : Nat) (n : Notice) (p : Piece) :
    (enterInbound ch n p).safety = p.safety ∧ (enterInbound ch n p).boot = p.boot ∧ (enterInbound ch n p).clocks = p.clocks ∧
    (enterInbound ch n p).ledger = p.ledger ∧ (enterInbound ch n p).monitor = p.monitor ∧
    (enterInbound ch n p).hostif = p.hostif ∧ (enterInbound ch n p).dmc = p.dmc ∧ (enterInbound ch n p).stream = p.stream ∧
    (enterInbound ch n p).check = p.check ∧ (enterInbound ch n p).net = p.net ∧ (enterInbound ch n p).stamp = p.stamp ∧
    (enterInbound ch n p).fabric = p.fabric ∧ (enterInbound ch n p).rfin = p.rfin ∧ (enterInbound ch n p).chan = p.chan ∧
    (enterInbound ch n p).xform = p.xform ∧ (enterInbound ch n p).density = p.density ∧
    (enterInbound ch n p).trigger = p.trigger ∧ (enterInbound ch n p).acq = p.acq ∧ (enterInbound ch n p).gythen = p.gythen ∧
    (enterInbound ch n p).tally = p.tally ∧ (enterInbound ch n p).cal = p.cal ∧ (enterInbound ch n p).scan = p.scan ∧
    (enterInbound ch n p).free = p.free := by
  and_intros <;> (simp only [enterInbound, when]; split <;> simp)

@[simp] theorem postNotice_frame (ch kind a n : Nat) (p : Piece) :
    (postNotice ch kind a n p).safety = p.safety ∧ (postNotice ch kind a n p).boot = p.boot ∧
    (postNotice ch kind a n p).clocks = p.clocks ∧ (postNotice ch kind a n p).ledger = p.ledger ∧
    (postNotice ch kind a n p).monitor = p.monitor ∧ (postNotice ch kind a n p).hostif = p.hostif ∧
    (postNotice ch kind a n p).dmc = p.dmc ∧ (postNotice ch kind a n p).stream = p.stream ∧
    (postNotice ch kind a n p).check = p.check ∧ (postNotice ch kind a n p).net = p.net ∧
    (postNotice ch kind a n p).stamp = p.stamp ∧ (postNotice ch kind a n p).fabric = p.fabric ∧
    (postNotice ch kind a n p).rfin = p.rfin ∧ (postNotice ch kind a n p).chan = p.chan ∧
    (postNotice ch kind a n p).xform = p.xform ∧ (postNotice ch kind a n p).density = p.density ∧
    (postNotice ch kind a n p).trigger = p.trigger ∧ (postNotice ch kind a n p).acq = p.acq ∧
    (postNotice ch kind a n p).gythen = p.gythen ∧ (postNotice ch kind a n p).tally = p.tally ∧
    (postNotice ch kind a n p).cal = p.cal ∧ (postNotice ch kind a n p).scan = p.scan ∧
    (postNotice ch kind a n p).free = p.free := by
  and_intros <;> (simp only [postNotice]; split <;> simp)

@[simp] theorem setRingFor_frame (f : Flight) (st : Nat) (r : Ring) (p : Piece) :
    (setRingFor f st r p).regs = p.regs ∧ (setRingFor f st r p).safety = p.safety ∧ (setRingFor f st r p).boot = p.boot ∧
    (setRingFor f st r p).clocks = p.clocks ∧ (setRingFor f st r p).ledger = p.ledger ∧
    (setRingFor f st r p).monitor = p.monitor ∧ (setRingFor f st r p).hostif = p.hostif ∧ (setRingFor f st r p).dmc = p.dmc ∧
    (setRingFor f st r p).stream = p.stream ∧ (setRingFor f st r p).check = p.check ∧ (setRingFor f st r p).net = p.net ∧
    (setRingFor f st r p).stamp = p.stamp ∧ (setRingFor f st r p).fabric = p.fabric ∧ (setRingFor f st r p).rfin = p.rfin ∧
    (setRingFor f st r p).chan = p.chan ∧ (setRingFor f st r p).xform = p.xform ∧ (setRingFor f st r p).density = p.density ∧
    (setRingFor f st r p).trigger = p.trigger ∧ (setRingFor f st r p).acq = p.acq ∧ (setRingFor f st r p).gythen = p.gythen ∧
    (setRingFor f st r p).tally = p.tally ∧ (setRingFor f st r p).cal = p.cal ∧ (setRingFor f st r p).scan = p.scan ∧
    (setRingFor f st r p).free = p.free ∧ (setRingFor f st r p).out = p.out := by
  and_intros <;> (simp only [setRingFor]; split <;> simp)

@[simp] theorem countVoided_frame (p : Piece) :
    (countVoided p).transport = p.transport ∧ (countVoided p).regs = p.regs ∧ (countVoided p).safety = p.safety ∧
    (countVoided p).boot = p.boot ∧ (countVoided p).clocks = p.clocks ∧ (countVoided p).ledger = p.ledger ∧
    (countVoided p).monitor = p.monitor ∧ (countVoided p).dmc = p.dmc ∧ (countVoided p).stream = p.stream ∧
    (countVoided p).check = p.check ∧ (countVoided p).net = p.net ∧ (countVoided p).stamp = p.stamp ∧
    (countVoided p).fabric = p.fabric ∧ (countVoided p).rfin = p.rfin ∧ (countVoided p).chan = p.chan ∧
    (countVoided p).xform = p.xform ∧ (countVoided p).density = p.density ∧ (countVoided p).trigger = p.trigger ∧
    (countVoided p).acq = p.acq ∧ (countVoided p).gythen = p.gythen ∧ (countVoided p).tally = p.tally ∧
    (countVoided p).cal = p.cal ∧ (countVoided p).scan = p.scan ∧ (countVoided p).free = p.free ∧ (countVoided p).out = p.out := by
  and_intros <;> simp only [countVoided]

@[simp] theorem land_frame (f : Flight) (p : Piece) :
    (land f p).regs = p.regs ∧ (land f p).safety = p.safety ∧ (land f p).boot = p.boot ∧ (land f p).clocks = p.clocks ∧
    (land f p).ledger = p.ledger ∧ (land f p).monitor = p.monitor ∧ (land f p).hostif = p.hostif ∧ (land f p).dmc = p.dmc ∧
    (land f p).stream = p.stream ∧ (land f p).check = p.check ∧ (land f p).net = p.net ∧ (land f p).stamp = p.stamp ∧
    (land f p).fabric = p.fabric ∧ (land f p).rfin = p.rfin ∧ (land f p).chan = p.chan ∧ (land f p).xform = p.xform ∧
    (land f p).density = p.density ∧ (land f p).trigger = p.trigger ∧ (land f p).acq = p.acq ∧ (land f p).gythen = p.gythen ∧
    (land f p).tally = p.tally ∧ (land f p).cal = p.cal ∧ (land f p).scan = p.scan ∧ (land f p).free = p.free ∧
    (land f p).out = p.out := by
  and_intros <;> simp only [land]

@[simp] theorem writeCompletion_frame (f : Flight) (c : Completion) (p : Piece) :
    (writeCompletion f c p).safety = p.safety ∧ (writeCompletion f c p).boot = p.boot ∧
    (writeCompletion f c p).clocks = p.clocks ∧ (writeCompletion f c p).ledger = p.ledger ∧
    (writeCompletion f c p).monitor = p.monitor ∧ (writeCompletion f c p).stream = p.stream ∧
    (writeCompletion f c p).check = p.check ∧ (writeCompletion f c p).net = p.net ∧ (writeCompletion f c p).stamp = p.stamp ∧
    (writeCompletion f c p).fabric = p.fabric ∧ (writeCompletion f c p).rfin = p.rfin ∧
    (writeCompletion f c p).chan = p.chan ∧ (writeCompletion f c p).xform = p.xform ∧
    (writeCompletion f c p).density = p.density ∧ (writeCompletion f c p).trigger = p.trigger ∧
    (writeCompletion f c p).acq = p.acq ∧ (writeCompletion f c p).gythen = p.gythen ∧
    (writeCompletion f c p).tally = p.tally ∧ (writeCompletion f c p).cal = p.cal ∧ (writeCompletion f c p).scan = p.scan ∧
    (writeCompletion f c p).free = p.free := by
  unfold writeCompletion
  dsimp only
  split
  · simp
  · have h := pieceWrite_frame ((ringFor p f c.status).base + (ringFor p f c.status).slot * 32)
      (c.bytes (ringFor p f c.status).phase) p
    generalize pieceWrite _ _ p = x at h ⊢
    obtain ⟨q, t⟩ := x
    cases t <;> cases f.irq <;> simp_all

@[simp] theorem setFlight_frame (f : Flight) (p : Piece) :
    (setFlight f p).regs = p.regs ∧ (setFlight f p).safety = p.safety ∧ (setFlight f p).boot = p.boot ∧
    (setFlight f p).clocks = p.clocks ∧ (setFlight f p).ledger = p.ledger ∧ (setFlight f p).monitor = p.monitor ∧
    (setFlight f p).hostif = p.hostif ∧ (setFlight f p).dmc = p.dmc ∧ (setFlight f p).stream = p.stream ∧
    (setFlight f p).check = p.check ∧ (setFlight f p).net = p.net ∧ (setFlight f p).stamp = p.stamp ∧
    (setFlight f p).fabric = p.fabric ∧ (setFlight f p).rfin = p.rfin ∧ (setFlight f p).chan = p.chan ∧
    (setFlight f p).xform = p.xform ∧ (setFlight f p).density = p.density ∧ (setFlight f p).trigger = p.trigger ∧
    (setFlight f p).acq = p.acq ∧ (setFlight f p).gythen = p.gythen ∧ (setFlight f p).tally = p.tally ∧
    (setFlight f p).cal = p.cal ∧ (setFlight f p).scan = p.scan ∧ (setFlight f p).free = p.free ∧ (setFlight f p).out = p.out := by
  and_intros <;> simp only [setFlight]

@[simp] theorem dropSession_frame (id : Nat) (p : Piece) :
    (dropSession id p).regs = p.regs ∧ (dropSession id p).safety = p.safety ∧ (dropSession id p).boot = p.boot ∧
    (dropSession id p).clocks = p.clocks ∧ (dropSession id p).ledger = p.ledger ∧ (dropSession id p).monitor = p.monitor ∧
    (dropSession id p).hostif = p.hostif ∧ (dropSession id p).dmc = p.dmc ∧ (dropSession id p).stream = p.stream ∧
    (dropSession id p).check = p.check ∧ (dropSession id p).net = p.net ∧ (dropSession id p).stamp = p.stamp ∧
    (dropSession id p).fabric = p.fabric ∧ (dropSession id p).rfin = p.rfin ∧ (dropSession id p).chan = p.chan ∧
    (dropSession id p).xform = p.xform ∧ (dropSession id p).density = p.density ∧ (dropSession id p).trigger = p.trigger ∧
    (dropSession id p).acq = p.acq ∧ (dropSession id p).gythen = p.gythen ∧ (dropSession id p).tally = p.tally ∧
    (dropSession id p).cal = p.cal ∧ (dropSession id p).scan = p.scan ∧ (dropSession id p).free = p.free ∧
    (dropSession id p).out = p.out := by
  and_intros <;> simp only [dropSession]

@[simp] theorem settleOnce_frame (p : Piece) :
    (settleOnce p).safety = p.safety ∧ (settleOnce p).boot = p.boot ∧ (settleOnce p).clocks = p.clocks ∧
    (settleOnce p).ledger = p.ledger ∧ (settleOnce p).monitor = p.monitor ∧ (settleOnce p).stream = p.stream ∧
    (settleOnce p).check = p.check ∧ (settleOnce p).net = p.net ∧ (settleOnce p).stamp = p.stamp ∧
    (settleOnce p).fabric = p.fabric ∧ (settleOnce p).rfin = p.rfin ∧ (settleOnce p).chan = p.chan ∧
    (settleOnce p).xform = p.xform ∧ (settleOnce p).density = p.density ∧ (settleOnce p).trigger = p.trigger ∧
    (settleOnce p).acq = p.acq ∧ (settleOnce p).gythen = p.gythen ∧ (settleOnce p).tally = p.tally ∧
    (settleOnce p).cal = p.cal ∧ (settleOnce p).scan = p.scan ∧ (settleOnce p).free = p.free := by
  and_intros <;> (simp only [settleOnce]; split <;> first | simp | (split <;> first | simp | (split <;> simp)))

@[simp] theorem settleN_frame (k : Nat) (p : Piece) :
    (settleN k p).safety = p.safety ∧ (settleN k p).boot = p.boot ∧ (settleN k p).clocks = p.clocks ∧
    (settleN k p).ledger = p.ledger ∧ (settleN k p).monitor = p.monitor ∧ (settleN k p).stream = p.stream ∧
    (settleN k p).check = p.check ∧ (settleN k p).net = p.net ∧ (settleN k p).stamp = p.stamp ∧
    (settleN k p).fabric = p.fabric ∧ (settleN k p).rfin = p.rfin ∧ (settleN k p).chan = p.chan ∧
    (settleN k p).xform = p.xform ∧ (settleN k p).density = p.density ∧ (settleN k p).trigger = p.trigger ∧
    (settleN k p).acq = p.acq ∧ (settleN k p).gythen = p.gythen ∧ (settleN k p).tally = p.tally ∧ (settleN k p).cal = p.cal ∧
    (settleN k p).scan = p.scan ∧ (settleN k p).free = p.free := by
  induction k generalizing p with
  | zero => simp [settleN]
  | succ k ih => simp [settleN, ih]

@[simp] theorem settle_frame (p : Piece) :
    (settle p).safety = p.safety ∧ (settle p).boot = p.boot ∧ (settle p).clocks = p.clocks ∧ (settle p).ledger = p.ledger ∧
    (settle p).monitor = p.monitor ∧ (settle p).stream = p.stream ∧ (settle p).check = p.check ∧ (settle p).net = p.net ∧
    (settle p).stamp = p.stamp ∧ (settle p).fabric = p.fabric ∧ (settle p).rfin = p.rfin ∧ (settle p).chan = p.chan ∧
    (settle p).xform = p.xform ∧ (settle p).density = p.density ∧ (settle p).trigger = p.trigger ∧ (settle p).acq = p.acq ∧
    (settle p).gythen = p.gythen ∧ (settle p).tally = p.tally ∧ (settle p).cal = p.cal ∧ (settle p).scan = p.scan ∧
    (settle p).free = p.free := by
  and_intros <;> simp [settle]

@[simp] theorem noteEffect_frame (n : Nat) (p : Piece) :
    (noteEffect n p).regs = p.regs ∧ (noteEffect n p).safety = p.safety ∧ (noteEffect n p).boot = p.boot ∧
    (noteEffect n p).clocks = p.clocks ∧ (noteEffect n p).ledger = p.ledger ∧ (noteEffect n p).monitor = p.monitor ∧
    (noteEffect n p).hostif = p.hostif ∧ (noteEffect n p).dmc = p.dmc ∧ (noteEffect n p).stream = p.stream ∧
    (noteEffect n p).check = p.check ∧ (noteEffect n p).net = p.net ∧ (noteEffect n p).stamp = p.stamp ∧
    (noteEffect n p).fabric = p.fabric ∧ (noteEffect n p).rfin = p.rfin ∧ (noteEffect n p).chan = p.chan ∧
    (noteEffect n p).xform = p.xform ∧ (noteEffect n p).density = p.density ∧ (noteEffect n p).trigger = p.trigger ∧
    (noteEffect n p).acq = p.acq ∧ (noteEffect n p).gythen = p.gythen ∧ (noteEffect n p).tally = p.tally ∧
    (noteEffect n p).cal = p.cal ∧ (noteEffect n p).scan = p.scan ∧ (noteEffect n p).free = p.free ∧
    (noteEffect n p).out = p.out := by
  and_intros <;> simp only [noteEffect]

@[simp] theorem finish_frame (f : Flight) (st : Nat) (rs : List Nat) (p : Piece) :
    (finish f st rs p).safety = p.safety ∧ (finish f st rs p).boot = p.boot ∧ (finish f st rs p).clocks = p.clocks ∧
    (finish f st rs p).ledger = p.ledger ∧ (finish f st rs p).monitor = p.monitor ∧ (finish f st rs p).stream = p.stream ∧
    (finish f st rs p).check = p.check ∧ (finish f st rs p).net = p.net ∧ (finish f st rs p).stamp = p.stamp ∧
    (finish f st rs p).fabric = p.fabric ∧ (finish f st rs p).rfin = p.rfin ∧ (finish f st rs p).chan = p.chan ∧
    (finish f st rs p).xform = p.xform ∧ (finish f st rs p).density = p.density ∧ (finish f st rs p).trigger = p.trigger ∧
    (finish f st rs p).acq = p.acq ∧ (finish f st rs p).gythen = p.gythen ∧ (finish f st rs p).tally = p.tally ∧
    (finish f st rs p).cal = p.cal ∧ (finish f st rs p).scan = p.scan ∧ (finish f st rs p).free = p.free := by
  and_intros <;> (simp only [finish, when]; split <;> simp)

@[simp] theorem finishWaiting_frame (k : WaitKind) (i st : Nat) (g : List Nat → List Nat) (p : Piece) :
    (finishWaiting k i st g p).safety = p.safety ∧ (finishWaiting k i st g p).boot = p.boot ∧
    (finishWaiting k i st g p).clocks = p.clocks ∧ (finishWaiting k i st g p).ledger = p.ledger ∧
    (finishWaiting k i st g p).monitor = p.monitor ∧ (finishWaiting k i st g p).stream = p.stream ∧
    (finishWaiting k i st g p).check = p.check ∧ (finishWaiting k i st g p).net = p.net ∧
    (finishWaiting k i st g p).stamp = p.stamp ∧ (finishWaiting k i st g p).fabric = p.fabric ∧
    (finishWaiting k i st g p).rfin = p.rfin ∧ (finishWaiting k i st g p).chan = p.chan ∧
    (finishWaiting k i st g p).xform = p.xform ∧ (finishWaiting k i st g p).density = p.density ∧
    (finishWaiting k i st g p).trigger = p.trigger ∧ (finishWaiting k i st g p).acq = p.acq ∧
    (finishWaiting k i st g p).gythen = p.gythen ∧ (finishWaiting k i st g p).tally = p.tally ∧
    (finishWaiting k i st g p).cal = p.cal ∧ (finishWaiting k i st g p).scan = p.scan ∧
    (finishWaiting k i st g p).free = p.free := by
  and_intros <;> (simp only [finishWaiting]; split <;> first | simp | (split <;> simp))

@[simp] theorem finishAllWaiting_frame (k : WaitKind) (i st : Nat) (g : List Nat → List Nat) (p : Piece) :
    (finishAllWaiting k i st g p).safety = p.safety ∧ (finishAllWaiting k i st g p).boot = p.boot ∧
    (finishAllWaiting k i st g p).clocks = p.clocks ∧ (finishAllWaiting k i st g p).ledger = p.ledger ∧
    (finishAllWaiting k i st g p).monitor = p.monitor ∧ (finishAllWaiting k i st g p).stream = p.stream ∧
    (finishAllWaiting k i st g p).check = p.check ∧ (finishAllWaiting k i st g p).net = p.net ∧
    (finishAllWaiting k i st g p).stamp = p.stamp ∧ (finishAllWaiting k i st g p).fabric = p.fabric ∧
    (finishAllWaiting k i st g p).rfin = p.rfin ∧ (finishAllWaiting k i st g p).chan = p.chan ∧
    (finishAllWaiting k i st g p).xform = p.xform ∧ (finishAllWaiting k i st g p).density = p.density ∧
    (finishAllWaiting k i st g p).trigger = p.trigger ∧ (finishAllWaiting k i st g p).acq = p.acq ∧
    (finishAllWaiting k i st g p).gythen = p.gythen ∧ (finishAllWaiting k i st g p).tally = p.tally ∧
    (finishAllWaiting k i st g p).cal = p.cal ∧ (finishAllWaiting k i st g p).scan = p.scan ∧
    (finishAllWaiting k i st g p).free = p.free := by
  unfold finishAllWaiting
  and_intros <;> exact foldl_same _ _ (fun p _ => by simp) _ p

@[simp] theorem failCheck_frame (f : Flight) (st : Nat) (d : Bool) (p : Piece) :
    (failCheck f st d p).safety = p.safety ∧ (failCheck f st d p).boot = p.boot ∧ (failCheck f st d p).clocks = p.clocks ∧
    (failCheck f st d p).ledger = p.ledger ∧ (failCheck f st d p).monitor = p.monitor ∧
    (failCheck f st d p).stream = p.stream ∧ (failCheck f st d p).check = p.check ∧ (failCheck f st d p).net = p.net ∧
    (failCheck f st d p).stamp = p.stamp ∧ (failCheck f st d p).fabric = p.fabric ∧ (failCheck f st d p).rfin = p.rfin ∧
    (failCheck f st d p).chan = p.chan ∧ (failCheck f st d p).xform = p.xform ∧ (failCheck f st d p).density = p.density ∧
    (failCheck f st d p).trigger = p.trigger ∧ (failCheck f st d p).acq = p.acq ∧ (failCheck f st d p).gythen = p.gythen ∧
    (failCheck f st d p).tally = p.tally ∧ (failCheck f st d p).cal = p.cal ∧ (failCheck f st d p).scan = p.scan ∧
    (failCheck f st d p).free = p.free := by
  and_intros <;> simp [failCheck]

@[simp] theorem enroll_frame (f : Flight) (p : Piece) :
    (enroll f p).regs = p.regs ∧ (enroll f p).safety = p.safety ∧ (enroll f p).boot = p.boot ∧
    (enroll f p).clocks = p.clocks ∧ (enroll f p).ledger = p.ledger ∧ (enroll f p).monitor = p.monitor ∧
    (enroll f p).hostif = p.hostif ∧ (enroll f p).dmc = p.dmc ∧ (enroll f p).stream = p.stream ∧
    (enroll f p).check = p.check ∧ (enroll f p).net = p.net ∧ (enroll f p).stamp = p.stamp ∧ (enroll f p).fabric = p.fabric ∧
    (enroll f p).rfin = p.rfin ∧ (enroll f p).chan = p.chan ∧ (enroll f p).xform = p.xform ∧
    (enroll f p).density = p.density ∧ (enroll f p).trigger = p.trigger ∧ (enroll f p).acq = p.acq ∧
    (enroll f p).gythen = p.gythen ∧ (enroll f p).tally = p.tally ∧ (enroll f p).cal = p.cal ∧ (enroll f p).scan = p.scan ∧
    (enroll f p).free = p.free ∧ (enroll f p).out = p.out := by
  and_intros <;> simp only [enroll]

@[simp] theorem pushSource_frame (s : Nat) (t : T16) (r : Bool) (fl tag : Nat) (p : Piece) :
    (pushSource s t r fl tag p).transport = p.transport ∧ (pushSource s t r fl tag p).regs = p.regs ∧
    (pushSource s t r fl tag p).safety = p.safety ∧ (pushSource s t r fl tag p).boot = p.boot ∧
    (pushSource s t r fl tag p).clocks = p.clocks ∧ (pushSource s t r fl tag p).ledger = p.ledger ∧
    (pushSource s t r fl tag p).monitor = p.monitor ∧ (pushSource s t r fl tag p).hostif = p.hostif ∧
    (pushSource s t r fl tag p).dmc = p.dmc ∧ (pushSource s t r fl tag p).stream = p.stream ∧
    (pushSource s t r fl tag p).check = p.check ∧ (pushSource s t r fl tag p).net = p.net ∧
    (pushSource s t r fl tag p).stamp = p.stamp ∧ (pushSource s t r fl tag p).rfin = p.rfin ∧
    (pushSource s t r fl tag p).chan = p.chan ∧ (pushSource s t r fl tag p).xform = p.xform ∧
    (pushSource s t r fl tag p).density = p.density ∧ (pushSource s t r fl tag p).trigger = p.trigger ∧
    (pushSource s t r fl tag p).acq = p.acq ∧ (pushSource s t r fl tag p).gythen = p.gythen ∧
    (pushSource s t r fl tag p).tally = p.tally ∧ (pushSource s t r fl tag p).cal = p.cal ∧
    (pushSource s t r fl tag p).scan = p.scan ∧ (pushSource s t r fl tag p).free = p.free ∧
    (pushSource s t r fl tag p).out = p.out := by
  and_intros <;> simp [pushSource]

@[simp] theorem markPostJump_frame (p : Piece) :
    (markPostJump p).transport = p.transport ∧ (markPostJump p).regs = p.regs ∧ (markPostJump p).safety = p.safety ∧
    (markPostJump p).boot = p.boot ∧ (markPostJump p).clocks = p.clocks ∧ (markPostJump p).monitor = p.monitor ∧
    (markPostJump p).hostif = p.hostif ∧ (markPostJump p).dmc = p.dmc ∧ (markPostJump p).stream = p.stream ∧
    (markPostJump p).check = p.check ∧ (markPostJump p).net = p.net ∧ (markPostJump p).stamp = p.stamp ∧
    (markPostJump p).xform = p.xform ∧ (markPostJump p).density = p.density ∧ (markPostJump p).acq = p.acq ∧
    (markPostJump p).gythen = p.gythen ∧ (markPostJump p).tally = p.tally ∧ (markPostJump p).cal = p.cal ∧
    (markPostJump p).scan = p.scan ∧ (markPostJump p).free = p.free ∧ (markPostJump p).out = p.out := by
  and_intros <;> simp only [markPostJump]

@[simp] theorem mapSlots_frame (f : CountSlot → CountSlot) (p : Piece) :
    (mapSlots f p).transport = p.transport ∧ (mapSlots f p).regs = p.regs ∧ (mapSlots f p).safety = p.safety ∧
    (mapSlots f p).boot = p.boot ∧ (mapSlots f p).clocks = p.clocks ∧ (mapSlots f p).ledger = p.ledger ∧
    (mapSlots f p).monitor = p.monitor ∧ (mapSlots f p).hostif = p.hostif ∧ (mapSlots f p).dmc = p.dmc ∧
    (mapSlots f p).stream = p.stream ∧ (mapSlots f p).check = p.check ∧ (mapSlots f p).net = p.net ∧
    (mapSlots f p).stamp = p.stamp ∧ (mapSlots f p).fabric = p.fabric ∧ (mapSlots f p).rfin = p.rfin ∧
    (mapSlots f p).chan = p.chan ∧ (mapSlots f p).xform = p.xform ∧ (mapSlots f p).density = p.density ∧
    (mapSlots f p).trigger = p.trigger ∧ (mapSlots f p).acq = p.acq ∧ (mapSlots f p).gythen = p.gythen ∧
    (mapSlots f p).cal = p.cal ∧ (mapSlots f p).scan = p.scan ∧ (mapSlots f p).free = p.free ∧ (mapSlots f p).out = p.out := by
  and_intros <;> simp only [mapSlots]

end Sys2Proof.Machine
end

