-- ==== Sys2Proof/Laws/Lists.lean ====
section
/-! SUPPORT. Tables: what an entry reads after one entry is changed. -/

namespace Sys2Proof.Machine

variable {α : Type} [Inhabited α]

/-- An entry after one entry is changed. -/
theorem nth_upd (l : List α) (i j : Nat) (f : α → α) :
    nth (upd l i f) j = if i = j ∧ j < l.length then f (nth l j) else nth l j := by
  simp only [nth, upd, List.getD_eq_getElem?_getD, List.getElem?_modify]
  by_cases h : i = j
  · subst h
    by_cases h2 : i < l.length
    · simp [h2]
    · simp [h2]
  · simp [h]

@[simp] theorem nth_upd_ne (l : List α) {i j : Nat} (f : α → α) (h : i ≠ j) : nth (upd l i f) j = nth l j := by
  simp [nth_upd, h]

theorem nth_upd_self (l : List α) {i : Nat} (f : α → α) (h : i < l.length) : nth (upd l i f) i = f (nth l i) := by
  simp [nth_upd, h]

@[simp] theorem upd_length {α : Type} (l : List α) (i : Nat) (f : α → α) : (upd l i f).length = l.length := by
  simp [upd]

@[simp] theorem put_length {α : Type} (l : List α) (i : Nat) (a : α) : (put l i a).length = l.length := by
  simp [put]

theorem nth_put (l : List α) (i j : Nat) (a : α) : nth (put l i a) j = if i = j ∧ j < l.length then a else nth l j :=
  nth_upd l i j fun _ => a

/-- A change that keeps a part of an entry keeps that part of every entry. -/
theorem nth_upd_keep {β : Type} (g : α → β) (l : List α) (i j : Nat) (f : α → α) (h : ∀ a, g (f a) = g a) :
    g (nth (upd l i f) j) = g (nth l j) := by
  rw [nth_upd]
  split <;> simp [h]

end Sys2Proof.Machine
end

