-- ==== Sys2Proof/Laws/Parts.lean ====
section
/-! SUPPORT. What the shared operations keep of the parts they change: a completion keeps locks, claims, epochs, events and all of
DMC but the contents, an alarm all of SAFETY but the bank and the journal. -/

namespace Sys2Proof.Machine

set_option linter.all false

/-- The journal's writer keeps every other part of SAFETY. -/
@[simp] theorem journalled_parts (now : Nat) (e : JournalEntry) (sf : Safety) :
    (journalled now e sf).1.safeState = sf.safeState ∧
    (journalled now e sf).1.faultMask = sf.faultMask ∧
    (journalled now e sf).1.transients = sf.transients ∧
    (journalled now e sf).1.retired = sf.retired ∧
    (journalled now e sf).1.retirements = sf.retirements ∧
    (journalled now e sf).1.selftests = sf.selftests ∧
    (journalled now e sf).1.tests = sf.tests ∧
    (journalled now e sf).1.mappedRows = sf.mappedRows ∧
    (journalled now e sf).1.transientLog = sf.transientLog ∧
    (journalled now e sf).1.lockstepLog = sf.lockstepLog ∧
    (journalled now e sf).1.deadIslands = sf.deadIslands ∧
    (journalled now e sf).1.tapBadUntil = sf.tapBadUntil ∧
    (journalled now e sf).1.dump = sf.dump ∧
    (journalled now e sf).1.strongroom = sf.strongroom ∧
    (journalled now e sf).1.sramLost = sf.sramLost ∧
    (journalled now e sf).1.dumpPending = sf.dumpPending ∧
    (journalled now e sf).1.dumpSeq = sf.dumpSeq ∧
    (journalled now e sf).1.dumpsSuppressed = sf.dumpsSuppressed ∧
    (journalled now e sf).1.regionAddr = sf.regionAddr ∧
    (journalled now e sf).1.regionLen = sf.regionLen ∧
    (journalled now e sf).1.releaseArmed = sf.releaseArmed ∧
    (journalled now e sf).1.alarms = sf.alarms ∧
    (journalled now e sf).1.firsts = sf.firsts := by
  unfold journalled
  dsimp only
  split
  · generalize rollIncident _ _ _ _ = r
    obtain ⟨_, _, _⟩ := r
    and_intros <;> rfl
  · generalize (_ && decide (now < _)) = b
    cases b <;> simp

@[simp] theorem raiseVector_parts (fn v : Nat) (p : Piece) :
    (raiseVector fn v p).regs.shadows = p.regs.shadows ∧ (raiseVector fn v p).regs.resetBusy = p.regs.resetBusy ∧
    (raiseVector fn v p).regs.resetStatus = p.regs.resetStatus ∧
    (raiseVector fn v p).regs.resetSession = p.regs.resetSession ∧ (raiseVector fn v p).regs.resetInst = p.regs.resetInst ∧
    (raiseVector fn v p).regs.resetType = p.regs.resetType := by
  and_intros <;> (unfold raiseVector; extract_lets; repeat' (first | rfl | split))

@[simp] theorem raiseEvent_parts (kind t i : Nat) (body : Bytes) (p : Piece) :
    (raiseEvent kind t i body p).transport.state = p.transport.state ∧
    (raiseEvent kind t i body p).transport.fwVersion = p.transport.fwVersion ∧
    (raiseEvent kind t i body p).transport.heartbeat = p.transport.heartbeat ∧
    (raiseEvent kind t i body p).transport.restarts = p.transport.restarts ∧
    (raiseEvent kind t i body p).transport.cmdsDone = p.transport.cmdsDone ∧
    (raiseEvent kind t i body p).transport.channels = p.transport.channels ∧
    (raiseEvent kind t i body p).transport.epochs = p.transport.epochs ∧
    (raiseEvent kind t i body p).transport.lastServed = p.transport.lastServed ∧
    (raiseEvent kind t i body p).transport.sessions = p.transport.sessions ∧
    (raiseEvent kind t i body p).transport.claims = p.transport.claims ∧
    (raiseEvent kind t i body p).transport.flights = p.transport.flights ∧
    (raiseEvent kind t i body p).transport.nextOrder = p.transport.nextOrder ∧
    (raiseEvent kind t i body p).transport.lastEffect = p.transport.lastEffect ∧
    (raiseEvent kind t i body p).transport.locks = p.transport.locks ∧
    (raiseEvent kind t i body p).transport.lockNodes = p.transport.lockNodes ∧
    (raiseEvent kind t i body p).transport.badRelease = p.transport.badRelease ∧
    (raiseEvent kind t i body p).transport.forcedRelease = p.transport.forcedRelease := by
  and_intros <;> simp [raiseEvent]

@[simp] theorem queueOwnSummary_parts (p : Piece) :
    (queueOwnSummary p).net.nodeId = p.net.nodeId ∧ (queueOwnSummary p).net.epoch = p.net.epoch ∧
    (queueOwnSummary p).net.horizonExceeded = p.net.horizonExceeded ∧
    (queueOwnSummary p).net.sourcePresent = p.net.sourcePresent ∧ (queueOwnSummary p).net.detached = p.net.detached ∧
    (queueOwnSummary p).net.root = p.net.root ∧ (queueOwnSummary p).net.joined = p.net.joined ∧
    (queueOwnSummary p).net.parent = p.net.parent ∧ (queueOwnSummary p).net.rootNode = p.net.rootNode ∧
    (queueOwnSummary p).net.horizon = p.net.horizon ∧ (queueOwnSummary p).net.storedHorizon = p.net.storedHorizon ∧
    (queueOwnSummary p).net.path = p.net.path ∧ (queueOwnSummary p).net.nodes = p.net.nodes ∧
    (queueOwnSummary p).net.xtrigSent = p.net.xtrigSent ∧ (queueOwnSummary p).net.xtrigLate = p.net.xtrigLate ∧
    (queueOwnSummary p).net.xtrigCrc = p.net.xtrigCrc ∧ (queueOwnSummary p).net.xtrigDropped = p.net.xtrigDropped ∧
    (queueOwnSummary p).net.xtrigSeq = p.net.xtrigSeq ∧ (queueOwnSummary p).net.summaries = p.net.summaries ∧
    (queueOwnSummary p).net.rootTimeValid = p.net.rootTimeValid ∧ (queueOwnSummary p).net.ports = p.net.ports ∧
    (queueOwnSummary p).net.latest = p.net.latest ∧ (queueOwnSummary p).net.members = p.net.members ∧
    (queueOwnSummary p).net.joinSince = p.net.joinSince ∧ (queueOwnSummary p).net.joinNode = p.net.joinNode ∧
    (queueOwnSummary p).net.leaveSince = p.net.leaveSince ∧ (queueOwnSummary p).net.reparentSince = p.net.reparentSince ∧
    (queueOwnSummary p).net.joins = p.net.joins ∧ (queueOwnSummary p).net.reparents = p.net.reparents ∧
    (queueOwnSummary p).net.epochTick = p.net.epochTick := by
  and_intros <;> simp [queueOwnSummary]

@[simp] theorem latchAlarm_parts (code : Nat) (p : Piece) :
    (latchAlarm code p).1.safety.safeState = p.safety.safeState ∧
    (latchAlarm code p).1.safety.faultMask = p.safety.faultMask ∧
    (latchAlarm code p).1.safety.transients = p.safety.transients ∧ (latchAlarm code p).1.safety.retired = p.safety.retired ∧
    (latchAlarm code p).1.safety.retirements = p.safety.retirements ∧
    (latchAlarm code p).1.safety.selftests = p.safety.selftests ∧ (latchAlarm code p).1.safety.tests = p.safety.tests ∧
    (latchAlarm code p).1.safety.mappedRows = p.safety.mappedRows ∧
    (latchAlarm code p).1.safety.transientLog = p.safety.transientLog ∧
    (latchAlarm code p).1.safety.lockstepLog = p.safety.lockstepLog ∧
    (latchAlarm code p).1.safety.deadIslands = p.safety.deadIslands ∧
    (latchAlarm code p).1.safety.tapBadUntil = p.safety.tapBadUntil ∧ (latchAlarm code p).1.safety.dump = p.safety.dump ∧
    (latchAlarm code p).1.safety.strongroom = p.safety.strongroom ∧
    (latchAlarm code p).1.safety.sramLost = p.safety.sramLost ∧
    (latchAlarm code p).1.safety.dumpPending = p.safety.dumpPending ∧
    (latchAlarm code p).1.safety.dumpSeq = p.safety.dumpSeq ∧
    (latchAlarm code p).1.safety.dumpsSuppressed = p.safety.dumpsSuppressed ∧
    (latchAlarm code p).1.safety.regionAddr = p.safety.regionAddr ∧
    (latchAlarm code p).1.safety.regionLen = p.safety.regionLen ∧
    (latchAlarm code p).1.safety.releaseArmed = p.safety.releaseArmed ∧
    (latchAlarm code p).1.safety.journal = p.safety.journal ∧ (latchAlarm code p).1.safety.persistent = p.safety.persistent ∧
    (latchAlarm code p).1.safety.journalNext = p.safety.journalNext ∧
    (latchAlarm code p).1.safety.incident = p.safety.incident ∧
    (latchAlarm code p).1.safety.journalDropped = p.safety.journalDropped ∧
    (latchAlarm code p).1.safety.recent = p.safety.recent := by
  and_intros <;> simp [latchAlarm]

@[simp] theorem announceAlarm_parts (code : Nat) (p : Piece) :
    (announceAlarm code p).transport.state = p.transport.state ∧
    (announceAlarm code p).transport.fwVersion = p.transport.fwVersion ∧
    (announceAlarm code p).transport.heartbeat = p.transport.heartbeat ∧
    (announceAlarm code p).transport.restarts = p.transport.restarts ∧
    (announceAlarm code p).transport.cmdsDone = p.transport.cmdsDone ∧
    (announceAlarm code p).transport.channels = p.transport.channels ∧
    (announceAlarm code p).transport.epochs = p.transport.epochs ∧
    (announceAlarm code p).transport.lastServed = p.transport.lastServed ∧
    (announceAlarm code p).transport.sessions = p.transport.sessions ∧
    (announceAlarm code p).transport.claims = p.transport.claims ∧
    (announceAlarm code p).transport.flights = p.transport.flights ∧
    (announceAlarm code p).transport.nextOrder = p.transport.nextOrder ∧
    (announceAlarm code p).transport.lastEffect = p.transport.lastEffect ∧
    (announceAlarm code p).transport.locks = p.transport.locks ∧
    (announceAlarm code p).transport.lockNodes = p.transport.lockNodes ∧
    (announceAlarm code p).transport.badRelease = p.transport.badRelease ∧
    (announceAlarm code p).transport.forcedRelease = p.transport.forcedRelease ∧
    (announceAlarm code p).net.nodeId = p.net.nodeId ∧ (announceAlarm code p).net.epoch = p.net.epoch ∧
    (announceAlarm code p).net.horizonExceeded = p.net.horizonExceeded ∧
    (announceAlarm code p).net.sourcePresent = p.net.sourcePresent ∧ (announceAlarm code p).net.detached = p.net.detached ∧
    (announceAlarm code p).net.root = p.net.root ∧ (announceAlarm code p).net.joined = p.net.joined ∧
    (announceAlarm code p).net.parent = p.net.parent ∧ (announceAlarm code p).net.rootNode = p.net.rootNode ∧
    (announceAlarm code p).net.horizon = p.net.horizon ∧ (announceAlarm code p).net.storedHorizon = p.net.storedHorizon ∧
    (announceAlarm code p).net.path = p.net.path ∧ (announceAlarm code p).net.nodes = p.net.nodes ∧
    (announceAlarm code p).net.xtrigSent = p.net.xtrigSent ∧ (announceAlarm code p).net.xtrigLate = p.net.xtrigLate ∧
    (announceAlarm code p).net.xtrigCrc = p.net.xtrigCrc ∧ (announceAlarm code p).net.xtrigDropped = p.net.xtrigDropped ∧
    (announceAlarm code p).net.xtrigSeq = p.net.xtrigSeq ∧ (announceAlarm code p).net.summaries = p.net.summaries ∧
    (announceAlarm code p).net.rootTimeValid = p.net.rootTimeValid ∧ (announceAlarm code p).net.ports = p.net.ports ∧
    (announceAlarm code p).net.latest = p.net.latest ∧ (announceAlarm code p).net.members = p.net.members ∧
    (announceAlarm code p).net.joinSince = p.net.joinSince ∧ (announceAlarm code p).net.joinNode = p.net.joinNode ∧
    (announceAlarm code p).net.leaveSince = p.net.leaveSince ∧
    (announceAlarm code p).net.reparentSince = p.net.reparentSince ∧ (announceAlarm code p).net.joins = p.net.joins ∧
    (announceAlarm code p).net.reparents = p.net.reparents ∧ (announceAlarm code p).net.epochTick = p.net.epochTick ∧
    (announceAlarm code p).regs.shadows = p.regs.shadows ∧ (announceAlarm code p).regs.resetBusy = p.regs.resetBusy ∧
    (announceAlarm code p).regs.resetStatus = p.regs.resetStatus ∧
    (announceAlarm code p).regs.resetSession = p.regs.resetSession ∧
    (announceAlarm code p).regs.resetInst = p.regs.resetInst ∧ (announceAlarm code p).regs.resetType = p.regs.resetType := by
  and_intros <;> simp [announceAlarm]

@[simp] theorem pushJournal_parts (e : JournalEntry) (p : Piece) :
    (pushJournal e p).1.safety.safeState = p.safety.safeState ∧ (pushJournal e p).1.safety.faultMask = p.safety.faultMask ∧
    (pushJournal e p).1.safety.transients = p.safety.transients ∧ (pushJournal e p).1.safety.retired = p.safety.retired ∧
    (pushJournal e p).1.safety.retirements = p.safety.retirements ∧
    (pushJournal e p).1.safety.selftests = p.safety.selftests ∧ (pushJournal e p).1.safety.tests = p.safety.tests ∧
    (pushJournal e p).1.safety.mappedRows = p.safety.mappedRows ∧
    (pushJournal e p).1.safety.transientLog = p.safety.transientLog ∧
    (pushJournal e p).1.safety.lockstepLog = p.safety.lockstepLog ∧
    (pushJournal e p).1.safety.deadIslands = p.safety.deadIslands ∧
    (pushJournal e p).1.safety.tapBadUntil = p.safety.tapBadUntil ∧ (pushJournal e p).1.safety.dump = p.safety.dump ∧
    (pushJournal e p).1.safety.strongroom = p.safety.strongroom ∧ (pushJournal e p).1.safety.sramLost = p.safety.sramLost ∧
    (pushJournal e p).1.safety.dumpPending = p.safety.dumpPending ∧ (pushJournal e p).1.safety.dumpSeq = p.safety.dumpSeq ∧
    (pushJournal e p).1.safety.dumpsSuppressed = p.safety.dumpsSuppressed ∧
    (pushJournal e p).1.safety.regionAddr = p.safety.regionAddr ∧ (pushJournal e p).1.safety.regionLen = p.safety.regionLen ∧
    (pushJournal e p).1.safety.releaseArmed = p.safety.releaseArmed ∧ (pushJournal e p).1.safety.alarms = p.safety.alarms ∧
    (pushJournal e p).1.safety.firsts = p.safety.firsts := by
  and_intros <;> simp [pushJournal]

@[simp] theorem occurAlarm_parts (code t i : Nat) (p : Piece) :
    (occurAlarm code t i p).transport.state = p.transport.state ∧
    (occurAlarm code t i p).transport.fwVersion = p.transport.fwVersion ∧
    (occurAlarm code t i p).transport.heartbeat = p.transport.heartbeat ∧
    (occurAlarm code t i p).transport.restarts = p.transport.restarts ∧
    (occurAlarm code t i p).transport.cmdsDone = p.transport.cmdsDone ∧
    (occurAlarm code t i p).transport.channels = p.transport.channels ∧
    (occurAlarm code t i p).transport.epochs = p.transport.epochs ∧
    (occurAlarm code t i p).transport.lastServed = p.transport.lastServed ∧
    (occurAlarm code t i p).transport.sessions = p.transport.sessions ∧
    (occurAlarm code t i p).transport.claims = p.transport.claims ∧
    (occurAlarm code t i p).transport.flights = p.transport.flights ∧
    (occurAlarm code t i p).transport.nextOrder = p.transport.nextOrder ∧
    (occurAlarm code t i p).transport.lastEffect = p.transport.lastEffect ∧
    (occurAlarm code t i p).transport.locks = p.transport.locks ∧
    (occurAlarm code t i p).transport.lockNodes = p.transport.lockNodes ∧
    (occurAlarm code t i p).transport.badRelease = p.transport.badRelease ∧
    (occurAlarm code t i p).transport.forcedRelease = p.transport.forcedRelease ∧
    (occurAlarm code t i p).safety.safeState = p.safety.safeState ∧
    (occurAlarm code t i p).safety.faultMask = p.safety.faultMask ∧
    (occurAlarm code t i p).safety.transients = p.safety.transients ∧
    (occurAlarm code t i p).safety.retired = p.safety.retired ∧
    (occurAlarm code t i p).safety.retirements = p.safety.retirements ∧
    (occurAlarm code t i p).safety.selftests = p.safety.selftests ∧ (occurAlarm code t i p).safety.tests = p.safety.tests ∧
    (occurAlarm code t i p).safety.mappedRows = p.safety.mappedRows ∧
    (occurAlarm code t i p).safety.transientLog = p.safety.transientLog ∧
    (occurAlarm code t i p).safety.lockstepLog = p.safety.lockstepLog ∧
    (occurAlarm code t i p).safety.deadIslands = p.safety.deadIslands ∧
    (occurAlarm code t i p).safety.tapBadUntil = p.safety.tapBadUntil ∧ (occurAlarm code t i p).safety.dump = p.safety.dump ∧
    (occurAlarm code t i p).safety.strongroom = p.safety.strongroom ∧
    (occurAlarm code t i p).safety.sramLost = p.safety.sramLost ∧
    (occurAlarm code t i p).safety.dumpPending = p.safety.dumpPending ∧
    (occurAlarm code t i p).safety.dumpSeq = p.safety.dumpSeq ∧
    (occurAlarm code t i p).safety.dumpsSuppressed = p.safety.dumpsSuppressed ∧
    (occurAlarm code t i p).safety.regionAddr = p.safety.regionAddr ∧
    (occurAlarm code t i p).safety.regionLen = p.safety.regionLen ∧
    (occurAlarm code t i p).safety.releaseArmed = p.safety.releaseArmed ∧ (occurAlarm code t i p).net.nodeId = p.net.nodeId ∧
    (occurAlarm code t i p).net.epoch = p.net.epoch ∧ (occurAlarm code t i p).net.horizonExceeded = p.net.horizonExceeded ∧
    (occurAlarm code t i p).net.sourcePresent = p.net.sourcePresent ∧ (occurAlarm code t i p).net.detached = p.net.detached ∧
    (occurAlarm code t i p).net.root = p.net.root ∧ (occurAlarm code t i p).net.joined = p.net.joined ∧
    (occurAlarm code t i p).net.parent = p.net.parent ∧ (occurAlarm code t i p).net.rootNode = p.net.rootNode ∧
    (occurAlarm code t i p).net.horizon = p.net.horizon ∧ (occurAlarm code t i p).net.storedHorizon = p.net.storedHorizon ∧
    (occurAlarm code t i p).net.path = p.net.path ∧ (occurAlarm code t i p).net.nodes = p.net.nodes ∧
    (occurAlarm code t i p).net.xtrigSent = p.net.xtrigSent ∧ (occurAlarm code t i p).net.xtrigLate = p.net.xtrigLate ∧
    (occurAlarm code t i p).net.xtrigCrc = p.net.xtrigCrc ∧ (occurAlarm code t i p).net.xtrigDropped = p.net.xtrigDropped ∧
    (occurAlarm code t i p).net.xtrigSeq = p.net.xtrigSeq ∧ (occurAlarm code t i p).net.summaries = p.net.summaries ∧
    (occurAlarm code t i p).net.rootTimeValid = p.net.rootTimeValid ∧ (occurAlarm code t i p).net.ports = p.net.ports ∧
    (occurAlarm code t i p).net.latest = p.net.latest ∧ (occurAlarm code t i p).net.members = p.net.members ∧
    (occurAlarm code t i p).net.joinSince = p.net.joinSince ∧ (occurAlarm code t i p).net.joinNode = p.net.joinNode ∧
    (occurAlarm code t i p).net.leaveSince = p.net.leaveSince ∧
    (occurAlarm code t i p).net.reparentSince = p.net.reparentSince ∧ (occurAlarm code t i p).net.joins = p.net.joins ∧
    (occurAlarm code t i p).net.reparents = p.net.reparents ∧ (occurAlarm code t i p).net.epochTick = p.net.epochTick ∧
    (occurAlarm code t i p).regs.shadows = p.regs.shadows ∧ (occurAlarm code t i p).regs.resetBusy = p.regs.resetBusy ∧
    (occurAlarm code t i p).regs.resetStatus = p.regs.resetStatus ∧
    (occurAlarm code t i p).regs.resetSession = p.regs.resetSession ∧
    (occurAlarm code t i p).regs.resetInst = p.regs.resetInst ∧ (occurAlarm code t i p).regs.resetType = p.regs.resetType := by
  and_intros <;> (simp only [occurAlarm, when]; repeat' (first | (simp; done) | split))

@[simp] theorem writeJournal_parts (e : JournalEntry) (p : Piece) :
    (writeJournal e p).transport.state = p.transport.state ∧ (writeJournal e p).transport.fwVersion = p.transport.fwVersion ∧
    (writeJournal e p).transport.heartbeat = p.transport.heartbeat ∧
    (writeJournal e p).transport.restarts = p.transport.restarts ∧
    (writeJournal e p).transport.cmdsDone = p.transport.cmdsDone ∧
    (writeJournal e p).transport.channels = p.transport.channels ∧ (writeJournal e p).transport.epochs = p.transport.epochs ∧
    (writeJournal e p).transport.lastServed = p.transport.lastServed ∧
    (writeJournal e p).transport.sessions = p.transport.sessions ∧ (writeJournal e p).transport.claims = p.transport.claims ∧
    (writeJournal e p).transport.flights = p.transport.flights ∧
    (writeJournal e p).transport.nextOrder = p.transport.nextOrder ∧
    (writeJournal e p).transport.lastEffect = p.transport.lastEffect ∧
    (writeJournal e p).transport.locks = p.transport.locks ∧ (writeJournal e p).transport.lockNodes = p.transport.lockNodes ∧
    (writeJournal e p).transport.badRelease = p.transport.badRelease ∧
    (writeJournal e p).transport.forcedRelease = p.transport.forcedRelease ∧
    (writeJournal e p).safety.safeState = p.safety.safeState ∧ (writeJournal e p).safety.faultMask = p.safety.faultMask ∧
    (writeJournal e p).safety.transients = p.safety.transients ∧ (writeJournal e p).safety.retired = p.safety.retired ∧
    (writeJournal e p).safety.retirements = p.safety.retirements ∧ (writeJournal e p).safety.selftests = p.safety.selftests ∧
    (writeJournal e p).safety.tests = p.safety.tests ∧ (writeJournal e p).safety.mappedRows = p.safety.mappedRows ∧
    (writeJournal e p).safety.transientLog = p.safety.transientLog ∧
    (writeJournal e p).safety.lockstepLog = p.safety.lockstepLog ∧
    (writeJournal e p).safety.deadIslands = p.safety.deadIslands ∧
    (writeJournal e p).safety.tapBadUntil = p.safety.tapBadUntil ∧ (writeJournal e p).safety.dump = p.safety.dump ∧
    (writeJournal e p).safety.strongroom = p.safety.strongroom ∧ (writeJournal e p).safety.sramLost = p.safety.sramLost ∧
    (writeJournal e p).safety.dumpPending = p.safety.dumpPending ∧ (writeJournal e p).safety.dumpSeq = p.safety.dumpSeq ∧
    (writeJournal e p).safety.dumpsSuppressed = p.safety.dumpsSuppressed ∧
    (writeJournal e p).safety.regionAddr = p.safety.regionAddr ∧ (writeJournal e p).safety.regionLen = p.safety.regionLen ∧
    (writeJournal e p).safety.releaseArmed = p.safety.releaseArmed ∧ (writeJournal e p).net.nodeId = p.net.nodeId ∧
    (writeJournal e p).net.epoch = p.net.epoch ∧ (writeJournal e p).net.horizonExceeded = p.net.horizonExceeded ∧
    (writeJournal e p).net.sourcePresent = p.net.sourcePresent ∧ (writeJournal e p).net.detached = p.net.detached ∧
    (writeJournal e p).net.root = p.net.root ∧ (writeJournal e p).net.joined = p.net.joined ∧
    (writeJournal e p).net.parent = p.net.parent ∧ (writeJournal e p).net.rootNode = p.net.rootNode ∧
    (writeJournal e p).net.horizon = p.net.horizon ∧ (writeJournal e p).net.storedHorizon = p.net.storedHorizon ∧
    (writeJournal e p).net.path = p.net.path ∧ (writeJournal e p).net.nodes = p.net.nodes ∧
    (writeJournal e p).net.xtrigSent = p.net.xtrigSent ∧ (writeJournal e p).net.xtrigLate = p.net.xtrigLate ∧
    (writeJournal e p).net.xtrigCrc = p.net.xtrigCrc ∧ (writeJournal e p).net.xtrigDropped = p.net.xtrigDropped ∧
    (writeJournal e p).net.xtrigSeq = p.net.xtrigSeq ∧ (writeJournal e p).net.summaries = p.net.summaries ∧
    (writeJournal e p).net.rootTimeValid = p.net.rootTimeValid ∧ (writeJournal e p).net.ports = p.net.ports ∧
    (writeJournal e p).net.latest = p.net.latest ∧ (writeJournal e p).net.members = p.net.members ∧
    (writeJournal e p).net.joinSince = p.net.joinSince ∧ (writeJournal e p).net.joinNode = p.net.joinNode ∧
    (writeJournal e p).net.leaveSince = p.net.leaveSince ∧ (writeJournal e p).net.reparentSince = p.net.reparentSince ∧
    (writeJournal e p).net.joins = p.net.joins ∧ (writeJournal e p).net.reparents = p.net.reparents ∧
    (writeJournal e p).net.epochTick = p.net.epochTick ∧ (writeJournal e p).regs.shadows = p.regs.shadows ∧
    (writeJournal e p).regs.resetBusy = p.regs.resetBusy ∧ (writeJournal e p).regs.resetStatus = p.regs.resetStatus ∧
    (writeJournal e p).regs.resetSession = p.regs.resetSession ∧ (writeJournal e p).regs.resetInst = p.regs.resetInst ∧
    (writeJournal e p).regs.resetType = p.regs.resetType := by
  and_intros <;> (simp only [writeJournal, when]; repeat' (first | (simp; done) | split))

@[simp] theorem alarmWith_parts (code : Nat) (e : JournalEntry) (p : Piece) :
    (alarmWith code e p).transport.state = p.transport.state ∧
    (alarmWith code e p).transport.fwVersion = p.transport.fwVersion ∧
    (alarmWith code e p).transport.heartbeat = p.transport.heartbeat ∧
    (alarmWith code e p).transport.restarts = p.transport.restarts ∧
    (alarmWith code e p).transport.cmdsDone = p.transport.cmdsDone ∧
    (alarmWith code e p).transport.channels = p.transport.channels ∧
    (alarmWith code e p).transport.epochs = p.transport.epochs ∧
    (alarmWith code e p).transport.lastServed = p.transport.lastServed ∧
    (alarmWith code e p).transport.sessions = p.transport.sessions ∧
    (alarmWith code e p).transport.claims = p.transport.claims ∧
    (alarmWith code e p).transport.flights = p.transport.flights ∧
    (alarmWith code e p).transport.nextOrder = p.transport.nextOrder ∧
    (alarmWith code e p).transport.lastEffect = p.transport.lastEffect ∧
    (alarmWith code e p).transport.locks = p.transport.locks ∧
    (alarmWith code e p).transport.lockNodes = p.transport.lockNodes ∧
    (alarmWith code e p).transport.badRelease = p.transport.badRelease ∧
    (alarmWith code e p).transport.forcedRelease = p.transport.forcedRelease ∧
    (alarmWith code e p).safety.safeState = p.safety.safeState ∧ (alarmWith code e p).safety.faultMask = p.safety.faultMask ∧
    (alarmWith code e p).safety.transients = p.safety.transients ∧ (alarmWith code e p).safety.retired = p.safety.retired ∧
    (alarmWith code e p).safety.retirements = p.safety.retirements ∧
    (alarmWith code e p).safety.selftests = p.safety.selftests ∧ (alarmWith code e p).safety.tests = p.safety.tests ∧
    (alarmWith code e p).safety.mappedRows = p.safety.mappedRows ∧
    (alarmWith code e p).safety.transientLog = p.safety.transientLog ∧
    (alarmWith code e p).safety.lockstepLog = p.safety.lockstepLog ∧
    (alarmWith code e p).safety.deadIslands = p.safety.deadIslands ∧
    (alarmWith code e p).safety.tapBadUntil = p.safety.tapBadUntil ∧ (alarmWith code e p).safety.dump = p.safety.dump ∧
    (alarmWith code e p).safety.strongroom = p.safety.strongroom ∧ (alarmWith code e p).safety.sramLost = p.safety.sramLost ∧
    (alarmWith code e p).safety.dumpPending = p.safety.dumpPending ∧ (alarmWith code e p).safety.dumpSeq = p.safety.dumpSeq ∧
    (alarmWith code e p).safety.dumpsSuppressed = p.safety.dumpsSuppressed ∧
    (alarmWith code e p).safety.regionAddr = p.safety.regionAddr ∧
    (alarmWith code e p).safety.regionLen = p.safety.regionLen ∧
    (alarmWith code e p).safety.releaseArmed = p.safety.releaseArmed ∧ (alarmWith code e p).net.nodeId = p.net.nodeId ∧
    (alarmWith code e p).net.epoch = p.net.epoch ∧ (alarmWith code e p).net.horizonExceeded = p.net.horizonExceeded ∧
    (alarmWith code e p).net.sourcePresent = p.net.sourcePresent ∧ (alarmWith code e p).net.detached = p.net.detached ∧
    (alarmWith code e p).net.root = p.net.root ∧ (alarmWith code e p).net.joined = p.net.joined ∧
    (alarmWith code e p).net.parent = p.net.parent ∧ (alarmWith code e p).net.rootNode = p.net.rootNode ∧
    (alarmWith code e p).net.horizon = p.net.horizon ∧ (alarmWith code e p).net.storedHorizon = p.net.storedHorizon ∧
    (alarmWith code e p).net.path = p.net.path ∧ (alarmWith code e p).net.nodes = p.net.nodes ∧
    (alarmWith code e p).net.xtrigSent = p.net.xtrigSent ∧ (alarmWith code e p).net.xtrigLate = p.net.xtrigLate ∧
    (alarmWith code e p).net.xtrigCrc = p.net.xtrigCrc ∧ (alarmWith code e p).net.xtrigDropped = p.net.xtrigDropped ∧
    (alarmWith code e p).net.xtrigSeq = p.net.xtrigSeq ∧ (alarmWith code e p).net.summaries = p.net.summaries ∧
    (alarmWith code e p).net.rootTimeValid = p.net.rootTimeValid ∧ (alarmWith code e p).net.ports = p.net.ports ∧
    (alarmWith code e p).net.latest = p.net.latest ∧ (alarmWith code e p).net.members = p.net.members ∧
    (alarmWith code e p).net.joinSince = p.net.joinSince ∧ (alarmWith code e p).net.joinNode = p.net.joinNode ∧
    (alarmWith code e p).net.leaveSince = p.net.leaveSince ∧ (alarmWith code e p).net.reparentSince = p.net.reparentSince ∧
    (alarmWith code e p).net.joins = p.net.joins ∧ (alarmWith code e p).net.reparents = p.net.reparents ∧
    (alarmWith code e p).net.epochTick = p.net.epochTick ∧ (alarmWith code e p).regs.shadows = p.regs.shadows ∧
    (alarmWith code e p).regs.resetBusy = p.regs.resetBusy ∧ (alarmWith code e p).regs.resetStatus = p.regs.resetStatus ∧
    (alarmWith code e p).regs.resetSession = p.regs.resetSession ∧ (alarmWith code e p).regs.resetInst = p.regs.resetInst ∧
    (alarmWith code e p).regs.resetType = p.regs.resetType := by
  and_intros <;> (simp only [alarmWith, when]; repeat' (first | (simp; done) | split))

@[simp] theorem raiseAlarm_parts (code t i : Nat) (p : Piece) :
    (raiseAlarm code t i p).transport.state = p.transport.state ∧
    (raiseAlarm code t i p).transport.fwVersion = p.transport.fwVersion ∧
    (raiseAlarm code t i p).transport.heartbeat = p.transport.heartbeat ∧
    (raiseAlarm code t i p).transport.restarts = p.transport.restarts ∧
    (raiseAlarm code t i p).transport.cmdsDone = p.transport.cmdsDone ∧
    (raiseAlarm code t i p).transport.channels = p.transport.channels ∧
    (raiseAlarm code t i p).transport.epochs = p.transport.epochs ∧
    (raiseAlarm code t i p).transport.lastServed = p.transport.lastServed ∧
    (raiseAlarm code t i p).transport.sessions = p.transport.sessions ∧
    (raiseAlarm code t i p).transport.claims = p.transport.claims ∧
    (raiseAlarm code t i p).transport.flights = p.transport.flights ∧
    (raiseAlarm code t i p).transport.nextOrder = p.transport.nextOrder ∧
    (raiseAlarm code t i p).transport.lastEffect = p.transport.lastEffect ∧
    (raiseAlarm code t i p).transport.locks = p.transport.locks ∧
    (raiseAlarm code t i p).transport.lockNodes = p.transport.lockNodes ∧
    (raiseAlarm code t i p).transport.badRelease = p.transport.badRelease ∧
    (raiseAlarm code t i p).transport.forcedRelease = p.transport.forcedRelease ∧
    (raiseAlarm code t i p).safety.safeState = p.safety.safeState ∧
    (raiseAlarm code t i p).safety.faultMask = p.safety.faultMask ∧
    (raiseAlarm code t i p).safety.transients = p.safety.transients ∧
    (raiseAlarm code t i p).safety.retired = p.safety.retired ∧
    (raiseAlarm code t i p).safety.retirements = p.safety.retirements ∧
    (raiseAlarm code t i p).safety.selftests = p.safety.selftests ∧ (raiseAlarm code t i p).safety.tests = p.safety.tests ∧
    (raiseAlarm code t i p).safety.mappedRows = p.safety.mappedRows ∧
    (raiseAlarm code t i p).safety.transientLog = p.safety.transientLog ∧
    (raiseAlarm code t i p).safety.lockstepLog = p.safety.lockstepLog ∧
    (raiseAlarm code t i p).safety.deadIslands = p.safety.deadIslands ∧
    (raiseAlarm code t i p).safety.tapBadUntil = p.safety.tapBadUntil ∧ (raiseAlarm code t i p).safety.dump = p.safety.dump ∧
    (raiseAlarm code t i p).safety.strongroom = p.safety.strongroom ∧
    (raiseAlarm code t i p).safety.sramLost = p.safety.sramLost ∧
    (raiseAlarm code t i p).safety.dumpPending = p.safety.dumpPending ∧
    (raiseAlarm code t i p).safety.dumpSeq = p.safety.dumpSeq ∧
    (raiseAlarm code t i p).safety.dumpsSuppressed = p.safety.dumpsSuppressed ∧
    (raiseAlarm code t i p).safety.regionAddr = p.safety.regionAddr ∧
    (raiseAlarm code t i p).safety.regionLen = p.safety.regionLen ∧
    (raiseAlarm code t i p).safety.releaseArmed = p.safety.releaseArmed ∧ (raiseAlarm code t i p).net.nodeId = p.net.nodeId ∧
    (raiseAlarm code t i p).net.epoch = p.net.epoch ∧ (raiseAlarm code t i p).net.horizonExceeded = p.net.horizonExceeded ∧
    (raiseAlarm code t i p).net.sourcePresent = p.net.sourcePresent ∧ (raiseAlarm code t i p).net.detached = p.net.detached ∧
    (raiseAlarm code t i p).net.root = p.net.root ∧ (raiseAlarm code t i p).net.joined = p.net.joined ∧
    (raiseAlarm code t i p).net.parent = p.net.parent ∧ (raiseAlarm code t i p).net.rootNode = p.net.rootNode ∧
    (raiseAlarm code t i p).net.horizon = p.net.horizon ∧ (raiseAlarm code t i p).net.storedHorizon = p.net.storedHorizon ∧
    (raiseAlarm code t i p).net.path = p.net.path ∧ (raiseAlarm code t i p).net.nodes = p.net.nodes ∧
    (raiseAlarm code t i p).net.xtrigSent = p.net.xtrigSent ∧ (raiseAlarm code t i p).net.xtrigLate = p.net.xtrigLate ∧
    (raiseAlarm code t i p).net.xtrigCrc = p.net.xtrigCrc ∧ (raiseAlarm code t i p).net.xtrigDropped = p.net.xtrigDropped ∧
    (raiseAlarm code t i p).net.xtrigSeq = p.net.xtrigSeq ∧ (raiseAlarm code t i p).net.summaries = p.net.summaries ∧
    (raiseAlarm code t i p).net.rootTimeValid = p.net.rootTimeValid ∧ (raiseAlarm code t i p).net.ports = p.net.ports ∧
    (raiseAlarm code t i p).net.latest = p.net.latest ∧ (raiseAlarm code t i p).net.members = p.net.members ∧
    (raiseAlarm code t i p).net.joinSince = p.net.joinSince ∧ (raiseAlarm code t i p).net.joinNode = p.net.joinNode ∧
    (raiseAlarm code t i p).net.leaveSince = p.net.leaveSince ∧
    (raiseAlarm code t i p).net.reparentSince = p.net.reparentSince ∧ (raiseAlarm code t i p).net.joins = p.net.joins ∧
    (raiseAlarm code t i p).net.reparents = p.net.reparents ∧ (raiseAlarm code t i p).net.epochTick = p.net.epochTick ∧
    (raiseAlarm code t i p).regs.shadows = p.regs.shadows ∧ (raiseAlarm code t i p).regs.resetBusy = p.regs.resetBusy ∧
    (raiseAlarm code t i p).regs.resetStatus = p.regs.resetStatus ∧
    (raiseAlarm code t i p).regs.resetSession = p.regs.resetSession ∧
    (raiseAlarm code t i p).regs.resetInst = p.regs.resetInst ∧ (raiseAlarm code t i p).regs.resetType = p.regs.resetType := by
  and_intros <;> simp [raiseAlarm]

@[simp] theorem attention_parts (ch : Nat) (p : Piece) :
    (attention ch p).regs.shadows = p.regs.shadows ∧ (attention ch p).regs.resetBusy = p.regs.resetBusy ∧
    (attention ch p).regs.resetStatus = p.regs.resetStatus ∧ (attention ch p).regs.resetSession = p.regs.resetSession ∧
    (attention ch p).regs.resetInst = p.regs.resetInst ∧ (attention ch p).regs.resetType = p.regs.resetType := by
  and_intros <;> simp [attention]

@[simp] theorem enterInbound_parts (ch : Nat) (n : Notice) (p : Piece) :
    (enterInbound ch n p).transport.state = p.transport.state ∧
    (enterInbound ch n p).transport.fwVersion = p.transport.fwVersion ∧
    (enterInbound ch n p).transport.heartbeat = p.transport.heartbeat ∧
    (enterInbound ch n p).transport.restarts = p.transport.restarts ∧
    (enterInbound ch n p).transport.epochs = p.transport.epochs ∧
    (enterInbound ch n p).transport.lastServed = p.transport.lastServed ∧
    (enterInbound ch n p).transport.claims = p.transport.claims ∧
    (enterInbound ch n p).transport.nextOrder = p.transport.nextOrder ∧
    (enterInbound ch n p).transport.locks = p.transport.locks ∧
    (enterInbound ch n p).transport.lockNodes = p.transport.lockNodes ∧
    (enterInbound ch n p).transport.badRelease = p.transport.badRelease ∧
    (enterInbound ch n p).transport.forcedRelease = p.transport.forcedRelease ∧
    (enterInbound ch n p).transport.raised = p.transport.raised ∧ (enterInbound ch n p).regs.shadows = p.regs.shadows ∧
    (enterInbound ch n p).regs.resetBusy = p.regs.resetBusy ∧ (enterInbound ch n p).regs.resetStatus = p.regs.resetStatus ∧
    (enterInbound ch n p).regs.resetSession = p.regs.resetSession ∧ (enterInbound ch n p).regs.resetInst = p.regs.resetInst ∧
    (enterInbound ch n p).regs.resetType = p.regs.resetType ∧
    (enterInbound ch n p).transport.sessions = p.transport.sessions ∧
    (enterInbound ch n p).transport.flights = p.transport.flights ∧
    (enterInbound ch n p).transport.cmdsDone = p.transport.cmdsDone ∧
    (enterInbound ch n p).transport.lastEffect = p.transport.lastEffect := by
  and_intros <;> (simp only [enterInbound, when]; repeat' (first | (simp; done) | split))

@[simp] theorem postNotice_parts (ch kind a n : Nat) (p : Piece) :
    (postNotice ch kind a n p).transport.state = p.transport.state ∧
    (postNotice ch kind a n p).transport.fwVersion = p.transport.fwVersion ∧
    (postNotice ch kind a n p).transport.heartbeat = p.transport.heartbeat ∧
    (postNotice ch kind a n p).transport.restarts = p.transport.restarts ∧
    (postNotice ch kind a n p).transport.epochs = p.transport.epochs ∧
    (postNotice ch kind a n p).transport.lastServed = p.transport.lastServed ∧
    (postNotice ch kind a n p).transport.claims = p.transport.claims ∧
    (postNotice ch kind a n p).transport.nextOrder = p.transport.nextOrder ∧
    (postNotice ch kind a n p).transport.locks = p.transport.locks ∧
    (postNotice ch kind a n p).transport.lockNodes = p.transport.lockNodes ∧
    (postNotice ch kind a n p).transport.badRelease = p.transport.badRelease ∧
    (postNotice ch kind a n p).transport.forcedRelease = p.transport.forcedRelease ∧
    (postNotice ch kind a n p).transport.raised = p.transport.raised ∧
    (postNotice ch kind a n p).regs.shadows = p.regs.shadows ∧ (postNotice ch kind a n p).regs.resetBusy = p.regs.resetBusy ∧
    (postNotice ch kind a n p).regs.resetStatus = p.regs.resetStatus ∧
    (postNotice ch kind a n p).regs.resetSession = p.regs.resetSession ∧
    (postNotice ch kind a n p).regs.resetInst = p.regs.resetInst ∧
    (postNotice ch kind a n p).regs.resetType = p.regs.resetType ∧
    (postNotice ch kind a n p).transport.sessions = p.transport.sessions ∧
    (postNotice ch kind a n p).transport.flights = p.transport.flights ∧
    (postNotice ch kind a n p).transport.cmdsDone = p.transport.cmdsDone ∧
    (postNotice ch kind a n p).transport.lastEffect = p.transport.lastEffect := by
  and_intros <;> (simp only [postNotice]; split <;> simp)

@[simp] theorem setRingFor_parts (f : Flight) (st : Nat) (r : Ring) (p : Piece) :
    (setRingFor f st r p).transport.state = p.transport.state ∧
    (setRingFor f st r p).transport.fwVersion = p.transport.fwVersion ∧
    (setRingFor f st r p).transport.heartbeat = p.transport.heartbeat ∧
    (setRingFor f st r p).transport.restarts = p.transport.restarts ∧
    (setRingFor f st r p).transport.epochs = p.transport.epochs ∧
    (setRingFor f st r p).transport.lastServed = p.transport.lastServed ∧
    (setRingFor f st r p).transport.claims = p.transport.claims ∧
    (setRingFor f st r p).transport.nextOrder = p.transport.nextOrder ∧
    (setRingFor f st r p).transport.locks = p.transport.locks ∧
    (setRingFor f st r p).transport.lockNodes = p.transport.lockNodes ∧
    (setRingFor f st r p).transport.badRelease = p.transport.badRelease ∧
    (setRingFor f st r p).transport.forcedRelease = p.transport.forcedRelease ∧
    (setRingFor f st r p).transport.raised = p.transport.raised ∧
    (setRingFor f st r p).transport.flights = p.transport.flights ∧
    (setRingFor f st r p).transport.cmdsDone = p.transport.cmdsDone ∧
    (setRingFor f st r p).transport.lastEffect = p.transport.lastEffect := by
  and_intros <;> (simp only [setRingFor]; split <;> simp)

@[simp] theorem countVoided_parts (p : Piece) :
    (countVoided p).hostif.linkUp = p.hostif.linkUp ∧ (countVoided p).hostif.rate = p.hostif.rate ∧
    (countVoided p).hostif.width = p.hostif.width ∧ (countVoided p).hostif.cxl = p.hostif.cxl ∧
    (countVoided p).hostif.cacheEn = p.hostif.cacheEn ∧ (countVoided p).hostif.linkDownCount = p.hostif.linkDownCount ∧
    (countVoided p).hostif.droppedWrites = p.hostif.droppedWrites ∧
    (countVoided p).hostif.droppedReads = p.hostif.droppedReads ∧ (countVoided p).hostif.bar2Refused = p.hostif.bar2Refused ∧
    (countVoided p).hostif.hdmCommitted = p.hostif.hdmCommitted ∧ (countVoided p).hostif.hdmBase = p.hostif.hdmBase ∧
    (countVoided p).hostif.hdmError = p.hostif.hdmError ∧ (countVoided p).hostif.requests = p.hostif.requests ∧
    (countVoided p).hostif.nextRequest = p.hostif.nextRequest ∧ (countVoided p).hostif.answers = p.hostif.answers := by
  and_intros <;> simp [countVoided]

@[simp] theorem land_parts (f : Flight) (p : Piece) :
    (land f p).transport.state = p.transport.state ∧ (land f p).transport.fwVersion = p.transport.fwVersion ∧
    (land f p).transport.heartbeat = p.transport.heartbeat ∧ (land f p).transport.restarts = p.transport.restarts ∧
    (land f p).transport.epochs = p.transport.epochs ∧ (land f p).transport.lastServed = p.transport.lastServed ∧
    (land f p).transport.claims = p.transport.claims ∧ (land f p).transport.nextOrder = p.transport.nextOrder ∧
    (land f p).transport.locks = p.transport.locks ∧ (land f p).transport.lockNodes = p.transport.lockNodes ∧
    (land f p).transport.badRelease = p.transport.badRelease ∧
    (land f p).transport.forcedRelease = p.transport.forcedRelease ∧ (land f p).transport.raised = p.transport.raised ∧
    (land f p).transport.sessions = p.transport.sessions ∧ (land f p).transport.channels = p.transport.channels ∧
    (land f p).transport.lastEffect = p.transport.lastEffect := by
  and_intros <;> simp [land]

@[simp] theorem dramWrite_parts (a : Nat) (bs : Bytes) (p : Piece) :
    (dramWrite a bs p).dmc.frozen = p.dmc.frozen ∧ (dramWrite a bs p).dmc.selfRefresh = p.dmc.selfRefresh ∧
    (dramWrite a bs p).dmc.freezeCause = p.dmc.freezeCause ∧ (dramWrite a bs p).dmc.chUp = p.dmc.chUp ∧
    (dramWrite a bs p).dmc.speed = p.dmc.speed ∧ (dramWrite a bs p).dmc.gibPerChannel = p.dmc.gibPerChannel ∧
    (dramWrite a bs p).dmc.rdimm = p.dmc.rdimm ∧ (dramWrite a bs p).dmc.ranks = p.dmc.ranks ∧
    (dramWrite a bs p).dmc.ceCount = p.dmc.ceCount ∧ (dramWrite a bs p).dmc.ueCount = p.dmc.ueCount ∧
    (dramWrite a bs p).dmc.freezeAddr = p.dmc.freezeAddr ∧ (dramWrite a bs p).dmc.lastCeAddr = p.dmc.lastCeAddr ∧
    (dramWrite a bs p).dmc.panicCount = p.dmc.panicCount ∧ (dramWrite a bs p).dmc.panicActive = p.dmc.panicActive ∧
    (dramWrite a bs p).dmc.refreshForced = p.dmc.refreshForced ∧
    (dramWrite a bs p).dmc.neighbourRefresh = p.dmc.neighbourRefresh ∧
    (dramWrite a bs p).dmc.actThreshold = p.dmc.actThreshold ∧ (dramWrite a bs p).dmc.hostRefused = p.dmc.hostRefused ∧
    (dramWrite a bs p).dmc.training = p.dmc.training ∧ (dramWrite a bs p).dmc.initDone = p.dmc.initDone ∧
    (dramWrite a bs p).dmc.act = p.dmc.act ∧ (dramWrite a bs p).dmc.refreshDebt = p.dmc.refreshDebt ∧
    (dramWrite a bs p).dmc.promoted = p.dmc.promoted := by
  and_intros <;> simp [dramWrite]

@[simp] theorem pieceWrite_parts (a : Nat) (bs : Bytes) (p : Piece) :
    (pieceWrite a bs p).1.dmc.frozen = p.dmc.frozen ∧ (pieceWrite a bs p).1.dmc.selfRefresh = p.dmc.selfRefresh ∧
    (pieceWrite a bs p).1.dmc.freezeCause = p.dmc.freezeCause ∧ (pieceWrite a bs p).1.dmc.chUp = p.dmc.chUp ∧
    (pieceWrite a bs p).1.dmc.speed = p.dmc.speed ∧ (pieceWrite a bs p).1.dmc.gibPerChannel = p.dmc.gibPerChannel ∧
    (pieceWrite a bs p).1.dmc.rdimm = p.dmc.rdimm ∧ (pieceWrite a bs p).1.dmc.ranks = p.dmc.ranks ∧
    (pieceWrite a bs p).1.dmc.ceCount = p.dmc.ceCount ∧ (pieceWrite a bs p).1.dmc.ueCount = p.dmc.ueCount ∧
    (pieceWrite a bs p).1.dmc.freezeAddr = p.dmc.freezeAddr ∧ (pieceWrite a bs p).1.dmc.lastCeAddr = p.dmc.lastCeAddr ∧
    (pieceWrite a bs p).1.dmc.panicCount = p.dmc.panicCount ∧ (pieceWrite a bs p).1.dmc.panicActive = p.dmc.panicActive ∧
    (pieceWrite a bs p).1.dmc.refreshForced = p.dmc.refreshForced ∧
    (pieceWrite a bs p).1.dmc.neighbourRefresh = p.dmc.neighbourRefresh ∧
    (pieceWrite a bs p).1.dmc.actThreshold = p.dmc.actThreshold ∧ (pieceWrite a bs p).1.dmc.hostRefused = p.dmc.hostRefused ∧
    (pieceWrite a bs p).1.dmc.training = p.dmc.training ∧ (pieceWrite a bs p).1.dmc.initDone = p.dmc.initDone ∧
    (pieceWrite a bs p).1.dmc.act = p.dmc.act ∧ (pieceWrite a bs p).1.dmc.refreshDebt = p.dmc.refreshDebt ∧
    (pieceWrite a bs p).1.dmc.promoted = p.dmc.promoted := by
  and_intros <;> (simp only [pieceWrite]; split <;> split <;> simp)

@[simp] theorem writeCompletion_parts (f : Flight) (c : Completion) (p : Piece) :
    (writeCompletion f c p).transport.state = p.transport.state ∧
    (writeCompletion f c p).transport.fwVersion = p.transport.fwVersion ∧
    (writeCompletion f c p).transport.heartbeat = p.transport.heartbeat ∧
    (writeCompletion f c p).transport.restarts = p.transport.restarts ∧
    (writeCompletion f c p).transport.epochs = p.transport.epochs ∧
    (writeCompletion f c p).transport.lastServed = p.transport.lastServed ∧
    (writeCompletion f c p).transport.claims = p.transport.claims ∧
    (writeCompletion f c p).transport.nextOrder = p.transport.nextOrder ∧
    (writeCompletion f c p).transport.locks = p.transport.locks ∧
    (writeCompletion f c p).transport.lockNodes = p.transport.lockNodes ∧
    (writeCompletion f c p).transport.badRelease = p.transport.badRelease ∧
    (writeCompletion f c p).transport.forcedRelease = p.transport.forcedRelease ∧
    (writeCompletion f c p).transport.raised = p.transport.raised ∧ (writeCompletion f c p).dmc.frozen = p.dmc.frozen ∧
    (writeCompletion f c p).dmc.selfRefresh = p.dmc.selfRefresh ∧
    (writeCompletion f c p).dmc.freezeCause = p.dmc.freezeCause ∧ (writeCompletion f c p).dmc.chUp = p.dmc.chUp ∧
    (writeCompletion f c p).dmc.speed = p.dmc.speed ∧ (writeCompletion f c p).dmc.gibPerChannel = p.dmc.gibPerChannel ∧
    (writeCompletion f c p).dmc.rdimm = p.dmc.rdimm ∧ (writeCompletion f c p).dmc.ranks = p.dmc.ranks ∧
    (writeCompletion f c p).dmc.ceCount = p.dmc.ceCount ∧ (writeCompletion f c p).dmc.ueCount = p.dmc.ueCount ∧
    (writeCompletion f c p).dmc.freezeAddr = p.dmc.freezeAddr ∧ (writeCompletion f c p).dmc.lastCeAddr = p.dmc.lastCeAddr ∧
    (writeCompletion f c p).dmc.panicCount = p.dmc.panicCount ∧ (writeCompletion f c p).dmc.panicActive = p.dmc.panicActive ∧
    (writeCompletion f c p).dmc.refreshForced = p.dmc.refreshForced ∧
    (writeCompletion f c p).dmc.neighbourRefresh = p.dmc.neighbourRefresh ∧
    (writeCompletion f c p).dmc.actThreshold = p.dmc.actThreshold ∧
    (writeCompletion f c p).dmc.hostRefused = p.dmc.hostRefused ∧ (writeCompletion f c p).dmc.training = p.dmc.training ∧
    (writeCompletion f c p).dmc.initDone = p.dmc.initDone ∧ (writeCompletion f c p).dmc.act = p.dmc.act ∧
    (writeCompletion f c p).dmc.refreshDebt = p.dmc.refreshDebt ∧ (writeCompletion f c p).dmc.promoted = p.dmc.promoted ∧
    (writeCompletion f c p).hostif.linkUp = p.hostif.linkUp ∧ (writeCompletion f c p).hostif.rate = p.hostif.rate ∧
    (writeCompletion f c p).hostif.width = p.hostif.width ∧ (writeCompletion f c p).hostif.cxl = p.hostif.cxl ∧
    (writeCompletion f c p).hostif.cacheEn = p.hostif.cacheEn ∧
    (writeCompletion f c p).hostif.linkDownCount = p.hostif.linkDownCount ∧
    (writeCompletion f c p).hostif.droppedWrites = p.hostif.droppedWrites ∧
    (writeCompletion f c p).hostif.droppedReads = p.hostif.droppedReads ∧
    (writeCompletion f c p).hostif.bar2Refused = p.hostif.bar2Refused ∧
    (writeCompletion f c p).hostif.hdmCommitted = p.hostif.hdmCommitted ∧
    (writeCompletion f c p).hostif.hdmBase = p.hostif.hdmBase ∧ (writeCompletion f c p).hostif.hdmError = p.hostif.hdmError ∧
    (writeCompletion f c p).hostif.requests = p.hostif.requests ∧
    (writeCompletion f c p).hostif.nextRequest = p.hostif.nextRequest ∧
    (writeCompletion f c p).hostif.answers = p.hostif.answers ∧ (writeCompletion f c p).regs.shadows = p.regs.shadows ∧
    (writeCompletion f c p).regs.resetBusy = p.regs.resetBusy ∧
    (writeCompletion f c p).regs.resetStatus = p.regs.resetStatus ∧
    (writeCompletion f c p).regs.resetSession = p.regs.resetSession ∧
    (writeCompletion f c p).regs.resetInst = p.regs.resetInst ∧ (writeCompletion f c p).regs.resetType = p.regs.resetType := by
  unfold writeCompletion
  dsimp only
  split
  · simp
  · have h := pieceWrite_parts ((ringFor p f c.status).base + (ringFor p f c.status).slot * 32)
      (c.bytes (ringFor p f c.status).phase) p
    have h2 := pieceWrite_frame ((ringFor p f c.status).base + (ringFor p f c.status).slot * 32)
      (c.bytes (ringFor p f c.status).phase) p
    generalize pieceWrite _ _ p = x at h h2 ⊢
    obtain ⟨q, t⟩ := x
    cases t <;> cases f.irq <;> simp_all

@[simp] theorem setFlight_parts (f : Flight) (p : Piece) :
    (setFlight f p).transport.state = p.transport.state ∧ (setFlight f p).transport.fwVersion = p.transport.fwVersion ∧
    (setFlight f p).transport.heartbeat = p.transport.heartbeat ∧ (setFlight f p).transport.restarts = p.transport.restarts ∧
    (setFlight f p).transport.epochs = p.transport.epochs ∧ (setFlight f p).transport.lastServed = p.transport.lastServed ∧
    (setFlight f p).transport.claims = p.transport.claims ∧ (setFlight f p).transport.nextOrder = p.transport.nextOrder ∧
    (setFlight f p).transport.locks = p.transport.locks ∧ (setFlight f p).transport.lockNodes = p.transport.lockNodes ∧
    (setFlight f p).transport.badRelease = p.transport.badRelease ∧
    (setFlight f p).transport.forcedRelease = p.transport.forcedRelease ∧
    (setFlight f p).transport.raised = p.transport.raised ∧ (setFlight f p).transport.sessions = p.transport.sessions ∧
    (setFlight f p).transport.channels = p.transport.channels ∧ (setFlight f p).transport.cmdsDone = p.transport.cmdsDone ∧
    (setFlight f p).transport.lastEffect = p.transport.lastEffect := by
  and_intros <;> simp [setFlight]

@[simp] theorem dropSession_parts (id : Nat) (p : Piece) :
    (dropSession id p).transport.state = p.transport.state ∧ (dropSession id p).transport.fwVersion = p.transport.fwVersion ∧
    (dropSession id p).transport.heartbeat = p.transport.heartbeat ∧
    (dropSession id p).transport.restarts = p.transport.restarts ∧ (dropSession id p).transport.epochs = p.transport.epochs ∧
    (dropSession id p).transport.lastServed = p.transport.lastServed ∧
    (dropSession id p).transport.claims = p.transport.claims ∧
    (dropSession id p).transport.nextOrder = p.transport.nextOrder ∧ (dropSession id p).transport.locks = p.transport.locks ∧
    (dropSession id p).transport.lockNodes = p.transport.lockNodes ∧
    (dropSession id p).transport.badRelease = p.transport.badRelease ∧
    (dropSession id p).transport.forcedRelease = p.transport.forcedRelease ∧
    (dropSession id p).transport.raised = p.transport.raised ∧ (dropSession id p).transport.channels = p.transport.channels ∧
    (dropSession id p).transport.cmdsDone = p.transport.cmdsDone ∧
    (dropSession id p).transport.lastEffect = p.transport.lastEffect ∧
    (dropSession id p).transport.flights = p.transport.flights := by
  and_intros <;> simp [dropSession]

@[simp] theorem settleOnce_parts (p : Piece) :
    (settleOnce p).transport.state = p.transport.state ∧ (settleOnce p).transport.fwVersion = p.transport.fwVersion ∧
    (settleOnce p).transport.heartbeat = p.transport.heartbeat ∧ (settleOnce p).transport.restarts = p.transport.restarts ∧
    (settleOnce p).transport.epochs = p.transport.epochs ∧ (settleOnce p).transport.lastServed = p.transport.lastServed ∧
    (settleOnce p).transport.claims = p.transport.claims ∧ (settleOnce p).transport.nextOrder = p.transport.nextOrder ∧
    (settleOnce p).transport.locks = p.transport.locks ∧ (settleOnce p).transport.lockNodes = p.transport.lockNodes ∧
    (settleOnce p).transport.badRelease = p.transport.badRelease ∧
    (settleOnce p).transport.forcedRelease = p.transport.forcedRelease ∧
    (settleOnce p).transport.raised = p.transport.raised ∧ (settleOnce p).dmc.frozen = p.dmc.frozen ∧
    (settleOnce p).dmc.selfRefresh = p.dmc.selfRefresh ∧ (settleOnce p).dmc.freezeCause = p.dmc.freezeCause ∧
    (settleOnce p).dmc.chUp = p.dmc.chUp ∧ (settleOnce p).dmc.speed = p.dmc.speed ∧
    (settleOnce p).dmc.gibPerChannel = p.dmc.gibPerChannel ∧ (settleOnce p).dmc.rdimm = p.dmc.rdimm ∧
    (settleOnce p).dmc.ranks = p.dmc.ranks ∧ (settleOnce p).dmc.ceCount = p.dmc.ceCount ∧
    (settleOnce p).dmc.ueCount = p.dmc.ueCount ∧ (settleOnce p).dmc.freezeAddr = p.dmc.freezeAddr ∧
    (settleOnce p).dmc.lastCeAddr = p.dmc.lastCeAddr ∧ (settleOnce p).dmc.panicCount = p.dmc.panicCount ∧
    (settleOnce p).dmc.panicActive = p.dmc.panicActive ∧ (settleOnce p).dmc.refreshForced = p.dmc.refreshForced ∧
    (settleOnce p).dmc.neighbourRefresh = p.dmc.neighbourRefresh ∧ (settleOnce p).dmc.actThreshold = p.dmc.actThreshold ∧
    (settleOnce p).dmc.hostRefused = p.dmc.hostRefused ∧ (settleOnce p).dmc.training = p.dmc.training ∧
    (settleOnce p).dmc.initDone = p.dmc.initDone ∧ (settleOnce p).dmc.act = p.dmc.act ∧
    (settleOnce p).dmc.refreshDebt = p.dmc.refreshDebt ∧ (settleOnce p).dmc.promoted = p.dmc.promoted ∧
    (settleOnce p).hostif.linkUp = p.hostif.linkUp ∧ (settleOnce p).hostif.rate = p.hostif.rate ∧
    (settleOnce p).hostif.width = p.hostif.width ∧ (settleOnce p).hostif.cxl = p.hostif.cxl ∧
    (settleOnce p).hostif.cacheEn = p.hostif.cacheEn ∧ (settleOnce p).hostif.linkDownCount = p.hostif.linkDownCount ∧
    (settleOnce p).hostif.droppedWrites = p.hostif.droppedWrites ∧
    (settleOnce p).hostif.droppedReads = p.hostif.droppedReads ∧ (settleOnce p).hostif.bar2Refused = p.hostif.bar2Refused ∧
    (settleOnce p).hostif.hdmCommitted = p.hostif.hdmCommitted ∧ (settleOnce p).hostif.hdmBase = p.hostif.hdmBase ∧
    (settleOnce p).hostif.hdmError = p.hostif.hdmError ∧ (settleOnce p).hostif.requests = p.hostif.requests ∧
    (settleOnce p).hostif.nextRequest = p.hostif.nextRequest ∧ (settleOnce p).hostif.answers = p.hostif.answers ∧
    (settleOnce p).regs.shadows = p.regs.shadows ∧ (settleOnce p).regs.resetBusy = p.regs.resetBusy ∧
    (settleOnce p).regs.resetStatus = p.regs.resetStatus ∧ (settleOnce p).regs.resetSession = p.regs.resetSession ∧
    (settleOnce p).regs.resetInst = p.regs.resetInst ∧ (settleOnce p).regs.resetType = p.regs.resetType := by
  and_intros <;> (simp only [settleOnce]; split <;> first | simp | (split <;> first | simp | (split <;> simp)))

@[simp] theorem settleN_parts (k : Nat) (p : Piece) :
    (settleN k p).transport.state = p.transport.state ∧ (settleN k p).transport.fwVersion = p.transport.fwVersion ∧
    (settleN k p).transport.heartbeat = p.transport.heartbeat ∧ (settleN k p).transport.restarts = p.transport.restarts ∧
    (settleN k p).transport.epochs = p.transport.epochs ∧ (settleN k p).transport.lastServed = p.transport.lastServed ∧
    (settleN k p).transport.claims = p.transport.claims ∧ (settleN k p).transport.nextOrder = p.transport.nextOrder ∧
    (settleN k p).transport.locks = p.transport.locks ∧ (settleN k p).transport.lockNodes = p.transport.lockNodes ∧
    (settleN k p).transport.badRelease = p.transport.badRelease ∧
    (settleN k p).transport.forcedRelease = p.transport.forcedRelease ∧ (settleN k p).transport.raised = p.transport.raised ∧
    (settleN k p).dmc.frozen = p.dmc.frozen ∧ (settleN k p).dmc.selfRefresh = p.dmc.selfRefresh ∧
    (settleN k p).dmc.freezeCause = p.dmc.freezeCause ∧ (settleN k p).dmc.chUp = p.dmc.chUp ∧
    (settleN k p).dmc.speed = p.dmc.speed ∧ (settleN k p).dmc.gibPerChannel = p.dmc.gibPerChannel ∧
    (settleN k p).dmc.rdimm = p.dmc.rdimm ∧ (settleN k p).dmc.ranks = p.dmc.ranks ∧
    (settleN k p).dmc.ceCount = p.dmc.ceCount ∧ (settleN k p).dmc.ueCount = p.dmc.ueCount ∧
    (settleN k p).dmc.freezeAddr = p.dmc.freezeAddr ∧ (settleN k p).dmc.lastCeAddr = p.dmc.lastCeAddr ∧
    (settleN k p).dmc.panicCount = p.dmc.panicCount ∧ (settleN k p).dmc.panicActive = p.dmc.panicActive ∧
    (settleN k p).dmc.refreshForced = p.dmc.refreshForced ∧ (settleN k p).dmc.neighbourRefresh = p.dmc.neighbourRefresh ∧
    (settleN k p).dmc.actThreshold = p.dmc.actThreshold ∧ (settleN k p).dmc.hostRefused = p.dmc.hostRefused ∧
    (settleN k p).dmc.training = p.dmc.training ∧ (settleN k p).dmc.initDone = p.dmc.initDone ∧
    (settleN k p).dmc.act = p.dmc.act ∧ (settleN k p).dmc.refreshDebt = p.dmc.refreshDebt ∧
    (settleN k p).dmc.promoted = p.dmc.promoted ∧ (settleN k p).hostif.linkUp = p.hostif.linkUp ∧
    (settleN k p).hostif.rate = p.hostif.rate ∧ (settleN k p).hostif.width = p.hostif.width ∧
    (settleN k p).hostif.cxl = p.hostif.cxl ∧ (settleN k p).hostif.cacheEn = p.hostif.cacheEn ∧
    (settleN k p).hostif.linkDownCount = p.hostif.linkDownCount ∧
    (settleN k p).hostif.droppedWrites = p.hostif.droppedWrites ∧ (settleN k p).hostif.droppedReads = p.hostif.droppedReads ∧
    (settleN k p).hostif.bar2Refused = p.hostif.bar2Refused ∧ (settleN k p).hostif.hdmCommitted = p.hostif.hdmCommitted ∧
    (settleN k p).hostif.hdmBase = p.hostif.hdmBase ∧ (settleN k p).hostif.hdmError = p.hostif.hdmError ∧
    (settleN k p).hostif.requests = p.hostif.requests ∧ (settleN k p).hostif.nextRequest = p.hostif.nextRequest ∧
    (settleN k p).hostif.answers = p.hostif.answers ∧ (settleN k p).regs.shadows = p.regs.shadows ∧
    (settleN k p).regs.resetBusy = p.regs.resetBusy ∧ (settleN k p).regs.resetStatus = p.regs.resetStatus ∧
    (settleN k p).regs.resetSession = p.regs.resetSession ∧ (settleN k p).regs.resetInst = p.regs.resetInst ∧
    (settleN k p).regs.resetType = p.regs.resetType := by
  induction k generalizing p with
  | zero => simp [settleN]
  | succ k ih => simp [settleN, ih]

@[simp] theorem settle_parts (p : Piece) :
    (settle p).transport.state = p.transport.state ∧ (settle p).transport.fwVersion = p.transport.fwVersion ∧
    (settle p).transport.heartbeat = p.transport.heartbeat ∧ (settle p).transport.restarts = p.transport.restarts ∧
    (settle p).transport.epochs = p.transport.epochs ∧ (settle p).transport.lastServed = p.transport.lastServed ∧
    (settle p).transport.claims = p.transport.claims ∧ (settle p).transport.nextOrder = p.transport.nextOrder ∧
    (settle p).transport.locks = p.transport.locks ∧ (settle p).transport.lockNodes = p.transport.lockNodes ∧
    (settle p).transport.badRelease = p.transport.badRelease ∧
    (settle p).transport.forcedRelease = p.transport.forcedRelease ∧ (settle p).transport.raised = p.transport.raised ∧
    (settle p).dmc.frozen = p.dmc.frozen ∧ (settle p).dmc.selfRefresh = p.dmc.selfRefresh ∧
    (settle p).dmc.freezeCause = p.dmc.freezeCause ∧ (settle p).dmc.chUp = p.dmc.chUp ∧ (settle p).dmc.speed = p.dmc.speed ∧
    (settle p).dmc.gibPerChannel = p.dmc.gibPerChannel ∧ (settle p).dmc.rdimm = p.dmc.rdimm ∧
    (settle p).dmc.ranks = p.dmc.ranks ∧ (settle p).dmc.ceCount = p.dmc.ceCount ∧ (settle p).dmc.ueCount = p.dmc.ueCount ∧
    (settle p).dmc.freezeAddr = p.dmc.freezeAddr ∧ (settle p).dmc.lastCeAddr = p.dmc.lastCeAddr ∧
    (settle p).dmc.panicCount = p.dmc.panicCount ∧ (settle p).dmc.panicActive = p.dmc.panicActive ∧
    (settle p).dmc.refreshForced = p.dmc.refreshForced ∧ (settle p).dmc.neighbourRefresh = p.dmc.neighbourRefresh ∧
    (settle p).dmc.actThreshold = p.dmc.actThreshold ∧ (settle p).dmc.hostRefused = p.dmc.hostRefused ∧
    (settle p).dmc.training = p.dmc.training ∧ (settle p).dmc.initDone = p.dmc.initDone ∧ (settle p).dmc.act = p.dmc.act ∧
    (settle p).dmc.refreshDebt = p.dmc.refreshDebt ∧ (settle p).dmc.promoted = p.dmc.promoted ∧
    (settle p).hostif.linkUp = p.hostif.linkUp ∧ (settle p).hostif.rate = p.hostif.rate ∧
    (settle p).hostif.width = p.hostif.width ∧ (settle p).hostif.cxl = p.hostif.cxl ∧
    (settle p).hostif.cacheEn = p.hostif.cacheEn ∧ (settle p).hostif.linkDownCount = p.hostif.linkDownCount ∧
    (settle p).hostif.droppedWrites = p.hostif.droppedWrites ∧ (settle p).hostif.droppedReads = p.hostif.droppedReads ∧
    (settle p).hostif.bar2Refused = p.hostif.bar2Refused ∧ (settle p).hostif.hdmCommitted = p.hostif.hdmCommitted ∧
    (settle p).hostif.hdmBase = p.hostif.hdmBase ∧ (settle p).hostif.hdmError = p.hostif.hdmError ∧
    (settle p).hostif.requests = p.hostif.requests ∧ (settle p).hostif.nextRequest = p.hostif.nextRequest ∧
    (settle p).hostif.answers = p.hostif.answers ∧ (settle p).regs.shadows = p.regs.shadows ∧
    (settle p).regs.resetBusy = p.regs.resetBusy ∧ (settle p).regs.resetStatus = p.regs.resetStatus ∧
    (settle p).regs.resetSession = p.regs.resetSession ∧ (settle p).regs.resetInst = p.regs.resetInst ∧
    (settle p).regs.resetType = p.regs.resetType := by
  and_intros <;> simp [settle]

@[simp] theorem noteEffect_parts (n : Nat) (p : Piece) :
    (noteEffect n p).transport.state = p.transport.state ∧ (noteEffect n p).transport.fwVersion = p.transport.fwVersion ∧
    (noteEffect n p).transport.heartbeat = p.transport.heartbeat ∧
    (noteEffect n p).transport.restarts = p.transport.restarts ∧ (noteEffect n p).transport.epochs = p.transport.epochs ∧
    (noteEffect n p).transport.lastServed = p.transport.lastServed ∧ (noteEffect n p).transport.claims = p.transport.claims ∧
    (noteEffect n p).transport.nextOrder = p.transport.nextOrder ∧ (noteEffect n p).transport.locks = p.transport.locks ∧
    (noteEffect n p).transport.lockNodes = p.transport.lockNodes ∧
    (noteEffect n p).transport.badRelease = p.transport.badRelease ∧
    (noteEffect n p).transport.forcedRelease = p.transport.forcedRelease ∧
    (noteEffect n p).transport.raised = p.transport.raised ∧ (noteEffect n p).transport.sessions = p.transport.sessions ∧
    (noteEffect n p).transport.channels = p.transport.channels ∧ (noteEffect n p).transport.cmdsDone = p.transport.cmdsDone ∧
    (noteEffect n p).transport.flights = p.transport.flights := by
  and_intros <;> simp [noteEffect]

@[simp] theorem finish_parts (f : Flight) (st : Nat) (rs : List Nat) (p : Piece) :
    (finish f st rs p).transport.state = p.transport.state ∧ (finish f st rs p).transport.fwVersion = p.transport.fwVersion ∧
    (finish f st rs p).transport.heartbeat = p.transport.heartbeat ∧
    (finish f st rs p).transport.restarts = p.transport.restarts ∧ (finish f st rs p).transport.epochs = p.transport.epochs ∧
    (finish f st rs p).transport.lastServed = p.transport.lastServed ∧
    (finish f st rs p).transport.claims = p.transport.claims ∧
    (finish f st rs p).transport.nextOrder = p.transport.nextOrder ∧ (finish f st rs p).transport.locks = p.transport.locks ∧
    (finish f st rs p).transport.lockNodes = p.transport.lockNodes ∧
    (finish f st rs p).transport.badRelease = p.transport.badRelease ∧
    (finish f st rs p).transport.forcedRelease = p.transport.forcedRelease ∧
    (finish f st rs p).transport.raised = p.transport.raised ∧ (finish f st rs p).dmc.frozen = p.dmc.frozen ∧
    (finish f st rs p).dmc.selfRefresh = p.dmc.selfRefresh ∧ (finish f st rs p).dmc.freezeCause = p.dmc.freezeCause ∧
    (finish f st rs p).dmc.chUp = p.dmc.chUp ∧ (finish f st rs p).dmc.speed = p.dmc.speed ∧
    (finish f st rs p).dmc.gibPerChannel = p.dmc.gibPerChannel ∧ (finish f st rs p).dmc.rdimm = p.dmc.rdimm ∧
    (finish f st rs p).dmc.ranks = p.dmc.ranks ∧ (finish f st rs p).dmc.ceCount = p.dmc.ceCount ∧
    (finish f st rs p).dmc.ueCount = p.dmc.ueCount ∧ (finish f st rs p).dmc.freezeAddr = p.dmc.freezeAddr ∧
    (finish f st rs p).dmc.lastCeAddr = p.dmc.lastCeAddr ∧ (finish f st rs p).dmc.panicCount = p.dmc.panicCount ∧
    (finish f st rs p).dmc.panicActive = p.dmc.panicActive ∧ (finish f st rs p).dmc.refreshForced = p.dmc.refreshForced ∧
    (finish f st rs p).dmc.neighbourRefresh = p.dmc.neighbourRefresh ∧
    (finish f st rs p).dmc.actThreshold = p.dmc.actThreshold ∧ (finish f st rs p).dmc.hostRefused = p.dmc.hostRefused ∧
    (finish f st rs p).dmc.training = p.dmc.training ∧ (finish f st rs p).dmc.initDone = p.dmc.initDone ∧
    (finish f st rs p).dmc.act = p.dmc.act ∧ (finish f st rs p).dmc.refreshDebt = p.dmc.refreshDebt ∧
    (finish f st rs p).dmc.promoted = p.dmc.promoted ∧ (finish f st rs p).hostif.linkUp = p.hostif.linkUp ∧
    (finish f st rs p).hostif.rate = p.hostif.rate ∧ (finish f st rs p).hostif.width = p.hostif.width ∧
    (finish f st rs p).hostif.cxl = p.hostif.cxl ∧ (finish f st rs p).hostif.cacheEn = p.hostif.cacheEn ∧
    (finish f st rs p).hostif.linkDownCount = p.hostif.linkDownCount ∧
    (finish f st rs p).hostif.droppedWrites = p.hostif.droppedWrites ∧
    (finish f st rs p).hostif.droppedReads = p.hostif.droppedReads ∧
    (finish f st rs p).hostif.bar2Refused = p.hostif.bar2Refused ∧
    (finish f st rs p).hostif.hdmCommitted = p.hostif.hdmCommitted ∧ (finish f st rs p).hostif.hdmBase = p.hostif.hdmBase ∧
    (finish f st rs p).hostif.hdmError = p.hostif.hdmError ∧ (finish f st rs p).hostif.requests = p.hostif.requests ∧
    (finish f st rs p).hostif.nextRequest = p.hostif.nextRequest ∧ (finish f st rs p).hostif.answers = p.hostif.answers ∧
    (finish f st rs p).regs.shadows = p.regs.shadows ∧ (finish f st rs p).regs.resetBusy = p.regs.resetBusy ∧
    (finish f st rs p).regs.resetStatus = p.regs.resetStatus ∧ (finish f st rs p).regs.resetSession = p.regs.resetSession ∧
    (finish f st rs p).regs.resetInst = p.regs.resetInst ∧ (finish f st rs p).regs.resetType = p.regs.resetType := by
  and_intros <;> (simp only [finish, when]; repeat' (first | (simp; done) | split))

@[simp] theorem finishWaiting_parts (k : WaitKind) (i st : Nat) (g : List Nat → List Nat) (p : Piece) :
    (finishWaiting k i st g p).transport.state = p.transport.state ∧
    (finishWaiting k i st g p).transport.fwVersion = p.transport.fwVersion ∧
    (finishWaiting k i st g p).transport.heartbeat = p.transport.heartbeat ∧
    (finishWaiting k i st g p).transport.restarts = p.transport.restarts ∧
    (finishWaiting k i st g p).transport.epochs = p.transport.epochs ∧
    (finishWaiting k i st g p).transport.lastServed = p.transport.lastServed ∧
    (finishWaiting k i st g p).transport.claims = p.transport.claims ∧
    (finishWaiting k i st g p).transport.nextOrder = p.transport.nextOrder ∧
    (finishWaiting k i st g p).transport.locks = p.transport.locks ∧
    (finishWaiting k i st g p).transport.lockNodes = p.transport.lockNodes ∧
    (finishWaiting k i st g p).transport.badRelease = p.transport.badRelease ∧
    (finishWaiting k i st g p).transport.forcedRelease = p.transport.forcedRelease ∧
    (finishWaiting k i st g p).transport.raised = p.transport.raised ∧ (finishWaiting k i st g p).dmc.frozen = p.dmc.frozen ∧
    (finishWaiting k i st g p).dmc.selfRefresh = p.dmc.selfRefresh ∧
    (finishWaiting k i st g p).dmc.freezeCause = p.dmc.freezeCause ∧ (finishWaiting k i st g p).dmc.chUp = p.dmc.chUp ∧
    (finishWaiting k i st g p).dmc.speed = p.dmc.speed ∧ (finishWaiting k i st g p).dmc.gibPerChannel = p.dmc.gibPerChannel ∧
    (finishWaiting k i st g p).dmc.rdimm = p.dmc.rdimm ∧ (finishWaiting k i st g p).dmc.ranks = p.dmc.ranks ∧
    (finishWaiting k i st g p).dmc.ceCount = p.dmc.ceCount ∧ (finishWaiting k i st g p).dmc.ueCount = p.dmc.ueCount ∧
    (finishWaiting k i st g p).dmc.freezeAddr = p.dmc.freezeAddr ∧
    (finishWaiting k i st g p).dmc.lastCeAddr = p.dmc.lastCeAddr ∧
    (finishWaiting k i st g p).dmc.panicCount = p.dmc.panicCount ∧
    (finishWaiting k i st g p).dmc.panicActive = p.dmc.panicActive ∧
    (finishWaiting k i st g p).dmc.refreshForced = p.dmc.refreshForced ∧
    (finishWaiting k i st g p).dmc.neighbourRefresh = p.dmc.neighbourRefresh ∧
    (finishWaiting k i st g p).dmc.actThreshold = p.dmc.actThreshold ∧
    (finishWaiting k i st g p).dmc.hostRefused = p.dmc.hostRefused ∧
    (finishWaiting k i st g p).dmc.training = p.dmc.training ∧ (finishWaiting k i st g p).dmc.initDone = p.dmc.initDone ∧
    (finishWaiting k i st g p).dmc.act = p.dmc.act ∧ (finishWaiting k i st g p).dmc.refreshDebt = p.dmc.refreshDebt ∧
    (finishWaiting k i st g p).dmc.promoted = p.dmc.promoted ∧ (finishWaiting k i st g p).hostif.linkUp = p.hostif.linkUp ∧
    (finishWaiting k i st g p).hostif.rate = p.hostif.rate ∧ (finishWaiting k i st g p).hostif.width = p.hostif.width ∧
    (finishWaiting k i st g p).hostif.cxl = p.hostif.cxl ∧ (finishWaiting k i st g p).hostif.cacheEn = p.hostif.cacheEn ∧
    (finishWaiting k i st g p).hostif.linkDownCount = p.hostif.linkDownCount ∧
    (finishWaiting k i st g p).hostif.droppedWrites = p.hostif.droppedWrites ∧
    (finishWaiting k i st g p).hostif.droppedReads = p.hostif.droppedReads ∧
    (finishWaiting k i st g p).hostif.bar2Refused = p.hostif.bar2Refused ∧
    (finishWaiting k i st g p).hostif.hdmCommitted = p.hostif.hdmCommitted ∧
    (finishWaiting k i st g p).hostif.hdmBase = p.hostif.hdmBase ∧
    (finishWaiting k i st g p).hostif.hdmError = p.hostif.hdmError ∧
    (finishWaiting k i st g p).hostif.requests = p.hostif.requests ∧
    (finishWaiting k i st g p).hostif.nextRequest = p.hostif.nextRequest ∧
    (finishWaiting k i st g p).hostif.answers = p.hostif.answers ∧ (finishWaiting k i st g p).regs.shadows = p.regs.shadows ∧
    (finishWaiting k i st g p).regs.resetBusy = p.regs.resetBusy ∧
    (finishWaiting k i st g p).regs.resetStatus = p.regs.resetStatus ∧
    (finishWaiting k i st g p).regs.resetSession = p.regs.resetSession ∧
    (finishWaiting k i st g p).regs.resetInst = p.regs.resetInst ∧
    (finishWaiting k i st g p).regs.resetType = p.regs.resetType := by
  and_intros <;> (simp only [finishWaiting]; split <;> first | simp | (split <;> simp))

@[simp] theorem finishAllWaiting_parts (k : WaitKind) (i st : Nat) (g : List Nat → List Nat) (p : Piece) :
    (finishAllWaiting k i st g p).transport.state = p.transport.state ∧
    (finishAllWaiting k i st g p).transport.fwVersion = p.transport.fwVersion ∧
    (finishAllWaiting k i st g p).transport.heartbeat = p.transport.heartbeat ∧
    (finishAllWaiting k i st g p).transport.restarts = p.transport.restarts ∧
    (finishAllWaiting k i st g p).transport.epochs = p.transport.epochs ∧
    (finishAllWaiting k i st g p).transport.lastServed = p.transport.lastServed ∧
    (finishAllWaiting k i st g p).transport.claims = p.transport.claims ∧
    (finishAllWaiting k i st g p).transport.nextOrder = p.transport.nextOrder ∧
    (finishAllWaiting k i st g p).transport.locks = p.transport.locks ∧
    (finishAllWaiting k i st g p).transport.lockNodes = p.transport.lockNodes ∧
    (finishAllWaiting k i st g p).transport.badRelease = p.transport.badRelease ∧
    (finishAllWaiting k i st g p).transport.forcedRelease = p.transport.forcedRelease ∧
    (finishAllWaiting k i st g p).transport.raised = p.transport.raised ∧
    (finishAllWaiting k i st g p).dmc.frozen = p.dmc.frozen ∧
    (finishAllWaiting k i st g p).dmc.selfRefresh = p.dmc.selfRefresh ∧
    (finishAllWaiting k i st g p).dmc.freezeCause = p.dmc.freezeCause ∧ (finishAllWaiting k i st g p).dmc.chUp = p.dmc.chUp ∧
    (finishAllWaiting k i st g p).dmc.speed = p.dmc.speed ∧
    (finishAllWaiting k i st g p).dmc.gibPerChannel = p.dmc.gibPerChannel ∧
    (finishAllWaiting k i st g p).dmc.rdimm = p.dmc.rdimm ∧ (finishAllWaiting k i st g p).dmc.ranks = p.dmc.ranks ∧
    (finishAllWaiting k i st g p).dmc.ceCount = p.dmc.ceCount ∧ (finishAllWaiting k i st g p).dmc.ueCount = p.dmc.ueCount ∧
    (finishAllWaiting k i st g p).dmc.freezeAddr = p.dmc.freezeAddr ∧
    (finishAllWaiting k i st g p).dmc.lastCeAddr = p.dmc.lastCeAddr ∧
    (finishAllWaiting k i st g p).dmc.panicCount = p.dmc.panicCount ∧
    (finishAllWaiting k i st g p).dmc.panicActive = p.dmc.panicActive ∧
    (finishAllWaiting k i st g p).dmc.refreshForced = p.dmc.refreshForced ∧
    (finishAllWaiting k i st g p).dmc.neighbourRefresh = p.dmc.neighbourRefresh ∧
    (finishAllWaiting k i st g p).dmc.actThreshold = p.dmc.actThreshold ∧
    (finishAllWaiting k i st g p).dmc.hostRefused = p.dmc.hostRefused ∧
    (finishAllWaiting k i st g p).dmc.training = p.dmc.training ∧
    (finishAllWaiting k i st g p).dmc.initDone = p.dmc.initDone ∧ (finishAllWaiting k i st g p).dmc.act = p.dmc.act ∧
    (finishAllWaiting k i st g p).dmc.refreshDebt = p.dmc.refreshDebt ∧
    (finishAllWaiting k i st g p).dmc.promoted = p.dmc.promoted ∧
    (finishAllWaiting k i st g p).hostif.linkUp = p.hostif.linkUp ∧
    (finishAllWaiting k i st g p).hostif.rate = p.hostif.rate ∧ (finishAllWaiting k i st g p).hostif.width = p.hostif.width ∧
    (finishAllWaiting k i st g p).hostif.cxl = p.hostif.cxl ∧
    (finishAllWaiting k i st g p).hostif.cacheEn = p.hostif.cacheEn ∧
    (finishAllWaiting k i st g p).hostif.linkDownCount = p.hostif.linkDownCount ∧
    (finishAllWaiting k i st g p).hostif.droppedWrites = p.hostif.droppedWrites ∧
    (finishAllWaiting k i st g p).hostif.droppedReads = p.hostif.droppedReads ∧
    (finishAllWaiting k i st g p).hostif.bar2Refused = p.hostif.bar2Refused ∧
    (finishAllWaiting k i st g p).hostif.hdmCommitted = p.hostif.hdmCommitted ∧
    (finishAllWaiting k i st g p).hostif.hdmBase = p.hostif.hdmBase ∧
    (finishAllWaiting k i st g p).hostif.hdmError = p.hostif.hdmError ∧
    (finishAllWaiting k i st g p).hostif.requests = p.hostif.requests ∧
    (finishAllWaiting k i st g p).hostif.nextRequest = p.hostif.nextRequest ∧
    (finishAllWaiting k i st g p).hostif.answers = p.hostif.answers ∧
    (finishAllWaiting k i st g p).regs.shadows = p.regs.shadows ∧
    (finishAllWaiting k i st g p).regs.resetBusy = p.regs.resetBusy ∧
    (finishAllWaiting k i st g p).regs.resetStatus = p.regs.resetStatus ∧
    (finishAllWaiting k i st g p).regs.resetSession = p.regs.resetSession ∧
    (finishAllWaiting k i st g p).regs.resetInst = p.regs.resetInst ∧
    (finishAllWaiting k i st g p).regs.resetType = p.regs.resetType := by
  unfold finishAllWaiting
  exact ⟨foldl_same (·.transport.state) _ (fun p _ => by simp) _ p, foldl_same (·.transport.fwVersion) _ (fun p _ => by simp) _ p, foldl_same (·.transport.heartbeat) _ (fun p _ => by simp) _ p, foldl_same (·.transport.restarts) _ (fun p _ => by simp) _ p, foldl_same (·.transport.epochs) _ (fun p _ => by simp) _ p, foldl_same (·.transport.lastServed) _ (fun p _ => by simp) _ p, foldl_same (·.transport.claims) _ (fun p _ => by simp) _ p, foldl_same (·.transport.nextOrder) _ (fun p _ => by simp) _ p, foldl_same (·.transport.locks) _ (fun p _ => by simp) _ p, foldl_same (·.transport.lockNodes) _ (fun p _ => by simp) _ p, foldl_same (·.transport.badRelease) _ (fun p _ => by simp) _ p, foldl_same (·.transport.forcedRelease) _ (fun p _ => by simp) _ p, foldl_same (·.transport.raised) _ (fun p _ => by simp) _ p, foldl_same (·.dmc.frozen) _ (fun p _ => by simp) _ p, foldl_same (·.dmc.selfRefresh) _ (fun p _ => by simp) _ p, foldl_same (·.dmc.freezeCause) _ (fun p _ => by simp) _ p, foldl_same (·.dmc.chUp) _ (fun p _ => by simp) _ p, foldl_same (·.dmc.speed) _ (fun p _ => by simp) _ p, foldl_same (·.dmc.gibPerChannel) _ (fun p _ => by simp) _ p, foldl_same (·.dmc.rdimm) _ (fun p _ => by simp) _ p, foldl_same (·.dmc.ranks) _ (fun p _ => by simp) _ p, foldl_same (·.dmc.ceCount) _ (fun p _ => by simp) _ p, foldl_same (·.dmc.ueCount) _ (fun p _ => by simp) _ p, foldl_same (·.dmc.freezeAddr) _ (fun p _ => by simp) _ p, foldl_same (·.dmc.lastCeAddr) _ (fun p _ => by simp) _ p, foldl_same (·.dmc.panicCount) _ (fun p _ => by simp) _ p, foldl_same (·.dmc.panicActive) _ (fun p _ => by simp) _ p, foldl_same (·.dmc.refreshForced) _ (fun p _ => by simp) _ p, foldl_same (·.dmc.neighbourRefresh) _ (fun p _ => by simp) _ p, foldl_same (·.dmc.actThreshold) _ (fun p _ => by simp) _ p, foldl_same (·.dmc.hostRefused) _ (fun p _ => by simp) _ p, foldl_same (·.dmc.training) _ (fun p _ => by simp) _ p, foldl_same (·.dmc.initDone) _ (fun p _ => by simp) _ p, foldl_same (·.dmc.act) _ (fun p _ => by simp) _ p, foldl_same (·.dmc.refreshDebt) _ (fun p _ => by simp) _ p, foldl_same (·.dmc.promoted) _ (fun p _ => by simp) _ p, foldl_same (·.hostif.linkUp) _ (fun p _ => by simp) _ p, foldl_same (·.hostif.rate) _ (fun p _ => by simp) _ p, foldl_same (·.hostif.width) _ (fun p _ => by simp) _ p, foldl_same (·.hostif.cxl) _ (fun p _ => by simp) _ p, foldl_same (·.hostif.cacheEn) _ (fun p _ => by simp) _ p, foldl_same (·.hostif.linkDownCount) _ (fun p _ => by simp) _ p, foldl_same (·.hostif.droppedWrites) _ (fun p _ => by simp) _ p, foldl_same (·.hostif.droppedReads) _ (fun p _ => by simp) _ p, foldl_same (·.hostif.bar2Refused) _ (fun p _ => by simp) _ p, foldl_same (·.hostif.hdmCommitted) _ (fun p _ => by simp) _ p, foldl_same (·.hostif.hdmBase) _ (fun p _ => by simp) _ p, foldl_same (·.hostif.hdmError) _ (fun p _ => by simp) _ p, foldl_same (·.hostif.requests) _ (fun p _ => by simp) _ p, foldl_same (·.hostif.nextRequest) _ (fun p _ => by simp) _ p, foldl_same (·.hostif.answers) _ (fun p _ => by simp) _ p, foldl_same (·.regs.shadows) _ (fun p _ => by simp) _ p, foldl_same (·.regs.resetBusy) _ (fun p _ => by simp) _ p, foldl_same (·.regs.resetStatus) _ (fun p _ => by simp) _ p, foldl_same (·.regs.resetSession) _ (fun p _ => by simp) _ p, foldl_same (·.regs.resetInst) _ (fun p _ => by simp) _ p, foldl_same (·.regs.resetType) _ (fun p _ => by simp) _ p⟩

@[simp] theorem failCheck_parts (f : Flight) (st : Nat) (d : Bool) (p : Piece) :
    (failCheck f st d p).transport.state = p.transport.state ∧
    (failCheck f st d p).transport.fwVersion = p.transport.fwVersion ∧
    (failCheck f st d p).transport.heartbeat = p.transport.heartbeat ∧
    (failCheck f st d p).transport.restarts = p.transport.restarts ∧
    (failCheck f st d p).transport.epochs = p.transport.epochs ∧
    (failCheck f st d p).transport.lastServed = p.transport.lastServed ∧
    (failCheck f st d p).transport.claims = p.transport.claims ∧
    (failCheck f st d p).transport.nextOrder = p.transport.nextOrder ∧
    (failCheck f st d p).transport.locks = p.transport.locks ∧
    (failCheck f st d p).transport.lockNodes = p.transport.lockNodes ∧
    (failCheck f st d p).transport.badRelease = p.transport.badRelease ∧
    (failCheck f st d p).transport.forcedRelease = p.transport.forcedRelease ∧
    (failCheck f st d p).transport.raised = p.transport.raised ∧ (failCheck f st d p).dmc.frozen = p.dmc.frozen ∧
    (failCheck f st d p).dmc.selfRefresh = p.dmc.selfRefresh ∧ (failCheck f st d p).dmc.freezeCause = p.dmc.freezeCause ∧
    (failCheck f st d p).dmc.chUp = p.dmc.chUp ∧ (failCheck f st d p).dmc.speed = p.dmc.speed ∧
    (failCheck f st d p).dmc.gibPerChannel = p.dmc.gibPerChannel ∧ (failCheck f st d p).dmc.rdimm = p.dmc.rdimm ∧
    (failCheck f st d p).dmc.ranks = p.dmc.ranks ∧ (failCheck f st d p).dmc.ceCount = p.dmc.ceCount ∧
    (failCheck f st d p).dmc.ueCount = p.dmc.ueCount ∧ (failCheck f st d p).dmc.freezeAddr = p.dmc.freezeAddr ∧
    (failCheck f st d p).dmc.lastCeAddr = p.dmc.lastCeAddr ∧ (failCheck f st d p).dmc.panicCount = p.dmc.panicCount ∧
    (failCheck f st d p).dmc.panicActive = p.dmc.panicActive ∧ (failCheck f st d p).dmc.refreshForced = p.dmc.refreshForced ∧
    (failCheck f st d p).dmc.neighbourRefresh = p.dmc.neighbourRefresh ∧
    (failCheck f st d p).dmc.actThreshold = p.dmc.actThreshold ∧ (failCheck f st d p).dmc.hostRefused = p.dmc.hostRefused ∧
    (failCheck f st d p).dmc.training = p.dmc.training ∧ (failCheck f st d p).dmc.initDone = p.dmc.initDone ∧
    (failCheck f st d p).dmc.act = p.dmc.act ∧ (failCheck f st d p).dmc.refreshDebt = p.dmc.refreshDebt ∧
    (failCheck f st d p).dmc.promoted = p.dmc.promoted ∧ (failCheck f st d p).hostif.linkUp = p.hostif.linkUp ∧
    (failCheck f st d p).hostif.rate = p.hostif.rate ∧ (failCheck f st d p).hostif.width = p.hostif.width ∧
    (failCheck f st d p).hostif.cxl = p.hostif.cxl ∧ (failCheck f st d p).hostif.cacheEn = p.hostif.cacheEn ∧
    (failCheck f st d p).hostif.linkDownCount = p.hostif.linkDownCount ∧
    (failCheck f st d p).hostif.droppedWrites = p.hostif.droppedWrites ∧
    (failCheck f st d p).hostif.droppedReads = p.hostif.droppedReads ∧
    (failCheck f st d p).hostif.bar2Refused = p.hostif.bar2Refused ∧
    (failCheck f st d p).hostif.hdmCommitted = p.hostif.hdmCommitted ∧
    (failCheck f st d p).hostif.hdmBase = p.hostif.hdmBase ∧ (failCheck f st d p).hostif.hdmError = p.hostif.hdmError ∧
    (failCheck f st d p).hostif.requests = p.hostif.requests ∧
    (failCheck f st d p).hostif.nextRequest = p.hostif.nextRequest ∧ (failCheck f st d p).hostif.answers = p.hostif.answers ∧
    (failCheck f st d p).regs.shadows = p.regs.shadows ∧ (failCheck f st d p).regs.resetBusy = p.regs.resetBusy ∧
    (failCheck f st d p).regs.resetStatus = p.regs.resetStatus ∧
    (failCheck f st d p).regs.resetSession = p.regs.resetSession ∧ (failCheck f st d p).regs.resetInst = p.regs.resetInst ∧
    (failCheck f st d p).regs.resetType = p.regs.resetType := by
  and_intros <;> simp [failCheck]

@[simp] theorem enroll_parts (f : Flight) (p : Piece) :
    (enroll f p).transport.state = p.transport.state ∧ (enroll f p).transport.fwVersion = p.transport.fwVersion ∧
    (enroll f p).transport.heartbeat = p.transport.heartbeat ∧ (enroll f p).transport.restarts = p.transport.restarts ∧
    (enroll f p).transport.epochs = p.transport.epochs ∧ (enroll f p).transport.lastServed = p.transport.lastServed ∧
    (enroll f p).transport.claims = p.transport.claims ∧ (enroll f p).transport.locks = p.transport.locks ∧
    (enroll f p).transport.lockNodes = p.transport.lockNodes ∧ (enroll f p).transport.badRelease = p.transport.badRelease ∧
    (enroll f p).transport.forcedRelease = p.transport.forcedRelease ∧ (enroll f p).transport.raised = p.transport.raised ∧
    (enroll f p).transport.sessions = p.transport.sessions ∧ (enroll f p).transport.channels = p.transport.channels ∧
    (enroll f p).transport.cmdsDone = p.transport.cmdsDone ∧ (enroll f p).transport.lastEffect = p.transport.lastEffect := by
  and_intros <;> simp [enroll]

end Sys2Proof.Machine
end

