-- ==== Sys2Proof/Laws/PanelFrames.lean ====
section
/-! SUPPORT. The frames of the operations that families of commands share. -/

namespace Sys2Proof.Machine

set_option linter.all false

@[simp] theorem draw_frame (p : Piece) :
    (draw p).1.transport = p.transport ∧ (draw p).1.regs = p.regs ∧ (draw p).1.safety = p.safety ∧ (draw p).1.boot = p.boot ∧
    (draw p).1.clocks = p.clocks ∧ (draw p).1.ledger = p.ledger ∧ (draw p).1.monitor = p.monitor ∧
    (draw p).1.hostif = p.hostif ∧ (draw p).1.dmc = p.dmc ∧ (draw p).1.stream = p.stream ∧ (draw p).1.check = p.check ∧
    (draw p).1.net = p.net ∧ (draw p).1.stamp = p.stamp ∧ (draw p).1.fabric = p.fabric ∧ (draw p).1.rfin = p.rfin ∧
    (draw p).1.chan = p.chan ∧ (draw p).1.xform = p.xform ∧ (draw p).1.density = p.density ∧ (draw p).1.trigger = p.trigger ∧
    (draw p).1.acq = p.acq ∧ (draw p).1.gythen = p.gythen ∧ (draw p).1.tally = p.tally ∧ (draw p).1.cal = p.cal ∧
    (draw p).1.scan = p.scan ∧ (draw p).1.out = p.out := by
  and_intros <;> simp [draw]

@[simp] theorem writeFirmwareEntry_frame (t : Nat) (b : Bool) (p : Piece) :
    (writeFirmwareEntry t b p).boot = p.boot ∧ (writeFirmwareEntry t b p).clocks = p.clocks ∧
    (writeFirmwareEntry t b p).ledger = p.ledger ∧ (writeFirmwareEntry t b p).monitor = p.monitor ∧
    (writeFirmwareEntry t b p).hostif = p.hostif ∧ (writeFirmwareEntry t b p).dmc = p.dmc ∧
    (writeFirmwareEntry t b p).stream = p.stream ∧ (writeFirmwareEntry t b p).check = p.check ∧
    (writeFirmwareEntry t b p).stamp = p.stamp ∧ (writeFirmwareEntry t b p).fabric = p.fabric ∧
    (writeFirmwareEntry t b p).rfin = p.rfin ∧ (writeFirmwareEntry t b p).chan = p.chan ∧
    (writeFirmwareEntry t b p).xform = p.xform ∧ (writeFirmwareEntry t b p).density = p.density ∧
    (writeFirmwareEntry t b p).trigger = p.trigger ∧ (writeFirmwareEntry t b p).acq = p.acq ∧
    (writeFirmwareEntry t b p).gythen = p.gythen ∧ (writeFirmwareEntry t b p).tally = p.tally ∧
    (writeFirmwareEntry t b p).cal = p.cal ∧ (writeFirmwareEntry t b p).scan = p.scan := by
  and_intros <;> simp [writeFirmwareEntry]

@[simp] theorem raiseBoth_frame (v : Nat) (p : Piece) :
    (raiseBoth v p).transport = p.transport ∧ (raiseBoth v p).safety = p.safety ∧ (raiseBoth v p).boot = p.boot ∧
    (raiseBoth v p).clocks = p.clocks ∧ (raiseBoth v p).ledger = p.ledger ∧ (raiseBoth v p).monitor = p.monitor ∧
    (raiseBoth v p).hostif = p.hostif ∧ (raiseBoth v p).dmc = p.dmc ∧ (raiseBoth v p).stream = p.stream ∧
    (raiseBoth v p).check = p.check ∧ (raiseBoth v p).net = p.net ∧ (raiseBoth v p).stamp = p.stamp ∧
    (raiseBoth v p).fabric = p.fabric ∧ (raiseBoth v p).rfin = p.rfin ∧ (raiseBoth v p).chan = p.chan ∧
    (raiseBoth v p).xform = p.xform ∧ (raiseBoth v p).density = p.density ∧ (raiseBoth v p).trigger = p.trigger ∧
    (raiseBoth v p).acq = p.acq ∧ (raiseBoth v p).gythen = p.gythen ∧ (raiseBoth v p).tally = p.tally ∧
    (raiseBoth v p).cal = p.cal ∧ (raiseBoth v p).scan = p.scan ∧ (raiseBoth v p).free = p.free := by
  and_intros <;> simp [raiseBoth]

@[simp] theorem setSteward_frame (st : StewardState) (p : Piece) :
    (setSteward st p).safety = p.safety ∧ (setSteward st p).boot = p.boot ∧ (setSteward st p).clocks = p.clocks ∧
    (setSteward st p).ledger = p.ledger ∧ (setSteward st p).monitor = p.monitor ∧ (setSteward st p).hostif = p.hostif ∧
    (setSteward st p).dmc = p.dmc ∧ (setSteward st p).stream = p.stream ∧ (setSteward st p).check = p.check ∧
    (setSteward st p).net = p.net ∧ (setSteward st p).stamp = p.stamp ∧ (setSteward st p).fabric = p.fabric ∧
    (setSteward st p).rfin = p.rfin ∧ (setSteward st p).chan = p.chan ∧ (setSteward st p).xform = p.xform ∧
    (setSteward st p).density = p.density ∧ (setSteward st p).trigger = p.trigger ∧ (setSteward st p).acq = p.acq ∧
    (setSteward st p).gythen = p.gythen ∧ (setSteward st p).tally = p.tally ∧ (setSteward st p).cal = p.cal ∧
    (setSteward st p).scan = p.scan ∧ (setSteward st p).free = p.free := by
  and_intros <;> (simp only [setSteward, when]; repeat' (first | (simp; done) | split))

@[simp] theorem endInterrupted_frame (p : Piece) :
    (endInterrupted p).safety = p.safety ∧ (endInterrupted p).boot = p.boot ∧ (endInterrupted p).clocks = p.clocks ∧
    (endInterrupted p).ledger = p.ledger ∧ (endInterrupted p).monitor = p.monitor ∧ (endInterrupted p).stream = p.stream ∧
    (endInterrupted p).check = p.check ∧ (endInterrupted p).net = p.net ∧ (endInterrupted p).stamp = p.stamp ∧
    (endInterrupted p).fabric = p.fabric ∧ (endInterrupted p).rfin = p.rfin ∧ (endInterrupted p).chan = p.chan ∧
    (endInterrupted p).xform = p.xform ∧ (endInterrupted p).density = p.density ∧ (endInterrupted p).trigger = p.trigger ∧
    (endInterrupted p).acq = p.acq ∧ (endInterrupted p).gythen = p.gythen ∧ (endInterrupted p).tally = p.tally ∧
    (endInterrupted p).cal = p.cal ∧ (endInterrupted p).scan = p.scan ∧ (endInterrupted p).free = p.free := by
  and_intros <;> (unfold endInterrupted; exact foldl_same _ _ (fun p _ => by repeat' (first | (simp; done) | split)) _ _)

@[simp] theorem setPhase_frame (ph : Phase) (p : Piece) :
    (setPhase ph p).transport = p.transport ∧ (setPhase ph p).regs = p.regs ∧ (setPhase ph p).safety = p.safety ∧
    (setPhase ph p).clocks = p.clocks ∧ (setPhase ph p).ledger = p.ledger ∧ (setPhase ph p).monitor = p.monitor ∧
    (setPhase ph p).hostif = p.hostif ∧ (setPhase ph p).dmc = p.dmc ∧ (setPhase ph p).stream = p.stream ∧
    (setPhase ph p).check = p.check ∧ (setPhase ph p).net = p.net ∧ (setPhase ph p).stamp = p.stamp ∧
    (setPhase ph p).fabric = p.fabric ∧ (setPhase ph p).rfin = p.rfin ∧ (setPhase ph p).chan = p.chan ∧
    (setPhase ph p).xform = p.xform ∧ (setPhase ph p).density = p.density ∧ (setPhase ph p).trigger = p.trigger ∧
    (setPhase ph p).acq = p.acq ∧ (setPhase ph p).gythen = p.gythen ∧ (setPhase ph p).tally = p.tally ∧
    (setPhase ph p).cal = p.cal ∧ (setPhase ph p).scan = p.scan ∧ (setPhase ph p).free = p.free ∧ (setPhase ph p).out = p.out := by
  and_intros <;> simp [setPhase]

@[simp] theorem setStatus_frame (ch : Nat) (w : Channel → Bool) (f : Channel → Channel) (p : Piece) :
    (setStatus ch w f p).safety = p.safety ∧ (setStatus ch w f p).boot = p.boot ∧ (setStatus ch w f p).clocks = p.clocks ∧
    (setStatus ch w f p).ledger = p.ledger ∧ (setStatus ch w f p).monitor = p.monitor ∧
    (setStatus ch w f p).hostif = p.hostif ∧ (setStatus ch w f p).dmc = p.dmc ∧ (setStatus ch w f p).stream = p.stream ∧
    (setStatus ch w f p).check = p.check ∧ (setStatus ch w f p).net = p.net ∧ (setStatus ch w f p).stamp = p.stamp ∧
    (setStatus ch w f p).fabric = p.fabric ∧ (setStatus ch w f p).rfin = p.rfin ∧ (setStatus ch w f p).chan = p.chan ∧
    (setStatus ch w f p).xform = p.xform ∧ (setStatus ch w f p).density = p.density ∧
    (setStatus ch w f p).trigger = p.trigger ∧ (setStatus ch w f p).acq = p.acq ∧ (setStatus ch w f p).gythen = p.gythen ∧
    (setStatus ch w f p).tally = p.tally ∧ (setStatus ch w f p).cal = p.cal ∧ (setStatus ch w f p).scan = p.scan ∧
    (setStatus ch w f p).free = p.free := by
  and_intros <;> (simp only [setStatus, when]; repeat' (first | (simp; done) | split))

@[simp] theorem voidNotices_frame (ch n : Nat) (p : Piece) :
    (voidNotices ch n p).safety = p.safety ∧ (voidNotices ch n p).boot = p.boot ∧ (voidNotices ch n p).clocks = p.clocks ∧
    (voidNotices ch n p).ledger = p.ledger ∧ (voidNotices ch n p).monitor = p.monitor ∧
    (voidNotices ch n p).hostif = p.hostif ∧ (voidNotices ch n p).dmc = p.dmc ∧ (voidNotices ch n p).stream = p.stream ∧
    (voidNotices ch n p).check = p.check ∧ (voidNotices ch n p).net = p.net ∧ (voidNotices ch n p).stamp = p.stamp ∧
    (voidNotices ch n p).fabric = p.fabric ∧ (voidNotices ch n p).rfin = p.rfin ∧ (voidNotices ch n p).chan = p.chan ∧
    (voidNotices ch n p).xform = p.xform ∧ (voidNotices ch n p).density = p.density ∧
    (voidNotices ch n p).trigger = p.trigger ∧ (voidNotices ch n p).acq = p.acq ∧ (voidNotices ch n p).gythen = p.gythen ∧
    (voidNotices ch n p).tally = p.tally ∧ (voidNotices ch n p).cal = p.cal ∧ (voidNotices ch n p).scan = p.scan ∧
    (voidNotices ch n p).free = p.free := by
  and_intros <;> (simp only [voidNotices, when]; repeat' (first | (simp; done) | split))

@[simp] theorem rejectNotice_frame (ch : Nat) (p : Piece) :
    (rejectNotice ch p).safety = p.safety ∧ (rejectNotice ch p).boot = p.boot ∧ (rejectNotice ch p).clocks = p.clocks ∧
    (rejectNotice ch p).ledger = p.ledger ∧ (rejectNotice ch p).monitor = p.monitor ∧ (rejectNotice ch p).hostif = p.hostif ∧
    (rejectNotice ch p).dmc = p.dmc ∧ (rejectNotice ch p).stream = p.stream ∧ (rejectNotice ch p).check = p.check ∧
    (rejectNotice ch p).net = p.net ∧ (rejectNotice ch p).stamp = p.stamp ∧ (rejectNotice ch p).fabric = p.fabric ∧
    (rejectNotice ch p).rfin = p.rfin ∧ (rejectNotice ch p).chan = p.chan ∧ (rejectNotice ch p).xform = p.xform ∧
    (rejectNotice ch p).density = p.density ∧ (rejectNotice ch p).trigger = p.trigger ∧ (rejectNotice ch p).acq = p.acq ∧
    (rejectNotice ch p).gythen = p.gythen ∧ (rejectNotice ch p).tally = p.tally ∧ (rejectNotice ch p).cal = p.cal ∧
    (rejectNotice ch p).scan = p.scan ∧ (rejectNotice ch p).free = p.free := by
  and_intros <;> simp [rejectNotice]

@[simp] theorem bumpEpoch_frame (r : Requester) (p : Piece) :
    (bumpEpoch r p).safety = p.safety ∧ (bumpEpoch r p).boot = p.boot ∧ (bumpEpoch r p).clocks = p.clocks ∧
    (bumpEpoch r p).ledger = p.ledger ∧ (bumpEpoch r p).monitor = p.monitor ∧ (bumpEpoch r p).hostif = p.hostif ∧
    (bumpEpoch r p).dmc = p.dmc ∧ (bumpEpoch r p).stream = p.stream ∧ (bumpEpoch r p).check = p.check ∧
    (bumpEpoch r p).net = p.net ∧ (bumpEpoch r p).stamp = p.stamp ∧ (bumpEpoch r p).fabric = p.fabric ∧
    (bumpEpoch r p).rfin = p.rfin ∧ (bumpEpoch r p).chan = p.chan ∧ (bumpEpoch r p).xform = p.xform ∧
    (bumpEpoch r p).density = p.density ∧ (bumpEpoch r p).trigger = p.trigger ∧ (bumpEpoch r p).acq = p.acq ∧
    (bumpEpoch r p).gythen = p.gythen ∧ (bumpEpoch r p).tally = p.tally ∧ (bumpEpoch r p).cal = p.cal ∧
    (bumpEpoch r p).scan = p.scan ∧ (bumpEpoch r p).free = p.free := by
  and_intros <;> (unfold bumpEpoch; dsimp only; refine (foldl_same _ _ (fun p _ => ?_) _ _).trans ?_ <;> repeat' (first | (simp; done) | split))

@[simp] theorem receiverReset_frame (ch : Nat) (b : Bool) (p : Piece) :
    (receiverReset ch b p).safety = p.safety ∧ (receiverReset ch b p).boot = p.boot ∧
    (receiverReset ch b p).clocks = p.clocks ∧ (receiverReset ch b p).ledger = p.ledger ∧
    (receiverReset ch b p).monitor = p.monitor ∧ (receiverReset ch b p).hostif = p.hostif ∧
    (receiverReset ch b p).dmc = p.dmc ∧ (receiverReset ch b p).stream = p.stream ∧ (receiverReset ch b p).check = p.check ∧
    (receiverReset ch b p).net = p.net ∧ (receiverReset ch b p).stamp = p.stamp ∧ (receiverReset ch b p).fabric = p.fabric ∧
    (receiverReset ch b p).rfin = p.rfin ∧ (receiverReset ch b p).chan = p.chan ∧ (receiverReset ch b p).xform = p.xform ∧
    (receiverReset ch b p).density = p.density ∧ (receiverReset ch b p).trigger = p.trigger ∧
    (receiverReset ch b p).acq = p.acq ∧ (receiverReset ch b p).gythen = p.gythen ∧ (receiverReset ch b p).tally = p.tally ∧
    (receiverReset ch b p).cal = p.cal ∧ (receiverReset ch b p).scan = p.scan ∧ (receiverReset ch b p).free = p.free := by
  and_intros <;> simp [receiverReset]

@[simp] theorem setLock_frame (n o : Nat) (p : Piece) :
    (setLock n o p).regs = p.regs ∧ (setLock n o p).safety = p.safety ∧ (setLock n o p).boot = p.boot ∧
    (setLock n o p).clocks = p.clocks ∧ (setLock n o p).ledger = p.ledger ∧ (setLock n o p).monitor = p.monitor ∧
    (setLock n o p).hostif = p.hostif ∧ (setLock n o p).dmc = p.dmc ∧ (setLock n o p).stream = p.stream ∧
    (setLock n o p).check = p.check ∧ (setLock n o p).net = p.net ∧ (setLock n o p).stamp = p.stamp ∧
    (setLock n o p).fabric = p.fabric ∧ (setLock n o p).rfin = p.rfin ∧ (setLock n o p).chan = p.chan ∧
    (setLock n o p).xform = p.xform ∧ (setLock n o p).density = p.density ∧ (setLock n o p).trigger = p.trigger ∧
    (setLock n o p).acq = p.acq ∧ (setLock n o p).gythen = p.gythen ∧ (setLock n o p).tally = p.tally ∧
    (setLock n o p).cal = p.cal ∧ (setLock n o p).scan = p.scan ∧ (setLock n o p).free = p.free ∧ (setLock n o p).out = p.out := by
  and_intros <;> simp [setLock]

@[simp] theorem countBadRelease_frame (p : Piece) :
    (countBadRelease p).regs = p.regs ∧ (countBadRelease p).safety = p.safety ∧ (countBadRelease p).boot = p.boot ∧
    (countBadRelease p).clocks = p.clocks ∧ (countBadRelease p).ledger = p.ledger ∧ (countBadRelease p).monitor = p.monitor ∧
    (countBadRelease p).hostif = p.hostif ∧ (countBadRelease p).dmc = p.dmc ∧ (countBadRelease p).stream = p.stream ∧
    (countBadRelease p).check = p.check ∧ (countBadRelease p).net = p.net ∧ (countBadRelease p).stamp = p.stamp ∧
    (countBadRelease p).fabric = p.fabric ∧ (countBadRelease p).rfin = p.rfin ∧ (countBadRelease p).chan = p.chan ∧
    (countBadRelease p).xform = p.xform ∧ (countBadRelease p).density = p.density ∧ (countBadRelease p).trigger = p.trigger ∧
    (countBadRelease p).acq = p.acq ∧ (countBadRelease p).gythen = p.gythen ∧ (countBadRelease p).tally = p.tally ∧
    (countBadRelease p).cal = p.cal ∧ (countBadRelease p).scan = p.scan ∧ (countBadRelease p).free = p.free ∧
    (countBadRelease p).out = p.out := by
  and_intros <;> simp [countBadRelease]

@[simp] theorem releaseLocks_frame (f : Nat → Nat → Bool) (p : Piece) :
    (releaseLocks f p).regs = p.regs ∧ (releaseLocks f p).safety = p.safety ∧ (releaseLocks f p).boot = p.boot ∧
    (releaseLocks f p).clocks = p.clocks ∧ (releaseLocks f p).ledger = p.ledger ∧ (releaseLocks f p).monitor = p.monitor ∧
    (releaseLocks f p).hostif = p.hostif ∧ (releaseLocks f p).dmc = p.dmc ∧ (releaseLocks f p).stream = p.stream ∧
    (releaseLocks f p).check = p.check ∧ (releaseLocks f p).net = p.net ∧ (releaseLocks f p).stamp = p.stamp ∧
    (releaseLocks f p).fabric = p.fabric ∧ (releaseLocks f p).rfin = p.rfin ∧ (releaseLocks f p).chan = p.chan ∧
    (releaseLocks f p).xform = p.xform ∧ (releaseLocks f p).density = p.density ∧ (releaseLocks f p).trigger = p.trigger ∧
    (releaseLocks f p).acq = p.acq ∧ (releaseLocks f p).gythen = p.gythen ∧ (releaseLocks f p).tally = p.tally ∧
    (releaseLocks f p).cal = p.cal ∧ (releaseLocks f p).scan = p.scan ∧ (releaseLocks f p).free = p.free ∧
    (releaseLocks f p).out = p.out := by
  and_intros <;> simp [releaseLocks]

@[simp] theorem issueRead_frame (u : ReadUse) (a n : Nat) (p : Piece) :
    (issueRead u a n p).transport = p.transport ∧ (issueRead u a n p).regs = p.regs ∧ (issueRead u a n p).safety = p.safety ∧
    (issueRead u a n p).boot = p.boot ∧ (issueRead u a n p).clocks = p.clocks ∧ (issueRead u a n p).ledger = p.ledger ∧
    (issueRead u a n p).monitor = p.monitor ∧ (issueRead u a n p).dmc = p.dmc ∧ (issueRead u a n p).stream = p.stream ∧
    (issueRead u a n p).check = p.check ∧ (issueRead u a n p).net = p.net ∧ (issueRead u a n p).stamp = p.stamp ∧
    (issueRead u a n p).fabric = p.fabric ∧ (issueRead u a n p).rfin = p.rfin ∧ (issueRead u a n p).chan = p.chan ∧
    (issueRead u a n p).xform = p.xform ∧ (issueRead u a n p).density = p.density ∧ (issueRead u a n p).trigger = p.trigger ∧
    (issueRead u a n p).acq = p.acq ∧ (issueRead u a n p).gythen = p.gythen ∧ (issueRead u a n p).tally = p.tally ∧
    (issueRead u a n p).cal = p.cal ∧ (issueRead u a n p).scan = p.scan ∧ (issueRead u a n p).free = p.free := by
  and_intros <;> simp [issueRead]

@[simp] theorem dropRequest_frame (u : ReadUse) (p : Piece) :
    (dropRequest u p).transport = p.transport ∧ (dropRequest u p).regs = p.regs ∧ (dropRequest u p).safety = p.safety ∧
    (dropRequest u p).boot = p.boot ∧ (dropRequest u p).clocks = p.clocks ∧ (dropRequest u p).ledger = p.ledger ∧
    (dropRequest u p).monitor = p.monitor ∧ (dropRequest u p).dmc = p.dmc ∧ (dropRequest u p).stream = p.stream ∧
    (dropRequest u p).check = p.check ∧ (dropRequest u p).net = p.net ∧ (dropRequest u p).stamp = p.stamp ∧
    (dropRequest u p).fabric = p.fabric ∧ (dropRequest u p).rfin = p.rfin ∧ (dropRequest u p).chan = p.chan ∧
    (dropRequest u p).xform = p.xform ∧ (dropRequest u p).density = p.density ∧ (dropRequest u p).trigger = p.trigger ∧
    (dropRequest u p).acq = p.acq ∧ (dropRequest u p).gythen = p.gythen ∧ (dropRequest u p).tally = p.tally ∧
    (dropRequest u p).cal = p.cal ∧ (dropRequest u p).scan = p.scan ∧ (dropRequest u p).free = p.free ∧
    (dropRequest u p).out = p.out := by
  and_intros <;> (simp only [dropRequest]; split <;> simp)

@[simp] theorem dropAnswer_frame (ch : Nat) (p : Piece) :
    (dropAnswer ch p).transport = p.transport ∧ (dropAnswer ch p).regs = p.regs ∧ (dropAnswer ch p).safety = p.safety ∧
    (dropAnswer ch p).boot = p.boot ∧ (dropAnswer ch p).clocks = p.clocks ∧ (dropAnswer ch p).ledger = p.ledger ∧
    (dropAnswer ch p).monitor = p.monitor ∧ (dropAnswer ch p).dmc = p.dmc ∧ (dropAnswer ch p).stream = p.stream ∧
    (dropAnswer ch p).check = p.check ∧ (dropAnswer ch p).net = p.net ∧ (dropAnswer ch p).stamp = p.stamp ∧
    (dropAnswer ch p).fabric = p.fabric ∧ (dropAnswer ch p).rfin = p.rfin ∧ (dropAnswer ch p).chan = p.chan ∧
    (dropAnswer ch p).xform = p.xform ∧ (dropAnswer ch p).density = p.density ∧ (dropAnswer ch p).trigger = p.trigger ∧
    (dropAnswer ch p).acq = p.acq ∧ (dropAnswer ch p).gythen = p.gythen ∧ (dropAnswer ch p).tally = p.tally ∧
    (dropAnswer ch p).cal = p.cal ∧ (dropAnswer ch p).scan = p.scan ∧ (dropAnswer ch p).free = p.free ∧
    (dropAnswer ch p).out = p.out := by
  and_intros <;> (simp only [dropAnswer]; split <;> simp)

@[simp] theorem fetchFails_frame (ch : Nat) (p : Piece) :
    (fetchFails ch p).safety = p.safety ∧ (fetchFails ch p).boot = p.boot ∧ (fetchFails ch p).clocks = p.clocks ∧
    (fetchFails ch p).ledger = p.ledger ∧ (fetchFails ch p).monitor = p.monitor ∧ (fetchFails ch p).dmc = p.dmc ∧
    (fetchFails ch p).stream = p.stream ∧ (fetchFails ch p).check = p.check ∧ (fetchFails ch p).net = p.net ∧
    (fetchFails ch p).stamp = p.stamp ∧ (fetchFails ch p).fabric = p.fabric ∧ (fetchFails ch p).rfin = p.rfin ∧
    (fetchFails ch p).chan = p.chan ∧ (fetchFails ch p).xform = p.xform ∧ (fetchFails ch p).density = p.density ∧
    (fetchFails ch p).trigger = p.trigger ∧ (fetchFails ch p).acq = p.acq ∧ (fetchFails ch p).gythen = p.gythen ∧
    (fetchFails ch p).tally = p.tally ∧ (fetchFails ch p).cal = p.cal ∧ (fetchFails ch p).scan = p.scan ∧
    (fetchFails ch p).free = p.free := by
  and_intros <;> (simp only [fetchFails]; split <;> simp)

@[simp] theorem takeCommand_frame (n : Notice) (ch : Nat) (bs : Bytes) (p : Piece) :
    (takeCommand n ch bs p).safety = p.safety ∧ (takeCommand n ch bs p).boot = p.boot ∧
    (takeCommand n ch bs p).clocks = p.clocks ∧ (takeCommand n ch bs p).ledger = p.ledger ∧
    (takeCommand n ch bs p).monitor = p.monitor ∧ (takeCommand n ch bs p).stream = p.stream ∧
    (takeCommand n ch bs p).check = p.check ∧ (takeCommand n ch bs p).net = p.net ∧ (takeCommand n ch bs p).stamp = p.stamp ∧
    (takeCommand n ch bs p).fabric = p.fabric ∧ (takeCommand n ch bs p).rfin = p.rfin ∧
    (takeCommand n ch bs p).chan = p.chan ∧ (takeCommand n ch bs p).xform = p.xform ∧
    (takeCommand n ch bs p).density = p.density ∧ (takeCommand n ch bs p).trigger = p.trigger ∧
    (takeCommand n ch bs p).acq = p.acq ∧ (takeCommand n ch bs p).gythen = p.gythen ∧
    (takeCommand n ch bs p).tally = p.tally ∧ (takeCommand n ch bs p).cal = p.cal ∧ (takeCommand n ch bs p).scan = p.scan ∧
    (takeCommand n ch bs p).free = p.free := by
  and_intros <;> (simp only [takeCommand]; split <;> first | simp | (split <;> simp))

@[simp] theorem disableRings_frame (fn : Nat) (p : Piece) :
    (disableRings fn p).regs = p.regs ∧ (disableRings fn p).safety = p.safety ∧ (disableRings fn p).boot = p.boot ∧
    (disableRings fn p).clocks = p.clocks ∧ (disableRings fn p).ledger = p.ledger ∧ (disableRings fn p).monitor = p.monitor ∧
    (disableRings fn p).hostif = p.hostif ∧ (disableRings fn p).dmc = p.dmc ∧ (disableRings fn p).stream = p.stream ∧
    (disableRings fn p).check = p.check ∧ (disableRings fn p).net = p.net ∧ (disableRings fn p).stamp = p.stamp ∧
    (disableRings fn p).fabric = p.fabric ∧ (disableRings fn p).rfin = p.rfin ∧ (disableRings fn p).chan = p.chan ∧
    (disableRings fn p).xform = p.xform ∧ (disableRings fn p).density = p.density ∧ (disableRings fn p).trigger = p.trigger ∧
    (disableRings fn p).acq = p.acq ∧ (disableRings fn p).gythen = p.gythen ∧ (disableRings fn p).tally = p.tally ∧
    (disableRings fn p).cal = p.cal ∧ (disableRings fn p).scan = p.scan ∧ (disableRings fn p).free = p.free ∧
    (disableRings fn p).out = p.out := by
  and_intros <;> simp [disableRings]

@[simp] theorem stopStreams_frame (fn : Nat) (p : Piece) :
    (stopStreams fn p).transport = p.transport ∧ (stopStreams fn p).regs = p.regs ∧ (stopStreams fn p).safety = p.safety ∧
    (stopStreams fn p).boot = p.boot ∧ (stopStreams fn p).clocks = p.clocks ∧ (stopStreams fn p).ledger = p.ledger ∧
    (stopStreams fn p).monitor = p.monitor ∧ (stopStreams fn p).hostif = p.hostif ∧ (stopStreams fn p).dmc = p.dmc ∧
    (stopStreams fn p).check = p.check ∧ (stopStreams fn p).net = p.net ∧ (stopStreams fn p).stamp = p.stamp ∧
    (stopStreams fn p).fabric = p.fabric ∧ (stopStreams fn p).rfin = p.rfin ∧ (stopStreams fn p).chan = p.chan ∧
    (stopStreams fn p).xform = p.xform ∧ (stopStreams fn p).density = p.density ∧ (stopStreams fn p).trigger = p.trigger ∧
    (stopStreams fn p).acq = p.acq ∧ (stopStreams fn p).gythen = p.gythen ∧ (stopStreams fn p).tally = p.tally ∧
    (stopStreams fn p).cal = p.cal ∧ (stopStreams fn p).scan = p.scan ∧ (stopStreams fn p).free = p.free ∧
    (stopStreams fn p).out = p.out := by
  and_intros <;> simp [stopStreams]

@[simp] theorem resetMsix_frame (fn : Nat) (p : Piece) :
    (resetMsix fn p).transport = p.transport ∧ (resetMsix fn p).safety = p.safety ∧ (resetMsix fn p).boot = p.boot ∧
    (resetMsix fn p).clocks = p.clocks ∧ (resetMsix fn p).ledger = p.ledger ∧ (resetMsix fn p).monitor = p.monitor ∧
    (resetMsix fn p).hostif = p.hostif ∧ (resetMsix fn p).dmc = p.dmc ∧ (resetMsix fn p).stream = p.stream ∧
    (resetMsix fn p).check = p.check ∧ (resetMsix fn p).net = p.net ∧ (resetMsix fn p).stamp = p.stamp ∧
    (resetMsix fn p).fabric = p.fabric ∧ (resetMsix fn p).rfin = p.rfin ∧ (resetMsix fn p).chan = p.chan ∧
    (resetMsix fn p).xform = p.xform ∧ (resetMsix fn p).density = p.density ∧ (resetMsix fn p).trigger = p.trigger ∧
    (resetMsix fn p).acq = p.acq ∧ (resetMsix fn p).gythen = p.gythen ∧ (resetMsix fn p).tally = p.tally ∧
    (resetMsix fn p).cal = p.cal ∧ (resetMsix fn p).scan = p.scan ∧ (resetMsix fn p).free = p.free ∧
    (resetMsix fn p).out = p.out := by
  and_intros <;> simp [resetMsix]

@[simp] theorem startDump_frame (c d : Nat) (p : Piece) :
    (startDump c d p).transport = p.transport ∧ (startDump c d p).regs = p.regs ∧ (startDump c d p).boot = p.boot ∧
    (startDump c d p).clocks = p.clocks ∧ (startDump c d p).ledger = p.ledger ∧ (startDump c d p).monitor = p.monitor ∧
    (startDump c d p).hostif = p.hostif ∧ (startDump c d p).dmc = p.dmc ∧ (startDump c d p).stream = p.stream ∧
    (startDump c d p).check = p.check ∧ (startDump c d p).net = p.net ∧ (startDump c d p).stamp = p.stamp ∧
    (startDump c d p).fabric = p.fabric ∧ (startDump c d p).rfin = p.rfin ∧ (startDump c d p).chan = p.chan ∧
    (startDump c d p).xform = p.xform ∧ (startDump c d p).density = p.density ∧ (startDump c d p).trigger = p.trigger ∧
    (startDump c d p).acq = p.acq ∧ (startDump c d p).gythen = p.gythen ∧ (startDump c d p).tally = p.tally ∧
    (startDump c d p).cal = p.cal ∧ (startDump c d p).scan = p.scan ∧ (startDump c d p).free = p.free ∧
    (startDump c d p).out = p.out := by
  and_intros <;> (simp only [startDump]; repeat' (first | (simp; done) | split))

@[simp] theorem freezeDmc_frame (c a : Nat) (p : Piece) :
    (freezeDmc c a p).boot = p.boot ∧ (freezeDmc c a p).clocks = p.clocks ∧ (freezeDmc c a p).ledger = p.ledger ∧
    (freezeDmc c a p).monitor = p.monitor ∧ (freezeDmc c a p).hostif = p.hostif ∧ (freezeDmc c a p).stream = p.stream ∧
    (freezeDmc c a p).check = p.check ∧ (freezeDmc c a p).stamp = p.stamp ∧ (freezeDmc c a p).fabric = p.fabric ∧
    (freezeDmc c a p).rfin = p.rfin ∧ (freezeDmc c a p).chan = p.chan ∧ (freezeDmc c a p).xform = p.xform ∧
    (freezeDmc c a p).density = p.density ∧ (freezeDmc c a p).trigger = p.trigger ∧ (freezeDmc c a p).acq = p.acq ∧
    (freezeDmc c a p).gythen = p.gythen ∧ (freezeDmc c a p).tally = p.tally ∧ (freezeDmc c a p).cal = p.cal ∧
    (freezeDmc c a p).scan = p.scan ∧ (freezeDmc c a p).free = p.free := by
  and_intros <;> (simp only [freezeDmc]; split <;> simp)

@[simp] theorem raiseBoth_parts (v : Nat) (p : Piece) :
    (raiseBoth v p).regs.shadows = p.regs.shadows ∧ (raiseBoth v p).regs.resetBusy = p.regs.resetBusy ∧
    (raiseBoth v p).regs.resetStatus = p.regs.resetStatus ∧ (raiseBoth v p).regs.resetSession = p.regs.resetSession ∧
    (raiseBoth v p).regs.resetInst = p.regs.resetInst ∧ (raiseBoth v p).regs.resetType = p.regs.resetType := by
  and_intros <;> simp [raiseBoth]

@[simp] theorem setSteward_parts (st : StewardState) (p : Piece) :
    (setSteward st p).transport.fwVersion = p.transport.fwVersion ∧
    (setSteward st p).transport.heartbeat = p.transport.heartbeat ∧
    (setSteward st p).transport.restarts = p.transport.restarts ∧
    (setSteward st p).transport.cmdsDone = p.transport.cmdsDone ∧
    (setSteward st p).transport.channels = p.transport.channels ∧ (setSteward st p).transport.epochs = p.transport.epochs ∧
    (setSteward st p).transport.lastServed = p.transport.lastServed ∧
    (setSteward st p).transport.sessions = p.transport.sessions ∧ (setSteward st p).transport.claims = p.transport.claims ∧
    (setSteward st p).transport.flights = p.transport.flights ∧
    (setSteward st p).transport.nextOrder = p.transport.nextOrder ∧
    (setSteward st p).transport.lastEffect = p.transport.lastEffect ∧ (setSteward st p).transport.locks = p.transport.locks ∧
    (setSteward st p).transport.lockNodes = p.transport.lockNodes ∧
    (setSteward st p).transport.badRelease = p.transport.badRelease ∧
    (setSteward st p).transport.forcedRelease = p.transport.forcedRelease ∧
    (setSteward st p).transport.raised = p.transport.raised ∧ (setSteward st p).regs.shadows = p.regs.shadows ∧
    (setSteward st p).regs.resetBusy = p.regs.resetBusy ∧ (setSteward st p).regs.resetStatus = p.regs.resetStatus ∧
    (setSteward st p).regs.resetSession = p.regs.resetSession ∧ (setSteward st p).regs.resetInst = p.regs.resetInst ∧
    (setSteward st p).regs.resetType = p.regs.resetType := by
  and_intros <;> (simp only [setSteward, when]; repeat' (first | (simp; done) | split))

@[simp] theorem endInterrupted_parts (p : Piece) :
    (endInterrupted p).transport.state = p.transport.state ∧ (endInterrupted p).transport.fwVersion = p.transport.fwVersion ∧
    (endInterrupted p).transport.heartbeat = p.transport.heartbeat ∧
    (endInterrupted p).transport.restarts = p.transport.restarts ∧ (endInterrupted p).transport.epochs = p.transport.epochs ∧
    (endInterrupted p).transport.lastServed = p.transport.lastServed ∧
    (endInterrupted p).transport.claims = p.transport.claims ∧
    (endInterrupted p).transport.nextOrder = p.transport.nextOrder ∧ (endInterrupted p).transport.locks = p.transport.locks ∧
    (endInterrupted p).transport.lockNodes = p.transport.lockNodes ∧
    (endInterrupted p).transport.badRelease = p.transport.badRelease ∧
    (endInterrupted p).transport.forcedRelease = p.transport.forcedRelease ∧
    (endInterrupted p).transport.raised = p.transport.raised ∧ (endInterrupted p).dmc.frozen = p.dmc.frozen ∧
    (endInterrupted p).dmc.selfRefresh = p.dmc.selfRefresh ∧ (endInterrupted p).dmc.freezeCause = p.dmc.freezeCause ∧
    (endInterrupted p).dmc.chUp = p.dmc.chUp ∧ (endInterrupted p).dmc.speed = p.dmc.speed ∧
    (endInterrupted p).dmc.gibPerChannel = p.dmc.gibPerChannel ∧ (endInterrupted p).dmc.rdimm = p.dmc.rdimm ∧
    (endInterrupted p).dmc.ranks = p.dmc.ranks ∧ (endInterrupted p).dmc.ceCount = p.dmc.ceCount ∧
    (endInterrupted p).dmc.ueCount = p.dmc.ueCount ∧ (endInterrupted p).dmc.freezeAddr = p.dmc.freezeAddr ∧
    (endInterrupted p).dmc.lastCeAddr = p.dmc.lastCeAddr ∧ (endInterrupted p).dmc.panicCount = p.dmc.panicCount ∧
    (endInterrupted p).dmc.panicActive = p.dmc.panicActive ∧ (endInterrupted p).dmc.refreshForced = p.dmc.refreshForced ∧
    (endInterrupted p).dmc.neighbourRefresh = p.dmc.neighbourRefresh ∧
    (endInterrupted p).dmc.actThreshold = p.dmc.actThreshold ∧ (endInterrupted p).dmc.hostRefused = p.dmc.hostRefused ∧
    (endInterrupted p).dmc.training = p.dmc.training ∧ (endInterrupted p).dmc.initDone = p.dmc.initDone ∧
    (endInterrupted p).dmc.act = p.dmc.act ∧ (endInterrupted p).dmc.refreshDebt = p.dmc.refreshDebt ∧
    (endInterrupted p).dmc.promoted = p.dmc.promoted ∧ (endInterrupted p).hostif.linkUp = p.hostif.linkUp ∧
    (endInterrupted p).hostif.rate = p.hostif.rate ∧ (endInterrupted p).hostif.width = p.hostif.width ∧
    (endInterrupted p).hostif.cxl = p.hostif.cxl ∧ (endInterrupted p).hostif.cacheEn = p.hostif.cacheEn ∧
    (endInterrupted p).hostif.linkDownCount = p.hostif.linkDownCount ∧
    (endInterrupted p).hostif.droppedWrites = p.hostif.droppedWrites ∧
    (endInterrupted p).hostif.droppedReads = p.hostif.droppedReads ∧
    (endInterrupted p).hostif.bar2Refused = p.hostif.bar2Refused ∧
    (endInterrupted p).hostif.hdmCommitted = p.hostif.hdmCommitted ∧ (endInterrupted p).hostif.hdmBase = p.hostif.hdmBase ∧
    (endInterrupted p).hostif.hdmError = p.hostif.hdmError ∧ (endInterrupted p).hostif.requests = p.hostif.requests ∧
    (endInterrupted p).hostif.nextRequest = p.hostif.nextRequest ∧ (endInterrupted p).hostif.answers = p.hostif.answers ∧
    (endInterrupted p).regs.shadows = p.regs.shadows ∧ (endInterrupted p).regs.resetBusy = p.regs.resetBusy ∧
    (endInterrupted p).regs.resetStatus = p.regs.resetStatus ∧ (endInterrupted p).regs.resetSession = p.regs.resetSession ∧
    (endInterrupted p).regs.resetInst = p.regs.resetInst ∧ (endInterrupted p).regs.resetType = p.regs.resetType := by
  unfold endInterrupted
  exact ⟨foldl_same (·.transport.state) _ (fun p _ => by repeat' (first | (simp; done) | split)) _ p, foldl_same (·.transport.fwVersion) _ (fun p _ => by repeat' (first | (simp; done) | split)) _ p, foldl_same (·.transport.heartbeat) _ (fun p _ => by repeat' (first | (simp; done) | split)) _ p, foldl_same (·.transport.restarts) _ (fun p _ => by repeat' (first | (simp; done) | split)) _ p, foldl_same (·.transport.epochs) _ (fun p _ => by repeat' (first | (simp; done) | split)) _ p, foldl_same (·.transport.lastServed) _ (fun p _ => by repeat' (first | (simp; done) | split)) _ p, foldl_same (·.transport.claims) _ (fun p _ => by repeat' (first | (simp; done) | split)) _ p, foldl_same (·.transport.nextOrder) _ (fun p _ => by repeat' (first | (simp; done) | split)) _ p, foldl_same (·.transport.locks) _ (fun p _ => by repeat' (first | (simp; done) | split)) _ p, foldl_same (·.transport.lockNodes) _ (fun p _ => by repeat' (first | (simp; done) | split)) _ p, foldl_same (·.transport.badRelease) _ (fun p _ => by repeat' (first | (simp; done) | split)) _ p, foldl_same (·.transport.forcedRelease) _ (fun p _ => by repeat' (first | (simp; done) | split)) _ p, foldl_same (·.transport.raised) _ (fun p _ => by repeat' (first | (simp; done) | split)) _ p, foldl_same (·.dmc.frozen) _ (fun p _ => by repeat' (first | (simp; done) | split)) _ p, foldl_same (·.dmc.selfRefresh) _ (fun p _ => by repeat' (first | (simp; done) | split)) _ p, foldl_same (·.dmc.freezeCause) _ (fun p _ => by repeat' (first | (simp; done) | split)) _ p, foldl_same (·.dmc.chUp) _ (fun p _ => by repeat' (first | (simp; done) | split)) _ p, foldl_same (·.dmc.speed) _ (fun p _ => by repeat' (first | (simp; done) | split)) _ p, foldl_same (·.dmc.gibPerChannel) _ (fun p _ => by repeat' (first | (simp; done) | split)) _ p, foldl_same (·.dmc.rdimm) _ (fun p _ => by repeat' (first | (simp; done) | split)) _ p, foldl_same (·.dmc.ranks) _ (fun p _ => by repeat' (first | (simp; done) | split)) _ p, foldl_same (·.dmc.ceCount) _ (fun p _ => by repeat' (first | (simp; done) | split)) _ p, foldl_same (·.dmc.ueCount) _ (fun p _ => by repeat' (first | (simp; done) | split)) _ p, foldl_same (·.dmc.freezeAddr) _ (fun p _ => by repeat' (first | (simp; done) | split)) _ p, foldl_same (·.dmc.lastCeAddr) _ (fun p _ => by repeat' (first | (simp; done) | split)) _ p, foldl_same (·.dmc.panicCount) _ (fun p _ => by repeat' (first | (simp; done) | split)) _ p, foldl_same (·.dmc.panicActive) _ (fun p _ => by repeat' (first | (simp; done) | split)) _ p, foldl_same (·.dmc.refreshForced) _ (fun p _ => by repeat' (first | (simp; done) | split)) _ p, foldl_same (·.dmc.neighbourRefresh) _ (fun p _ => by repeat' (first | (simp; done) | split)) _ p, foldl_same (·.dmc.actThreshold) _ (fun p _ => by repeat' (first | (simp; done) | split)) _ p, foldl_same (·.dmc.hostRefused) _ (fun p _ => by repeat' (first | (simp; done) | split)) _ p, foldl_same (·.dmc.training) _ (fun p _ => by repeat' (first | (simp; done) | split)) _ p, foldl_same (·.dmc.initDone) _ (fun p _ => by repeat' (first | (simp; done) | split)) _ p, foldl_same (·.dmc.act) _ (fun p _ => by repeat' (first | (simp; done) | split)) _ p, foldl_same (·.dmc.refreshDebt) _ (fun p _ => by repeat' (first | (simp; done) | split)) _ p, foldl_same (·.dmc.promoted) _ (fun p _ => by repeat' (first | (simp; done) | split)) _ p, foldl_same (·.hostif.linkUp) _ (fun p _ => by repeat' (first | (simp; done) | split)) _ p, foldl_same (·.hostif.rate) _ (fun p _ => by repeat' (first | (simp; done) | split)) _ p, foldl_same (·.hostif.width) _ (fun p _ => by repeat' (first | (simp; done) | split)) _ p, foldl_same (·.hostif.cxl) _ (fun p _ => by repeat' (first | (simp; done) | split)) _ p, foldl_same (·.hostif.cacheEn) _ (fun p _ => by repeat' (first | (simp; done) | split)) _ p, foldl_same (·.hostif.linkDownCount) _ (fun p _ => by repeat' (first | (simp; done) | split)) _ p, foldl_same (·.hostif.droppedWrites) _ (fun p _ => by repeat' (first | (simp; done) | split)) _ p, foldl_same (·.hostif.droppedReads) _ (fun p _ => by repeat' (first | (simp; done) | split)) _ p, foldl_same (·.hostif.bar2Refused) _ (fun p _ => by repeat' (first | (simp; done) | split)) _ p, foldl_same (·.hostif.hdmCommitted) _ (fun p _ => by repeat' (first | (simp; done) | split)) _ p, foldl_same (·.hostif.hdmBase) _ (fun p _ => by repeat' (first | (simp; done) | split)) _ p, foldl_same (·.hostif.hdmError) _ (fun p _ => by repeat' (first | (simp; done) | split)) _ p, foldl_same (·.hostif.requests) _ (fun p _ => by repeat' (first | (simp; done) | split)) _ p, foldl_same (·.hostif.nextRequest) _ (fun p _ => by repeat' (first | (simp; done) | split)) _ p, foldl_same (·.hostif.answers) _ (fun p _ => by repeat' (first | (simp; done) | split)) _ p, foldl_same (·.regs.shadows) _ (fun p _ => by repeat' (first | (simp; done) | split)) _ p, foldl_same (·.regs.resetBusy) _ (fun p _ => by repeat' (first | (simp; done) | split)) _ p, foldl_same (·.regs.resetStatus) _ (fun p _ => by repeat' (first | (simp; done) | split)) _ p, foldl_same (·.regs.resetSession) _ (fun p _ => by repeat' (first | (simp; done) | split)) _ p, foldl_same (·.regs.resetInst) _ (fun p _ => by repeat' (first | (simp; done) | split)) _ p, foldl_same (·.regs.resetType) _ (fun p _ => by repeat' (first | (simp; done) | split)) _ p⟩

@[simp] theorem writeFirmwareEntry_parts (t : Nat) (b : Bool) (p : Piece) :
    (writeFirmwareEntry t b p).transport.state = p.transport.state ∧
    (writeFirmwareEntry t b p).transport.fwVersion = p.transport.fwVersion ∧
    (writeFirmwareEntry t b p).transport.heartbeat = p.transport.heartbeat ∧
    (writeFirmwareEntry t b p).transport.restarts = p.transport.restarts ∧
    (writeFirmwareEntry t b p).transport.cmdsDone = p.transport.cmdsDone ∧
    (writeFirmwareEntry t b p).transport.channels = p.transport.channels ∧
    (writeFirmwareEntry t b p).transport.epochs = p.transport.epochs ∧
    (writeFirmwareEntry t b p).transport.lastServed = p.transport.lastServed ∧
    (writeFirmwareEntry t b p).transport.sessions = p.transport.sessions ∧
    (writeFirmwareEntry t b p).transport.claims = p.transport.claims ∧
    (writeFirmwareEntry t b p).transport.flights = p.transport.flights ∧
    (writeFirmwareEntry t b p).transport.nextOrder = p.transport.nextOrder ∧
    (writeFirmwareEntry t b p).transport.lastEffect = p.transport.lastEffect ∧
    (writeFirmwareEntry t b p).transport.locks = p.transport.locks ∧
    (writeFirmwareEntry t b p).transport.lockNodes = p.transport.lockNodes ∧
    (writeFirmwareEntry t b p).transport.badRelease = p.transport.badRelease ∧
    (writeFirmwareEntry t b p).transport.forcedRelease = p.transport.forcedRelease ∧
    (writeFirmwareEntry t b p).safety.safeState = p.safety.safeState ∧
    (writeFirmwareEntry t b p).safety.faultMask = p.safety.faultMask ∧
    (writeFirmwareEntry t b p).safety.transients = p.safety.transients ∧
    (writeFirmwareEntry t b p).safety.retired = p.safety.retired ∧
    (writeFirmwareEntry t b p).safety.retirements = p.safety.retirements ∧
    (writeFirmwareEntry t b p).safety.selftests = p.safety.selftests ∧
    (writeFirmwareEntry t b p).safety.tests = p.safety.tests ∧
    (writeFirmwareEntry t b p).safety.mappedRows = p.safety.mappedRows ∧
    (writeFirmwareEntry t b p).safety.transientLog = p.safety.transientLog ∧
    (writeFirmwareEntry t b p).safety.lockstepLog = p.safety.lockstepLog ∧
    (writeFirmwareEntry t b p).safety.deadIslands = p.safety.deadIslands ∧
    (writeFirmwareEntry t b p).safety.tapBadUntil = p.safety.tapBadUntil ∧
    (writeFirmwareEntry t b p).safety.dump = p.safety.dump ∧
    (writeFirmwareEntry t b p).safety.strongroom = p.safety.strongroom ∧
    (writeFirmwareEntry t b p).safety.sramLost = p.safety.sramLost ∧
    (writeFirmwareEntry t b p).safety.dumpPending = p.safety.dumpPending ∧
    (writeFirmwareEntry t b p).safety.dumpSeq = p.safety.dumpSeq ∧
    (writeFirmwareEntry t b p).safety.dumpsSuppressed = p.safety.dumpsSuppressed ∧
    (writeFirmwareEntry t b p).safety.regionAddr = p.safety.regionAddr ∧
    (writeFirmwareEntry t b p).safety.regionLen = p.safety.regionLen ∧
    (writeFirmwareEntry t b p).safety.releaseArmed = p.safety.releaseArmed ∧
    (writeFirmwareEntry t b p).net.nodeId = p.net.nodeId ∧ (writeFirmwareEntry t b p).net.epoch = p.net.epoch ∧
    (writeFirmwareEntry t b p).net.horizonExceeded = p.net.horizonExceeded ∧
    (writeFirmwareEntry t b p).net.sourcePresent = p.net.sourcePresent ∧
    (writeFirmwareEntry t b p).net.detached = p.net.detached ∧ (writeFirmwareEntry t b p).net.root = p.net.root ∧
    (writeFirmwareEntry t b p).net.joined = p.net.joined ∧ (writeFirmwareEntry t b p).net.parent = p.net.parent ∧
    (writeFirmwareEntry t b p).net.rootNode = p.net.rootNode ∧ (writeFirmwareEntry t b p).net.horizon = p.net.horizon ∧
    (writeFirmwareEntry t b p).net.storedHorizon = p.net.storedHorizon ∧ (writeFirmwareEntry t b p).net.path = p.net.path ∧
    (writeFirmwareEntry t b p).net.nodes = p.net.nodes ∧ (writeFirmwareEntry t b p).net.xtrigSent = p.net.xtrigSent ∧
    (writeFirmwareEntry t b p).net.xtrigLate = p.net.xtrigLate ∧ (writeFirmwareEntry t b p).net.xtrigCrc = p.net.xtrigCrc ∧
    (writeFirmwareEntry t b p).net.xtrigDropped = p.net.xtrigDropped ∧
    (writeFirmwareEntry t b p).net.xtrigSeq = p.net.xtrigSeq ∧ (writeFirmwareEntry t b p).net.summaries = p.net.summaries ∧
    (writeFirmwareEntry t b p).net.rootTimeValid = p.net.rootTimeValid ∧ (writeFirmwareEntry t b p).net.ports = p.net.ports ∧
    (writeFirmwareEntry t b p).net.latest = p.net.latest ∧ (writeFirmwareEntry t b p).net.members = p.net.members ∧
    (writeFirmwareEntry t b p).net.joinSince = p.net.joinSince ∧ (writeFirmwareEntry t b p).net.joinNode = p.net.joinNode ∧
    (writeFirmwareEntry t b p).net.leaveSince = p.net.leaveSince ∧
    (writeFirmwareEntry t b p).net.reparentSince = p.net.reparentSince ∧ (writeFirmwareEntry t b p).net.joins = p.net.joins ∧
    (writeFirmwareEntry t b p).net.reparents = p.net.reparents ∧ (writeFirmwareEntry t b p).net.epochTick = p.net.epochTick ∧
    (writeFirmwareEntry t b p).regs.shadows = p.regs.shadows ∧ (writeFirmwareEntry t b p).regs.resetBusy = p.regs.resetBusy ∧
    (writeFirmwareEntry t b p).regs.resetStatus = p.regs.resetStatus ∧
    (writeFirmwareEntry t b p).regs.resetSession = p.regs.resetSession ∧
    (writeFirmwareEntry t b p).regs.resetInst = p.regs.resetInst ∧
    (writeFirmwareEntry t b p).regs.resetType = p.regs.resetType := by
  and_intros <;> simp [writeFirmwareEntry]

@[simp] theorem setStatus_parts (ch : Nat) (w : Channel → Bool) (f : Channel → Channel) (p : Piece) :
    (setStatus ch w f p).transport.state = p.transport.state ∧
    (setStatus ch w f p).transport.fwVersion = p.transport.fwVersion ∧
    (setStatus ch w f p).transport.heartbeat = p.transport.heartbeat ∧
    (setStatus ch w f p).transport.restarts = p.transport.restarts ∧
    (setStatus ch w f p).transport.cmdsDone = p.transport.cmdsDone ∧
    (setStatus ch w f p).transport.epochs = p.transport.epochs ∧
    (setStatus ch w f p).transport.lastServed = p.transport.lastServed ∧
    (setStatus ch w f p).transport.sessions = p.transport.sessions ∧
    (setStatus ch w f p).transport.claims = p.transport.claims ∧
    (setStatus ch w f p).transport.flights = p.transport.flights ∧
    (setStatus ch w f p).transport.nextOrder = p.transport.nextOrder ∧
    (setStatus ch w f p).transport.lastEffect = p.transport.lastEffect ∧
    (setStatus ch w f p).transport.locks = p.transport.locks ∧
    (setStatus ch w f p).transport.lockNodes = p.transport.lockNodes ∧
    (setStatus ch w f p).transport.badRelease = p.transport.badRelease ∧
    (setStatus ch w f p).transport.forcedRelease = p.transport.forcedRelease ∧
    (setStatus ch w f p).transport.raised = p.transport.raised ∧ (setStatus ch w f p).regs.shadows = p.regs.shadows ∧
    (setStatus ch w f p).regs.resetBusy = p.regs.resetBusy ∧ (setStatus ch w f p).regs.resetStatus = p.regs.resetStatus ∧
    (setStatus ch w f p).regs.resetSession = p.regs.resetSession ∧ (setStatus ch w f p).regs.resetInst = p.regs.resetInst ∧
    (setStatus ch w f p).regs.resetType = p.regs.resetType := by
  and_intros <;> (simp only [setStatus, when]; repeat' (first | (simp; done) | split))

@[simp] theorem voidNotices_parts (ch n : Nat) (p : Piece) :
    (voidNotices ch n p).transport.state = p.transport.state ∧
    (voidNotices ch n p).transport.fwVersion = p.transport.fwVersion ∧
    (voidNotices ch n p).transport.heartbeat = p.transport.heartbeat ∧
    (voidNotices ch n p).transport.restarts = p.transport.restarts ∧
    (voidNotices ch n p).transport.cmdsDone = p.transport.cmdsDone ∧
    (voidNotices ch n p).transport.epochs = p.transport.epochs ∧
    (voidNotices ch n p).transport.lastServed = p.transport.lastServed ∧
    (voidNotices ch n p).transport.sessions = p.transport.sessions ∧
    (voidNotices ch n p).transport.claims = p.transport.claims ∧
    (voidNotices ch n p).transport.flights = p.transport.flights ∧
    (voidNotices ch n p).transport.nextOrder = p.transport.nextOrder ∧
    (voidNotices ch n p).transport.lastEffect = p.transport.lastEffect ∧
    (voidNotices ch n p).transport.locks = p.transport.locks ∧
    (voidNotices ch n p).transport.lockNodes = p.transport.lockNodes ∧
    (voidNotices ch n p).transport.badRelease = p.transport.badRelease ∧
    (voidNotices ch n p).transport.forcedRelease = p.transport.forcedRelease ∧
    (voidNotices ch n p).transport.raised = p.transport.raised ∧ (voidNotices ch n p).regs.shadows = p.regs.shadows ∧
    (voidNotices ch n p).regs.resetBusy = p.regs.resetBusy ∧ (voidNotices ch n p).regs.resetStatus = p.regs.resetStatus ∧
    (voidNotices ch n p).regs.resetSession = p.regs.resetSession ∧ (voidNotices ch n p).regs.resetInst = p.regs.resetInst ∧
    (voidNotices ch n p).regs.resetType = p.regs.resetType := by
  and_intros <;> (simp only [voidNotices, when]; repeat' (first | (simp; done) | split))

@[simp] theorem rejectNotice_parts (ch : Nat) (p : Piece) :
    (rejectNotice ch p).transport.state = p.transport.state ∧
    (rejectNotice ch p).transport.fwVersion = p.transport.fwVersion ∧
    (rejectNotice ch p).transport.heartbeat = p.transport.heartbeat ∧
    (rejectNotice ch p).transport.restarts = p.transport.restarts ∧
    (rejectNotice ch p).transport.cmdsDone = p.transport.cmdsDone ∧
    (rejectNotice ch p).transport.epochs = p.transport.epochs ∧
    (rejectNotice ch p).transport.lastServed = p.transport.lastServed ∧
    (rejectNotice ch p).transport.sessions = p.transport.sessions ∧
    (rejectNotice ch p).transport.claims = p.transport.claims ∧ (rejectNotice ch p).transport.flights = p.transport.flights ∧
    (rejectNotice ch p).transport.nextOrder = p.transport.nextOrder ∧
    (rejectNotice ch p).transport.lastEffect = p.transport.lastEffect ∧
    (rejectNotice ch p).transport.locks = p.transport.locks ∧
    (rejectNotice ch p).transport.lockNodes = p.transport.lockNodes ∧
    (rejectNotice ch p).transport.badRelease = p.transport.badRelease ∧
    (rejectNotice ch p).transport.forcedRelease = p.transport.forcedRelease ∧
    (rejectNotice ch p).transport.raised = p.transport.raised ∧ (rejectNotice ch p).regs.shadows = p.regs.shadows ∧
    (rejectNotice ch p).regs.resetBusy = p.regs.resetBusy ∧ (rejectNotice ch p).regs.resetStatus = p.regs.resetStatus ∧
    (rejectNotice ch p).regs.resetSession = p.regs.resetSession ∧ (rejectNotice ch p).regs.resetInst = p.regs.resetInst ∧
    (rejectNotice ch p).regs.resetType = p.regs.resetType := by
  and_intros <;> simp [rejectNotice]

@[simp] theorem receiverReset_parts (ch : Nat) (b : Bool) (p : Piece) :
    (receiverReset ch b p).transport.state = p.transport.state ∧
    (receiverReset ch b p).transport.fwVersion = p.transport.fwVersion ∧
    (receiverReset ch b p).transport.heartbeat = p.transport.heartbeat ∧
    (receiverReset ch b p).transport.restarts = p.transport.restarts ∧
    (receiverReset ch b p).transport.cmdsDone = p.transport.cmdsDone ∧
    (receiverReset ch b p).transport.epochs = p.transport.epochs ∧
    (receiverReset ch b p).transport.lastServed = p.transport.lastServed ∧
    (receiverReset ch b p).transport.sessions = p.transport.sessions ∧
    (receiverReset ch b p).transport.claims = p.transport.claims ∧
    (receiverReset ch b p).transport.flights = p.transport.flights ∧
    (receiverReset ch b p).transport.nextOrder = p.transport.nextOrder ∧
    (receiverReset ch b p).transport.lastEffect = p.transport.lastEffect ∧
    (receiverReset ch b p).transport.locks = p.transport.locks ∧
    (receiverReset ch b p).transport.lockNodes = p.transport.lockNodes ∧
    (receiverReset ch b p).transport.badRelease = p.transport.badRelease ∧
    (receiverReset ch b p).transport.forcedRelease = p.transport.forcedRelease ∧
    (receiverReset ch b p).transport.raised = p.transport.raised ∧ (receiverReset ch b p).regs.shadows = p.regs.shadows ∧
    (receiverReset ch b p).regs.resetBusy = p.regs.resetBusy ∧ (receiverReset ch b p).regs.resetStatus = p.regs.resetStatus ∧
    (receiverReset ch b p).regs.resetSession = p.regs.resetSession ∧
    (receiverReset ch b p).regs.resetInst = p.regs.resetInst ∧ (receiverReset ch b p).regs.resetType = p.regs.resetType := by
  and_intros <;> simp [receiverReset]

@[simp] theorem bumpEpoch_parts (r : Requester) (p : Piece) :
    (bumpEpoch r p).transport.state = p.transport.state ∧ (bumpEpoch r p).transport.fwVersion = p.transport.fwVersion ∧
    (bumpEpoch r p).transport.heartbeat = p.transport.heartbeat ∧ (bumpEpoch r p).transport.restarts = p.transport.restarts ∧
    (bumpEpoch r p).transport.cmdsDone = p.transport.cmdsDone ∧
    (bumpEpoch r p).transport.lastServed = p.transport.lastServed ∧
    (bumpEpoch r p).transport.sessions = p.transport.sessions ∧ (bumpEpoch r p).transport.claims = p.transport.claims ∧
    (bumpEpoch r p).transport.flights = p.transport.flights ∧ (bumpEpoch r p).transport.nextOrder = p.transport.nextOrder ∧
    (bumpEpoch r p).transport.lastEffect = p.transport.lastEffect ∧ (bumpEpoch r p).transport.locks = p.transport.locks ∧
    (bumpEpoch r p).transport.lockNodes = p.transport.lockNodes ∧
    (bumpEpoch r p).transport.badRelease = p.transport.badRelease ∧
    (bumpEpoch r p).transport.forcedRelease = p.transport.forcedRelease ∧
    (bumpEpoch r p).transport.raised = p.transport.raised ∧ (bumpEpoch r p).regs.shadows = p.regs.shadows ∧
    (bumpEpoch r p).regs.resetBusy = p.regs.resetBusy ∧ (bumpEpoch r p).regs.resetStatus = p.regs.resetStatus ∧
    (bumpEpoch r p).regs.resetSession = p.regs.resetSession ∧ (bumpEpoch r p).regs.resetInst = p.regs.resetInst ∧
    (bumpEpoch r p).regs.resetType = p.regs.resetType := by
  exact ⟨by unfold bumpEpoch; dsimp only; exact (foldl_same (·.transport.state) _ (fun p _ => by repeat' (first | (simp; done) | (simp only [when]; split) | split)) _ _).trans (by simp),
    by unfold bumpEpoch; dsimp only; exact (foldl_same (·.transport.fwVersion) _ (fun p _ => by repeat' (first | (simp; done) | (simp only [when]; split) | split)) _ _).trans (by simp),
    by unfold bumpEpoch; dsimp only; exact (foldl_same (·.transport.heartbeat) _ (fun p _ => by repeat' (first | (simp; done) | (simp only [when]; split) | split)) _ _).trans (by simp),
    by unfold bumpEpoch; dsimp only; exact (foldl_same (·.transport.restarts) _ (fun p _ => by repeat' (first | (simp; done) | (simp only [when]; split) | split)) _ _).trans (by simp),
    by unfold bumpEpoch; dsimp only; exact (foldl_same (·.transport.cmdsDone) _ (fun p _ => by repeat' (first | (simp; done) | (simp only [when]; split) | split)) _ _).trans (by simp),
    by unfold bumpEpoch; dsimp only; exact (foldl_same (·.transport.lastServed) _ (fun p _ => by repeat' (first | (simp; done) | (simp only [when]; split) | split)) _ _).trans (by simp),
    by unfold bumpEpoch; dsimp only; exact (foldl_same (·.transport.sessions) _ (fun p _ => by repeat' (first | (simp; done) | (simp only [when]; split) | split)) _ _).trans (by simp),
    by unfold bumpEpoch; dsimp only; exact (foldl_same (·.transport.claims) _ (fun p _ => by repeat' (first | (simp; done) | (simp only [when]; split) | split)) _ _).trans (by simp),
    by unfold bumpEpoch; dsimp only; exact (foldl_same (·.transport.flights) _ (fun p _ => by repeat' (first | (simp; done) | (simp only [when]; split) | split)) _ _).trans (by simp),
    by unfold bumpEpoch; dsimp only; exact (foldl_same (·.transport.nextOrder) _ (fun p _ => by repeat' (first | (simp; done) | (simp only [when]; split) | split)) _ _).trans (by simp),
    by unfold bumpEpoch; dsimp only; exact (foldl_same (·.transport.lastEffect) _ (fun p _ => by repeat' (first | (simp; done) | (simp only [when]; split) | split)) _ _).trans (by simp),
    by unfold bumpEpoch; dsimp only; exact (foldl_same (·.transport.locks) _ (fun p _ => by repeat' (first | (simp; done) | (simp only [when]; split) | split)) _ _).trans (by simp),
    by unfold bumpEpoch; dsimp only; exact (foldl_same (·.transport.lockNodes) _ (fun p _ => by repeat' (first | (simp; done) | (simp only [when]; split) | split)) _ _).trans (by simp),
    by unfold bumpEpoch; dsimp only; exact (foldl_same (·.transport.badRelease) _ (fun p _ => by repeat' (first | (simp; done) | (simp only [when]; split) | split)) _ _).trans (by simp),
    by unfold bumpEpoch; dsimp only; exact (foldl_same (·.transport.forcedRelease) _ (fun p _ => by repeat' (first | (simp; done) | (simp only [when]; split) | split)) _ _).trans (by simp),
    by unfold bumpEpoch; dsimp only; exact (foldl_same (·.transport.raised) _ (fun p _ => by repeat' (first | (simp; done) | (simp only [when]; split) | split)) _ _).trans (by simp),
    by unfold bumpEpoch; dsimp only; exact (foldl_same (·.regs.shadows) _ (fun p _ => by repeat' (first | (simp; done) | (simp only [when]; split) | split)) _ _).trans (by simp),
    by unfold bumpEpoch; dsimp only; exact (foldl_same (·.regs.resetBusy) _ (fun p _ => by repeat' (first | (simp; done) | (simp only [when]; split) | split)) _ _).trans (by simp),
    by unfold bumpEpoch; dsimp only; exact (foldl_same (·.regs.resetStatus) _ (fun p _ => by repeat' (first | (simp; done) | (simp only [when]; split) | split)) _ _).trans (by simp),
    by unfold bumpEpoch; dsimp only; exact (foldl_same (·.regs.resetSession) _ (fun p _ => by repeat' (first | (simp; done) | (simp only [when]; split) | split)) _ _).trans (by simp),
    by unfold bumpEpoch; dsimp only; exact (foldl_same (·.regs.resetInst) _ (fun p _ => by repeat' (first | (simp; done) | (simp only [when]; split) | split)) _ _).trans (by simp),
    by unfold bumpEpoch; dsimp only; exact (foldl_same (·.regs.resetType) _ (fun p _ => by repeat' (first | (simp; done) | (simp only [when]; split) | split)) _ _).trans (by simp)⟩

@[simp] theorem dropRequest_parts (u : ReadUse) (p : Piece) :
    (dropRequest u p).hostif.linkUp = p.hostif.linkUp ∧ (dropRequest u p).hostif.rate = p.hostif.rate ∧
    (dropRequest u p).hostif.width = p.hostif.width ∧ (dropRequest u p).hostif.cxl = p.hostif.cxl ∧
    (dropRequest u p).hostif.cacheEn = p.hostif.cacheEn ∧ (dropRequest u p).hostif.linkDownCount = p.hostif.linkDownCount ∧
    (dropRequest u p).hostif.droppedWrites = p.hostif.droppedWrites ∧
    (dropRequest u p).hostif.droppedReads = p.hostif.droppedReads ∧
    (dropRequest u p).hostif.bar2Refused = p.hostif.bar2Refused ∧
    (dropRequest u p).hostif.hdmCommitted = p.hostif.hdmCommitted ∧ (dropRequest u p).hostif.hdmBase = p.hostif.hdmBase ∧
    (dropRequest u p).hostif.hdmError = p.hostif.hdmError ∧ (dropRequest u p).hostif.nextRequest = p.hostif.nextRequest ∧
    (dropRequest u p).hostif.voidedCompletions = p.hostif.voidedCompletions := by
  and_intros <;> (simp only [dropRequest]; split <;> simp)

@[simp] theorem fetchFails_parts (ch : Nat) (p : Piece) :
    (fetchFails ch p).transport.state = p.transport.state ∧ (fetchFails ch p).transport.fwVersion = p.transport.fwVersion ∧
    (fetchFails ch p).transport.heartbeat = p.transport.heartbeat ∧
    (fetchFails ch p).transport.restarts = p.transport.restarts ∧
    (fetchFails ch p).transport.cmdsDone = p.transport.cmdsDone ∧ (fetchFails ch p).transport.epochs = p.transport.epochs ∧
    (fetchFails ch p).transport.lastServed = p.transport.lastServed ∧
    (fetchFails ch p).transport.sessions = p.transport.sessions ∧ (fetchFails ch p).transport.claims = p.transport.claims ∧
    (fetchFails ch p).transport.flights = p.transport.flights ∧
    (fetchFails ch p).transport.nextOrder = p.transport.nextOrder ∧
    (fetchFails ch p).transport.lastEffect = p.transport.lastEffect ∧ (fetchFails ch p).transport.locks = p.transport.locks ∧
    (fetchFails ch p).transport.lockNodes = p.transport.lockNodes ∧
    (fetchFails ch p).transport.badRelease = p.transport.badRelease ∧
    (fetchFails ch p).transport.forcedRelease = p.transport.forcedRelease ∧
    (fetchFails ch p).transport.raised = p.transport.raised ∧ (fetchFails ch p).regs.shadows = p.regs.shadows ∧
    (fetchFails ch p).regs.resetBusy = p.regs.resetBusy ∧ (fetchFails ch p).regs.resetStatus = p.regs.resetStatus ∧
    (fetchFails ch p).regs.resetSession = p.regs.resetSession ∧ (fetchFails ch p).regs.resetInst = p.regs.resetInst ∧
    (fetchFails ch p).regs.resetType = p.regs.resetType ∧ (fetchFails ch p).hostif.linkUp = p.hostif.linkUp ∧
    (fetchFails ch p).hostif.rate = p.hostif.rate ∧ (fetchFails ch p).hostif.width = p.hostif.width ∧
    (fetchFails ch p).hostif.cxl = p.hostif.cxl ∧ (fetchFails ch p).hostif.cacheEn = p.hostif.cacheEn ∧
    (fetchFails ch p).hostif.linkDownCount = p.hostif.linkDownCount ∧
    (fetchFails ch p).hostif.droppedWrites = p.hostif.droppedWrites ∧
    (fetchFails ch p).hostif.droppedReads = p.hostif.droppedReads ∧
    (fetchFails ch p).hostif.bar2Refused = p.hostif.bar2Refused ∧
    (fetchFails ch p).hostif.hdmCommitted = p.hostif.hdmCommitted ∧ (fetchFails ch p).hostif.hdmBase = p.hostif.hdmBase ∧
    (fetchFails ch p).hostif.hdmError = p.hostif.hdmError ∧ (fetchFails ch p).hostif.nextRequest = p.hostif.nextRequest ∧
    (fetchFails ch p).hostif.voidedCompletions = p.hostif.voidedCompletions := by
  and_intros <;> (simp only [fetchFails]; split <;> simp)

@[simp] theorem dropTransactions_frame (fn : Nat) (p : Piece) :
    (dropTransactions fn p).safety = p.safety ∧ (dropTransactions fn p).boot = p.boot ∧
    (dropTransactions fn p).clocks = p.clocks ∧ (dropTransactions fn p).ledger = p.ledger ∧
    (dropTransactions fn p).monitor = p.monitor ∧ (dropTransactions fn p).dmc = p.dmc ∧
    (dropTransactions fn p).stream = p.stream ∧ (dropTransactions fn p).check = p.check ∧
    (dropTransactions fn p).net = p.net ∧ (dropTransactions fn p).stamp = p.stamp ∧
    (dropTransactions fn p).fabric = p.fabric ∧ (dropTransactions fn p).rfin = p.rfin ∧
    (dropTransactions fn p).chan = p.chan ∧ (dropTransactions fn p).xform = p.xform ∧
    (dropTransactions fn p).density = p.density ∧ (dropTransactions fn p).trigger = p.trigger ∧
    (dropTransactions fn p).acq = p.acq ∧ (dropTransactions fn p).gythen = p.gythen ∧
    (dropTransactions fn p).tally = p.tally ∧ (dropTransactions fn p).cal = p.cal ∧ (dropTransactions fn p).scan = p.scan ∧
    (dropTransactions fn p).free = p.free := by
  exact ⟨by unfold dropTransactions; dsimp only; exact (foldl_same (·.safety) _ (fun p _ => by exact foldl_same (·.safety) _ (fun p _ => by simp) _ _) _ _).trans (by simp),
    by unfold dropTransactions; dsimp only; exact (foldl_same (·.boot) _ (fun p _ => by exact foldl_same (·.boot) _ (fun p _ => by simp) _ _) _ _).trans (by simp),
    by unfold dropTransactions; dsimp only; exact (foldl_same (·.clocks) _ (fun p _ => by exact foldl_same (·.clocks) _ (fun p _ => by simp) _ _) _ _).trans (by simp),
    by unfold dropTransactions; dsimp only; exact (foldl_same (·.ledger) _ (fun p _ => by exact foldl_same (·.ledger) _ (fun p _ => by simp) _ _) _ _).trans (by simp),
    by unfold dropTransactions; dsimp only; exact (foldl_same (·.monitor) _ (fun p _ => by exact foldl_same (·.monitor) _ (fun p _ => by simp) _ _) _ _).trans (by simp),
    by unfold dropTransactions; dsimp only; exact (foldl_same (·.dmc) _ (fun p _ => by exact foldl_same (·.dmc) _ (fun p _ => by simp) _ _) _ _).trans (by simp),
    by unfold dropTransactions; dsimp only; exact (foldl_same (·.stream) _ (fun p _ => by exact foldl_same (·.stream) _ (fun p _ => by simp) _ _) _ _).trans (by simp),
    by unfold dropTransactions; dsimp only; exact (foldl_same (·.check) _ (fun p _ => by exact foldl_same (·.check) _ (fun p _ => by simp) _ _) _ _).trans (by simp),
    by unfold dropTransactions; dsimp only; exact (foldl_same (·.net) _ (fun p _ => by exact foldl_same (·.net) _ (fun p _ => by simp) _ _) _ _).trans (by simp),
    by unfold dropTransactions; dsimp only; exact (foldl_same (·.stamp) _ (fun p _ => by exact foldl_same (·.stamp) _ (fun p _ => by simp) _ _) _ _).trans (by simp),
    by unfold dropTransactions; dsimp only; exact (foldl_same (·.fabric) _ (fun p _ => by exact foldl_same (·.fabric) _ (fun p _ => by simp) _ _) _ _).trans (by simp),
    by unfold dropTransactions; dsimp only; exact (foldl_same (·.rfin) _ (fun p _ => by exact foldl_same (·.rfin) _ (fun p _ => by simp) _ _) _ _).trans (by simp),
    by unfold dropTransactions; dsimp only; exact (foldl_same (·.chan) _ (fun p _ => by exact foldl_same (·.chan) _ (fun p _ => by simp) _ _) _ _).trans (by simp),
    by unfold dropTransactions; dsimp only; exact (foldl_same (·.xform) _ (fun p _ => by exact foldl_same (·.xform) _ (fun p _ => by simp) _ _) _ _).trans (by simp),
    by unfold dropTransactions; dsimp only; exact (foldl_same (·.density) _ (fun p _ => by exact foldl_same (·.density) _ (fun p _ => by simp) _ _) _ _).trans (by simp),
    by unfold dropTransactions; dsimp only; exact (foldl_same (·.trigger) _ (fun p _ => by exact foldl_same (·.trigger) _ (fun p _ => by simp) _ _) _ _).trans (by simp),
    by unfold dropTransactions; dsimp only; exact (foldl_same (·.acq) _ (fun p _ => by exact foldl_same (·.acq) _ (fun p _ => by simp) _ _) _ _).trans (by simp),
    by unfold dropTransactions; dsimp only; exact (foldl_same (·.gythen) _ (fun p _ => by exact foldl_same (·.gythen) _ (fun p _ => by simp) _ _) _ _).trans (by simp),
    by unfold dropTransactions; dsimp only; exact (foldl_same (·.tally) _ (fun p _ => by exact foldl_same (·.tally) _ (fun p _ => by simp) _ _) _ _).trans (by simp),
    by unfold dropTransactions; dsimp only; exact (foldl_same (·.cal) _ (fun p _ => by exact foldl_same (·.cal) _ (fun p _ => by simp) _ _) _ _).trans (by simp),
    by unfold dropTransactions; dsimp only; exact (foldl_same (·.scan) _ (fun p _ => by exact foldl_same (·.scan) _ (fun p _ => by simp) _ _) _ _).trans (by simp),
    by unfold dropTransactions; dsimp only; exact (foldl_same (·.free) _ (fun p _ => by exact foldl_same (·.free) _ (fun p _ => by simp) _ _) _ _).trans (by simp)⟩

@[simp] theorem dropTransactions_parts (fn : Nat) (p : Piece) :
    (dropTransactions fn p).transport.state = p.transport.state ∧
    (dropTransactions fn p).transport.fwVersion = p.transport.fwVersion ∧
    (dropTransactions fn p).transport.heartbeat = p.transport.heartbeat ∧
    (dropTransactions fn p).transport.restarts = p.transport.restarts ∧
    (dropTransactions fn p).transport.cmdsDone = p.transport.cmdsDone ∧
    (dropTransactions fn p).transport.epochs = p.transport.epochs ∧
    (dropTransactions fn p).transport.lastServed = p.transport.lastServed ∧
    (dropTransactions fn p).transport.sessions = p.transport.sessions ∧
    (dropTransactions fn p).transport.claims = p.transport.claims ∧
    (dropTransactions fn p).transport.flights = p.transport.flights ∧
    (dropTransactions fn p).transport.nextOrder = p.transport.nextOrder ∧
    (dropTransactions fn p).transport.lastEffect = p.transport.lastEffect ∧
    (dropTransactions fn p).transport.locks = p.transport.locks ∧
    (dropTransactions fn p).transport.lockNodes = p.transport.lockNodes ∧
    (dropTransactions fn p).transport.badRelease = p.transport.badRelease ∧
    (dropTransactions fn p).transport.forcedRelease = p.transport.forcedRelease ∧
    (dropTransactions fn p).transport.raised = p.transport.raised ∧ (dropTransactions fn p).regs.shadows = p.regs.shadows ∧
    (dropTransactions fn p).regs.resetBusy = p.regs.resetBusy ∧
    (dropTransactions fn p).regs.resetStatus = p.regs.resetStatus ∧
    (dropTransactions fn p).regs.resetSession = p.regs.resetSession ∧
    (dropTransactions fn p).regs.resetInst = p.regs.resetInst ∧ (dropTransactions fn p).regs.resetType = p.regs.resetType ∧
    (dropTransactions fn p).hostif.linkUp = p.hostif.linkUp ∧ (dropTransactions fn p).hostif.rate = p.hostif.rate ∧
    (dropTransactions fn p).hostif.width = p.hostif.width ∧ (dropTransactions fn p).hostif.cxl = p.hostif.cxl ∧
    (dropTransactions fn p).hostif.cacheEn = p.hostif.cacheEn ∧
    (dropTransactions fn p).hostif.linkDownCount = p.hostif.linkDownCount ∧
    (dropTransactions fn p).hostif.droppedWrites = p.hostif.droppedWrites ∧
    (dropTransactions fn p).hostif.bar2Refused = p.hostif.bar2Refused ∧
    (dropTransactions fn p).hostif.hdmCommitted = p.hostif.hdmCommitted ∧
    (dropTransactions fn p).hostif.hdmBase = p.hostif.hdmBase ∧ (dropTransactions fn p).hostif.hdmError = p.hostif.hdmError ∧
    (dropTransactions fn p).hostif.nextRequest = p.hostif.nextRequest ∧
    (dropTransactions fn p).hostif.voidedCompletions = p.hostif.voidedCompletions := by
  exact ⟨by unfold dropTransactions; dsimp only; exact (foldl_same (·.transport.state) _ (fun p _ => by exact foldl_same (·.transport.state) _ (fun p _ => by simp) _ _) _ _).trans (by simp),
    by unfold dropTransactions; dsimp only; exact (foldl_same (·.transport.fwVersion) _ (fun p _ => by exact foldl_same (·.transport.fwVersion) _ (fun p _ => by simp) _ _) _ _).trans (by simp),
    by unfold dropTransactions; dsimp only; exact (foldl_same (·.transport.heartbeat) _ (fun p _ => by exact foldl_same (·.transport.heartbeat) _ (fun p _ => by simp) _ _) _ _).trans (by simp),
    by unfold dropTransactions; dsimp only; exact (foldl_same (·.transport.restarts) _ (fun p _ => by exact foldl_same (·.transport.restarts) _ (fun p _ => by simp) _ _) _ _).trans (by simp),
    by unfold dropTransactions; dsimp only; exact (foldl_same (·.transport.cmdsDone) _ (fun p _ => by exact foldl_same (·.transport.cmdsDone) _ (fun p _ => by simp) _ _) _ _).trans (by simp),
    by unfold dropTransactions; dsimp only; exact (foldl_same (·.transport.epochs) _ (fun p _ => by exact foldl_same (·.transport.epochs) _ (fun p _ => by simp) _ _) _ _).trans (by simp),
    by unfold dropTransactions; dsimp only; exact (foldl_same (·.transport.lastServed) _ (fun p _ => by exact foldl_same (·.transport.lastServed) _ (fun p _ => by simp) _ _) _ _).trans (by simp),
    by unfold dropTransactions; dsimp only; exact (foldl_same (·.transport.sessions) _ (fun p _ => by exact foldl_same (·.transport.sessions) _ (fun p _ => by simp) _ _) _ _).trans (by simp),
    by unfold dropTransactions; dsimp only; exact (foldl_same (·.transport.claims) _ (fun p _ => by exact foldl_same (·.transport.claims) _ (fun p _ => by simp) _ _) _ _).trans (by simp),
    by unfold dropTransactions; dsimp only; exact (foldl_same (·.transport.flights) _ (fun p _ => by exact foldl_same (·.transport.flights) _ (fun p _ => by simp) _ _) _ _).trans (by simp),
    by unfold dropTransactions; dsimp only; exact (foldl_same (·.transport.nextOrder) _ (fun p _ => by exact foldl_same (·.transport.nextOrder) _ (fun p _ => by simp) _ _) _ _).trans (by simp),
    by unfold dropTransactions; dsimp only; exact (foldl_same (·.transport.lastEffect) _ (fun p _ => by exact foldl_same (·.transport.lastEffect) _ (fun p _ => by simp) _ _) _ _).trans (by simp),
    by unfold dropTransactions; dsimp only; exact (foldl_same (·.transport.locks) _ (fun p _ => by exact foldl_same (·.transport.locks) _ (fun p _ => by simp) _ _) _ _).trans (by simp),
    by unfold dropTransactions; dsimp only; exact (foldl_same (·.transport.lockNodes) _ (fun p _ => by exact foldl_same (·.transport.lockNodes) _ (fun p _ => by simp) _ _) _ _).trans (by simp),
    by unfold dropTransactions; dsimp only; exact (foldl_same (·.transport.badRelease) _ (fun p _ => by exact foldl_same (·.transport.badRelease) _ (fun p _ => by simp) _ _) _ _).trans (by simp),
    by unfold dropTransactions; dsimp only; exact (foldl_same (·.transport.forcedRelease) _ (fun p _ => by exact foldl_same (·.transport.forcedRelease) _ (fun p _ => by simp) _ _) _ _).trans (by simp),
    by unfold dropTransactions; dsimp only; exact (foldl_same (·.transport.raised) _ (fun p _ => by exact foldl_same (·.transport.raised) _ (fun p _ => by simp) _ _) _ _).trans (by simp),
    by unfold dropTransactions; dsimp only; exact (foldl_same (·.regs.shadows) _ (fun p _ => by exact foldl_same (·.regs.shadows) _ (fun p _ => by simp) _ _) _ _).trans (by simp),
    by unfold dropTransactions; dsimp only; exact (foldl_same (·.regs.resetBusy) _ (fun p _ => by exact foldl_same (·.regs.resetBusy) _ (fun p _ => by simp) _ _) _ _).trans (by simp),
    by unfold dropTransactions; dsimp only; exact (foldl_same (·.regs.resetStatus) _ (fun p _ => by exact foldl_same (·.regs.resetStatus) _ (fun p _ => by simp) _ _) _ _).trans (by simp),
    by unfold dropTransactions; dsimp only; exact (foldl_same (·.regs.resetSession) _ (fun p _ => by exact foldl_same (·.regs.resetSession) _ (fun p _ => by simp) _ _) _ _).trans (by simp),
    by unfold dropTransactions; dsimp only; exact (foldl_same (·.regs.resetInst) _ (fun p _ => by exact foldl_same (·.regs.resetInst) _ (fun p _ => by simp) _ _) _ _).trans (by simp),
    by unfold dropTransactions; dsimp only; exact (foldl_same (·.regs.resetType) _ (fun p _ => by exact foldl_same (·.regs.resetType) _ (fun p _ => by simp) _ _) _ _).trans (by simp),
    by unfold dropTransactions; dsimp only; exact (foldl_same (·.hostif.linkUp) _ (fun p _ => by exact foldl_same (·.hostif.linkUp) _ (fun p _ => by simp) _ _) _ _).trans (by simp),
    by unfold dropTransactions; dsimp only; exact (foldl_same (·.hostif.rate) _ (fun p _ => by exact foldl_same (·.hostif.rate) _ (fun p _ => by simp) _ _) _ _).trans (by simp),
    by unfold dropTransactions; dsimp only; exact (foldl_same (·.hostif.width) _ (fun p _ => by exact foldl_same (·.hostif.width) _ (fun p _ => by simp) _ _) _ _).trans (by simp),
    by unfold dropTransactions; dsimp only; exact (foldl_same (·.hostif.cxl) _ (fun p _ => by exact foldl_same (·.hostif.cxl) _ (fun p _ => by simp) _ _) _ _).trans (by simp),
    by unfold dropTransactions; dsimp only; exact (foldl_same (·.hostif.cacheEn) _ (fun p _ => by exact foldl_same (·.hostif.cacheEn) _ (fun p _ => by simp) _ _) _ _).trans (by simp),
    by unfold dropTransactions; dsimp only; exact (foldl_same (·.hostif.linkDownCount) _ (fun p _ => by exact foldl_same (·.hostif.linkDownCount) _ (fun p _ => by simp) _ _) _ _).trans (by simp),
    by unfold dropTransactions; dsimp only; exact (foldl_same (·.hostif.droppedWrites) _ (fun p _ => by exact foldl_same (·.hostif.droppedWrites) _ (fun p _ => by simp) _ _) _ _).trans (by simp),
    by unfold dropTransactions; dsimp only; exact (foldl_same (·.hostif.bar2Refused) _ (fun p _ => by exact foldl_same (·.hostif.bar2Refused) _ (fun p _ => by simp) _ _) _ _).trans (by simp),
    by unfold dropTransactions; dsimp only; exact (foldl_same (·.hostif.hdmCommitted) _ (fun p _ => by exact foldl_same (·.hostif.hdmCommitted) _ (fun p _ => by simp) _ _) _ _).trans (by simp),
    by unfold dropTransactions; dsimp only; exact (foldl_same (·.hostif.hdmBase) _ (fun p _ => by exact foldl_same (·.hostif.hdmBase) _ (fun p _ => by simp) _ _) _ _).trans (by simp),
    by unfold dropTransactions; dsimp only; exact (foldl_same (·.hostif.hdmError) _ (fun p _ => by exact foldl_same (·.hostif.hdmError) _ (fun p _ => by simp) _ _) _ _).trans (by simp),
    by unfold dropTransactions; dsimp only; exact (foldl_same (·.hostif.nextRequest) _ (fun p _ => by exact foldl_same (·.hostif.nextRequest) _ (fun p _ => by simp) _ _) _ _).trans (by simp),
    by unfold dropTransactions; dsimp only; exact (foldl_same (·.hostif.voidedCompletions) _ (fun p _ => by exact foldl_same (·.hostif.voidedCompletions) _ (fun p _ => by simp) _ _) _ _).trans (by simp)⟩

@[simp] theorem disableRings_parts (fn : Nat) (p : Piece) :
    (disableRings fn p).transport.state = p.transport.state ∧
    (disableRings fn p).transport.fwVersion = p.transport.fwVersion ∧
    (disableRings fn p).transport.heartbeat = p.transport.heartbeat ∧
    (disableRings fn p).transport.restarts = p.transport.restarts ∧
    (disableRings fn p).transport.cmdsDone = p.transport.cmdsDone ∧
    (disableRings fn p).transport.epochs = p.transport.epochs ∧
    (disableRings fn p).transport.lastServed = p.transport.lastServed ∧
    (disableRings fn p).transport.claims = p.transport.claims ∧ (disableRings fn p).transport.flights = p.transport.flights ∧
    (disableRings fn p).transport.nextOrder = p.transport.nextOrder ∧
    (disableRings fn p).transport.lastEffect = p.transport.lastEffect ∧
    (disableRings fn p).transport.locks = p.transport.locks ∧
    (disableRings fn p).transport.lockNodes = p.transport.lockNodes ∧
    (disableRings fn p).transport.badRelease = p.transport.badRelease ∧
    (disableRings fn p).transport.forcedRelease = p.transport.forcedRelease ∧
    (disableRings fn p).transport.raised = p.transport.raised := by
  and_intros <;> simp [disableRings]

@[simp] theorem releaseLocks_parts (f : Nat → Nat → Bool) (p : Piece) :
    (releaseLocks f p).transport.state = p.transport.state ∧ (releaseLocks f p).transport.fwVersion = p.transport.fwVersion ∧
    (releaseLocks f p).transport.heartbeat = p.transport.heartbeat ∧
    (releaseLocks f p).transport.restarts = p.transport.restarts ∧
    (releaseLocks f p).transport.cmdsDone = p.transport.cmdsDone ∧ (releaseLocks f p).transport.epochs = p.transport.epochs ∧
    (releaseLocks f p).transport.lastServed = p.transport.lastServed ∧
    (releaseLocks f p).transport.sessions = p.transport.sessions ∧ (releaseLocks f p).transport.claims = p.transport.claims ∧
    (releaseLocks f p).transport.flights = p.transport.flights ∧
    (releaseLocks f p).transport.nextOrder = p.transport.nextOrder ∧
    (releaseLocks f p).transport.lastEffect = p.transport.lastEffect ∧
    (releaseLocks f p).transport.lockNodes = p.transport.lockNodes ∧
    (releaseLocks f p).transport.badRelease = p.transport.badRelease ∧
    (releaseLocks f p).transport.raised = p.transport.raised ∧ (releaseLocks f p).transport.channels = p.transport.channels := by
  and_intros <;> simp [releaseLocks]

@[simp] theorem removeFunction_frame (fn : Nat) (p : Piece) :
    (removeFunction fn p).safety = p.safety ∧ (removeFunction fn p).boot = p.boot ∧ (removeFunction fn p).clocks = p.clocks ∧
    (removeFunction fn p).ledger = p.ledger ∧ (removeFunction fn p).monitor = p.monitor ∧
    (removeFunction fn p).check = p.check ∧ (removeFunction fn p).net = p.net ∧ (removeFunction fn p).stamp = p.stamp ∧
    (removeFunction fn p).fabric = p.fabric ∧ (removeFunction fn p).rfin = p.rfin ∧ (removeFunction fn p).chan = p.chan ∧
    (removeFunction fn p).xform = p.xform ∧ (removeFunction fn p).density = p.density ∧
    (removeFunction fn p).trigger = p.trigger ∧ (removeFunction fn p).acq = p.acq ∧ (removeFunction fn p).gythen = p.gythen ∧
    (removeFunction fn p).tally = p.tally ∧ (removeFunction fn p).cal = p.cal ∧ (removeFunction fn p).scan = p.scan ∧
    (removeFunction fn p).free = p.free := by
  have k {α : Type} (g : Piece → α) (hg : ∀ ch p, g (receiverReset ch false p) = g p) (l : List Nat) (q : Piece) :
      g (l.foldl (fun p ch => receiverReset ch false p) q) = g q := foldl_same g _ (fun p x => hg x p) l q
  exact ⟨by unfold removeFunction; dsimp only; cases (fn == 0) <;> simp [k (·.safety) (by simp)],
    by unfold removeFunction; dsimp only; cases (fn == 0) <;> simp [k (·.boot) (by simp)],
    by unfold removeFunction; dsimp only; cases (fn == 0) <;> simp [k (·.clocks) (by simp)],
    by unfold removeFunction; dsimp only; cases (fn == 0) <;> simp [k (·.ledger) (by simp)],
    by unfold removeFunction; dsimp only; cases (fn == 0) <;> simp [k (·.monitor) (by simp)],
    by unfold removeFunction; dsimp only; cases (fn == 0) <;> simp [k (·.check) (by simp)],
    by unfold removeFunction; dsimp only; cases (fn == 0) <;> simp [k (·.net) (by simp)],
    by unfold removeFunction; dsimp only; cases (fn == 0) <;> simp [k (·.stamp) (by simp)],
    by unfold removeFunction; dsimp only; cases (fn == 0) <;> simp [k (·.fabric) (by simp)],
    by unfold removeFunction; dsimp only; cases (fn == 0) <;> simp [k (·.rfin) (by simp)],
    by unfold removeFunction; dsimp only; cases (fn == 0) <;> simp [k (·.chan) (by simp)],
    by unfold removeFunction; dsimp only; cases (fn == 0) <;> simp [k (·.xform) (by simp)],
    by unfold removeFunction; dsimp only; cases (fn == 0) <;> simp [k (·.density) (by simp)],
    by unfold removeFunction; dsimp only; cases (fn == 0) <;> simp [k (·.trigger) (by simp)],
    by unfold removeFunction; dsimp only; cases (fn == 0) <;> simp [k (·.acq) (by simp)],
    by unfold removeFunction; dsimp only; cases (fn == 0) <;> simp [k (·.gythen) (by simp)],
    by unfold removeFunction; dsimp only; cases (fn == 0) <;> simp [k (·.tally) (by simp)],
    by unfold removeFunction; dsimp only; cases (fn == 0) <;> simp [k (·.cal) (by simp)],
    by unfold removeFunction; dsimp only; cases (fn == 0) <;> simp [k (·.scan) (by simp)],
    by unfold removeFunction; dsimp only; cases (fn == 0) <;> simp [k (·.free) (by simp)]⟩

@[simp] theorem removeFunction_parts (fn : Nat) (p : Piece) :
    (removeFunction fn p).transport.state = p.transport.state ∧
    (removeFunction fn p).transport.fwVersion = p.transport.fwVersion ∧
    (removeFunction fn p).transport.heartbeat = p.transport.heartbeat ∧
    (removeFunction fn p).transport.restarts = p.transport.restarts ∧
    (removeFunction fn p).transport.lastServed = p.transport.lastServed ∧
    (removeFunction fn p).transport.claims = p.transport.claims ∧
    (removeFunction fn p).transport.nextOrder = p.transport.nextOrder ∧
    (removeFunction fn p).transport.lockNodes = p.transport.lockNodes ∧
    (removeFunction fn p).transport.badRelease = p.transport.badRelease ∧
    (removeFunction fn p).transport.raised = p.transport.raised ∧ (removeFunction fn p).hostif.linkUp = p.hostif.linkUp ∧
    (removeFunction fn p).hostif.linkDownCount = p.hostif.linkDownCount ∧ (removeFunction fn p).hostif.rate = p.hostif.rate ∧
    (removeFunction fn p).hostif.width = p.hostif.width ∧ (removeFunction fn p).hostif.hdmCommitted = p.hostif.hdmCommitted ∧
    (removeFunction fn p).hostif.hdmBase = p.hostif.hdmBase ∧ (removeFunction fn p).hostif.cxl = p.hostif.cxl ∧
    (removeFunction fn p).dmc.frozen = p.dmc.frozen ∧ (removeFunction fn p).dmc.selfRefresh = p.dmc.selfRefresh ∧
    (removeFunction fn p).dmc.freezeCause = p.dmc.freezeCause ∧ (removeFunction fn p).dmc.chUp = p.dmc.chUp ∧
    (removeFunction fn p).dmc.speed = p.dmc.speed ∧ (removeFunction fn p).dmc.gibPerChannel = p.dmc.gibPerChannel ∧
    (removeFunction fn p).dmc.rdimm = p.dmc.rdimm ∧ (removeFunction fn p).dmc.ranks = p.dmc.ranks ∧
    (removeFunction fn p).dmc.ceCount = p.dmc.ceCount ∧ (removeFunction fn p).dmc.ueCount = p.dmc.ueCount ∧
    (removeFunction fn p).dmc.freezeAddr = p.dmc.freezeAddr ∧ (removeFunction fn p).dmc.lastCeAddr = p.dmc.lastCeAddr ∧
    (removeFunction fn p).dmc.panicCount = p.dmc.panicCount ∧ (removeFunction fn p).dmc.panicActive = p.dmc.panicActive ∧
    (removeFunction fn p).dmc.refreshForced = p.dmc.refreshForced ∧
    (removeFunction fn p).dmc.neighbourRefresh = p.dmc.neighbourRefresh ∧
    (removeFunction fn p).dmc.actThreshold = p.dmc.actThreshold ∧ (removeFunction fn p).dmc.hostRefused = p.dmc.hostRefused ∧
    (removeFunction fn p).dmc.training = p.dmc.training ∧ (removeFunction fn p).dmc.initDone = p.dmc.initDone ∧
    (removeFunction fn p).dmc.act = p.dmc.act ∧ (removeFunction fn p).dmc.refreshDebt = p.dmc.refreshDebt ∧
    (removeFunction fn p).dmc.promoted = p.dmc.promoted ∧ (removeFunction fn p).regs.shadows = p.regs.shadows ∧
    (removeFunction fn p).regs.resetBusy = p.regs.resetBusy ∧ (removeFunction fn p).regs.resetStatus = p.regs.resetStatus ∧
    (removeFunction fn p).regs.resetSession = p.regs.resetSession ∧ (removeFunction fn p).regs.resetInst = p.regs.resetInst ∧
    (removeFunction fn p).regs.resetType = p.regs.resetType := by
  have k {α : Type} (g : Piece → α) (hg : ∀ ch p, g (receiverReset ch false p) = g p) (l : List Nat) (q : Piece) :
      g (l.foldl (fun p ch => receiverReset ch false p) q) = g q := foldl_same g _ (fun p x => hg x p) l q
  exact ⟨by unfold removeFunction; dsimp only; cases (fn == 0) <;> simp [k (·.transport.state) (by simp)],
    by unfold removeFunction; dsimp only; cases (fn == 0) <;> simp [k (·.transport.fwVersion) (by simp)],
    by unfold removeFunction; dsimp only; cases (fn == 0) <;> simp [k (·.transport.heartbeat) (by simp)],
    by unfold removeFunction; dsimp only; cases (fn == 0) <;> simp [k (·.transport.restarts) (by simp)],
    by unfold removeFunction; dsimp only; cases (fn == 0) <;> simp [k (·.transport.lastServed) (by simp)],
    by unfold removeFunction; dsimp only; cases (fn == 0) <;> simp [k (·.transport.claims) (by simp)],
    by unfold removeFunction; dsimp only; cases (fn == 0) <;> simp [k (·.transport.nextOrder) (by simp)],
    by unfold removeFunction; dsimp only; cases (fn == 0) <;> simp [k (·.transport.lockNodes) (by simp)],
    by unfold removeFunction; dsimp only; cases (fn == 0) <;> simp [k (·.transport.badRelease) (by simp)],
    by unfold removeFunction; dsimp only; cases (fn == 0) <;> simp [k (·.transport.raised) (by simp)],
    by unfold removeFunction; dsimp only; cases (fn == 0) <;> simp [k (·.hostif.linkUp) (by simp)],
    by unfold removeFunction; dsimp only; cases (fn == 0) <;> simp [k (·.hostif.linkDownCount) (by simp)],
    by unfold removeFunction; dsimp only; cases (fn == 0) <;> simp [k (·.hostif.rate) (by simp)],
    by unfold removeFunction; dsimp only; cases (fn == 0) <;> simp [k (·.hostif.width) (by simp)],
    by unfold removeFunction; dsimp only; cases (fn == 0) <;> simp [k (·.hostif.hdmCommitted) (by simp)],
    by unfold removeFunction; dsimp only; cases (fn == 0) <;> simp [k (·.hostif.hdmBase) (by simp)],
    by unfold removeFunction; dsimp only; cases (fn == 0) <;> simp [k (·.hostif.cxl) (by simp)],
    by unfold removeFunction; dsimp only; cases (fn == 0) <;> simp [k (·.dmc.frozen) (by simp)],
    by unfold removeFunction; dsimp only; cases (fn == 0) <;> simp [k (·.dmc.selfRefresh) (by simp)],
    by unfold removeFunction; dsimp only; cases (fn == 0) <;> simp [k (·.dmc.freezeCause) (by simp)],
    by unfold removeFunction; dsimp only; cases (fn == 0) <;> simp [k (·.dmc.chUp) (by simp)],
    by unfold removeFunction; dsimp only; cases (fn == 0) <;> simp [k (·.dmc.speed) (by simp)],
    by unfold removeFunction; dsimp only; cases (fn == 0) <;> simp [k (·.dmc.gibPerChannel) (by simp)],
    by unfold removeFunction; dsimp only; cases (fn == 0) <;> simp [k (·.dmc.rdimm) (by simp)],
    by unfold removeFunction; dsimp only; cases (fn == 0) <;> simp [k (·.dmc.ranks) (by simp)],
    by unfold removeFunction; dsimp only; cases (fn == 0) <;> simp [k (·.dmc.ceCount) (by simp)],
    by unfold removeFunction; dsimp only; cases (fn == 0) <;> simp [k (·.dmc.ueCount) (by simp)],
    by unfold removeFunction; dsimp only; cases (fn == 0) <;> simp [k (·.dmc.freezeAddr) (by simp)],
    by unfold removeFunction; dsimp only; cases (fn == 0) <;> simp [k (·.dmc.lastCeAddr) (by simp)],
    by unfold removeFunction; dsimp only; cases (fn == 0) <;> simp [k (·.dmc.panicCount) (by simp)],
    by unfold removeFunction; dsimp only; cases (fn == 0) <;> simp [k (·.dmc.panicActive) (by simp)],
    by unfold removeFunction; dsimp only; cases (fn == 0) <;> simp [k (·.dmc.refreshForced) (by simp)],
    by unfold removeFunction; dsimp only; cases (fn == 0) <;> simp [k (·.dmc.neighbourRefresh) (by simp)],
    by unfold removeFunction; dsimp only; cases (fn == 0) <;> simp [k (·.dmc.actThreshold) (by simp)],
    by unfold removeFunction; dsimp only; cases (fn == 0) <;> simp [k (·.dmc.hostRefused) (by simp)],
    by unfold removeFunction; dsimp only; cases (fn == 0) <;> simp [k (·.dmc.training) (by simp)],
    by unfold removeFunction; dsimp only; cases (fn == 0) <;> simp [k (·.dmc.initDone) (by simp)],
    by unfold removeFunction; dsimp only; cases (fn == 0) <;> simp [k (·.dmc.act) (by simp)],
    by unfold removeFunction; dsimp only; cases (fn == 0) <;> simp [k (·.dmc.refreshDebt) (by simp)],
    by unfold removeFunction; dsimp only; cases (fn == 0) <;> simp [k (·.dmc.promoted) (by simp)],
    by unfold removeFunction; dsimp only; cases (fn == 0) <;> simp [k (·.regs.shadows) (by simp)],
    by unfold removeFunction; dsimp only; cases (fn == 0) <;> simp [k (·.regs.resetBusy) (by simp)],
    by unfold removeFunction; dsimp only; cases (fn == 0) <;> simp [k (·.regs.resetStatus) (by simp)],
    by unfold removeFunction; dsimp only; cases (fn == 0) <;> simp [k (·.regs.resetSession) (by simp)],
    by unfold removeFunction; dsimp only; cases (fn == 0) <;> simp [k (·.regs.resetInst) (by simp)],
    by unfold removeFunction; dsimp only; cases (fn == 0) <;> simp [k (·.regs.resetType) (by simp)]⟩

end Sys2Proof.Machine
end

