-- ==== Sys2Proof/Laws/HostLink.lean ====
section
/-! SUPPORT. The link and the rings: epochs, locks and disabled rings through a removal. -/

namespace Sys2Proof.Machine

set_option linter.all false

/-- A sender's epoch moves on (R425). -/
@[simp] theorem bumpEpoch_epochs (r : Requester) (p : Piece) :
    (bumpEpoch r p).transport.epochs = upd p.transport.epochs (epochIndex r) nextEpoch := by
  unfold bumpEpoch
  dsimp only
  exact foldl_same (·.transport.epochs) _ (fun p _ => by split <;> simp) _ _

theorem fold_receiver {α : Type} (g : Piece → α) (hg : ∀ ch p, g (receiverReset ch false p) = g p) (l : List Nat)
    (q : Piece) : g (l.foldl (fun p ch => receiverReset ch false p) q) = g q :=
  foldl_same g _ (fun p x => hg x p) l q

/-- Removal moves on the epoch of its function (R384, R425). -/
@[simp] theorem removeFunction_epochs (fn : Nat) (p : Piece) :
    (removeFunction fn p).transport.epochs =
      upd p.transport.epochs (epochIndex (if fn == 0 then .host0 else .host1)) nextEpoch := by
  unfold removeFunction
  dsimp only
  cases (fn == 0) <;> simp [fold_receiver (·.transport.epochs) (by simp)]

/-- Removal of function 0 releases its locks, of function 1 none (R384, R431). -/
@[simp] theorem removeFunction_locks (fn : Nat) (p : Piece) :
    (removeFunction fn p).transport.locks =
      if fn == 0 then (releaseLocks (fun _ o => o == 0x01) p).transport.locks else p.transport.locks := by
  have k := fun l q => fold_receiver (·.transport.locks) (by simp) l q
  unfold removeFunction
  dsimp only
  cases (fn == 0)
  · simp [k]
  · simp [releaseLocks, k]

/-! ### A disabled ring stays disabled until it is registered -/

theorem channel_def (p : Piece) (ch : Nat) : p.channel ch = nth p.transport.channels ch := rfl

/-- A change of a channel that keeps the ring keeps every channel's ring. -/
theorem onChannel_ring (i : Nat) (f : Channel → Channel) (hf : ∀ c, (f c).ring = c.ring) (p : Piece) (ch : Nat) :
    ((onChannel i f p).channel ch).ring = (p.channel ch).ring :=
  nth_upd_keep Channel.ring _ _ _ _ hf

@[simp] theorem raiseVector_channel (fn v : Nat) (p : Piece) (ch : Nat) : (raiseVector fn v p).channel ch = p.channel ch := by
  simp [channel_def]

@[simp] theorem attention_channel (i : Nat) (p : Piece) (ch : Nat) : (attention i p).channel ch = p.channel ch := by
  simp [attention]

@[simp] theorem enterInbound_ring (i : Nat) (n : Notice) (p : Piece) (ch : Nat) :
    ((enterInbound i n p).channel ch).ring = (p.channel ch).ring := by
  have := onChannel_ring i (fun c => { c with inq := c.inq ++
    [{ notice := n, sender := .steward, entered := p.now, timeout := c.timeoutRx }] }) (fun _ => rfl) p ch
  simp only [enterInbound]
  cases (p.channel i).inq.isEmpty <;> simpa using this

@[simp] theorem postNotice_ring (i kind a n : Nat) (p : Piece) (ch : Nat) :
    ((postNotice i kind a n p).channel ch).ring = (p.channel ch).ring := by
  simp only [postNotice]
  split
  · rw [enterInbound_ring]
    exact onChannel_ring _ _ (by intro c; rfl) _ _
  · refine (onChannel_ring _ _ ?_ _ _).trans (onChannel_ring _ _ ?_ _ _) <;> intro c <;> rfl

theorem pieceWrite_channel (a : Nat) (bs : Bytes) (p : Piece) (ch : Nat) : (pieceWrite a bs p).1.channel ch = p.channel ch := by
  simp [channel_def]

/-- A disabled ring takes no record (R449). -/
theorem writeCompletion_ring (f : Flight) (c : Completion) (p : Piece) (ch : Nat) (h : (p.channel ch).ring.entries = 0) :
    ((writeCompletion f c p).channel ch).ring.entries = 0 := by
  unfold writeCompletion
  dsimp only
  split
  · exact h
  next hne =>
    have h2 : ∀ q : Piece, q.transport = p.transport →
        ((land f (setRingFor f c.status (ringFor p f c.status).advance q)).channel ch).ring.entries = 0 := by
      intro q hq
      have hu : usesDefaultRing q f c.status = usesDefaultRing p f c.status := by
        simp [usesDefaultRing, Piece.session, hq]
      show ((setRingFor f c.status (ringFor p f c.status).advance q).channel ch).ring.entries = 0
      unfold setRingFor
      rw [hu]
      split
      next hd =>
        have hf : f.channel ≠ ch := by
          rintro rfl
          apply hne
          simp only [ringFor, hd, if_true]
          simpa using h
        simp only [channel_def, onChannel_transport, hq]
        rw [nth_upd_ne _ _ hf]
        exact h
      · simpa [channel_def, hq] using h
    have hp := (pieceWrite_frame ((ringFor p f c.status).base + (ringFor p f c.status).slot * 32)
      (c.bytes (ringFor p f c.status).phase) p).1
    generalize pieceWrite _ _ p = x at hp ⊢
    obtain ⟨q, t⟩ := x
    have hq : (q.channel ch).ring.entries = 0 := by
      rw [channel_def, show q.transport = p.transport from hp]
      exact h
    cases t
    · cases f.irq
      · simpa using h2 q hp
      · simpa using h2 q hp
    all_goals exact hq

theorem settleOnce_ring (p : Piece) (ch : Nat) (h : (p.channel ch).ring.entries = 0) :
    ((settleOnce p).channel ch).ring.entries = 0 := by
  unfold settleOnce
  split
  · split
    · exact writeCompletion_ring _ _ _ _ h
    · exact h
  · split
    · exact h
    · split <;> exact h

theorem settleN_ring (k : Nat) (p : Piece) (ch : Nat) (h : (p.channel ch).ring.entries = 0) :
    ((settleN k p).channel ch).ring.entries = 0 := by
  induction k generalizing p with
  | zero => exact h
  | succ k ih => exact ih _ (settleOnce_ring p ch h)

/-- Completions leave a disabled default ring disabled. -/
theorem settle_ring (p : Piece) (ch : Nat) (h : (p.channel ch).ring.entries = 0) :
    ((settle p).channel ch).ring.entries = 0 := settleN_ring _ p ch h

/-- The default rings of a function's channels are disabled by its removal (R384). -/
theorem disableRings_ring (fn : Nat) (p : Piece) (ch : Nat) (h : ch ∈ channelsOf fn) :
    ((disableRings fn p).channel ch).ring.entries = 0 := by
  simp only [disableRings, channel_def, nth, List.getD_eq_getElem?_getD, List.getElem?_mapIdx]
  cases p.transport.channels[ch]? with
  | none => rfl
  | some c => simp [h, disableRing]

theorem removeFunction_ring (fn : Nat) (p : Piece) (ch : Nat) (h : ch ∈ channelsOf fn) :
    ((removeFunction fn p).channel ch).ring.entries = 0 := by
  unfold removeFunction
  dsimp only
  apply settle_ring
  have h2 : ∀ q, ((stopStreams fn (disableRings fn q)).channel ch).ring.entries = 0 := fun q => disableRings_ring fn q ch h
  cases (fn == 0)
  · exact h2 _
  · exact h2 _

@[simp] theorem resetMsix_channel (fn : Nat) (p : Piece) (ch : Nat) : (resetMsix fn p).channel ch = p.channel ch := by
  simp [channel_def]

/-! ### Rings through the resets of a side -/

theorem setStatus_ring (i : Nat) (w : Channel → Bool) (f : Channel → Channel) (hf : ∀ c, (f c).ring = c.ring) (p : Piece)
    (ch : Nat) : ((setStatus i w f p).channel ch).ring = (p.channel ch).ring := by
  have := onChannel_ring i f hf p ch
  simp only [setStatus]
  cases w (p.channel i) <;> simpa using this

@[simp] theorem voidNotices_ring (i n : Nat) (p : Piece) (ch : Nat) :
    ((voidNotices i n p).channel ch).ring = (p.channel ch).ring := by
  simp only [voidNotices]
  cases decide (0 < n)
  · rfl
  · exact setStatus_ring _ _ _ (by intro c; rfl) _ _

@[simp] theorem rejectNotice_ring (i : Nat) (p : Piece) (ch : Nat) :
    ((rejectNotice i p).channel ch).ring = (p.channel ch).ring := setStatus_ring _ _ _ (by intro c; rfl) _ _

@[simp] theorem receiverReset_ring (i : Nat) (b : Bool) (p : Piece) (ch : Nat) :
    ((receiverReset i b p).channel ch).ring = (p.channel ch).ring :=
  setStatus_ring _ _ _ (by intro c; cases b <;> rfl) _ _

@[simp] theorem dropRequest_channel (u : ReadUse) (p : Piece) (ch : Nat) : (dropRequest u p).channel ch = p.channel ch := by
  simp [channel_def]

@[simp] theorem fetchFails_ring (i : Nat) (p : Piece) (ch : Nat) :
    ((fetchFails i p).channel ch).ring = (p.channel ch).ring := by
  simp only [fetchFails]
  split
  · rw [rejectNotice_ring, dropRequest_channel]
    exact onChannel_ring _ _ (by intro c; rfl) _ _
  · rfl

@[simp] theorem bumpEpoch_ring (r : Requester) (p : Piece) (ch : Nat) :
    ((bumpEpoch r p).channel ch).ring = (p.channel ch).ring := by
  unfold bumpEpoch
  dsimp only
  refine (foldl_same (fun q => (q.channel ch).ring) _ (fun p i => ?_) _ _).trans rfl
  split
  · rw [voidNotices_ring]
    exact onChannel_ring _ _ (by intro c; rfl) _ _
  · rw [voidNotices_ring]
    exact onChannel_ring _ _ (by intro c; rfl) _ _

@[simp] theorem dropTransactions_ring (fn : Nat) (p : Piece) (ch : Nat) :
    ((dropTransactions fn p).channel ch).ring = (p.channel ch).ring := by
  unfold dropTransactions
  dsimp only
  refine (foldl_same (fun q => (q.channel ch).ring) _ (fun p i => ?_) _ _)
  exact foldl_same (fun q => (q.channel ch).ring) _ (fun p x => by simp) _ _

/-- Completions, and removal of the other function, leave a disabled ring disabled. -/
theorem removeFunction_ring_off (fn : Nat) (p : Piece) (ch : Nat) (h : (p.channel ch).ring.entries = 0) :
    ((removeFunction fn p).channel ch).ring.entries = 0 := by
  have h3 : ∀ q : Piece, (q.channel ch).ring.entries = 0 → ((disableRings fn q).channel ch).ring.entries = 0 := by
    intro q hq
    simp only [disableRings, channel_def, nth, List.getD_eq_getElem?_getD, List.getElem?_mapIdx] at hq ⊢
    cases hc : q.transport.channels[ch]? with
    | none => rfl
    | some c =>
      simp only [hc, Option.getD_some, Option.map_some] at hq ⊢
      split
      · rfl
      · exact hq
  unfold removeFunction
  dsimp only
  apply settle_ring
  have h2 := h3 ((channelsOf fn).foldl (fun p ch => receiverReset ch false p)
    (bumpEpoch (if fn == 0 then .host0 else .host1) (dropTransactions fn p))) (by
      rw [fold_receiver (fun q => (q.channel ch).ring) (by simp)]
      simpa using h)
  have h4 : ∀ (b : Bool) (q : Piece), (q.channel ch).ring.entries = 0 →
      ((when b (releaseLocks fun _ o => o == 0x01) (stopStreams fn q)).channel ch).ring.entries = 0 := by
    intro b q hq
    cases b
    · exact hq
    · exact hq
  exact h4 _ _ h2

end Sys2Proof.Machine
end

