-- ==== Sys2Proof/Laws/Journal.lean ====
section
/-! SUPPORT. The journal and the alarm bank: what an entry adds to the persistent list, and what an alarm leaves in the bank. -/

namespace Sys2Proof.Machine

set_option linter.all false

/-- The persistent list after an entry (R608). -/
theorem journalled_persistent (now : Nat) (e : JournalEntry) (sf : Safety) :
    (journalled now e sf).1.persistent =
      if e.persistent = true ∧ sf.persistent.length < 256 then sf.persistent ++ [e] else sf.persistent := by
  unfold journalled
  dsimp only
  have key : (if (e.persistent && !(e.persistent && decide (256 ≤ sf.persistent.length))) = true then
      sf.persistent ++ [e] else sf.persistent) =
      if e.persistent = true ∧ sf.persistent.length < 256 then sf.persistent ++ [e] else sf.persistent := by
    cases e.persistent <;> simp
  split
  · generalize rollIncident _ _ _ _ = r
    obtain ⟨_, _, _⟩ := r
    exact key
  · generalize (_ && decide (now < _)) = b
    cases b <;> simpa using key

theorem pushJournal_persistent (e : JournalEntry) (p : Piece) :
    (pushJournal e p).1.safety.persistent =
      if e.persistent = true ∧ p.safety.persistent.length < 256 then p.safety.persistent ++ [stampEntry e p]
      else p.safety.persistent := by
  simp only [pushJournal]
  rw [journalled_persistent]
  rfl

/-- An alarm's own entry is not persistent. -/
@[simp] theorem occurAlarm_persistent (code t i : Nat) (p : Piece) :
    (occurAlarm code t i p).safety.persistent = p.safety.persistent := by
  simp only [occurAlarm, pushJournal_persistent]
  cases (latchAlarm code p).2 <;> simp

/-- The persistent list after a journal entry, whatever alarms the entry latches (R607, R608). -/
theorem writeJournal_persistent (e : JournalEntry) (p : Piece) :
    (writeJournal e p).safety.persistent =
      if e.persistent = true ∧ p.safety.persistent.length < 256 then p.safety.persistent ++ [stampEntry e p]
      else p.safety.persistent := by
  simp only [writeJournal]
  cases (pushJournal e p).2.2 <;> cases (pushJournal e p).2.1 <;> simp [pushJournal_persistent]

/-! ### The bank -/

/-- An alarm of a code is latched. -/
def Latched (code : Nat) (p : Piece) : Prop := ∀ x ∈ p.safety.alarms, x.code = code → x.latched = true

/-- An occurrence latches its alarm (R602). -/
theorem latchAlarm_latches (code : Nat) (p : Piece) : Latched code (latchAlarm code p).1 := by
  intro x hx hc
  simp only [latchAlarm, List.mem_map] at hx
  obtain ⟨a, _, rfl⟩ := hx
  by_cases h : a.code = code
  · cases hl : a.latched <;> simp [h, hl]
  · simp [h] at hc

/-- An occurrence of another alarm leaves a latched one latched. -/
theorem latchAlarm_keeps {c : Nat} (code : Nat) {p : Piece} (h : Latched c p) : Latched c (latchAlarm code p).1 := by
  intro x hx hc
  simp only [latchAlarm, List.mem_map] at hx
  obtain ⟨a, ha, rfl⟩ := hx
  by_cases h2 : a.code = code
  · cases hl : a.latched <;> simp [h2, hl]
  · simp only [h2, beq_iff_eq, if_false] at hc ⊢
    exact h a ha hc

/-- The bank is what an alarm's latching depends on. -/
theorem Latched.congr {c : Nat} {p q : Piece} (h : Latched c p) (e : q.safety.alarms = p.safety.alarms) : Latched c q := by
  intro x hx hc
  exact h x (e ▸ hx) hc

theorem occurAlarm_keeps {c : Nat} (code t i : Nat) {p : Piece} (h : Latched c p) : Latched c (occurAlarm code t i p) := by
  refine (latchAlarm_keeps code h).congr ?_
  simp only [occurAlarm, pushJournal_parts]
  cases (latchAlarm code p).2 <;> simp

theorem writeJournal_keeps {c : Nat} (e : JournalEntry) {p : Piece} (h : Latched c p) : Latched c (writeJournal e p) := by
  have h1 : Latched c (pushJournal e p).1 := h.congr (by simp)
  simp only [writeJournal]
  cases (pushJournal e p).2.2 <;> cases (pushJournal e p).2.1
  · exact h1
  · exact occurAlarm_keeps _ _ _ h1
  · exact occurAlarm_keeps _ _ _ h1
  · exact occurAlarm_keeps _ _ _ (occurAlarm_keeps _ _ _ h1)

/-- After an alarm of a panel its entry is latched (R602). -/
theorem raiseAlarm_latches (code t i : Nat) (p : Piece) : Latched code (raiseAlarm code t i p) := by
  simp only [raiseAlarm, alarmWith]
  refine writeJournal_keeps _ ((latchAlarm_latches code p).congr ?_)
  cases (latchAlarm code p).2 <;> simp

end Sys2Proof.Machine
end

