-- ==== Sys2Proof/Laws/Memory.lean ====
section
/-! SUPPORT. Device DRAM: every operation keeps the canonical form, and what a byte reads after a write. -/

namespace Sys2Proof.Machine

set_option linter.all false

/-- The canonical form of a list that begins with an entry: its byte is not zero, every later address is higher, and the rest is in
the form. -/
theorem Memory.wf_cons (a : Nat) (b : Byte) (m : List Host.Cell) :
    Memory.wf ((a, b) :: m) = true ↔ b ≠ 0 ∧ (∀ c ∈ m, a < c.1) ∧ Memory.wf m = true := by
  induction m generalizing a b with
  | nil => simp [Memory.wf]
  | cons c m ih =>
    obtain ⟨a', b'⟩ := c
    constructor
    · intro h
      simp only [Memory.wf, Bool.and_eq_true, bne_iff_ne, decide_eq_true_eq] at h
      refine ⟨h.1.1, ?_, h.2⟩
      intro c hc
      rcases List.mem_cons.1 hc with rfl | hc
      · exact h.1.2
      · exact Nat.lt_trans h.1.2 (((ih a' b').1 h.2).2.1 c hc)
    · rintro ⟨h1, h2, h3⟩
      simp only [Memory.wf, Bool.and_eq_true, bne_iff_ne, decide_eq_true_eq]
      exact ⟨⟨h1, h2 _ (List.mem_cons_self ..)⟩, h3⟩

/-- The addresses listed after a byte is written: its own and those before. -/
theorem memPut_mem {m : List Host.Cell} {a : Nat} {b : Byte} {c : Host.Cell} (h : c ∈ memPut m a b) :
    c = (a, b) ∨ c ∈ m := by
  induction m with
  | nil =>
    simp only [memPut] at h
    split at h <;> simp_all
  | cons x m ih =>
    obtain ⟨x, y⟩ := x
    simp only [memPut] at h
    split at h
    · split at h <;> simp_all
    · split at h
      · split at h
        · exact Or.inr (List.mem_cons_of_mem _ h)
        · rcases List.mem_cons.1 h with h | h
          · exact Or.inl h
          · exact Or.inr (List.mem_cons_of_mem _ h)
      · rcases List.mem_cons.1 h with h | h
        · simp [h]
        · rcases ih h with h | h <;> simp [h]

/-- Writing a byte keeps the canonical form. -/
theorem memPut_wf (m : List Host.Cell) (a : Nat) (b : Byte) (h : Memory.wf m = true) : Memory.wf (memPut m a b) = true := by
  induction m with
  | nil =>
    simp only [memPut]
    split <;> simp_all [Memory.wf]
  | cons x m ih =>
    obtain ⟨x, y⟩ := x
    obtain ⟨h1, h2, h3⟩ := (Memory.wf_cons x y m).1 h
    simp only [memPut]
    split
    next hlt =>
      split
      · exact h
      next hb =>
        refine (Memory.wf_cons ..).2 ⟨hb, ?_, h⟩
        intro c hc
        rcases List.mem_cons.1 hc with rfl | hc
        · exact hlt
        · exact Nat.lt_trans hlt (h2 c hc)
    next hlt =>
      split
      next heq =>
        split
        · exact h3
        next hb => exact (Memory.wf_cons ..).2 ⟨hb, heq ▸ h2, h3⟩
      next hne =>
        refine (Memory.wf_cons ..).2 ⟨h1, ?_, ih h3⟩
        intro c hc
        rcases memPut_mem hc with rfl | hc
        · exact Nat.lt_of_le_of_ne (Nat.not_lt.1 hlt) (fun e => hne e.symm)
        · exact h2 c hc

/-- Writing a string keeps the canonical form. -/
theorem memWrite_wf (m : List Host.Cell) (a : Nat) (bs : Bytes) (h : Memory.wf m = true) :
    Memory.wf (memWrite m a bs) = true := by
  induction bs generalizing m a with
  | nil => exact h
  | cons b bs ih => exact ih _ _ (memPut_wf m a b h)

/-- A byte of a list that lists no such address reads zero. -/
theorem memByte_of_lt {m : List Host.Cell} {x : Nat} (h : ∀ c ∈ m, x < c.1) : memByte m x = 0 := by
  have : (m.find? fun c => c.1 == x) = none := by
    refine List.find?_eq_none.2 fun c hc => ?_
    have := h c hc
    simp only [beq_iff_eq]
    omega
  simp [memByte, this]

theorem memByte_cons (a : Nat) (b : Byte) (m : List Host.Cell) (x : Nat) :
    memByte ((a, b) :: m) x = if a = x then b else memByte m x := by
  by_cases h : a = x <;> simp [memByte, h]

/-- What a byte reads after one byte is written. -/
theorem memByte_memPut (m : List Host.Cell) (a x : Nat) (b : Byte) (h : Memory.wf m = true) :
    memByte (memPut m a b) x = if x = a then b else memByte m x := by
  induction m with
  | nil =>
    simp only [memPut]
    by_cases hb : b = 0
    · rw [if_pos hb, hb]
      by_cases hx : x = a <;> simp [hx, memByte]
    · rw [if_neg hb, memByte_cons]
      by_cases hx : x = a
      · simp [hx]
      · simp [hx, Ne.symm hx]
  | cons c m ih =>
    obtain ⟨c, y⟩ := c
    obtain ⟨h1, h2, h3⟩ := (Memory.wf_cons c y m).1 h
    have ih := ih h3
    simp only [memPut]
    by_cases hlt : a < c
    · have hz : memByte ((c, y) :: m) a = 0 := memByte_of_lt (by
        intro d hd
        rcases List.mem_cons.1 hd with rfl | hd
        · exact hlt
        · exact Nat.lt_trans hlt (h2 d hd))
      rw [if_pos hlt]
      by_cases hb : b = 0
      · rw [if_pos hb]
        by_cases hx : x = a
        · rw [if_pos hx, hx, hz, hb]
        · rw [if_neg hx]
      · rw [if_neg hb, memByte_cons]
        by_cases hx : x = a
        · simp [hx]
        · simp [hx, Ne.symm hx]
    · by_cases hac : a = c
      · subst hac
        have hz : memByte m a = 0 := memByte_of_lt h2
        rw [if_neg hlt, if_pos rfl]
        by_cases hb : b = 0
        · rw [if_pos hb]
          by_cases hx : x = a
          · rw [if_pos hx, hx, hz, hb]
          · rw [if_neg hx, memByte_cons, if_neg (Ne.symm hx)]
        · rw [if_neg hb, memByte_cons]
          by_cases hx : x = a
          · simp [hx]
          · rw [if_neg (Ne.symm hx), if_neg hx, memByte_cons, if_neg (Ne.symm hx)]
      · simp only [hlt, hac, if_false, memByte_cons, ih]
        by_cases hc : c = x
        · have : ¬ x = a := by omega
          simp [hc, this]
        · simp [hc]

/-- A byte outside a written string reads as before. -/
theorem memByte_memWrite_other (m : List Host.Cell) (a x : Nat) (bs : Bytes) (h : Memory.wf m = true)
    (hx : x < a ∨ a + bs.length ≤ x) : memByte (memWrite m a bs) x = memByte m x := by
  induction bs generalizing m a with
  | nil => rfl
  | cons b bs ih =>
    simp only [List.length_cons] at hx
    simp only [memWrite]
    rw [ih _ _ (memPut_wf m a b h) (by omega), memByte_memPut m a x b h, if_neg (by omega)]

/-- A byte inside a written string reads as written. -/
theorem memByte_memWrite (m : List Host.Cell) (a i : Nat) (bs : Bytes) (h : Memory.wf m = true) (hi : i < bs.length) :
    memByte (memWrite m a bs) (a + i) = bs[i] := by
  induction bs generalizing m a i with
  | nil => simp at hi
  | cons b bs ih =>
    have hp := memPut_wf m a b h
    cases i with
    | zero =>
      simp only [memWrite, Nat.add_zero, List.getElem_cons_zero]
      rw [memByte_memWrite_other _ _ _ _ hp (by omega), memByte_memPut m a a b h, if_pos rfl]
    | succ i =>
      simp only [memWrite, List.getElem_cons_succ]
      rw [show a + (i + 1) = a + 1 + i by omega]
      exact ih _ _ i hp (by simpa using hi)

end Sys2Proof.Machine
end

