-- ==== Sys2Proof/Laws/PerInstr.lean ====
section
/-! SUPPORT. Of every constructor: a row of the catalogues has a header row, and every block is a well-formed operand. -/

namespace Sys2Proof

/-- A row that is a command of the catalogues has a row in the table of header checks, and can carry every block; a row that is an
event is no command. -/
def Laws.Kind.Statement (i : Instr) : Prop :=
  ∀ op c, i.command = some (op, c) → (Machine.cmdRow op).isSome = true ∧ i.wellFormed = true

theorem Laws.Kind.powerOn : Laws.Kind.Statement .powerOn := by
  intro op c h; cases h

theorem Laws.Kind.sysResetAssert (widthNs : Nat) : Laws.Kind.Statement (.sysResetAssert widthNs) := by
  intro op c h; cases h

theorem Laws.Kind.sysResetRelease : Laws.Kind.Statement .sysResetRelease := by
  intro op c h; cases h

theorem Laws.Kind.perstN : Laws.Kind.Statement .perstN := by
  intro op c h; cases h

theorem Laws.Kind.functionLevelReset (function : Fin 2) : Laws.Kind.Statement (.functionLevelReset function) := by
  intro op c h; cases h

theorem Laws.Kind.hostLinkRemoval : Laws.Kind.Statement .hostLinkRemoval := by
  intro op c h; cases h

theorem Laws.Kind.hostLinkUp (rate : Fin 8) (width : Fin 32) (cxl : Bool) (cache : Bool) : Laws.Kind.Statement (.hostLinkUp rate width cxl cache) := by
  intro op c h; cases h

theorem Laws.Kind.linkRetrain (rate : Fin 8) (width : Fin 32) : Laws.Kind.Statement (.linkRetrain rate width) := by
  intro op c h; cases h

theorem Laws.Kind.hostRequestTimeout (request : Nat) : Laws.Kind.Statement (.hostRequestTimeout request) := by
  intro op c h; cases h

theorem Laws.Kind.hostReadCompletion (request : Nat) (answer : Answer) : Laws.Kind.Statement (.hostReadCompletion request answer) := by
  intro op c h; cases h

theorem Laws.Kind.bar2Access (write : Bool) (address : Nat) (length : Nat) (bytes : Bytes) : Laws.Kind.Statement (.bar2Access write address length bytes) := by
  intro op c h; cases h

theorem Laws.Kind.hdmAccess (write : Bool) (hostAddress : Nat) (length : Nat) (bytes : Bytes) : Laws.Kind.Statement (.hdmAccess write hostAddress length bytes) := by
  intro op c h; cases h

theorem Laws.Kind.hdmDecoderCommit (base : Nat) (size : Nat) (ways : Nat) : Laws.Kind.Statement (.hdmDecoderCommit base size ways) := by
  intro op c h; cases h

theorem Laws.Kind.doorbell (requester : Requester) (channel : Fin 20) (word : Word) : Laws.Kind.Statement (.doorbell requester channel word) := by
  intro op c h; cases h

theorem Laws.Kind.mbxInTake (requester : Requester) (channel : Fin 20) (wide : Bool) : Laws.Kind.Statement (.mbxInTake requester channel wide) := by
  intro op c h; cases h

theorem Laws.Kind.mbxStatusClear (requester : Requester) (channel : Fin 20) (value : Word) : Laws.Kind.Statement (.mbxStatusClear requester channel value) := by
  intro op c h; cases h

theorem Laws.Kind.mbxTimeoutExpiry (channel : Fin 20) (outbound : Bool) (index : Nat) : Laws.Kind.Statement (.mbxTimeoutExpiry channel outbound index) := by
  intro op c h; cases h

theorem Laws.Kind.noticeTakeBySteward : Laws.Kind.Statement .noticeTakeBySteward := by
  intro op c h; cases h

theorem Laws.Kind.commandFetchDone (channel : Fin 20) (answer : Answer) : Laws.Kind.Statement (.commandFetchDone channel answer) := by
  intro op c h; cases h

theorem Laws.Kind.commandFetchFail (channel : Fin 20) : Laws.Kind.Statement (.commandFetchFail channel) := by
  intro op c h; cases h

theorem Laws.Kind.completionRingRetry (session : Nat) (channel : Fin 20) (consumer : Answer) : Laws.Kind.Statement (.completionRingRetry session channel consumer) := by
  intro op c h; cases h

theorem Laws.Kind.stewardNoticePost (channel : Fin 20) : Laws.Kind.Statement (.stewardNoticePost channel) := by
  intro op c h; cases h

theorem Laws.Kind.lockAcquireRead (requester : Requester) (lock : Fin 64) (wide : Bool) (node : Fin 65536) : Laws.Kind.Statement (.lockAcquireRead requester lock wide node) := by
  intro op c h; cases h

theorem Laws.Kind.lockReleaseWrite (requester : Requester) (lock : Fin 64) (value : Word) (wide : Bool) : Laws.Kind.Statement (.lockReleaseWrite requester lock value wide) := by
  intro op c h; cases h

theorem Laws.Kind.rscLowRead (requester : Requester) (loc : RegLoc) (wide : Bool) : Laws.Kind.Statement (.rscLowRead requester loc wide) := by
  intro op c h; cases h

theorem Laws.Kind.shadowRead (requester : Requester) (loc : RegLoc) : Laws.Kind.Statement (.shadowRead requester loc) := by
  intro op c h; cases h

theorem Laws.Kind.piecePanelResetWrite (value : Word) : Laws.Kind.Statement (.piecePanelResetWrite value) := by
  intro op c h; cases h

theorem Laws.Kind.panelReset : Laws.Kind.Statement .panelReset := by
  intro op c h; cases h

theorem Laws.Kind.msixCtrlWrite (function : Fin 2) (vector : Fin 64) (value : Word) : Laws.Kind.Statement (.msixCtrlWrite function vector value) := by
  intro op c h; cases h

theorem Laws.Kind.alarmEntryClear (requester : Requester) (code : Nat) (value : Word) : Laws.Kind.Statement (.alarmEntryClear requester code value) := by
  intro op c h; cases h

theorem Laws.Kind.safeGroupClear (requester : Requester) (value : Word) : Laws.Kind.Statement (.safeGroupClear requester value) := by
  intro op c h; cases h

theorem Laws.Kind.registerWrite (requester : Requester) (loc : RegLoc) (value : BitVec 64) (wide : Bool) :
    Laws.Kind.Statement (.registerWrite requester loc value wide) := by
  intro op c h; cases h

theorem Laws.Kind.mgmtReadWord (offset : Nat) (count : Nat) (pecOk : Bool) : Laws.Kind.Statement (.mgmtReadWord offset count pecOk) := by
  intro op c h; cases h

theorem Laws.Kind.mgmtWriteWord (offset : Nat) (count : Nat) (value : Word) (pecOk : Bool) : Laws.Kind.Statement (.mgmtWriteWord offset count value pecOk) := by
  intro op c h; cases h

theorem Laws.Kind.mgmtUnknownCommand (code : Byte) : Laws.Kind.Statement (.mgmtUnknownCommand code) := by
  intro op c h; cases h

theorem Laws.Kind.journalIncidentEnd : Laws.Kind.Statement .journalIncidentEnd := by
  intro op c h; cases h

theorem Laws.Kind.refLoss (cycles : List (Nat × Option Nat)) : Laws.Kind.Statement (.refLoss cycles) := by
  intro op c h; cases h

theorem Laws.Kind.refinPresent (cycles : List (Nat × Option Nat)) : Laws.Kind.Statement (.refinPresent cycles) := by
  intro op c h; cases h

theorem Laws.Kind.ppsinPulse (fraction : Fin 65536) : Laws.Kind.Statement (.ppsinPulse fraction) := by
  intro op c h; cases h

theorem Laws.Kind.ppsWindowClose : Laws.Kind.Statement .ppsWindowClose := by
  intro op c h; cases h

theorem Laws.Kind.ppsLoss : Laws.Kind.Statement .ppsLoss := by
  intro op c h; cases h

theorem Laws.Kind.ppsinPresent : Laws.Kind.Statement .ppsinPresent := by
  intro op c h; cases h

theorem Laws.Kind.synthLockDeclare : Laws.Kind.Statement .synthLockDeclare := by
  intro op c h; cases h

theorem Laws.Kind.synthUnlock (count : Nat) : Laws.Kind.Statement (.synthUnlock count) := by
  intro op c h; cases h

theorem Laws.Kind.synthRelock (windows : List (Nat × Nat)) : Laws.Kind.Statement (.synthRelock windows) := by
  intro op c h; cases h

theorem Laws.Kind.mappingChangeApply : Laws.Kind.Statement .mappingChangeApply := by
  intro op c h; cases h

theorem Laws.Kind.slewEnd : Laws.Kind.Statement .slewEnd := by
  intro op c h; cases h

theorem Laws.Kind.holdoverEval : Laws.Kind.Statement .holdoverEval := by
  intro op c h; cases h

theorem Laws.Kind.timeSourceLost : Laws.Kind.Statement .timeSourceLost := by
  intro op c h; cases h

theorem Laws.Kind.timeSourcePresent (source : Machine.TimeSource) : Laws.Kind.Statement (.timeSourcePresent source) := by
  intro op c h; cases h

theorem Laws.Kind.ledgerEpochStep : Laws.Kind.Statement .ledgerEpochStep := by
  intro op c h; cases h

theorem Laws.Kind.ledgerMismatch : Laws.Kind.Statement .ledgerMismatch := by
  intro op c h; cases h

theorem Laws.Kind.tapPhase (island : Nat) : Laws.Kind.Statement (.tapPhase island) := by
  intro op c h; cases h

theorem Laws.Kind.ledgerSecondBoundary : Laws.Kind.Statement .ledgerSecondBoundary := by
  intro op c h; cases h

theorem Laws.Kind.ppsoutPulseEnd : Laws.Kind.Statement .ppsoutPulseEnd := by
  intro op c h; cases h

theorem Laws.Kind.clkoutSettingArrive (output : Fin 5) : Laws.Kind.Statement (.clkoutSettingArrive output) := by
  intro op c h; cases h

theorem Laws.Kind.timecodeFrameIn (frame : TimecodeFrame) : Laws.Kind.Statement (.timecodeFrameIn frame) := by
  intro op c h; cases h

theorem Laws.Kind.monitorConversion (code : Fin 4096) : Laws.Kind.Statement (.monitorConversion code) := by
  intro op c h; cases h

theorem Laws.Kind.monitorFrameStart (empty : Nat) : Laws.Kind.Statement (.monitorFrameStart empty) := by
  intro op c h; cases h

theorem Laws.Kind.monitorUrgentRequest (safety : Bool) (channel : Fin 40) (atBoundary : Bool) : Laws.Kind.Statement (.monitorUrgentRequest safety channel atBoundary) := by
  intro op c h; cases h

theorem Laws.Kind.rfinConfigure (c : Cmd) : Laws.Kind.Statement (.rfinConfigure c) := by
  intro op c h; cases h; exact ⟨rfl, rfl⟩

theorem Laws.Kind.rfinSelectSource (c : Cmd) : Laws.Kind.Statement (.rfinSelectSource c) := by
  intro op c h; cases h; exact ⟨rfl, rfl⟩

theorem Laws.Kind.frontEndChangeApply (input : Fin 4) : Laws.Kind.Statement (.frontEndChangeApply input) := by
  intro op c h; cases h

theorem Laws.Kind.sampleBlock (input : Fin 4) (codes : List Int) : Laws.Kind.Statement (.sampleBlock input codes) := by
  intro op c h; cases h

theorem Laws.Kind.sliceHandover (input : Fin 4) (residuals trim : SliceTrim) : Laws.Kind.Statement (.sliceHandover input residuals trim) := by
  intro op c h; cases h

theorem Laws.Kind.handoverAbandon (input : Fin 4) : Laws.Kind.Statement (.handoverAbandon input) := by
  intro op c h; cases h

theorem Laws.Kind.sliceFault (input : Fin 4) (slice : Fin 3) : Laws.Kind.Statement (.sliceFault input slice) := by
  intro op c h; cases h

theorem Laws.Kind.sliceTakeover (input : Fin 4) : Laws.Kind.Statement (.sliceTakeover input) := by
  intro op c h; cases h

theorem Laws.Kind.sliceRotationStart (input : Fin 4) : Laws.Kind.Statement (.sliceRotationStart input) := by
  intro op c h; cases h

theorem Laws.Kind.sliceAwayEnd (input : Fin 4) (trim : SliceTrim) : Laws.Kind.Statement (.sliceAwayEnd input trim) := by
  intro op c h; cases h

theorem Laws.Kind.chanConfigure (c : Cmd) : Laws.Kind.Statement (.chanConfigure c) := by
  intro op c h; cases h; exact ⟨rfl, rfl⟩

theorem Laws.Kind.chanFilterLoad (c : Cmd) : Laws.Kind.Statement (.chanFilterLoad c) := by
  intro op c h; cases h; exact ⟨rfl, rfl⟩

theorem Laws.Kind.ddcChangeApply (chan : Fin 4) (ddc : Fin 8) : Laws.Kind.Statement (.ddcChangeApply chan ddc) := by
  intro op c h; cases h

theorem Laws.Kind.coefficientSwap (chan : Fin 4) (ddc : Fin 8) : Laws.Kind.Statement (.coefficientSwap chan ddc) := by
  intro op c h; cases h

theorem Laws.Kind.ddcBlock (chan : Fin 4) (ddc : Fin 8) : Laws.Kind.Statement (.ddcBlock chan ddc) := by
  intro op c h; cases h

theorem Laws.Kind.xingSettingApply (chan : Fin 4) : Laws.Kind.Statement (.xingSettingApply chan) := by
  intro op c h; cases h

theorem Laws.Kind.xformConfigure (c : Cmd) : Laws.Kind.Statement (.xformConfigure c) := by
  intro op c h; cases h; exact ⟨rfl, rfl⟩

theorem Laws.Kind.xformWindowLoad (c : Cmd) : Laws.Kind.Statement (.xformWindowLoad c) := by
  intro op c h; cases h; exact ⟨rfl, rfl⟩

theorem Laws.Kind.detectorSet (c : Cmd) : Laws.Kind.Statement (.detectorSet c) := by
  intro op c h; cases h; exact ⟨rfl, rfl⟩

theorem Laws.Kind.xformGridRestart (engine : Fin 4) : Laws.Kind.Statement (.xformGridRestart engine) := by
  intro op c h; cases h

theorem Laws.Kind.transformFrame (engine : Fin 4) : Laws.Kind.Statement (.transformFrame engine) := by
  intro op c h; cases h

theorem Laws.Kind.densityConfigure (c : Cmd) : Laws.Kind.Statement (.densityConfigure c) := by
  intro op c h; cases h; exact ⟨rfl, rfl⟩

theorem Laws.Kind.densitySnapshot (c : Cmd) : Laws.Kind.Statement (.densitySnapshot c) := by
  intro op c h; cases h; exact ⟨rfl, rfl⟩

theorem Laws.Kind.densitySnapshotCut (channel : Fin 4) : Laws.Kind.Statement (.densitySnapshotCut channel) := by
  intro op c h; cases h

theorem Laws.Kind.densityReadoutDone (channel : Fin 4) (refusedAt : Option Nat) : Laws.Kind.Statement (.densityReadoutDone channel refusedAt) := by
  intro op c h; cases h

theorem Laws.Kind.densityItemAccept (channel : Fin 4) : Laws.Kind.Statement (.densityItemAccept channel) := by
  intro op c h; cases h

theorem Laws.Kind.spectrogramConfigure (c : Cmd) : Laws.Kind.Statement (.spectrogramConfigure c) := by
  intro op c h; cases h; exact ⟨rfl, rfl⟩

theorem Laws.Kind.trigCellSet (c : Cmd) : Laws.Kind.Statement (.trigCellSet c) := by
  intro op c h; cases h; exact ⟨rfl, rfl⟩

theorem Laws.Kind.trigMaskLoad (c : Cmd) : Laws.Kind.Statement (.trigMaskLoad c) := by
  intro op c h; cases h; exact ⟨rfl, rfl⟩

theorem Laws.Kind.maskSwap (channel : Fin 4) : Laws.Kind.Statement (.maskSwap channel) := by
  intro op c h; cases h

theorem Laws.Kind.trigCombineSet (c : Cmd) : Laws.Kind.Statement (.trigCombineSet c) := by
  intro op c h; cases h; exact ⟨rfl, rfl⟩

theorem Laws.Kind.trigRouteSet (c : Cmd) : Laws.Kind.Statement (.trigRouteSet c) := by
  intro op c h; cases h; exact ⟨rfl, rfl⟩

theorem Laws.Kind.trigForce (c : Cmd) : Laws.Kind.Statement (.trigForce c) := by
  intro op c h; cases h; exact ⟨rfl, rfl⟩

theorem Laws.Kind.trigSettingApply (cell : Fin 16) : Laws.Kind.Statement (.trigSettingApply cell) := by
  intro op c h; cases h

theorem Laws.Kind.freqMaskVerdict (channel : Fin 4) : Laws.Kind.Statement (.freqMaskVerdict channel) := by
  intro op c h; cases h

theorem Laws.Kind.stampCoincArrival : Laws.Kind.Statement .stampCoincArrival := by
  intro op c h; cases h

theorem Laws.Kind.trigInEdge (pin : Fin 4) (rising : Bool) : Laws.Kind.Statement (.trigInEdge pin rising) := by
  intro op c h; cases h

theorem Laws.Kind.timeMatchFire (cell : Fin 16) : Laws.Kind.Statement (.timeMatchFire cell) := by
  intro op c h; cases h

theorem Laws.Kind.matrixEventArrive : Laws.Kind.Statement .matrixEventArrive := by
  intro op c h; cases h

theorem Laws.Kind.triggerEventIssue : Laws.Kind.Statement .triggerEventIssue := by
  intro op c h; cases h

theorem Laws.Kind.trigOutPulseStart (output : Fin 4) : Laws.Kind.Statement (.trigOutPulseStart output) := by
  intro op c h; cases h

theorem Laws.Kind.trigOutPulseEnd (output : Fin 4) : Laws.Kind.Statement (.trigOutPulseEnd output) := by
  intro op c h; cases h

theorem Laws.Kind.acqConfigure (c : Cmd) : Laws.Kind.Statement (.acqConfigure c) := by
  intro op c h; cases h; exact ⟨rfl, rfl⟩

theorem Laws.Kind.acqArm (c : Cmd) : Laws.Kind.Statement (.acqArm c) := by
  intro op c h; cases h; exact ⟨rfl, rfl⟩

theorem Laws.Kind.acqArmPoint (acq : Fin 16) : Laws.Kind.Statement (.acqArmPoint acq) := by
  intro op c h; cases h

theorem Laws.Kind.acqStop (c : Cmd) : Laws.Kind.Statement (.acqStop c) := by
  intro op c h; cases h; exact ⟨rfl, rfl⟩

theorem Laws.Kind.acqMasktestLoad (c : Cmd) : Laws.Kind.Statement (.acqMasktestLoad c) := by
  intro op c h; cases h; exact ⟨rfl, rfl⟩

theorem Laws.Kind.acqReadout (c : Cmd) : Laws.Kind.Statement (.acqReadout c) := by
  intro op c h; cases h; exact ⟨rfl, rfl⟩

theorem Laws.Kind.acqReadoutDone (acq : Fin 16) (refusedAt : Option Nat) : Laws.Kind.Statement (.acqReadoutDone acq refusedAt) := by
  intro op c h; cases h

theorem Laws.Kind.acqBlockReceive (acq : Fin 16) (drained : Nat) : Laws.Kind.Statement (.acqBlockReceive acq drained) := by
  intro op c h; cases h

theorem Laws.Kind.acqTriggerArrive (acq : Fin 16) : Laws.Kind.Statement (.acqTriggerArrive acq) := by
  intro op c h; cases h

theorem Laws.Kind.segmentComplete (acq : Fin 16) : Laws.Kind.Statement (.segmentComplete acq) := by
  intro op c h; cases h

theorem Laws.Kind.stampInputSet (c : Cmd) : Laws.Kind.Statement (.stampInputSet c) := by
  intro op c h; cases h; exact ⟨rfl, rfl⟩

theorem Laws.Kind.stampSettingsApply (source : Fin 24) : Laws.Kind.Statement (.stampSettingsApply source) := by
  intro op c h; cases h

theorem Laws.Kind.thresholdBlankEnd (source : Fin 16) : Laws.Kind.Statement (.thresholdBlankEnd source) := by
  intro op c h; cases h

theorem Laws.Kind.stampEdgeCapture (source : Fin 24) (edge : StampEdge) : Laws.Kind.Statement (.stampEdgeCapture source edge) := by
  intro op c h; cases h

theorem Laws.Kind.fabricGrant (source : Fin 24) : Laws.Kind.Statement (.fabricGrant source) := by
  intro op c h; cases h

theorem Laws.Kind.stampFifoWaitExpiry (source : Fin 16) : Laws.Kind.Statement (.stampFifoWaitExpiry source) := by
  intro op c h; cases h

theorem Laws.Kind.stampRawStream (c : Cmd) : Laws.Kind.Statement (.stampRawStream c) := by
  intro op c h; cases h; exact ⟨rfl, rfl⟩

theorem Laws.Kind.interpRoundStart (motif : Fin 4) : Laws.Kind.Statement (.interpRoundStart motif) := by
  intro op c h; cases h

theorem Laws.Kind.interpRoleEnd (motif : Fin 4) (result : RoleResult) : Laws.Kind.Statement (.interpRoleEnd motif result) := by
  intro op c h; cases h

theorem Laws.Kind.interpFault (motif : Fin 4) (interpolator : Fin 5) : Laws.Kind.Statement (.interpFault motif interpolator) := by
  intro op c h; cases h

theorem Laws.Kind.compFault (source : Fin 16) : Laws.Kind.Statement (.compFault source) := by
  intro op c h; cases h

theorem Laws.Kind.countStart (c : Cmd) : Laws.Kind.Statement (.countStart c) := by
  intro op c h; cases h; exact ⟨rfl, rfl⟩

theorem Laws.Kind.countStartApply (slot : Fin 32) : Laws.Kind.Statement (.countStartApply slot) := by
  intro op c h; cases h

theorem Laws.Kind.countStop (c : Cmd) : Laws.Kind.Statement (.countStop c) := by
  intro op c h; cases h; exact ⟨rfl, rfl⟩

theorem Laws.Kind.countRead (c : Cmd) : Laws.Kind.Statement (.countRead c) := by
  intro op c h; cases h; exact ⟨rfl, rfl⟩

theorem Laws.Kind.tiWindowSet (c : Cmd) : Laws.Kind.Statement (.tiWindowSet c) := by
  intro op c h; cases h; exact ⟨rfl, rfl⟩

theorem Laws.Kind.orderingRelease (slot : Fin 32) : Laws.Kind.Statement (.orderingRelease slot) := by
  intro op c h; cases h

theorem Laws.Kind.gateClose (slot : Fin 32) : Laws.Kind.Statement (.gateClose slot) := by
  intro op c h; cases h

theorem Laws.Kind.resultIssue : Laws.Kind.Statement .resultIssue := by
  intro op c h; cases h

theorem Laws.Kind.firmwareKernelHalt : Laws.Kind.Statement .firmwareKernelHalt := by
  intro op c h; cases h

theorem Laws.Kind.tallyBind (c : Cmd) : Laws.Kind.Statement (.tallyBind c) := by
  intro op c h; cases h; exact ⟨rfl, rfl⟩

theorem Laws.Kind.tallySnapshot (c : Cmd) : Laws.Kind.Statement (.tallySnapshot c) := by
  intro op c h; cases h; exact ⟨rfl, rfl⟩

theorem Laws.Kind.tallySnapshotCut (snapshot : Fin 4) : Laws.Kind.Statement (.tallySnapshotCut snapshot) := by
  intro op c h; cases h

theorem Laws.Kind.tallySnapshotDone (snapshot : Fin 4) (refusedAt : Option Nat) : Laws.Kind.Statement (.tallySnapshotDone snapshot refusedAt) := by
  intro op c h; cases h

theorem Laws.Kind.tallyClear (c : Cmd) : Laws.Kind.Statement (.tallyClear c) := by
  intro op c h; cases h; exact ⟨rfl, rfl⟩

theorem Laws.Kind.tallyStampUpdate : Laws.Kind.Statement .tallyStampUpdate := by
  intro op c h; cases h

theorem Laws.Kind.tallyXformUpdate : Laws.Kind.Statement .tallyXformUpdate := by
  intro op c h; cases h

theorem Laws.Kind.tallyPostUpdate : Laws.Kind.Statement .tallyPostUpdate := by
  intro op c h; cases h

theorem Laws.Kind.tallyStoreClearDone : Laws.Kind.Statement .tallyStoreClearDone := by
  intro op c h; cases h

theorem Laws.Kind.calPolicySet (c : Cmd) : Laws.Kind.Statement (.calPolicySet c) := by
  intro op c h; cases h; exact ⟨rfl, rfl⟩

theorem Laws.Kind.calRun (c : Cmd) : Laws.Kind.Statement (.calRun c) := by
  intro op c h; cases h; exact ⟨rfl, rfl⟩

theorem Laws.Kind.calStatus (c : Cmd) : Laws.Kind.Statement (.calStatus c) := by
  intro op c h; cases h; exact ⟨rfl, rfl⟩

theorem Laws.Kind.fullCalStart : Laws.Kind.Statement .fullCalStart := by
  intro op c h; cases h

theorem Laws.Kind.fullCalEnd (outcome : CalOutcome) : Laws.Kind.Statement (.fullCalEnd outcome) := by
  intro op c h; cases h

theorem Laws.Kind.kernelLoad (c : Cmd) : Laws.Kind.Statement (.kernelLoad c) := by
  intro op c h; cases h; exact ⟨rfl, rfl⟩

theorem Laws.Kind.kernelStart (c : Cmd) : Laws.Kind.Statement (.kernelStart c) := by
  intro op c h; cases h; exact ⟨rfl, rfl⟩

theorem Laws.Kind.kernelStop (c : Cmd) : Laws.Kind.Statement (.kernelStop c) := by
  intro op c h; cases h; exact ⟨rfl, rfl⟩

theorem Laws.Kind.gythenBundle (core : Fin 16) : Laws.Kind.Statement (.gythenBundle core) := by
  intro op c h; cases h

theorem Laws.Kind.kernelDone (core : Fin 16) : Laws.Kind.Statement (.kernelDone core) := by
  intro op c h; cases h

theorem Laws.Kind.postQueueDrain (core : Fin 16) : Laws.Kind.Statement (.postQueueDrain core) := by
  intro op c h; cases h

theorem Laws.Kind.fetchGo (core : Fin 16) : Laws.Kind.Statement (.fetchGo core) := by
  intro op c h; cases h

theorem Laws.Kind.fetchComplete (core : Fin 16) : Laws.Kind.Statement (.fetchComplete core) := by
  intro op c h; cases h

theorem Laws.Kind.timeLoRead (core : Fin 16) : Laws.Kind.Statement (.timeLoRead core) := by
  intro op c h; cases h

theorem Laws.Kind.stampPop (core : Fin 16) : Laws.Kind.Statement (.stampPop core) := by
  intro op c h; cases h

theorem Laws.Kind.sysHello (c : Cmd) : Laws.Kind.Statement (.sysHello c) := by
  intro op c h; cases h; exact ⟨rfl, rfl⟩

theorem Laws.Kind.sessionOpen (c : Cmd) : Laws.Kind.Statement (.sessionOpen c) := by
  intro op c h; cases h; exact ⟨rfl, rfl⟩

theorem Laws.Kind.sessionClose (c : Cmd) : Laws.Kind.Statement (.sessionClose c) := by
  intro op c h; cases h; exact ⟨rfl, rfl⟩

theorem Laws.Kind.panelClaim (c : Cmd) : Laws.Kind.Statement (.panelClaim c) := by
  intro op c h; cases h; exact ⟨rfl, rfl⟩

theorem Laws.Kind.panelRelease (c : Cmd) : Laws.Kind.Statement (.panelRelease c) := by
  intro op c h; cases h; exact ⟨rfl, rfl⟩

theorem Laws.Kind.fence (c : Cmd) : Laws.Kind.Statement (.fence c) := by
  intro op c h; cases h; exact ⟨rfl, rfl⟩

theorem Laws.Kind.eventRingSet (c : Cmd) : Laws.Kind.Statement (.eventRingSet c) := by
  intro op c h; cases h; exact ⟨rfl, rfl⟩

theorem Laws.Kind.completionRingSet (c : Cmd) : Laws.Kind.Statement (.completionRingSet c) := by
  intro op c h; cases h; exact ⟨rfl, rfl⟩

theorem Laws.Kind.abortTag (c : Cmd) : Laws.Kind.Statement (.abortTag c) := by
  intro op c h; cases h; exact ⟨rfl, rfl⟩

theorem Laws.Kind.refSelect (c : Cmd) : Laws.Kind.Statement (.refSelect c) := by
  intro op c h; cases h; exact ⟨rfl, rfl⟩

theorem Laws.Kind.synthBandTableLoad (c : Cmd) : Laws.Kind.Statement (.synthBandTableLoad c) := by
  intro op c h; cases h; exact ⟨rfl, rfl⟩

theorem Laws.Kind.synthStart (c : Cmd) : Laws.Kind.Statement (.synthStart c) := by
  intro op c h; cases h; exact ⟨rfl, rfl⟩

theorem Laws.Kind.clkoutSet (c : Cmd) : Laws.Kind.Statement (.clkoutSet c) := by
  intro op c h; cases h; exact ⟨rfl, rfl⟩

theorem Laws.Kind.ledgerSetEpoch (c : Cmd) : Laws.Kind.Statement (.ledgerSetEpoch c) := by
  intro op c h; cases h; exact ⟨rfl, rfl⟩

theorem Laws.Kind.ledgerSteer (c : Cmd) : Laws.Kind.Statement (.ledgerSteer c) := by
  intro op c h; cases h; exact ⟨rfl, rfl⟩

theorem Laws.Kind.ledgerJumpResolve (c : Cmd) : Laws.Kind.Statement (.ledgerJumpResolve c) := by
  intro op c h; cases h; exact ⟨rfl, rfl⟩

theorem Laws.Kind.holdoverModelSet (c : Cmd) : Laws.Kind.Statement (.holdoverModelSet c) := by
  intro op c h; cases h; exact ⟨rfl, rfl⟩

theorem Laws.Kind.timecodeSet (c : Cmd) : Laws.Kind.Statement (.timecodeSet c) := by
  intro op c h; cases h; exact ⟨rfl, rfl⟩

theorem Laws.Kind.streamOpen (c : Cmd) : Laws.Kind.Statement (.streamOpen c) := by
  intro op c h; cases h; exact ⟨rfl, rfl⟩

theorem Laws.Kind.streamChainSet (c : Cmd) : Laws.Kind.Statement (.streamChainSet c) := by
  intro op c h; cases h; exact ⟨rfl, rfl⟩

theorem Laws.Kind.streamRingSet (c : Cmd) : Laws.Kind.Statement (.streamRingSet c) := by
  intro op c h; cases h; exact ⟨rfl, rfl⟩

theorem Laws.Kind.streamClose (c : Cmd) : Laws.Kind.Statement (.streamClose c) := by
  intro op c h; cases h; exact ⟨rfl, rfl⟩

theorem Laws.Kind.checkScan (c : Cmd) : Laws.Kind.Statement (.checkScan c) := by
  intro op c h; cases h; exact ⟨rfl, rfl⟩

theorem Laws.Kind.checkScanPassDone (unit : Fin 8) (answer : Answer) : Laws.Kind.Statement (.checkScanPassDone unit answer) := by
  intro op c h; cases h

theorem Laws.Kind.checkPeriodicStart (unit : Fin 8) : Laws.Kind.Statement (.checkPeriodicStart unit) := by
  intro op c h; cases h

theorem Laws.Kind.chainExtend (channel : Fin 64) : Laws.Kind.Statement (.chainExtend channel) := by
  intro op c h; cases h

theorem Laws.Kind.descriptorComplete (channel : Fin 64) (descriptor : Answer) (data : Answer) (failAt : Option Nat) : Laws.Kind.Statement (.descriptorComplete channel descriptor data failAt) := by
  intro op c h; cases h

theorem Laws.Kind.chainLinkRead (channel : Fin 64) (answer : Answer) : Laws.Kind.Statement (.chainLinkRead channel answer) := by
  intro op c h; cases h

theorem Laws.Kind.sourceRecordArrive (noRoom : Bool) : Laws.Kind.Statement (.sourceRecordArrive noRoom) := by
  intro op c h; cases h

theorem Laws.Kind.ringConsumerReread (channel : Fin 64) (consumer : Answer) : Laws.Kind.Statement (.ringConsumerReread channel consumer) := by
  intro op c h; cases h

theorem Laws.Kind.eventRecordWrite (consumer : Answer) : Laws.Kind.Statement (.eventRecordWrite consumer) := by
  intro op c h; cases h

theorem Laws.Kind.eventRingRetry (session : Fin 256) (consumer : Answer) : Laws.Kind.Statement (.eventRingRetry session consumer) := by
  intro op c h; cases h

theorem Laws.Kind.netPortSet (c : Cmd) : Laws.Kind.Statement (.netPortSet c) := by
  intro op c h; cases h; exact ⟨rfl, rfl⟩

theorem Laws.Kind.netJoin (c : Cmd) : Laws.Kind.Statement (.netJoin c) := by
  intro op c h; cases h; exact ⟨rfl, rfl⟩

theorem Laws.Kind.netLeave (c : Cmd) : Laws.Kind.Statement (.netLeave c) := by
  intro op c h; cases h; exact ⟨rfl, rfl⟩

theorem Laws.Kind.netDelayTableLoad (c : Cmd) : Laws.Kind.Statement (.netDelayTableLoad c) := by
  intro op c h; cases h; exact ⟨rfl, rfl⟩

theorem Laws.Kind.netStatus (c : Cmd) : Laws.Kind.Statement (.netStatus c) := by
  intro op c h; cases h; exact ⟨rfl, rfl⟩

theorem Laws.Kind.netHorizonSet (c : Cmd) : Laws.Kind.Statement (.netHorizonSet c) := by
  intro op c h; cases h; exact ⟨rfl, rfl⟩

theorem Laws.Kind.portLinked (port : Fin 4) (peer : NetPeer) : Laws.Kind.Statement (.portLinked port peer) := by
  intro op c h; cases h

theorem Laws.Kind.netLinkLoss (port : Fin 4) : Laws.Kind.Statement (.netLinkLoss port) := by
  intro op c h; cases h

theorem Laws.Kind.timeMessageSend (port : Fin 4) (departure : T16) : Laws.Kind.Statement (.timeMessageSend port departure) := by
  intro op c h; cases h

theorem Laws.Kind.timeMessageReceive (port : Fin 4) (arrival : T16) (bytes : Bytes) : Laws.Kind.Statement (.timeMessageReceive port arrival bytes) := by
  intro op c h; cases h

theorem Laws.Kind.announcementSend : Laws.Kind.Statement .announcementSend := by
  intro op c h; cases h

theorem Laws.Kind.announcementReceive (port : Fin 4) (bytes : Bytes) : Laws.Kind.Statement (.announcementReceive port bytes) := by
  intro op c h; cases h

theorem Laws.Kind.crossTriggerReceive (port : Fin 4) (bytes : Bytes) : Laws.Kind.Statement (.crossTriggerReceive port bytes) := by
  intro op c h; cases h

theorem Laws.Kind.crossTriggerSend (port : Fin 4) : Laws.Kind.Statement (.crossTriggerSend port) := by
  intro op c h; cases h

theorem Laws.Kind.alarmSummarySend : Laws.Kind.Statement .alarmSummarySend := by
  intro op c h; cases h

theorem Laws.Kind.alarmSummaryReceive (port : Fin 4) (bytes : Bytes) : Laws.Kind.Statement (.alarmSummaryReceive port bytes) := by
  intro op c h; cases h

theorem Laws.Kind.joinRequestReceive (port : Fin 4) (node : Fin 65536) (path : Nat) : Laws.Kind.Statement (.joinRequestReceive port node path) := by
  intro op c h; cases h

theorem Laws.Kind.joinResponseReceive (response : JoinResponse) : Laws.Kind.Statement (.joinResponseReceive response) := by
  intro op c h; cases h

theorem Laws.Kind.joinTimeout : Laws.Kind.Statement .joinTimeout := by
  intro op c h; cases h

theorem Laws.Kind.leaveNoticeReceive (port : Fin 4) : Laws.Kind.Statement (.leaveNoticeReceive port) := by
  intro op c h; cases h

theorem Laws.Kind.leaveRequestReceive (port : Fin 4) (node : Fin 65536) : Laws.Kind.Statement (.leaveRequestReceive port node) := by
  intro op c h; cases h

theorem Laws.Kind.leaveConfirm (reparented : Nat) : Laws.Kind.Statement (.leaveConfirm reparented) := by
  intro op c h; cases h

theorem Laws.Kind.epochMessageReceive (delta : Int) (epoch : Fin 256) : Laws.Kind.Statement (.epochMessageReceive delta epoch) := by
  intro op c h; cases h

theorem Laws.Kind.reparentRequestReceive (port : Fin 4) (node : Fin 65536) (path : Nat) : Laws.Kind.Statement (.reparentRequestReceive port node path) := by
  intro op c h; cases h

theorem Laws.Kind.reparentConfirmReceive (exceeded : Bool) : Laws.Kind.Statement (.reparentConfirmReceive exceeded) := by
  intro op c h; cases h

theorem Laws.Kind.reparentTimeout : Laws.Kind.Statement .reparentTimeout := by
  intro op c h; cases h

theorem Laws.Kind.scanModeSet (c : Cmd) : Laws.Kind.Statement (.scanModeSet c) := by
  intro op c h; cases h; exact ⟨rfl, rfl⟩

theorem Laws.Kind.scanLayerSet (c : Cmd) : Laws.Kind.Statement (.scanLayerSet c) := by
  intro op c h; cases h; exact ⟨rfl, rfl⟩

theorem Laws.Kind.scanCommit (c : Cmd) : Laws.Kind.Statement (.scanCommit c) := by
  intro op c h; cases h; exact ⟨rfl, rfl⟩

theorem Laws.Kind.dpTrainingDone (ok : Bool) : Laws.Kind.Statement (.dpTrainingDone ok) := by
  intro op c h; cases h

theorem Laws.Kind.scanLatch : Laws.Kind.Statement .scanLatch := by
  intro op c h; cases h

theorem Laws.Kind.scanFrameStart : Laws.Kind.Statement .scanFrameStart := by
  intro op c h; cases h

theorem Laws.Kind.scanModeApply : Laws.Kind.Statement .scanModeApply := by
  intro op c h; cases h

theorem Laws.Kind.hpdLoss (port : Fin 2) : Laws.Kind.Statement (.hpdLoss port) := by
  intro op c h; cases h

theorem Laws.Kind.irqHpd (port : Fin 2) (linkLost : Bool) : Laws.Kind.Statement (.irqHpd port linkLost) := by
  intro op c h; cases h

theorem Laws.Kind.safetyConfigure (c : Cmd) : Laws.Kind.Statement (.safetyConfigure c) := by
  intro op c h; cases h; exact ⟨rfl, rfl⟩

theorem Laws.Kind.journalRead (c : Cmd) : Laws.Kind.Statement (.journalRead c) := by
  intro op c h; cases h; exact ⟨rfl, rfl⟩

theorem Laws.Kind.selftestRun (c : Cmd) : Laws.Kind.Statement (.selftestRun c) := by
  intro op c h; cases h; exact ⟨rfl, rfl⟩

theorem Laws.Kind.dumpRegionSet (c : Cmd) : Laws.Kind.Statement (.dumpRegionSet c) := by
  intro op c h; cases h; exact ⟨rfl, rfl⟩

theorem Laws.Kind.dumpRead (c : Cmd) : Laws.Kind.Statement (.dumpRead c) := by
  intro op c h; cases h; exact ⟨rfl, rfl⟩

theorem Laws.Kind.monitorSequenceSet (c : Cmd) : Laws.Kind.Statement (.monitorSequenceSet c) := by
  intro op c h; cases h; exact ⟨rfl, rfl⟩

theorem Laws.Kind.fwUpdateBegin (c : Cmd) : Laws.Kind.Statement (.fwUpdateBegin c) := by
  intro op c h; cases h; exact ⟨rfl, rfl⟩

theorem Laws.Kind.fwUpdateChunk (c : Cmd) : Laws.Kind.Statement (.fwUpdateChunk c) := by
  intro op c h; cases h; exact ⟨rfl, rfl⟩

theorem Laws.Kind.fwUpdateCommit (c : Cmd) : Laws.Kind.Statement (.fwUpdateCommit c) := by
  intro op c h; cases h; exact ⟨rfl, rfl⟩

theorem Laws.Kind.keyHashQuery (c : Cmd) : Laws.Kind.Statement (.keyHashQuery c) := by
  intro op c h; cases h; exact ⟨rfl, rfl⟩

theorem Laws.Kind.railWindow (channel : Fin 40) : Laws.Kind.Statement (.railWindow channel) := by
  intro op c h; cases h

theorem Laws.Kind.overTemp (sensor : Fin 16) : Laws.Kind.Statement (.overTemp sensor) := by
  intro op c h; cases h

theorem Laws.Kind.outputReadback (ball : Fin 4) : Laws.Kind.Statement (.outputReadback ball) := by
  intro op c h; cases h

theorem Laws.Kind.islandClock (island : Nat) : Laws.Kind.Statement (.islandClock island) := by
  intro op c h; cases h

theorem Laws.Kind.sramUe (panel : Nat) (instance_ : Nat) (index : Nat) : Laws.Kind.Statement (.sramUe panel instance_ index) := by
  intro op c h; cases h

theorem Laws.Kind.sramScrub : Laws.Kind.Statement .sramScrub := by
  intro op c h; cases h

theorem Laws.Kind.stewardLockstep : Laws.Kind.Statement .stewardLockstep := by
  intro op c h; cases h

theorem Laws.Kind.stewardRestart : Laws.Kind.Statement .stewardRestart := by
  intro op c h; cases h

theorem Laws.Kind.tableCheck (mismatch : Bool) : Laws.Kind.Statement (.tableCheck mismatch) := by
  intro op c h; cases h

theorem Laws.Kind.targetedSelftestStart (element : Element) : Laws.Kind.Statement (.targetedSelftestStart element) := by
  intro op c h; cases h

theorem Laws.Kind.targetedSelftestEnd (pass : Bool) : Laws.Kind.Statement (.targetedSelftestEnd pass) := by
  intro op c h; cases h

theorem Laws.Kind.spareRowMarch : Laws.Kind.Statement .spareRowMarch := by
  intro op c h; cases h

theorem Laws.Kind.dumpWritten : Laws.Kind.Statement .dumpWritten := by
  intro op c h; cases h

theorem Laws.Kind.dmcFreeze (commandParity : Bool) (address : Nat) : Laws.Kind.Statement (.dmcFreeze commandParity address) := by
  intro op c h; cases h

theorem Laws.Kind.dramCorrectedError (address : Nat) : Laws.Kind.Statement (.dramCorrectedError address) := by
  intro op c h; cases h

theorem Laws.Kind.patrolScrub : Laws.Kind.Statement .patrolScrub := by
  intro op c h; cases h

theorem Laws.Kind.refreshDue (busy : Bool) : Laws.Kind.Statement (.refreshDue busy) := by
  intro op c h; cases h

theorem Laws.Kind.neighbourRefresh (bank : Nat) (row : Nat) : Laws.Kind.Statement (.neighbourRefresh bank row) := by
  intro op c h; cases h

theorem Laws.Kind.actWindowClear : Laws.Kind.Statement .actWindowClear := by
  intro op c h; cases h

theorem Laws.Kind.bulkPromotion (port : Fin 5) : Laws.Kind.Statement (.bulkPromotion port) := by
  intro op c h; cases h

theorem Laws.Kind.panicRaise (port : Fin 20) (raise : Bool) : Laws.Kind.Statement (.panicRaise port raise) := by
  intro op c h; cases h

theorem Laws.Kind.ddr5TrainingDone (gib : Nat) (ranks : Nat) (rdimm : Bool) (rate6400 : Fin 16) (rate5600 : Fin 16) (rate4800 : Fin 16) : Laws.Kind.Statement (.ddr5TrainingDone gib ranks rdimm rate6400 rate5600 rate4800) := by
  intro op c h; cases h

theorem Laws.Kind.dramInitDone : Laws.Kind.Statement .dramInitDone := by
  intro op c h; cases h

theorem Laws.Kind.bootImageVerified (verified : Bool) : Laws.Kind.Statement (.bootImageVerified verified) := by
  intro op c h; cases h

theorem Laws.Kind.waitRefRetry (periodPs : Nat) : Laws.Kind.Statement (.waitRefRetry periodPs) := by
  intro op c h; cases h

theorem Laws.Kind.readyAssert : Laws.Kind.Statement .readyAssert := by
  intro op c h; cases h

theorem Laws.Kind.powerDown : Laws.Kind.Statement .powerDown := by
  intro op c h; cases h

theorem Laws.Kind.trigOutInactiveEnd (output : Fin 4) : Laws.Kind.Statement (.trigOutInactiveEnd output) := by
  intro op c h; cases h

theorem Laws.Kind.tcodeInPresentLapse : Laws.Kind.Statement .tcodeInPresentLapse := by
  intro op c h; cases h

theorem Laws.Kind.sfpModuleRead (port : Fin 4) (present : Bool) (lossOfSignal : Bool) (txFault : Bool) : Laws.Kind.Statement (.sfpModuleRead port present lossOfSignal txFault) := by
  intro op c h; cases h

end Sys2Proof
end

