-- ==== Sys2Proof/Tests/Slice0.lean ====
section
/-! SUPPORT. Tests: ill-formed operands are refused, worked examples of the spec, and for each statement a state and operands that
meet its hypotheses. -/

namespace Sys2Proof.Tests

open Sys2Proof.Machine

/-! ### Ill-formed operands (each check of WellFormed) -/

theorem test_short_block_is_ill_formed :
    Instr.wellFormed (.sampleBlock 0 (List.replicate 511 0)) = false ∧ Instr.wellFormed (.sampleBlock 0 (List.replicate 512 0)) = true := by
  decide +kernel
theorem test_code_out_of_range_is_ill_formed :
    Instr.wellFormed (.sampleBlock 0 (List.replicate 511 0 ++ [2048])) = false ∧
    Instr.wellFormed (.sampleBlock 0 (List.replicate 511 0 ++ [-2048])) = true := by
  decide +kernel
theorem test_bus_access_beyond_bar2_is_ill_formed :
    Instr.wellFormed (.bar2Access false (2 ^ 36 - 3) 4 []) = false ∧ Instr.wellFormed (.bar2Access true 0 4 [0, 0, 0]) = false ∧
    Instr.wellFormed (.bar2Access true (2 ^ 36 - 4) 4 [0, 0, 0, 0]) = true ∧ Instr.wellFormed (.hdmAccess true 0 2 [0]) = false := by
  decide +kernel
theorem test_net_message_of_wrong_size_is_ill_formed :
    Instr.wellFormed (.timeMessageReceive 0 0 []) = false ∧ Instr.wellFormed (.announcementReceive 0 []) = false ∧
    Instr.wellFormed (.crossTriggerReceive 0 []) = false ∧ Instr.wellFormed (.alarmSummaryReceive 0 []) = false := by
  decide +kernel
theorem test_ill_formed_is_refused : exec (.hdmAccess true 0 2 [0]) State.reset = .refused .illFormed := by
  rfl

/-! ### States for the tests -/

/-- A piece that has come up: firmware running, READY, device DRAM of 32 GiB initialised, the link up, the synthesizer locked, and
session 0 on a channel holding the claim of every panel. -/
def ready (channel : Nat) : Piece :=
  { transport := { state := .running, sessions := [{ id := 0, channel := channel }]
                   claims := panelEntries.map fun x => { panelType := x.1, inst := x.2, session := 0 } }
    boot := { released := true, phase := .ready, ready := true, pricking := true }
    hostif := { linkUp := true }
    dmc := { chUp := 15, speed := 2, gibPerChannel := 8, ranks := 1, initDone := true }
    clocks := { synth := .locked, mintRun := true, mint := 100000000, refinPresent := true }
    cal := { mode := .service } }

/-- A command block of session 0 on a channel, sealed where the channel is secure. -/
def block (channel : Fin 20) (body : Bytes) : Cmd :=
  { channel := channel, session := 0, tag := 5, isSealed := decide (16 ≤ channel.val), body := body }

/-- Bytes of a body from pairs of a size and a value, little-endian. -/
def body (fields : List (Nat × Nat)) : Bytes := fields.flatMap fun x => leBytes x.1 x.2

/-- Whether a command block starts at once. -/
def starts (op : Nat) (c : Cmd) (p : Piece) : Bool :=
  let f := flightOf c op p.transport.nextOrder
  p.transport.state == .running && !blocked (enroll f p) f && (fetched p op c).isNone &&
    (match cmdRow op with
     | some row => headerFault (enroll f p) row f == none
     | none => false)

/-- The command of a block in flight, and the piece that holds it. -/
abbrev flight (op : Nat) (c : Cmd) (p : Piece) : Flight := flightOf c op p.transport.nextOrder
abbrev after (op : Nat) (c : Cmd) (p : Piece) : Piece := enroll (flight op c p) p

theorem starts_of {op : Nat} {c : Cmd} {p : Piece} (h : starts op c p = true) :
    Claim.Starts op c p (flight op c p) (after op c p) := by
  simp only [starts, Bool.and_eq_true] at h
  obtain ⟨⟨⟨h1, h2⟩, h3⟩, h4⟩ := h
  refine ⟨by simpa using h1, by simpa using h2, .inr ⟨by simpa using h3, rfl, rfl, ?_⟩⟩
  cases hr : cmdRow op with
  | none => simp [hr] at h4
  | some row => exact ⟨row, rfl, by simpa [hr] using h4⟩

/-! ### The front end and its blocks -/

theorem test_w_RfinConfigure : starts 0x0301 (block 0 (body [(1, 1), (1, 30), (1, 1), (1, 0), (4, 0)])) (ready 0) = true ∧
    starts 0x0301 (block 0 (body [(1, 2), (1, 0), (1, 0), (1, 1), (4, 0)])) (ready 0) = true := by
  decide +kernel


end Sys2Proof.Tests
end

/-! The condition events of a source stage (R169): what `issueCond` does to the matrix and to the cell's counters. -/

namespace Sys2Proof.Machine

/-! ### A cell after a change of TRIGGER -/

/-- A change that leaves the cells alone leaves each cell alone. -/
theorem onTrigger_cell (f : Trigger → Trigger) (p : Piece) (n : Nat) (h : (f p.trigger).cells = p.trigger.cells) :
    (onTrigger f p).cell n = p.cell n := by
  simp only [Piece.cell, onTrigger_trigger, h]

theorem onCell_cell_self (f : Cell → Cell) (p : Piece) {n : Nat} (h : n < p.trigger.cells.length) :
    (onCell n f p).cell n = f (p.cell n) :=
  nth_upd_self p.trigger.cells f h

/-! ### Two condition events of one source stage and one cycle -/

/-- Two condition events come from one source stage in one tally-island cycle. -/
def CondEvent.SameSlot (o e : CondEvent) : Prop := o.cell = e.cell ∧ o.cycle = e.cycle

/-- What an event of the matrix becomes when the stage finds `e`: `e` itself where `e` is the earlier of one slot. -/
def CondEvent.orEarlier (e o : CondEvent) : CondEvent :=
  if o.cell == e.cell && o.cycle == e.cycle && decide (e.time < o.time) then e else o

/-- Of two events of one slot the matrix keeps one of that slot, no later than either. -/
theorem CondEvent.orEarlier_of_sameSlot {e o : CondEvent} (h : o.SameSlot e) :
    (e.orEarlier o).SameSlot e ∧ (e.orEarlier o).time ≤ e.time ∧ (e.orEarlier o).time ≤ o.time := by
  obtain ⟨hcell, hcycle⟩ := h
  by_cases hlt : e.time < o.time
  · have hkeep : e.orEarlier o = e := by simp [orEarlier, hcell, hcycle, hlt]
    rw [hkeep]
    exact ⟨⟨rfl, rfl⟩, le_refl _, hlt.le⟩
  · have hkeep : e.orEarlier o = o := by simp [orEarlier, hlt]
    rw [hkeep]
    exact ⟨⟨hcell, hcycle⟩, not_lt.mp hlt, le_refl _⟩

/-- The test by which `issueCond` chooses its branch. -/
theorem any_sameSlot_iff (e : CondEvent) (l : List CondEvent) :
    (l.any fun o => o.cell == e.cell && o.cycle == e.cycle) = true ↔ ∃ o ∈ l, o.SameSlot e := by
  simp [CondEvent.SameSlot]

/-! ### The two ways of `issueCond` -/

/-- The first event of its slot joins the matrix and is counted as fired. -/
theorem issueCond_of_free {e : CondEvent} {p : Piece} (h : ¬∃ o ∈ p.trigger.matrix, o.SameSlot e) :
    issueCond e p = onCell e.cell (fun c => { c with fired := wrap32 c.fired 1 })
      (onTrigger (fun t => { t with matrix := t.matrix ++ [e] }) p) :=
  if_neg (mt (any_sameSlot_iff e _).mp h)

/-- A further event of a slot is counted as dropped, and the matrix keeps the earlier one. -/
theorem issueCond_of_taken {e : CondEvent} {p : Piece} (h : ∃ o ∈ p.trigger.matrix, o.SameSlot e) :
    issueCond e p = onCell e.cell (fun c => { c with dropped := sat32 c.dropped 1 })
      (onTrigger (fun t => { t with matrix := t.matrix.map e.orEarlier }) p) :=
  if_pos ((any_sameSlot_iff e _).mpr h)

/-- The cell of an event after a change of the matrix and of that cell. -/
theorem onCell_matrix_cell (f : Cell → Cell) (g : List CondEvent → List CondEvent) {p : Piece} {n : Nat}
    (h : n < p.trigger.cells.length) :
    (onCell n f (onTrigger (fun t => { t with matrix := g t.matrix }) p)).cell n = f (p.cell n) := by
  rw [onCell_cell_self f _ (by exact h), onTrigger_cell _ _ _ rfl]

/-- Settles O55: the two ways of `issueCond`, as the slot of the event is free or taken. -/
theorem earliestConditionIsIssued : Obligations.EarliestConditionIsIssued := by
  rintro p p' e rfl hcell
  refine ⟨fun hfree => ?_, fun o ho hc hy => ?_⟩
  · have hnone : ¬∃ o ∈ p.trigger.matrix, o.SameSlot e := fun ⟨o, ho, hslot⟩ => hfree o ho hslot
    rw [issueCond_of_free hnone, onCell_matrix_cell _ (· ++ [e]) hcell]
    exact ⟨rfl, rfl, rfl⟩
  · have hslot : o.SameSlot e := ⟨hc, hy⟩
    obtain ⟨⟨hc', hy'⟩, hle, hlo⟩ := CondEvent.orEarlier_of_sameSlot hslot
    rw [issueCond_of_taken ⟨o, ho, hslot⟩, onCell_matrix_cell _ (List.map e.orEarlier) hcell]
    exact ⟨List.length_map _, rfl, rfl, e.orEarlier o, List.mem_map_of_mem ho, hc', hy', hle, hlo⟩

end Sys2Proof.Machine

/-! The edges of a stamp input (R233 to R240): what a change of one input leaves alone, which edges reach the dead time, and what the
blind period makes of them. -/

namespace Sys2Proof.Machine

/-! ### A stamp input after a change of STAMP -/

theorem input_eq_of_stamp {p p' : Piece} (h : p'.stamp = p.stamp) (n : Nat) : p'.input n = p.input n := by
  simp only [Piece.input, Piece.motif, h]

theorem onInput_input_self (f : StampInput → StampInput) {p : Piece} {n : Nat} (hmotif : n / 4 < p.stamp.length)
    (hinput : n % 4 < (p.motif (n / 4)).inputs.length) : (onInput n f p).input n = f (p.input n) := by
  simp only [Piece.input, Piece.motif, onInput_stamp, nth_upd_self _ _ hmotif]
  exact nth_upd_self _ _ hinput

/-- A change of a motif that keeps what `g` reads of each motif's inputs keeps it for every input. -/
theorem onMotif_input_keep {β : Type} (g : StampInput → β) (k n : Nat) (f : Motif → Motif) (p : Piece)
    (h : ∀ m, g (nth (f m).inputs (n % 4)) = g (nth m.inputs (n % 4))) : g ((onMotif k f p).input n) = g (p.input n) :=
  nth_upd_keep (fun m => g (nth m.inputs (n % 4))) p.stamp k (n / 4) f h

/-- A change of an input that keeps a part of it keeps that part of every input. -/
theorem onInput_input_keep {β : Type} (g : StampInput → β) (s n : Nat) (f : StampInput → StampInput) (p : Piece)
    (h : ∀ i, g (f i) = g i) : g ((onInput s f p).input n) = g (p.input n) :=
  onMotif_input_keep g (s / 4) n _ p fun m => nth_upd_keep g m.inputs (s % 4) (n % 4) f h

/-! ### The express unit leaves STAMP alone -/

theorem expressCycle_stamp (k : Nat) (s : CellSetting) (p : Piece) (cycle : Nat) : (expressCycle k s p cycle).stamp = p.stamp :=
  when_same (·.stamp) _ (reachOut k) _ rfl

theorem settleExpress_stamp (k : Nat) (p : Piece) : (settleExpress k p).stamp = p.stamp := by
  unfold settleExpress
  dsimp only
  split
  · rfl
  · exact foldl_same (·.stamp) _ (expressCycle_stamp k _) _ p

theorem expressEdge_stamp (k n : Nat) (rising : Bool) (p : Piece) : (expressEdge k n rising p).stamp = p.stamp := by
  unfold expressEdge
  dsimp only
  split
  · rfl
  · split
    · rfl
    · exact settleExpress_stamp k _

/-! ### Capture -/

/-- Past the count, the SEQ and the measured time that a captured edge writes first, it changes of its input no more than the burst FIFO,
the counters of losses and the flags (R241, R243, R247, R250). -/
theorem captureEdge_input_keep {β : Type} (g : StampInput → β) (n : Nat) (raw : T16) (e : StampEdge) (p : Piece)
    (hlost : ∀ (i : StampInput) (fl lf ov : Nat),
      g { i with passed := fl, crowdDue := false, calDue := false, lostFault := lf, overflow := ov } = g i)
    (hkept : ∀ (i : StampInput) (q : List FifoRecord) (h : Nat),
      g { i with fifo := q, fifoHigh := h, crowdDue := false, calDue := false, passed := 0 } = g i) :
    g ((captureEdge n raw e p).input n) =
      g ((onInput n (fun i => { i with captured := wrap32 i.captured 1, seq := wrap32 i.seq 1, lastCapture := some raw }) p).input n) := by
  unfold captureEdge
  dsimp only
  rw [onInput_input_keep g, input_eq_of_stamp (expressEdge_stamp _ _ _ _), onMotif_input_keep g]
  · intro m
    split <;> rfl
  · intro i
    split
    · exact hlost i _ _ _
    · split
      · exact hlost i _ _ _
      · exact hkept i _ _

/-- A captured edge begins the blind period at its measured time, and is counted (R239). -/
theorem captureEdge_input {n : Nat} {p : Piece} (raw : T16) (e : StampEdge) (hmotif : n / 4 < p.stamp.length)
    (hinput : n % 4 < (p.motif (n / 4)).inputs.length) :
    ((captureEdge n raw e p).input n).lastCapture = some raw ∧
    ((captureEdge n raw e p).input n).captured = ((p.input n).captured + 1) % 2 ^ 32 := by
  rw [captureEdge_input_keep (·.lastCapture) n raw e p (fun _ _ _ _ => rfl) (fun _ _ _ => rfl),
    captureEdge_input_keep (·.captured) n raw e p (fun _ _ _ _ => rfl) (fun _ _ _ => rfl), onInput_input_self _ hmotif hinput]
  exact ⟨rfl, rfl⟩

/-! ### The prescaler -/

/-- The prescaler of an input counts an edge (R234). -/
def prescaleEdge (n : Nat) (p : Piece) : Piece :=
  onInput n (fun i => { i with prescaled := (i.prescaled + 1) % 2 ^ i.setting.prescale }) p

theorem prescaleEdge_input_keep {β : Type} (g : StampInput → β) (n : Nat) (p : Piece)
    (h : ∀ (i : StampInput) (k : Nat), g { i with prescaled := k } = g i) : g ((prescaleEdge n p).input n) = g (p.input n) :=
  onInput_input_keep g n n _ p fun i => h i _

theorem prescaleEdge_stamp_length (n : Nat) (p : Piece) : (prescaleEdge n p).stamp.length = p.stamp.length :=
  upd_length _ _ _

theorem prescaleEdge_inputs_length (n k : Nat) (p : Piece) :
    ((prescaleEdge n p).motif k).inputs.length = (p.motif k).inputs.length :=
  nth_upd_keep (·.inputs.length) p.stamp (n / 4) k _ fun _ => upd_length _ _ _

/-! ### The dead time (R239) -/

theorem inDeadTime_of_lt_790ps {l t : Int} (g : Bool) (h : (t - l) * 390625 < 790 * 65536000) :
    inDeadTime (some l) t g = true := by
  simp only [inDeadTime, decide_eq_true h, Bool.true_or]

theorem inDeadTime_of_ge_810ps {l t : Int} (g : Bool) (h : 810 * 65536000 ≤ (t - l) * 390625) :
    inDeadTime (some l) t g = false := by
  have h790 : ¬(t - l) * 390625 < 790 * 65536000 := by omega
  simp only [inDeadTime, decide_eq_false h790, decide_eq_false (not_lt.mpr h), Bool.false_and, Bool.or_self]

/-- In the open range the outcome is the one that the edge carries. -/
theorem inDeadTime_of_between {l t : Int} (g : Bool) (hlow : 790 * 65536000 ≤ (t - l) * 390625)
    (hhigh : (t - l) * 390625 < 810 * 65536000) : inDeadTime (some l) t g = !g := by
  simp only [inDeadTime, decide_eq_false (not_lt.mpr hlow), decide_eq_true hhigh, Bool.true_and, Bool.false_or]

/-! ### An edge at an input -/

/-- An input takes an edge: it is enabled, has no lasting fault, is not blank, and its comparator and slope see the edge (R230, R232,
R233). -/
structure StampInput.Takes (i : StampInput) (now : Nat) (rising : Bool) : Prop where
  enabled : i.setting.en = true
  sound : i.faultActive = false
  unblanked : ∀ t, i.blankUntil = some t → t ≤ now
  detected : detects i = true
  sloped : i.setting.slope.passes rising = true

/-- What becomes of an edge that passes the prescaler, as the prescaler has counted it: lost in the dead time, or captured. -/
def judgeEdge (n : Nat) (raw : T16) (e : StampEdge) (p : Piece) : Piece :=
  if inDeadTime (p.input n).lastCapture raw e.greyCaptured then
    onInput n (fun i => { i with lostDt := sat32 i.lostDt 1, crowdDue := true }) p
  else captureEdge n raw e p

/-- An edge that its input takes, and that the prescaler lets pass, is judged by its time at the capture stage. -/
theorem inputEdge_of_takes {n : Nat} {e : StampEdge} {p : Piece} (htakes : (p.input n).Takes p.now e.rising)
    (hpre : (p.input n).prescaled = 0) :
    inputEdge n e p =
      judgeEdge n (T16.ofTick (prescaleEdge n p).now + fraction (prescaleEdge n p) n e) e (prescaleEdge n p) := by
  obtain ⟨hen, hsound, hblank, hdet, hslope⟩ := htakes
  have hlast : ((prescaleEdge n p).input n).lastCapture = (p.input n).lastCapture :=
    prescaleEdge_input_keep (·.lastCapture) n p fun _ _ => rfl
  unfold inputEdge
  refine (if_neg ?passedOver).trans ((if_neg (by simp [hpre])).trans ?judged)
  case passedOver =>
    cases hb : (p.input n).blankUntil with
    | none => simp [hen, hsound, hdet, hslope]
    | some t => simpa [hen, hsound, hdet, hslope] using hblank t hb
  case judged =>
    rw [judgeEdge, hlast]
    rfl

/-- A lost edge does not restart the blind period, and is not counted as captured (R239, R240). -/
theorem judgeEdge_of_dead {n : Nat} {raw : T16} {e : StampEdge} {p : Piece}
    (h : inDeadTime (p.input n).lastCapture raw e.greyCaptured = true) :
    ((judgeEdge n raw e p).input n).lastCapture = (p.input n).lastCapture ∧
    ((judgeEdge n raw e p).input n).captured = (p.input n).captured := by
  rw [judgeEdge, if_pos h]
  exact ⟨onInput_input_keep (·.lastCapture) n n _ p fun _ => rfl, onInput_input_keep (·.captured) n n _ p fun _ => rfl⟩

theorem judgeEdge_of_live {n : Nat} {raw : T16} {e : StampEdge} {p : Piece}
    (h : inDeadTime (p.input n).lastCapture raw e.greyCaptured = false) : judgeEdge n raw e p = captureEdge n raw e p := by
  rw [judgeEdge, if_neg (by simp [h])]

/-- STAMP_EDGE_CAPTURE of sources 0 to 15 (R229). -/
theorem exec_stampEdgeCapture_of_input {n : Fin 24} (hn : n.val < 16) (e : StampEdge) (p : Piece) (q : List Instr) :
    exec (.stampEdgeCapture n e) ⟨p, q⟩ = .next ⟨inputEdge n e (applySetting n p), q⟩ :=
  congrArg (fun p' => (.next ⟨p', q⟩ : Out)) (if_pos hn)

/-- Settles O56: an edge that passes the prescaler is judged by the dead time, whose three ranges decide whether it is lost or captured. -/
theorem blindPeriod : Obligations.BlindPeriod := by
  rintro p p0 p1 q n e i raw l hn rfl rfl hen hsound hblank hdet hslope hpre hlast hp1 hraw hmotif hinput
  change p1 = prescaleEdge n (applySetting n p) at hp1
  have hlast1 : (p1.input n).lastCapture = some l := by
    rw [hp1, prescaleEdge_input_keep (·.lastCapture) n _ fun _ _ => rfl, hlast]
  have hcount1 : (p1.input n).captured = ((applySetting n p).input n).captured := by
    rw [hp1, prescaleEdge_input_keep (·.captured) n _ fun _ _ => rfl]
  have hmotif1 : n.val / 4 < p1.stamp.length := by rwa [hp1, prescaleEdge_stamp_length]
  have hinput1 : n.val % 4 < (p1.motif (n.val / 4)).inputs.length := by rwa [hp1, prescaleEdge_inputs_length]
  have hlost : inDeadTime (some l) raw e.greyCaptured = true →
      ((judgeEdge n raw e p1).input n).lastCapture = some l ∧
      ((judgeEdge n raw e p1).input n).captured = ((applySetting n p).input n).captured := by
    rw [← hlast1, ← hcount1]
    exact judgeEdge_of_dead
  have hcaptured : inDeadTime (some l) raw e.greyCaptured = false →
      ((judgeEdge n raw e p1).input n).lastCapture = some raw ∧
      ((judgeEdge n raw e p1).input n).captured = (((applySetting n p).input n).captured + 1) % 2 ^ 32 := by
    rw [← hlast1, ← hcount1]
    intro hlive
    rw [judgeEdge_of_live hlive]
    exact captureEdge_input raw e hmotif1 hinput1
  refine ⟨judgeEdge n raw e p1, ?_, fun hlt => hlost (inDeadTime_of_lt_790ps _ hlt),
    fun hge => hcaptured (inDeadTime_of_ge_810ps _ hge), fun hlow hhigh => ?_⟩
  · rw [exec_stampEdgeCapture_of_input hn, inputEdge_of_takes ⟨hen, hsound, hblank, hdet, hslope⟩ hpre, ← hp1, ← hraw]
  · have hgrey := inDeadTime_of_between (l := l) (t := raw) e.greyCaptured hlow hhigh
    cases hg : e.greyCaptured with
    | true => exact (hcaptured (by rw [hgrey, hg]; rfl)).1
    | false => exact (hlost (by rw [hgrey, hg]; rfl)).1

/-! ### An instance on each side of the dead time -/

/-- An enabled input that has captured its last edge at time 0. -/
def inputCapturedAtZero : StampInput := { setting := { en := true }, lastCapture := some 0 }

/-- A piece at a Mint tick with such an input 0. -/
def capturedAtZero (mint : Nat) : Piece := onInput 0 (fun _ => inputCapturedAtZero) { clocks := { mint := mint } }

/-- A rising edge whose four taps agree. -/
def risingEdge : StampEdge := { rising := true, tap0 := 0, tap1 := 0, tap2 := 0, tap3 := 0, dllLost := false, greyCaptured := false }

/-- The measured time of an edge at input 0 lies within the tick of its arrival. -/
theorem fraction_capturedAtZero (mint : Nat) :
    0 ≤ fraction (prescaleEdge 0 (capturedAtZero mint)) 0 risingEdge ∧ fraction (prescaleEdge 0 (capturedAtZero mint)) 0 risingEdge < 65536 := by
  change 0 ≤ ((Config.fineTable _ _ _ _ % 65536 : Nat) : Int) ∧ ((Config.fineTable _ _ _ _ % 65536 : Nat) : Int) < 65536
  omega

/-- An instance of O56 whose hypotheses hold at every tick: an edge less than two ticks, 781.25 ps, after the captured one is lost, and one
three ticks, 1,171.875 ps, or more after it is captured. -/
theorem blindPeriod_capturedAtZero (mint : Nat) :
    ∃ p', exec (.stampEdgeCapture 0 risingEdge) ⟨capturedAtZero mint, []⟩ = .next ⟨p', []⟩ ∧
      (mint < 2 → (p'.input 0).lastCapture = some 0 ∧ (p'.input 0).captured = 0) ∧ (3 ≤ mint → (p'.input 0).captured = 1) := by
  obtain ⟨p', hexec, hlost, hcaptured, -⟩ := blindPeriod (capturedAtZero mint) (capturedAtZero mint) _ [] 0 risingEdge
    inputCapturedAtZero _ 0 (by decide) rfl rfl rfl rfl (fun _ h => nomatch h) (by decide) rfl rfl rfl rfl rfl
    (Nat.zero_lt_succ 3) (Nat.zero_lt_succ 3)
  obtain ⟨hge, hlt⟩ := fraction_capturedAtZero mint
  refine ⟨p', hexec, fun hm => hlost ?_, fun hm => (hcaptured ?_).2⟩
  · change (mint * 65536 + fraction (prescaleEdge 0 (capturedAtZero mint)) 0 risingEdge - 0) * 390625 < 790 * 65536000
    omega
  · change 810 * 65536000 ≤ (mint * 65536 + fraction (prescaleEdge 0 (capturedAtZero mint)) 0 risingEdge - 0) * 390625
    omega

end Sys2Proof.Machine

/-! The branch B of slot Y (R368, R369): when each condition code holds, and what the slot answers for a reserved code, a branch that is
not taken and one that is. -/

namespace Sys2Proof.Machine

/-! ### The condition codes that compare two flags -/

theorem condHolds_lt_iff (fl : Nat) : condHolds fl 3 = true ↔ bitAt fl 1 ≠ bitAt fl 3 := bne_iff_ne

theorem condHolds_ge_iff (fl : Nat) : condHolds fl 4 = true ↔ bitAt fl 1 = bitAt fl 3 := beq_iff_eq

theorem condHolds_gt_iff (fl : Nat) : condHolds fl 5 = true ↔ bitAt fl 0 = false ∧ bitAt fl 1 = bitAt fl 3 := by
  rw [← condHolds_ge_iff, ← Bool.not_eq_true']
  exact Bool.and_eq_true_iff

theorem condHolds_le_iff (fl : Nat) : condHolds fl 6 = true ↔ bitAt fl 0 = true ∨ bitAt fl 1 ≠ bitAt fl 3 := by
  rw [← condHolds_lt_iff]
  exact Bool.or_eq_true_iff

/-! ### The slot Y of a branch -/

/-- Slot Y with OP 0x10: the fields are judged first, then the condition over SR as it stands before the bundle. -/
theorem slotY_of_branch {x : Nat} (hop : field x 26 6 = 0x10) (e : CoreEnv) (ext : Nat) (p : Piece) (c : Core) :
    slotY e x ext p c =
      if field x 16 6 != 0 || 10 < field x 22 4 then illegalY
      else if condHolds c.flags (field x 22 4) then jumpTo c [] (relative c x) [] id
      else .ok ({}, .next) := by
  simp only [slotY, hop]

theorem slotY_of_reserved_cond {x : Nat} (hop : field x 26 6 = 0x10) (hcond : 10 < field x 22 4) (e : CoreEnv) (ext : Nat) (p : Piece)
    (c : Core) : slotY e x ext p c = illegalY := by
  rw [slotY_of_branch hop, if_pos (by simp [hcond])]

theorem slotY_of_legal_branch {x : Nat} (hop : field x 26 6 = 0x10) (hunused : field x 16 6 = 0) (hcond : field x 22 4 ≤ 10)
    (e : CoreEnv) (ext : Nat) (p : Piece) (c : Core) :
    slotY e x ext p c =
      if condHolds c.flags (field x 22 4) then jumpTo c [] (relative c x) [] id else .ok ({}, .next) := by
  rw [slotY_of_branch hop, if_neg (by simp [hunused, hcond])]

/-- Settles O58: the table of R368 code by code, then the slot Y of a branch for the reserved codes and for the others. -/
theorem branchConditions : Obligations.BranchConditions := by
  refine ⟨?table, fun e x ext p c hop hcond => slotY_of_reserved_cond hop hcond e ext p c, fun e x ext p c hop hunused hcond => ?legal⟩
  case table =>
    rintro fl _ _ _ _ rfl rfl rfl rfl
    exact ⟨rfl, rfl, rfl, condHolds_lt_iff fl, condHolds_ge_iff fl, condHolds_gt_iff fl, condHolds_le_iff fl, rfl, rfl, rfl, rfl⟩
  case legal =>
    rw [slotY_of_legal_branch hop hunused hcond]
    exact ⟨fun hnot => if_neg (by simp [hnot]), fun htaken => if_pos htaken⟩

/-! ### Branches that the statement is about -/

/-- The slot Y of a branch with a condition code and a distance forward in bundles. -/
def branchSlot (cond distance : Nat) : Nat := 0x10 * 2 ^ 26 + cond * 2 ^ 22 + distance

/-- A core at PC 0 of a kernel of eight bundles, with its flags. -/
def coreWithFlags (fl : Nat) : Core := { flags := fl, image := some { codeLen := 64 } }

/-- An instance of O58: BEQ two bundles forward goes on with the next bundle where Z is 0 and to address 16 where it is 1; the same branch
with code 11 is illegal. -/
theorem branchConditions_branchSlot (e : CoreEnv) (p : Piece) :
    slotY e (branchSlot 1 2) 0 p (coreWithFlags 0) = .ok ({}, .next) ∧
    slotY e (branchSlot 1 2) 0 p (coreWithFlags 1) = .ok ({}, .jump 16) ∧
    slotY e (branchSlot 11 2) 0 p (coreWithFlags 1) = .error (4, 0) := by
  obtain ⟨-, hreserved, hlegal⟩ := branchConditions
  have hbeq (fl : Nat) := hlegal e (branchSlot 1 2) 0 p (coreWithFlags fl) (by decide) (by decide) (by decide)
  exact ⟨(hbeq 0).1 (by decide), (hbeq 1).2 (by decide), hreserved e _ 0 p _ (by decide) (by decide)⟩

end Sys2Proof.Machine

/-! The start of a command of the steward (R443 to R445), and ABORT_TAG (R447): what each of its outcomes does with the command that
it names. -/

namespace Sys2Proof.Machine

/-! ### The rules of a body in their order (R454) -/

@[simp] theorem guarded_nil (p : Piece) (k : Piece × Verdict) : guarded [] p k = k := rfl

@[simp] theorem guarded_cons_of_kept (st : Nat) (rules : List (Bool × Nat)) (p : Piece) (k : Piece × Verdict) :
    guarded ((false, st) :: rules) p k = guarded rules p k := rfl

@[simp] theorem guarded_cons_of_broken (st : Nat) (rules : List (Bool × Nat)) (p : Piece) (k : Piece × Verdict) :
    guarded ((true, st) :: rules) p k = (p, .done st []) := rfl

/-! ### A command that starts -/

/-- READY is the first check of a header. -/
theorem beforeReady_of_headerFault_none {p : Piece} {row : CmdRow} {f : Flight} (h : headerFault p row f = none) :
    beforeReady p f.opcode = false := by
  cases hready : beforeReady p f.opcode with
  | false => rfl
  | true => simp [headerFault, hready] at h

/-- A row whose block starts at once begins with its own work, on the piece that holds it in flight. -/
theorem runCommand_of_starts {op : Nat} {c : Cmd} {p : Piece} {f : Flight} {p1 : Piece} (act : Act) (h : Claim.Starts op c p f p1) :
    runCommand op c act p = start f c.read act p1 := by
  obtain ⟨hrunning, -, ⟨hfetched, rfl, -, -⟩ | ⟨hfetched, rfl, rfl, row, hrow, hheader⟩⟩ := h
  · simp [runCommand, hrunning, hfetched]
  · simp [runCommand, hrunning, hfetched, hrow, hheader]

theorem beforeReady_of_starts {op : Nat} {c : Cmd} {p : Piece} {f : Flight} {p1 : Piece} (h : Claim.Starts op c p f p1) :
    beforeReady p1 f.opcode = false := by
  obtain ⟨-, -, ⟨-, rfl, hop, hready⟩ | ⟨-, -, -, row, -, hheader⟩⟩ := h
  · rwa [hop]
  · exact beforeReady_of_headerFault_none hheader

/-- A row that starts, and whose work is done at once, completes. -/
theorem runCommand_of_starts_of_done {op : Nat} {c : Cmd} {p : Piece} {f : Flight} {p1 p2 : Piece} {act : Act} {st : Nat}
    {rs : List Nat} (h : Claim.Starts op c p f p1) (hact : act f c.read p1 = (p2, .done st rs)) :
    runCommand op c act p = finish f st rs p2 := by
  have hfree : blocked p1 f = false := h.2.1
  rw [runCommand_of_starts act h]
  simp [start, hfree, beforeReady_of_starts h, hact]

/-! ### The work of ABORT_TAG -/

/-- The command that an ABORT_TAG names: another of its session, with the tag. -/
def abortTarget (f : Flight) (tag : Nat) (p : Piece) : Option Flight :=
  p.transport.flights.find? fun g => g.session == f.session && g.order != f.order && g.tag == tag

theorem abortTarget_eq_none {f : Flight} {tag : Nat} {p : Piece}
    (h : ∀ g ∈ p.transport.flights, g.session = f.session → g.tag = tag → g.order = f.order) : abortTarget f tag p = none :=
  List.find?_eq_none.mpr fun g hg hnamed => by
    simp only [Bool.and_eq_true, beq_iff_eq, bne_iff_ne] at hnamed
    obtain ⟨⟨hsession, hother⟩, htag⟩ := hnamed
    exact hother (h g hg hsession htag)

/-- A body of ABORT_TAG whose reserved bits are zero (R493). -/
structure AbortBody (f : Flight) : Prop where
  tag_lt : u f.body 0 2 < 4096
  reserved : isZero (slice f.body 2 6) = true

section
variable {f g : Flight} {p : Piece} (answer : Answer) (hbody : AbortBody f)
include hbody

theorem actAbortTag_of_notStarted (htarget : abortTarget f (u f.body 0 2) p = some g) (hg : g.progress = .notStarted) :
    actAbortTag f answer p = (setFlight { g with progress := .held (g.completion stAborted []) } p, .done stOk []) := by
  rw [abortTarget] at htarget
  simp [actAbortTag, simple, htarget, hg, Nat.not_le.mpr hbody.tag_lt, hbody.reserved]

theorem actAbortTag_of_started (htarget : abortTarget f (u f.body 0 2) p = some g) (hg : g.progress ≠ .notStarted) :
    actAbortTag f answer p = (p, .done stState []) := by
  rw [abortTarget] at htarget
  simp [actAbortTag, simple, htarget, bne_iff_ne.mpr hg, Nat.not_le.mpr hbody.tag_lt, hbody.reserved]

theorem actAbortTag_of_absent (htarget : abortTarget f (u f.body 0 2) p = none) :
    actAbortTag f answer p = (p, .done stState []) := by
  rw [abortTarget] at htarget
  simp [actAbortTag, simple, htarget, Nat.not_le.mpr hbody.tag_lt, hbody.reserved]

end

theorem exec_abortTag_of_done {c : Cmd} {p : Piece} {f : Flight} {p1 p2 : Piece} {st : Nat} {rs : List Nat} (q : List Instr)
    (h : Claim.Starts 0x0109 c p f p1) (hact : actAbortTag f c.read p1 = (p2, .done st rs)) :
    exec (.abortTag c) ⟨p, q⟩ = .next ⟨finish f st rs p2, q⟩ :=
  congrArg (fun p' => (.next ⟨p', q⟩ : Out)) (runCommand_of_starts_of_done h hact)

/-- Settles O15: the outcome of ABORT_TAG for a named command that has not started, for one that has, and for a tag that no other
command of the session carries. -/
theorem abortEndsWhatHasNotStarted : Obligations.AbortEndsWhatHasNotStarted := by
  rintro p q c f p1 _ hstarts rfl htag hreserved
  have hbody : AbortBody f := ⟨htag, hreserved⟩
  refine ⟨fun g htarget => ⟨fun hg => ?notStarted, fun hg => ?started⟩, fun hnone => ?absent⟩
  case notStarted => exact exec_abortTag_of_done q hstarts (actAbortTag_of_notStarted _ hbody htarget hg)
  case started => exact exec_abortTag_of_done q hstarts (actAbortTag_of_started _ hbody htarget hg)
  case absent => exact exec_abortTag_of_done q hstarts (actAbortTag_of_absent _ hbody (abortTarget_eq_none hnone))

/-! ### A session with a started command and one that has not started -/

/-- An RFIN_CONFIGURE of input 0 with a tag, in session 0 on channel 0. -/
def frontEndFlight (order tag : Nat) (progress : Progress) : Flight :=
  { order := order, opcode := 0x0301, tag := tag, body := [0, 0, 0, 0, 0, 0, 0, 0], progress := progress }

/-- The first RFIN_CONFIGURE, tag 1, waits on its front end; the second, tag 2, has not started. -/
def twoFrontEnds : List Flight := [frontEndFlight 0 1 (.waiting .frontEnd 0 [0, 0]), frontEndFlight 1 2 .notStarted]

/-- An ABORT_TAG in session 0 on channel 0, with tag 4. -/
def abortBlock (tag : BitVec 8) : Cmd := { channel := 0, session := 0, tag := 4, body := [tag, 0, 0, 0, 0, 0, 0, 0] }

/-- A running steward with the two RFIN_CONFIGURE in flight, and behind them an ABORT_TAG that is fetched and checked. -/
def abortBehindFrontEnds (tag : BitVec 8) : Piece :=
  { transport := { state := .running, sessions := [{}], flights := twoFrontEnds ++ [flightOf (abortBlock tag) 0x0109 2], nextOrder := 3 } }

theorem starts_abortBehindFrontEnds (tag : BitVec 8) :
    Claim.Starts 0x0109 (abortBlock tag) (abortBehindFrontEnds tag) (flightOf (abortBlock tag) 0x0109 2) (abortBehindFrontEnds tag) :=
  ⟨rfl, rfl, .inl ⟨rfl, rfl, rfl, rfl⟩⟩

/-- An instance of O15: tag 2 is aborted, and its record waits behind the started command of the same panel; tag 1, which has started,
and tag 3, which is not in flight, leave both commands as they are. -/
theorem abortEndsWhatHasNotStarted_twoFrontEnds :
    (∃ p', exec (.abortTag (abortBlock 2)) ⟨abortBehindFrontEnds 2, []⟩ = .next ⟨p', []⟩ ∧
      p'.transport.flights = [frontEndFlight 0 1 (.waiting .frontEnd 0 [0, 0]),
        frontEndFlight 1 2 (.held { tag := 2, session := 0, status := 6, opcode := 0x0301, results := [] })]) ∧
    (∃ p', exec (.abortTag (abortBlock 1)) ⟨abortBehindFrontEnds 1, []⟩ = .next ⟨p', []⟩ ∧ p'.transport.flights = twoFrontEnds) ∧
    ∃ p', exec (.abortTag (abortBlock 3)) ⟨abortBehindFrontEnds 3, []⟩ = .next ⟨p', []⟩ ∧ p'.transport.flights = twoFrontEnds := by
  have hsettled (tag : BitVec 8) := abortEndsWhatHasNotStarted _ [] _ _ _ _ (starts_abortBehindFrontEnds tag) rfl
  obtain ⟨hnamed2, -⟩ := hsettled 2 (by decide) (by decide)
  obtain ⟨hnamed1, -⟩ := hsettled 1 (by decide) (by decide)
  obtain ⟨-, habsent⟩ := hsettled 3 (by decide) (by decide)
  refine ⟨⟨_, (hnamed2 (frontEndFlight 1 2 .notStarted) rfl).1 rfl, ?aborted⟩,
    ⟨_, (hnamed1 (frontEndFlight 0 1 (.waiting .frontEnd 0 [0, 0])) rfl).2 (by decide), ?started⟩, ⟨_, habsent (by decide), ?absent⟩⟩
  case aborted => rfl
  case started => rfl
  case absent => rfl

end Sys2Proof.Machine

/-! Fletcher-64 (R545): how a string is cut into words, the padding of its trailing partial word, and how a run continues from the
value of another. -/

namespace Sys2Proof.Machine

/-! ### The words of a string -/

/-- Fuel beyond the length of a string does not change its pieces. -/
theorem chunks_of_length_le {α : Type} {n : Nat} (hn : 0 < n) {j k : Nat} {l : List α} (hj : l.length ≤ j) (hk : l.length ≤ k) :
    chunks n j l = chunks n k l := by
  induction j generalizing k l with
  | zero =>
    obtain rfl : l = [] := List.length_eq_zero_iff.mp (Nat.le_zero.mp hj)
    cases k <;> rfl
  | succ j ih =>
    cases l with
    | nil => cases k <;> rfl
    | cons a as =>
      obtain ⟨k, rfl⟩ : ∃ m, k = m + 1 := Nat.exists_eq_add_one.mpr (Nat.zero_lt_of_lt hk)
      have hdrop : ((a :: as).drop n).length ≤ as.length := by
        rw [List.length_drop, List.length_cons]
        omega
      exact congrArg ((a :: as).take n :: ·)
        (ih (hdrop.trans (Nat.le_of_succ_le_succ hj)) (hdrop.trans (Nat.le_of_succ_le_succ hk)))

@[simp] theorem words_nil : words [] = [] := rfl

theorem words_of_ne_nil {bs : Bytes} (h : bs ≠ []) : words bs = leNat (bs.take 4) :: words (bs.drop 4) := by
  obtain ⟨b, bs, rfl⟩ := List.exists_cons_of_ne_nil h
  have hrest : chunks 4 bs.length ((b :: bs).drop 4) = chunks 4 ((b :: bs).drop 4).length ((b :: bs).drop 4) :=
    chunks_of_length_le (by decide) (by simp) le_rfl
  exact congrArg (fun l => leNat ((b :: bs).take 4) :: l.map leNat) hrest

/-- A whole word in front of a string is its first word. -/
theorem words_append {w : Bytes} (hw : w.length = 4) (bs : Bytes) : words (w ++ bs) = leNat w :: words bs := by
  have hne : w ++ bs ≠ [] := List.append_ne_nil_of_left_ne_nil (List.ne_nil_of_length_eq_add_one hw) bs
  rw [words_of_ne_nil hne, List.take_left' hw, List.drop_left' hw]

/-- A string of at most one word is that word. -/
theorem words_of_length_le {bs : Bytes} (hne : bs ≠ []) (hle : bs.length ≤ 4) : words bs = [leNat bs] := by
  rw [words_of_ne_nil hne, List.take_of_length_le hle, List.drop_of_length_le hle, words_nil]

/-! ### The padding of a partial word -/

@[simp] theorem leNat_zeros (k : Nat) : leNat (zeros k) = 0 := by
  induction k with
  | zero => rfl
  | succ k ih => simpa [zeros, List.replicate_succ, leNat] using ih

/-- Zeros behind a little-endian number leave it as it is. -/
@[simp] theorem leNat_append_zeros (bs : Bytes) (k : Nat) : leNat (bs ++ zeros k) = leNat bs := by
  induction bs with
  | nil => exact leNat_zeros k
  | cons b bs ih => simp only [List.cons_append, leNat, ih]

@[simp] theorem length_padTo (n : Nat) (bs : Bytes) : (padTo n bs).length = bs.length + (n - bs.length % n) % n := by
  simp [padTo, zeros]

/-- A whole block in front of a string is not padded. -/
theorem padTo_append {n : Nat} {w : Bytes} (hw : w.length = n) (bs : Bytes) : padTo n (w ++ bs) = w ++ padTo n bs := by
  simp only [padTo, List.length_append, hw, Nat.add_mod_left, List.append_assoc]

/-- The padding of a string to whole words adds no word and changes none. -/
theorem words_padTo (bs : Bytes) : words (padTo 4 bs) = words bs := by
  by_cases hne : bs = []
  · subst hne
    rfl
  have hpos : 0 < bs.length := List.length_pos_iff.mpr hne
  by_cases hle : bs.length ≤ 4
  · have hpad : (padTo 4 bs).length ≤ 4 := by
      rw [length_padTo]
      omega
    have hpadne : padTo 4 bs ≠ [] := List.append_ne_nil_of_left_ne_nil hne _
    rw [words_of_length_le hpadne hpad, words_of_length_le hne hle, padTo, leNat_append_zeros]
  · have htake : (bs.take 4).length = 4 := List.length_take_of_le (Nat.le_of_not_le hle)
    calc words (padTo 4 bs)
      _ = words (bs.take 4 ++ padTo 4 (bs.drop 4)) := by rw [← padTo_append htake, List.take_append_drop]
      _ = leNat (bs.take 4) :: words (bs.drop 4) := by rw [words_append htake, words_padTo (bs.drop 4)]
      _ = words bs := (words_of_ne_nil hne).symm
termination_by bs.length
decreasing_by
  rw [List.length_drop]
  omega

/-! ### A run of Fletcher-64 -/

@[simp] theorem fletcherRun_nil (a b : Nat) : fletcherRun a b [] = b * 2 ^ 32 + a := rfl

theorem fletcherRun_cons (a b w : Nat) (ws : List Nat) :
    fletcherRun a b (w :: ws) =
      fletcherRun ((a + w) % (2 ^ 32 - 1)) ((b + (a + w) % (2 ^ 32 - 1)) % (2 ^ 32 - 1)) ws := rfl

/-- A run over two strings is the run over the second, continued from the sums that stand in the value of the first. -/
theorem fletcherRun_append (x y : List Nat) {a b : Nat} (ha : a < 2 ^ 32 - 1) (hb : b < 2 ^ 32 - 1) :
    fletcherRun a b (x ++ y) = fletcherRun (fletcherRun a b x % 2 ^ 32) (fletcherRun a b x / 2 ^ 32) y := by
  induction x generalizing a b with
  | nil =>
    have hlow : (b * 2 ^ 32 + a) % 2 ^ 32 = a := by omega
    have hhigh : (b * 2 ^ 32 + a) / 2 ^ 32 = b := by omega
    rw [List.nil_append, fletcherRun_nil, hlow, hhigh]
  | cons w ws ih =>
    rw [List.cons_append, fletcherRun_cons, fletcherRun_cons]
    exact ih (Nat.mod_lt _ (by decide)) (Nat.mod_lt _ (by decide))

/-- Settles O57: the two equations of a run, the padding of the trailing word, and continuation. -/
theorem fletcherSixtyFour : Obligations.FletcherSixtyFour :=
  ⟨fletcherRun_nil, fletcherRun_cons, fun bs => (words_padTo bs).symm, fun x y _ _ ha hb => fletcherRun_append x y ha hb⟩

/-! ### The check input of R543 -/

/-- The string "123456789". -/
def checkInput : Bytes := [0x31, 0x32, 0x33, 0x34, 0x35, 0x36, 0x37, 0x38, 0x39]

/-- An instance of O57: the check input and its padding to twelve bytes give the value of R543, and so does a run over its first two
words that is continued over its third, partial word. -/
theorem fletcherSixtyFour_checkInput :
    checkFrom 4 0 checkInput = 0x0D0803376C6A689F ∧ checkFrom 4 0 (padTo 4 checkInput) = 0x0D0803376C6A689F ∧
      fletcherRun (fletcherRun 0 0 [0x34333231, 0x38373635] % 2 ^ 32) (fletcherRun 0 0 [0x34333231, 0x38373635] / 2 ^ 32) [0x39] =
        0x0D0803376C6A689F := by
  obtain ⟨-, -, hpadding, hcontinued⟩ := fletcherSixtyFour
  have hvalue : checkFrom 4 0 checkInput = 0x0D0803376C6A689F := rfl
  refine ⟨hvalue, ?padded, ?continued⟩
  case padded =>
    have hpadded : checkFrom 4 0 (padTo 4 checkInput) = checkFrom 4 0 checkInput :=
      congrArg (fletcherRun 0 0) (hpadding checkInput).symm
    exact hpadded.trans hvalue
  case continued => exact (hcontinued [0x34333231, 0x38373635] [0x39] 0 0 (by decide) (by decide)).symm.trans hvalue

end Sys2Proof.Machine

/-! The invariant of device DRAM: one lemma for each operation of the piece, that it keeps the canonical form, then the step. -/

namespace Sys2Proof.Machine

/-! ### The canonical form of a piece and of what a command answers -/

/-- Device DRAM of a piece stands in its canonical form. -/
def Piece.Canonical (p : Piece) : Prop := Memory.wf p.dmc.dram = true

/-- What a command answers has device DRAM in its canonical form, where it answers a next state. -/
def Out.Canonical (o : Out) : Prop := ∀ t, o = .next t → t.piece.Canonical

theorem canonical_of_dmc {p q : Piece} (h : p.Canonical) (e : q.dmc = p.dmc) : q.Canonical := by
  simpa only [Piece.Canonical, e] using h

theorem canonical_of_dram {p q : Piece} (h : p.Canonical) (e : q.dmc.dram = p.dmc.dram) : q.Canonical := by
  simpa only [Piece.Canonical, e] using h

theorem canonical_ite {c : Prop} [Decidable c] {p q : Piece} (hp : p.Canonical) (hq : q.Canonical) :
    (if c then p else q).Canonical := by
  split
  · exact hp
  · exact hq

theorem canonical_fst_ite {α : Type} {c : Prop} [Decidable c] {x y : Piece × α} (hx : x.1.Canonical) (hy : y.1.Canonical) :
    (if c then x else y).1.Canonical := by
  split
  · exact hx
  · exact hy

/-- The piece of a pair that is known. -/
theorem canonical_fst {α : Type} {x : Piece × α} {q : Piece} {a : α} (e : x = (q, a)) (h : x.1.Canonical) : q.Canonical := by
  subst e
  exact h

theorem canonical_foldl {β : Type} {f : Piece → β → Piece} {l : List β} {p : Piece} (hf : ∀ p x, p.Canonical → (f p x).Canonical)
    (h : p.Canonical) : (l.foldl f p).Canonical := by
  induction l generalizing p with
  | nil => exact h
  | cons x l ih => exact ih (hf p x h)

theorem canonical_fst_foldl {α β : Type} {f : Piece × α → β → Piece × α} {l : List β} {x : Piece × α}
    (hf : ∀ x b, x.1.Canonical → (f x b).1.Canonical) (h : x.1.Canonical) : (l.foldl f x).1.Canonical := by
  induction l generalizing x with
  | nil => exact h
  | cons b l ih => exact ih (hf x b h)

theorem canonical_snd_foldl {α β : Type} {f : α × Piece → β → α × Piece} {l : List β} {x : α × Piece}
    (hf : ∀ x b, x.2.Canonical → (f x b).2.Canonical) (h : x.2.Canonical) : (l.foldl f x).2.Canonical := by
  induction l generalizing x with
  | nil => exact h
  | cons b l ih => exact ih (hf x b h)

theorem effect_canonical {f : Piece → Piece} {s : State} (hf : ∀ p : Piece, p.Canonical → (f p).Canonical) (h : s.piece.Canonical) :
    (effect f s).Canonical := by
  rintro t ⟨⟩
  exact hf s.piece h

theorem effectIf_canonical {ok : Bool} {f : Piece → Piece} {s : State} (hf : ∀ p : Piece, p.Canonical → (f p).Canonical)
    (h : s.piece.Canonical) : (effectIf ok f s).Canonical := by
  cases ok
  · rintro t ⟨⟩
  · exact effect_canonical hf h

theorem when_canonical {c : Bool} {f : Piece → Piece} {p : Piece} (hf : ∀ p : Piece, p.Canonical → (f p).Canonical) (h : p.Canonical) :
    (when c f p).Canonical :=
  canonical_ite (hf p h) h

theorem inIsland_canonical {island : Nat} {f : Piece → Piece} {s : State} (hf : ∀ p : Piece, p.Canonical → (f p).Canonical)
    (h : s.piece.Canonical) : (inIsland island f s).Canonical :=
  effect_canonical (fun _ hp => when_canonical hf hp) h

theorem inIslandIf_canonical {ok : Bool} {island : Nat} {f : Piece → Piece} {s : State}
    (hf : ∀ p : Piece, p.Canonical → (f p).Canonical) (h : s.piece.Canonical) : (inIslandIf ok island f s).Canonical :=
  effectIf_canonical (fun _ hp => when_canonical hf hp) h

theorem dramWrite_canonical {a : Nat} {bs : Bytes} {p : Piece} (h : p.Canonical) : (dramWrite a bs p).Canonical :=
  memWrite_wf p.dmc.dram a bs h

/-! ### Device DRAM over the shared operations -/

theorem emit_canonical {o : Output} {p : Piece} (h : p.Canonical) : (emit o p).Canonical := h

theorem pieceWrite_canonical {x : Nat} {bs : Bytes} {p : Piece} (h : p.Canonical) : (pieceWrite x bs p).1.Canonical :=
  canonical_fst_ite (canonical_fst_ite h (dramWrite_canonical h)) (canonical_fst_ite (emit_canonical h) h)

theorem raiseVector_canonical {fn v : Nat} {p : Piece} (h : p.Canonical) : (raiseVector fn v p).Canonical :=
  canonical_ite h (canonical_ite (emit_canonical h) h)

theorem pushJournal_canonical {e : JournalEntry} {p : Piece} (h : p.Canonical) : (pushJournal e p).1.Canonical := by
  unfold pushJournal
  split
  · exact h

theorem raiseEvent_canonical {kind panelType inst : Nat} {body : Bytes} {p : Piece} (h : p.Canonical) :
    (raiseEvent kind panelType inst body p).Canonical :=
  h

theorem raiseEventAt_canonical {kind panelType inst : Nat} {t : T16} {body : Bytes} {p : Piece} (h : p.Canonical) :
    (raiseEventAt kind panelType inst t body p).Canonical :=
  h

theorem queueOwnSummary_canonical {p : Piece} (h : p.Canonical) : (queueOwnSummary p).Canonical := h

theorem latchAlarm_canonical {code : Nat} {p : Piece} (h : p.Canonical) : (latchAlarm code p).1.Canonical := h

theorem announceAlarm_canonical {code : Nat} {p : Piece} (h : p.Canonical) : (announceAlarm code p).Canonical :=
  queueOwnSummary_canonical (raiseEvent_canonical (raiseVector_canonical (raiseVector_canonical h)))

theorem occurAlarm_canonical {code panelType inst : Nat} {p : Piece} (h : p.Canonical) :
    (occurAlarm code panelType inst p).Canonical := by
  unfold occurAlarm
  split
  next _ _ _ he =>
    exact pushJournal_canonical (when_canonical (fun _ h1 => announceAlarm_canonical h1)
      (canonical_fst he (latchAlarm_canonical h)))

theorem writeJournal_canonical {e : JournalEntry} {p : Piece} (h : p.Canonical) : (writeJournal e p).Canonical := by
  unfold writeJournal
  split
  next _ _ _ _ he =>
    exact when_canonical (fun _ h1 => occurAlarm_canonical h1) (when_canonical (fun _ h1 => occurAlarm_canonical h1)
      (canonical_fst he (pushJournal_canonical h)))

theorem alarmWith_canonical {code : Nat} {e : JournalEntry} {p : Piece} (h : p.Canonical) : (alarmWith code e p).Canonical := by
  unfold alarmWith
  split
  next _ _ _ he =>
    exact writeJournal_canonical (when_canonical (fun _ h1 => announceAlarm_canonical h1)
      (canonical_fst he (latchAlarm_canonical h)))

theorem raiseAlarm_canonical {code panelType inst : Nat} {p : Piece} (h : p.Canonical) :
    (raiseAlarm code panelType inst p).Canonical :=
  alarmWith_canonical h

theorem onChannel_canonical {ch : Nat} {f : Channel → Channel} {p : Piece} (h : p.Canonical) : (onChannel ch f p).Canonical := h

theorem attention_canonical {ch : Nat} {p : Piece} (h : p.Canonical) : (attention ch p).Canonical := raiseVector_canonical h

theorem enterInbound_canonical {ch : Nat} {n : Notice} {p : Piece} (h : p.Canonical) : (enterInbound ch n p).Canonical :=
  when_canonical (fun _ h1 => raiseVector_canonical h1) (onChannel_canonical h)

theorem postNotice_canonical {ch kind address length : Nat} {p : Piece} (h : p.Canonical) :
    (postNotice ch kind address length p).Canonical :=
  canonical_ite (enterInbound_canonical (onChannel_canonical h)) (onChannel_canonical (onChannel_canonical h))

theorem onSession_canonical {id : Nat} {f : Session → Session} {p : Piece} (h : p.Canonical) : (onSession id f p).Canonical := h

theorem setRingFor_canonical {f : Flight} {status : Nat} {r : Ring} {p : Piece} (h : p.Canonical) :
    (setRingFor f status r p).Canonical :=
  canonical_ite (onChannel_canonical h) (onSession_canonical h)

theorem countVoided_canonical {p : Piece} (h : p.Canonical) : (countVoided p).Canonical := h

theorem land_canonical {f : Flight} {p : Piece} (h : p.Canonical) : (land f p).Canonical := h

theorem writeCompletion_canonical {f : Flight} {c : Completion} {p : Piece} (h : p.Canonical) :
    (writeCompletion f c p).Canonical := by
  unfold writeCompletion
  refine canonical_ite (countVoided_canonical (land_canonical h)) ?_
  dsimp only
  split
  next _ _ he =>
    exact when_canonical (fun _ h1 => postNotice_canonical h1) (land_canonical
      (setRingFor_canonical (canonical_fst he (pieceWrite_canonical h))))
  next _ _ _ _ he => exact countVoided_canonical (land_canonical (canonical_fst he (pieceWrite_canonical h)))

theorem setFlight_canonical {f : Flight} {p : Piece} (h : p.Canonical) : (setFlight f p).Canonical := h

theorem dropSession_canonical {id : Nat} {p : Piece} (h : p.Canonical) : (dropSession id p).Canonical := h

theorem settleOnce_canonical {p : Piece} (h : p.Canonical) : (settleOnce p).Canonical := by
  unfold settleOnce
  split
  · split
    · exact writeCompletion_canonical h
    · exact h
  · split
    · exact setFlight_canonical h
    · split
      · exact setFlight_canonical (dropSession_canonical h)
      · exact h

theorem settleN_canonical {k : Nat} {p : Piece} (h : p.Canonical) : (settleN k p).Canonical := by
  induction k generalizing p with
  | zero => exact h
  | succ k ih => exact ih (settleOnce_canonical h)

theorem settle_canonical {p : Piece} (h : p.Canonical) : (settle p).Canonical := settleN_canonical h

theorem noteEffect_canonical {session : Nat} {p : Piece} (h : p.Canonical) : (noteEffect session p).Canonical := h

theorem finish_canonical {f : Flight} {status : Nat} {results : List Nat} {p : Piece} (h : p.Canonical) :
    (finish f status results p).Canonical :=
  settle_canonical (setFlight_canonical (when_canonical (fun _ h1 => noteEffect_canonical h1) h))

theorem finishWaiting_canonical {kind : WaitKind} {index status : Nat} {results : List Nat → List Nat} {p : Piece}
    (h : p.Canonical) : (finishWaiting kind index status results p).Canonical := by
  unfold finishWaiting
  split
  · split
    · exact finish_canonical h
    · exact h
  · exact h

theorem finishAllWaiting_canonical {kind : WaitKind} {index status : Nat} {results : List Nat → List Nat} {p : Piece}
    (h : p.Canonical) : (finishAllWaiting kind index status results p).Canonical :=
  canonical_foldl (fun _ _ h1 => finishWaiting_canonical h1) h

theorem onAux_canonical {source : Nat} {f : AuxSource → AuxSource} {p : Piece} (h : p.Canonical) : (onAux source f p).Canonical :=
  h

theorem pushSource_canonical {source : Nat} {t : T16} {rising : Bool} {flags tag : Nat} {p : Piece} (h : p.Canonical) :
    (pushSource source t rising flags tag p).Canonical :=
  onAux_canonical h

theorem markPostJump_canonical {p : Piece} (h : p.Canonical) : (markPostJump p).Canonical := h

theorem onSlot_canonical {s : Nat} {f : CountSlot → CountSlot} {p : Piece} (h : p.Canonical) : (onSlot s f p).Canonical := h

theorem mapSlots_canonical {f : CountSlot → CountSlot} {p : Piece} (h : p.Canonical) : (mapSlots f p).Canonical := h

theorem markSource_canonical {source cause : Nat} {p : Piece} (h : p.Canonical) : (markSource source cause p).Canonical :=
  mapSlots_canonical h

theorem loseSource_canonical {source cause : Nat} {p : Piece} (h : p.Canonical) : (loseSource source cause p).Canonical :=
  mapSlots_canonical h

theorem trackFreq_canonical {f : Piece → Piece} {p : Piece} (hf : ∀ p : Piece, p.Canonical → (f p).Canonical) (h : p.Canonical) :
    (trackFreq f p).Canonical :=
  canonical_ite (mapSlots_canonical (hf _ h)) (canonical_ite (mapSlots_canonical (hf _ h)) (hf _ h))

theorem sendEpoch_canonical {delta : Int} {oldLabel : Nat} {p : Piece} (h : p.Canonical) :
    (sendEpoch delta oldLabel p).Canonical :=
  canonical_ite (canonical_foldl (fun _ _ h1 => when_canonical (fun _ h2 => emit_canonical h2) h1) h) h

theorem draw_canonical {p : Piece} (h : p.Canonical) : (draw p).1.Canonical := h

/-! ### Device DRAM over how a command runs -/

theorem guarded_canonical {rules : List (Bool × Nat)} {p : Piece} {k : Piece × Verdict} (h : p.Canonical) (hk : k.1.Canonical) :
    (guarded rules p k).1.Canonical := by
  unfold guarded
  split
  · exact h
  · exact hk

theorem withTable_canonical {p : Piece} {x n : Nat} {host : Answer} {k : Bytes → Piece × Verdict} (h : p.Canonical)
    (hk : ∀ bs, (k bs).1.Canonical) : (withTable p x n host k).1.Canonical := by
  unfold withTable
  split
  · exact hk _
  · exact h

theorem start_canonical {f : Flight} {host : Answer} {act : Act} {p : Piece}
    (hact : ∀ f a p, p.Canonical → (act f a p).1.Canonical) (h : p.Canonical) : (start f host act p).Canonical := by
  unfold start
  refine canonical_ite h (canonical_ite (finish_canonical h) ?_)
  split
  next _ _ _ _ he => exact finish_canonical (canonical_fst he (hact _ _ _ h))
  next _ _ _ _ _ he => exact settle_canonical (setFlight_canonical (canonical_fst he (hact _ _ _ h)))
  next _ _ he => exact canonical_fst he (hact _ _ _ h)

theorem enroll_canonical {f : Flight} {p : Piece} (h : p.Canonical) : (enroll f p).Canonical := h

theorem failCheck_canonical {f : Flight} {status : Nat} {duplicate : Bool} {p : Piece} (h : p.Canonical) :
    (failCheck f status duplicate p).Canonical :=
  settle_canonical (setFlight_canonical h)

theorem runCommand_canonical {opcode : Nat} {c : Cmd} {act : Act} {p : Piece}
    (hact : ∀ f a p, p.Canonical → (act f a p).1.Canonical) (h : p.Canonical) : (runCommand opcode c act p).Canonical := by
  unfold runCommand
  refine canonical_ite h ?_
  split
  · exact start_canonical (fun _ _ _ h1 => hact _ _ _ h1) h
  · split
    · exact h
    · dsimp only
      split
      · exact failCheck_canonical (enroll_canonical h)
      · exact start_canonical (fun _ _ _ h1 => hact _ _ _ h1) (enroll_canonical h)

theorem readoutWrite_canonical {dram : Bool} {dest : Nat} {bs : Bytes} {refusedAt : Option Nat} {p : Piece} (h : p.Canonical) :
    (readoutWrite dram dest bs refusedAt p).1.Canonical := by
  unfold readoutWrite
  refine canonical_fst_ite (canonical_ite h (canonical_ite (dramWrite_canonical h) (canonical_ite (emit_canonical h) h))) ?_
  split
  next _ _ he => exact canonical_fst he (pieceWrite_canonical h)
  next _ _ _ _ he => exact canonical_fst he (pieceWrite_canonical h)

theorem simple_canonical {act : Flight → Piece → Piece × Verdict} {fl : Flight} {ans : Answer} {p : Piece}
    (hact : ∀ f p, p.Canonical → (act f p).1.Canonical) (h : p.Canonical) : (simple act fl ans p).1.Canonical :=
  hact _ _ h

/-! ### Device DRAM over CLOCKS and LEDGER -/

theorem onClocks_canonical {f : Clocks → Clocks} {p : Piece} (h : p.Canonical) : (onClocks f p).Canonical := h

theorem onLedger_canonical {f : Ledger → Ledger} {p : Piece} (h : p.Canonical) : (onLedger f p).Canonical := h

theorem startSlew_canonical {rho delta : Int} {p : Piece} (h : p.Canonical) : (startSlew rho delta p).Canonical :=
  canonical_ite (onLedger_canonical h) (onLedger_canonical h)

theorem restartEstimate_canonical {p : Piece} (h : p.Canonical) : (restartEstimate p).Canonical := onLedger_canonical h

theorem applyChange_canonical {c : HeldChange} {p : Piece} (h : p.Canonical) : (applyChange c p).Canonical := by
  unfold applyChange
  refine canonical_ite ?_ ?_
  · refine finishWaiting_canonical (restartEstimate_canonical ?_)
    split
    · exact startSlew_canonical (onLedger_canonical h)
    · exact onLedger_canonical (onLedger_canonical h)
  · split
    · exact startSlew_canonical (onLedger_canonical h)
    · exact onLedger_canonical (onLedger_canonical h)

theorem requestChange_canonical {c : HeldChange} {p : Piece} (h : p.Canonical) : (requestChange c p).Canonical :=
  canonical_ite (applyChange_canonical h) (onLedger_canonical h)

theorem setLedgerState_canonical {new : LedgerState} {delta : Int} {p : Piece} (h : p.Canonical) :
    (setLedgerState new delta p).Canonical :=
  when_canonical (fun _ h1 => raiseEvent_canonical h1) (onLedger_canonical h)

theorem startCoast_canonical {p : Piece} (h : p.Canonical) : (startCoast p).Canonical := onLedger_canonical h

theorem enterCoast_canonical {p : Piece} (h : p.Canonical) : (enterCoast p).Canonical :=
  setLedgerState_canonical (canonical_ite h (startCoast_canonical h))

theorem passTargets_canonical {oldLabel newLabel : Nat} {p : Piece} (h : p.Canonical) :
    (passTargets oldLabel newLabel p).Canonical :=
  h

theorem stepLedger_canonical {t : T16} {l : Int} {p : Piece} (h : p.Canonical) : (stepLedger t l p).Canonical :=
  sendEpoch_canonical (markPostJump_canonical (pushSource_canonical (passTargets_canonical
    (writeJournal_canonical (onLedger_canonical h)))))

theorem setEpochAt_canonical {t : T16} {w : EpochWait} {p : Piece} (h : p.Canonical) : (setEpochAt t w p).Canonical := by
  unfold setEpochAt
  refine finishWaiting_canonical ?_
  split
  · exact setLedgerState_canonical (restartEstimate_canonical (onLedger_canonical (stepLedger_canonical h)))
  · exact setLedgerState_canonical (restartEstimate_canonical (onLedger_canonical (stepLedger_canonical h)))
  · exact setLedgerState_canonical (startCoast_canonical (restartEstimate_canonical
      (onLedger_canonical (stepLedger_canonical h))))
  · exact restartEstimate_canonical (onLedger_canonical (stepLedger_canonical h))

theorem execLedgerEpochStep_canonical {s : State} (h : s.piece.Canonical) : (execLedgerEpochStep s).Canonical := by
  unfold execLedgerEpochStep
  refine effect_canonical (fun _ h1 => ?_) h
  split
  · split
    · exact when_canonical (fun _ h2 => setEpochAt_canonical h2) h1
    · exact h1
  · exact h1

theorem execMappingChangeApply_canonical {s : State} (h : s.piece.Canonical) : (execMappingChangeApply s).Canonical := by
  unfold execMappingChangeApply
  refine effect_canonical (fun _ h1 => ?_) h
  split
  · exact when_canonical (fun _ h2 => applyChange_canonical (onLedger_canonical h2)) h1
  · exact h1

theorem leaveSlewing_canonical {p : Piece} (h : p.Canonical) : (leaveSlewing p).Canonical :=
  when_canonical (fun _ h1 => setLedgerState_canonical h1) h

theorem execSlewEnd_canonical {s : State} (h : s.piece.Canonical) : (execSlewEnd s).Canonical := by
  unfold execSlewEnd
  refine effect_canonical (fun _ h1 => ?_) h
  split
  · exact when_canonical (fun _ h2 => leaveSlewing_canonical (onLedger_canonical h2)) h1
  · exact leaveSlewing_canonical h1

theorem discipline_canonical {t : T16} {e : Rat} {p : Piece} (h : p.Canonical) : (discipline t e p).Canonical := by
  unfold discipline
  refine canonical_ite ?_ (onLedger_canonical h)
  split
  · exact requestChange_canonical (onLedger_canonical h)

theorem ppsMeasure_canonical {t : T16} {p : Piece} (h : p.Canonical) : (ppsMeasure t p).Canonical :=
  canonical_ite h (canonical_ite (onLedger_canonical h) (canonical_ite (discipline_canonical h) h))

theorem goodPulse_canonical {t : T16} {p : Piece} (h : p.Canonical) : (goodPulse t p).Canonical := by
  unfold goodPulse
  dsimp only
  split
  · exact canonical_ite (setEpochAt_canonical (when_canonical (fun _ h1 => pushSource_canonical h1) (onClocks_canonical h)))
      (ppsMeasure_canonical (when_canonical (fun _ h1 => pushSource_canonical h1) (onClocks_canonical h)))
  · exact ppsMeasure_canonical (when_canonical (fun _ h1 => pushSource_canonical h1) (onClocks_canonical h))

theorem badPulse_canonical {t : T16} {p : Piece} (h : p.Canonical) : (badPulse t p).Canonical := onClocks_canonical h

theorem execPpsinPulse_canonical {fraction : Fin 65536} {s : State} (h : s.piece.Canonical) :
    (execPpsinPulse fraction s).Canonical := by
  unfold execPpsinPulse
  refine effect_canonical (fun _ h1 => when_canonical (fun _ h2 => ?_) h1) h
  dsimp only
  split
  · exact badPulse_canonical h2
  · exact canonical_ite (goodPulse_canonical h2) (badPulse_canonical h2)

theorem execPpsWindowClose_canonical {s : State} (h : s.piece.Canonical) : (execPpsWindowClose s).Canonical := by
  unfold execPpsWindowClose
  refine effect_canonical (fun _ h1 => ?_) h
  split
  · exact when_canonical (fun _ h2 => onClocks_canonical h2) h1
  · exact h1

theorem execPpsLoss_canonical {s : State} (h : s.piece.Canonical) : (execPpsLoss s).Canonical := by
  unfold execPpsLoss
  refine effect_canonical (fun _ h1 => ?_) h
  refine when_canonical (fun _ h2 => ?_) h1
  dsimp only
  split
  · exact when_canonical (fun _ h3 => finishWaiting_canonical (onLedger_canonical h3))
      (raiseAlarm_canonical (onClocks_canonical h2))
  · exact raiseAlarm_canonical (onClocks_canonical h2)

theorem execPpsinPresent_canonical {s : State} (h : s.piece.Canonical) : (execPpsinPresent s).Canonical :=
  effect_canonical (fun _ h1 => when_canonical (fun _ h2 => onClocks_canonical h2) h1) h

theorem execTimeSourceLost_canonical {s : State} (h : s.piece.Canonical) : (execTimeSourceLost s).Canonical := by
  unfold execTimeSourceLost
  refine effect_canonical (fun _ h1 => ?_) h
  refine when_canonical (fun _ h2 => ?_) h1
  dsimp only
  split
  · exact onLedger_canonical h2
  · exact onLedger_canonical h2
  · exact enterCoast_canonical (onLedger_canonical h2)

theorem returnSource_canonical {delta : Int} {p : Piece} (h : p.Canonical) : (returnSource delta p).Canonical :=
  canonical_ite h (canonical_ite (setLedgerState_canonical (requestChange_canonical (onLedger_canonical h)))
    (setLedgerState_canonical (raiseAlarm_canonical (onLedger_canonical h))))

theorem execTimeSourcePresent_canonical {source : TimeSource} {s : State} (h : s.piece.Canonical) :
    (execTimeSourcePresent source s).Canonical := by
  unfold execTimeSourcePresent
  refine effect_canonical (fun _ h1 => ?_) h
  refine when_canonical (fun _ h2 => ?_) h1
  dsimp only
  split
  · exact returnSource_canonical (onLedger_canonical h2)
  · exact canonical_ite (setLedgerState_canonical (stepLedger_canonical (onLedger_canonical h2))) (onLedger_canonical h2)
  · exact onLedger_canonical h2

theorem execLedgerMismatch_canonical {s : State} (h : s.piece.Canonical) : (execLedgerMismatch s).Canonical :=
  effect_canonical (fun _ h1 => raiseAlarm_canonical (onLedger_canonical h1)) h

theorem execTapPhase_canonical {island : Nat} {s : State} (h : s.piece.Canonical) : (execTapPhase island s).Canonical :=
  effect_canonical (fun _ h1 => raiseAlarm_canonical h1) h

theorem growEstimates_canonical {p : Piece} (h : p.Canonical) : (growEstimates p).Canonical := onLedger_canonical h

theorem execHoldoverEval_canonical {s : State} (h : s.piece.Canonical) : (execHoldoverEval s).Canonical :=
  effect_canonical (fun _ h1 => when_canonical (fun _ h2 => when_canonical (fun _ h3 => raiseAlarm_canonical h3)
    (onLedger_canonical (growEstimates_canonical h2))) h1) h

theorem ppsoutRise_canonical {second : Int} {p : Piece} (h : p.Canonical) : (ppsoutRise second p).Canonical :=
  when_canonical (fun _ h1 => onClocks_canonical h1) h

theorem timecodeStart_canonical {second : Int} {p : Piece} (h : p.Canonical) : (timecodeStart second p).Canonical :=
  when_canonical (fun _ h1 => emit_canonical h1) (onClocks_canonical h)

theorem execLedgerSecondBoundary_canonical {s : State} (h : s.piece.Canonical) : (execLedgerSecondBoundary s).Canonical := by
  unfold execLedgerSecondBoundary
  refine effect_canonical (fun _ h1 => ?_) h
  split
  · exact when_canonical (fun _ h2 => timecodeStart_canonical (ppsoutRise_canonical h2)) h1
  · exact h1

theorem execPpsoutPulseEnd_canonical {s : State} (h : s.piece.Canonical) : (execPpsoutPulseEnd s).Canonical := by
  unfold execPpsoutPulseEnd
  refine effect_canonical (fun _ h1 => ?_) h
  dsimp only
  split
  · exact when_canonical (fun _ h2 => onClocks_canonical h2) h1
  · exact h1

theorem refinClock_canonical {rising : Bool} {p : Piece} (h : p.Canonical) : (refinClock rising p).Canonical :=
  onClocks_canonical h

theorem execClkoutSettingArrive_canonical {output : Fin 5} {s : State} (h : s.piece.Canonical) :
    (execClkoutSettingArrive output s).Canonical := by
  unfold execClkoutSettingArrive
  refine effect_canonical (fun _ h1 => ?_) h
  refine canonical_ite ?_ ?_
  · split
    · exact when_canonical (fun _ h2 => finishWaiting_canonical h2) (onClocks_canonical h1)
    · exact h1
  · split
    · exact when_canonical (fun _ h2 => finishWaiting_canonical h2) (onClocks_canonical h1)
    · exact h1

theorem execTimecodeFrameIn_canonical {frame : TimecodeFrame} {s : State} (h : s.piece.Canonical) :
    (execTimecodeFrameIn frame s).Canonical := by
  unfold execTimecodeFrameIn
  refine effect_canonical (fun _ h1 => ?_) h
  split
  · exact raiseEventAt_canonical (onClocks_canonical h1)
  · exact onClocks_canonical h1

theorem execTcodeInPresentLapse_canonical {s : State} (h : s.piece.Canonical) : (execTcodeInPresentLapse s).Canonical := by
  unfold execTcodeInPresentLapse
  refine effect_canonical (fun _ h1 => ?_) h
  split
  · exact when_canonical (fun _ h2 => onClocks_canonical h2) h1
  · exact h1

theorem applyRefSelect_canonical {b : Bytes} {p : Piece} (h : p.Canonical) : (applyRefSelect b p).Canonical := by
  unfold applyRefSelect
  refine canonical_ite (onLedger_canonical (onClocks_canonical h)) ?_
  split
  · exact onLedger_canonical (onLedger_canonical (onClocks_canonical h))
  · exact onLedger_canonical (onClocks_canonical h)
  · exact enterCoast_canonical (onLedger_canonical (onLedger_canonical (onClocks_canonical h)))
  · exact setLedgerState_canonical (onLedger_canonical (onLedger_canonical (onClocks_canonical h)))
  · exact enterCoast_canonical (onLedger_canonical (onLedger_canonical (onClocks_canonical h)))

theorem actRefSelect_canonical {fl : Flight} {ans : Answer} {p : Piece} (h : p.Canonical) : (actRefSelect fl ans p).1.Canonical :=
  simple_canonical (fun _ _ h1 => guarded_canonical h1 (canonical_fst_ite (applyRefSelect_canonical h1) (onLedger_canonical h1)))
    h

theorem execRefSelect_canonical {c : Cmd} {s : State} (h : s.piece.Canonical) : (execRefSelect c s).Canonical :=
  effect_canonical (fun _ h1 => runCommand_canonical (fun _ _ _ h2 => actRefSelect_canonical h2) h1) h

theorem declareLock_canonical {p : Piece} (h : p.Canonical) : (declareLock p).Canonical := by
  unfold declareLock
  refine finishWaiting_canonical ?_
  split
  · exact finishWaiting_canonical (applyRefSelect_canonical (onLedger_canonical (onClocks_canonical h)))
  · exact onClocks_canonical h

theorem actBandTable_canonical {fl : Flight} {ans : Answer} {p : Piece} (h : p.Canonical) : (actBandTable fl ans p).1.Canonical :=
  guarded_canonical h (withTable_canonical h (fun _ => canonical_fst_ite (onClocks_canonical h) h))

theorem execSynthBandTableLoad_canonical {c : Cmd} {s : State} (h : s.piece.Canonical) : (execSynthBandTableLoad c s).Canonical :=
  effect_canonical (fun _ h1 => runCommand_canonical (fun _ _ _ h2 => actBandTable_canonical h2) h1) h

theorem startSynth_canonical {waitUs : Nat} {p q : Piece} (e : startSynth waitUs p = some q) (h : p.Canonical) : q.Canonical := by
  obtain ⟨i, -, rfl⟩ := Option.map_eq_some_iff.mp e
  exact onClocks_canonical h

theorem actSynthStart_canonical {fl : Flight} {ans : Answer} {p : Piece} (h : p.Canonical) :
    (actSynthStart fl ans p).1.Canonical := by
  unfold actSynthStart
  refine simple_canonical (fun _ _ h1 => guarded_canonical h1 ?_) h
  split
  next _ _ he => exact startSynth_canonical he h1
  · exact h1

theorem execSynthStart_canonical {c : Cmd} {s : State} (h : s.piece.Canonical) : (execSynthStart c s).Canonical :=
  effect_canonical (fun _ h1 => runCommand_canonical (fun _ _ _ h2 => actSynthStart_canonical h2) h1) h

theorem actClkoutSet_canonical {fl : Flight} {ans : Answer} {p : Piece} (h : p.Canonical) : (actClkoutSet fl ans p).1.Canonical :=
  simple_canonical (fun _ _ h1 => guarded_canonical h1 (onClocks_canonical
    (when_canonical (fun _ h2 => onClocks_canonical h2) h1))) h

theorem execClkoutSet_canonical {c : Cmd} {s : State} (h : s.piece.Canonical) : (execClkoutSet c s).Canonical :=
  effect_canonical (fun _ h1 => runCommand_canonical (fun _ _ _ h2 => actClkoutSet_canonical h2) h1) h

theorem actSetEpoch_canonical {fl : Flight} {ans : Answer} {p : Piece} (h : p.Canonical) : (actSetEpoch fl ans p).1.Canonical :=
  simple_canonical (fun _ _ h1 => guarded_canonical h1 (onLedger_canonical h1)) h

theorem execLedgerSetEpoch_canonical {c : Cmd} {s : State} (h : s.piece.Canonical) : (execLedgerSetEpoch c s).Canonical :=
  effect_canonical (fun _ h1 => runCommand_canonical (fun _ _ _ h2 => actSetEpoch_canonical h2) h1) h

theorem actSteer_canonical {fl : Flight} {ans : Answer} {p : Piece} (h : p.Canonical) : (actSteer fl ans p).1.Canonical :=
  simple_canonical (fun _ _ h1 => guarded_canonical h1 (canonical_fst_ite (restartEstimate_canonical (applyChange_canonical h1))
    (onLedger_canonical h1))) h

theorem execLedgerSteer_canonical {c : Cmd} {s : State} (h : s.piece.Canonical) : (execLedgerSteer c s).Canonical :=
  effect_canonical (fun _ h1 => runCommand_canonical (fun _ _ _ h2 => actSteer_canonical h2) h1) h

theorem actJumpResolve_canonical {fl : Flight} {ans : Answer} {p : Piece} (h : p.Canonical) :
    (actJumpResolve fl ans p).1.Canonical := by
  unfold actJumpResolve
  refine simple_canonical (fun _ _ h1 => ?_) h
  refine guarded_canonical h1 ?_
  dsimp only
  split
  · exact setLedgerState_canonical (stepLedger_canonical (onLedger_canonical h1))
  · exact setLedgerState_canonical (requestChange_canonical (onLedger_canonical h1))
  · exact setLedgerState_canonical (onLedger_canonical (onLedger_canonical h1))

theorem execLedgerJumpResolve_canonical {c : Cmd} {s : State} (h : s.piece.Canonical) : (execLedgerJumpResolve c s).Canonical :=
  effect_canonical (fun _ h1 => runCommand_canonical (fun _ _ _ h2 => actJumpResolve_canonical h2) h1) h

theorem actHoldoverModel_canonical {fl : Flight} {ans : Answer} {p : Piece} (h : p.Canonical) :
    (actHoldoverModel fl ans p).1.Canonical :=
  simple_canonical (fun _ _ h1 => guarded_canonical h1 (onLedger_canonical h1)) h

theorem execHoldoverModelSet_canonical {c : Cmd} {s : State} (h : s.piece.Canonical) : (execHoldoverModelSet c s).Canonical :=
  effect_canonical (fun _ h1 => runCommand_canonical (fun _ _ _ h2 => actHoldoverModel_canonical h2) h1) h

theorem actTimecodeSet_canonical {fl : Flight} {ans : Answer} {p : Piece} (h : p.Canonical) :
    (actTimecodeSet fl ans p).1.Canonical :=
  simple_canonical (fun _ _ h1 => guarded_canonical h1 (onClocks_canonical h1)) h

theorem execTimecodeSet_canonical {c : Cmd} {s : State} (h : s.piece.Canonical) : (execTimecodeSet c s).Canonical :=
  effect_canonical (fun _ h1 => runCommand_canonical (fun _ _ _ h2 => actTimecodeSet_canonical h2) h1) h

/-! ### Device DRAM over the sample streams -/

theorem onRfin_canonical {i : Nat} {f : Rfin → Rfin} {p : Piece} (h : p.Canonical) : (onRfin i f p).Canonical := h

theorem onChan_canonical {i : Nat} {f : Chan → Chan} {p : Piece} (h : p.Canonical) : (onChan i f p).Canonical := h

theorem onDdc_canonical {i n : Nat} {f : Ddc → Ddc} {p : Piece} (h : p.Canonical) : (onDdc i n f p).Canonical :=
  onChan_canonical h

/-! ### Device DRAM over ACQ -/

theorem onAcq_canonical {k : Nat} {f : Acq → Acq} {p : Piece} (h : p.Canonical) : (onAcq k f p).Canonical := h

theorem writeRingBlock_canonical {s : AcqSetting} {b : Nat} {header data : Bytes} {p : Piece} (h : p.Canonical) :
    (writeRingBlock s b header data p).Canonical :=
  when_canonical (fun _ h1 => dramWrite_canonical (dramWrite_canonical h1)) h

theorem writeDirectory_canonical {s : AcqSetting} {i : Nat} {bs : Bytes} {p : Piece} (h : p.Canonical) :
    (writeDirectory s i bs p).Canonical :=
  when_canonical (fun _ h1 => dramWrite_canonical h1) h

theorem drainFifo_canonical {k n : Nat} {p : Piece} (h : p.Canonical) : (drainFifo k n p).Canonical :=
  canonical_foldl (fun _ _ h1 => writeRingBlock_canonical h1) (onAcq_canonical h)

theorem flushPairs_canonical {k : Nat} {p : Piece} (h : p.Canonical) : (flushPairs k p).Canonical := by
  unfold flushPairs
  refine canonical_ite h (canonical_ite (onAcq_canonical h) ?_)
  split
  · exact onAcq_canonical h

theorem testPair_canonical {k : Nat} {q : Pair} {p : Piece} (h : p.Canonical) : (testPair k q p).Canonical := by
  unfold testPair
  dsimp only
  split
  · exact canonical_ite h (onAcq_canonical h)
  · exact h

theorem storePair_canonical {k n stop : Nat} {p : Piece} (h : p.Canonical) : (storePair k n stop p).Canonical :=
  testPair_canonical (onAcq_canonical h)

theorem takeInterval_canonical {k : Nat} {p : Piece} (h : p.Canonical) : (takeInterval k p).Canonical := by
  unfold takeInterval
  dsimp only
  split
  · exact h
  · exact canonical_ite h (when_canonical (fun _ h1 => flushPairs_canonical h1) (storePair_canonical h))

theorem takeIntervals_canonical {k j : Nat} {p : Piece} (h : p.Canonical) : (takeIntervals k j p).Canonical := by
  induction j generalizing p with
  | zero => exact h
  | succ j ih => exact ih (takeInterval_canonical h)

theorem takeAll_canonical {k : Nat} {p : Piece} (h : p.Canonical) : (takeAll k p).Canonical := takeIntervals_canonical h

theorem closeIntervals_canonical {k stop : Nat} {p : Piece} (h : p.Canonical) : (closeIntervals k stop p).Canonical := by
  unfold closeIntervals
  dsimp only
  split
  · exact when_canonical (fun _ h1 => storePair_canonical h1) (takeAll_canonical h)
  · exact takeAll_canonical h

theorem closeSegment_canonical {k : Nat} {p : Piece} (h : p.Canonical) : (closeSegment k p).Canonical := by
  unfold closeSegment
  dsimp only
  split
  · exact h
  · exact writeDirectory_canonical (onAcq_canonical (when_canonical (fun _ h1 => flushPairs_canonical
      (closeIntervals_canonical h1)) h))

theorem doneAcq_canonical {k cause : Nat} {p : Piece} (h : p.Canonical) : (doneAcq k cause p).Canonical :=
  raiseEvent_canonical (writeDirectory_canonical (onAcq_canonical (drainFifo_canonical h)))

theorem closeOpen_canonical {k : Nat} {p : Piece} (h : p.Canonical) : (closeOpen k p).Canonical :=
  canonical_ite (canonical_foldl (fun _ _ h1 => closeSegment_canonical h1)
    (canonical_ite h (flushPairs_canonical (closeIntervals_canonical h)))) (closeSegment_canonical h)

theorem endAcq_canonical {k cause : Nat} {p : Piece} (h : p.Canonical) : (endAcq k cause p).Canonical :=
  when_canonical (fun _ h1 => doneAcq_canonical (closeOpen_canonical h1)) h

theorem streamLost_canonical {inst stream : Nat} {p : Piece} (h : p.Canonical) : (streamLost inst stream p).Canonical :=
  canonical_foldl (fun _ _ h1 => canonical_ite (endAcq_canonical h1) h1) h

theorem faultAcqs_canonical {p : Piece} (h : p.Canonical) : (faultAcqs p).Canonical := h

theorem feedAcq_canonical {inst stream : Nat} {b : AcqBlock} {p : Piece} (h : p.Canonical) :
    (feedAcq inst stream b p).Canonical :=
  h

theorem execAcqArmPoint_canonical {acq : Fin 16} {s : State} (h : s.piece.Canonical) : (execAcqArmPoint acq s).Canonical := by
  unfold execAcqArmPoint
  refine inIsland_canonical (fun _ h1 => ?_) h
  dsimp only
  split
  · exact when_canonical (fun _ h2 => onAcq_canonical h2) h1
  · exact h1

theorem reduce_canonical {k : Nat} {p : Piece} (h : p.Canonical) : (reduce k p).Canonical :=
  when_canonical (fun _ h1 => endAcq_canonical h1) (takeAll_canonical h)

theorem receiveBlock_canonical {k : Nat} {b : AcqBlock} {p : Piece} (h : p.Canonical) : (receiveBlock k b p).Canonical :=
  canonical_ite (onAcq_canonical (onAcq_canonical h)) (reduce_canonical (onAcq_canonical (onAcq_canonical h)))

theorem execAcqBlockReceive_canonical {acq : Fin 16} {drained : Nat} {s : State} (h : s.piece.Canonical) :
    (execAcqBlockReceive acq drained s).Canonical := by
  unfold execAcqBlockReceive
  refine inIsland_canonical (fun _ h1 => ?_) h
  dsimp only
  split
  · exact drainFifo_canonical h1
  · refine canonical_ite (onAcq_canonical (drainFifo_canonical h1)) ?_
    split
    · exact canonical_ite (onAcq_canonical (drainFifo_canonical h1)) (drainFifo_canonical h1)
    · exact canonical_ite (drainFifo_canonical h1) (canonical_ite (endAcq_canonical (drainFifo_canonical h1))
        (receiveBlock_canonical (onAcq_canonical (drainFifo_canonical h1))))

theorem acceptSegment_canonical {k : Nat} {e : AcqTrigger} {n : Nat} {short : Bool} {p : Piece} (h : p.Canonical) :
    (acceptSegment k e n short p).Canonical :=
  onAcq_canonical h

theorem acceptPairs_canonical {k : Nat} {before : Acq} {p : Piece} (h : p.Canonical) : (acceptPairs k before p).Canonical :=
  when_canonical (fun _ h1 => reduce_canonical (when_canonical (fun _ h2 => onAcq_canonical h2) h1)) h

theorem execAcqTriggerArrive_canonical {acq : Fin 16} {s : State} (h : s.piece.Canonical) :
    (execAcqTriggerArrive acq s).Canonical := by
  unfold execAcqTriggerArrive
  refine inIsland_canonical (fun _ h1 => ?_) h
  dsimp only
  split
  · exact h1
  · refine canonical_ite (onAcq_canonical h1) (canonical_ite h1 ?_)
    split
    · exact onAcq_canonical (onAcq_canonical h1)
    · exact onAcq_canonical (onAcq_canonical h1)
    · exact canonical_ite (onAcq_canonical h1) (acceptPairs_canonical (acceptSegment_canonical (onAcq_canonical h1)))

theorem execSegmentComplete_canonical {acq : Fin 16} {s : State} (h : s.piece.Canonical) :
    (execSegmentComplete acq s).Canonical :=
  inIsland_canonical (fun _ h1 => when_canonical (fun _ h2 => canonical_ite
    (doneAcq_canonical (closeSegment_canonical (when_canonical (fun _ h3 => flushPairs_canonical (closeIntervals_canonical h3))
    h2))) (canonical_ite (doneAcq_canonical (closeSegment_canonical (when_canonical
    (fun _ h3 => flushPairs_canonical (closeIntervals_canonical h3)) h2)))
    (when_canonical (fun _ h3 => reduce_canonical h3) (onAcq_canonical (closeSegment_canonical
    (when_canonical (fun _ h3 => flushPairs_canonical (closeIntervals_canonical h3)) h2)))))) h1) h

theorem actAcqConfigure_canonical {fl : Flight} {ans : Answer} {p : Piece} (h : p.Canonical) :
    (actAcqConfigure fl ans p).1.Canonical :=
  simple_canonical (fun _ _ h1 => guarded_canonical h1 (onAcq_canonical h1)) h

theorem execAcqConfigure_canonical {c : Cmd} {s : State} (h : s.piece.Canonical) : (execAcqConfigure c s).Canonical :=
  effect_canonical (fun _ h1 => runCommand_canonical (fun _ _ _ h2 => actAcqConfigure_canonical h2) h1) h

theorem armAcq_canonical {at_ k : Nat} {p : Piece} (h : p.Canonical) : (armAcq at_ k p).Canonical :=
  canonical_foldl (fun _ _ h1 => writeDirectory_canonical h1) (onAcq_canonical h)

theorem actAcqArm_canonical {fl : Flight} {ans : Answer} {p : Piece} (h : p.Canonical) : (actAcqArm fl ans p).1.Canonical :=
  simple_canonical (fun _ _ h1 => guarded_canonical h1 (canonical_foldl (fun _ _ h2 => armAcq_canonical h2) h1)) h

theorem execAcqArm_canonical {c : Cmd} {s : State} (h : s.piece.Canonical) : (execAcqArm c s).Canonical :=
  effect_canonical (fun _ h1 => runCommand_canonical (fun _ _ _ h2 => actAcqArm_canonical h2) h1) h

theorem actAcqStop_canonical {fl : Flight} {ans : Answer} {p : Piece} (h : p.Canonical) : (actAcqStop fl ans p).1.Canonical :=
  simple_canonical (fun _ _ h1 => guarded_canonical h1 (canonical_foldl (fun _ _ h2 => endAcq_canonical h2) h1)) h

theorem execAcqStop_canonical {c : Cmd} {s : State} (h : s.piece.Canonical) : (execAcqStop c s).Canonical :=
  effect_canonical (fun _ h1 => runCommand_canonical (fun _ _ _ h2 => actAcqStop_canonical h2) h1) h

theorem actMasktestLoad_canonical {fl : Flight} {ans : Answer} {p : Piece} (h : p.Canonical) :
    (actMasktestLoad fl ans p).1.Canonical :=
  guarded_canonical h (withTable_canonical h (fun _ => canonical_fst_ite h (onAcq_canonical h)))

theorem execAcqMasktestLoad_canonical {c : Cmd} {s : State} (h : s.piece.Canonical) : (execAcqMasktestLoad c s).Canonical :=
  effect_canonical (fun _ h1 => runCommand_canonical (fun _ _ _ h2 => actMasktestLoad_canonical h2) h1) h

theorem actAcqReadout_canonical {fl : Flight} {ans : Answer} {p : Piece} (h : p.Canonical) :
    (actAcqReadout fl ans p).1.Canonical :=
  simple_canonical (fun _ _ h1 => guarded_canonical h1 h1) h

theorem execAcqReadout_canonical {c : Cmd} {s : State} (h : s.piece.Canonical) : (execAcqReadout c s).Canonical :=
  effect_canonical (fun _ h1 => runCommand_canonical (fun _ _ _ h2 => actAcqReadout_canonical h2) h1) h

theorem execAcqReadoutDone_canonical {acq : Fin 16} {refusedAt : Option Nat} {s : State} (h : s.piece.Canonical) :
    (execAcqReadoutDone acq refusedAt s).Canonical := by
  unfold execAcqReadoutDone
  refine effect_canonical (fun _ h1 => ?_) h
  split
  · exact finishWaiting_canonical (readoutWrite_canonical h1)
  · exact h1

/-! ### Device DRAM over MONITOR -/

theorem onMonitor_canonical {f : Monitor → Monitor} {p : Piece} (h : p.Canonical) : (onMonitor f p).Canonical := h

theorem execMonitorConversion_canonical {code : Fin 4096} {s : State} (h : s.piece.Canonical) :
    (execMonitorConversion code s).Canonical := by
  unfold execMonitorConversion
  refine effect_canonical (fun _ h1 => ?_) h
  refine when_canonical (fun _ h2 => ?_) h1
  dsimp only
  split
  · exact onMonitor_canonical (growEstimates_canonical h2)
  · split
    · exact onMonitor_canonical (growEstimates_canonical h2)
    · exact growEstimates_canonical h2

theorem execMonitorUrgentRequest_canonical {safety : Bool} {channel : Fin 40} {s : State} {atBoundary : optParam Bool true}
    (h : s.piece.Canonical) : (execMonitorUrgentRequest safety channel s atBoundary).Canonical :=
  effect_canonical (fun _ h1 => when_canonical (fun _ h2 => onMonitor_canonical h2) h1) h

theorem startFrame_canonical {p : Piece} (h : p.Canonical) : (startFrame p).Canonical :=
  finishAllWaiting_canonical (onMonitor_canonical h)

theorem actMonitorSequence_canonical {fl : Flight} {ans : Answer} {p : Piece} (h : p.Canonical) :
    (actMonitorSequence fl ans p).1.Canonical :=
  simple_canonical (fun _ _ h1 => guarded_canonical h1 (onMonitor_canonical h1)) h

theorem execMonitorSequenceSet_canonical {c : Cmd} {s : State} (h : s.piece.Canonical) : (execMonitorSequenceSet c s).Canonical :=
  effect_canonical (fun _ h1 => runCommand_canonical (fun _ _ _ h2 => actMonitorSequence_canonical h2) h1) h

/-! ### Device DRAM over cross-triggers on the Net -/

theorem onNet_canonical {f : Net → Net} {p : Piece} (h : p.Canonical) : (onNet f p).Canonical := h

theorem onPort_canonical {i : Nat} {f : NetPort → NetPort} {p : Piece} (h : p.Canonical) : (onPort i f p).Canonical :=
  onNet_canonical h

theorem queueXtrig_canonical {i : Nat} {bs : Bytes} {p : Piece} (h : p.Canonical) : (queueXtrig i bs p).Canonical :=
  canonical_ite (onPort_canonical h) (onNet_canonical h)

theorem spreadXtrig_canonical {but : Option Nat} {bs : Bytes} {p : Piece} (h : p.Canonical) : (spreadXtrig but bs p).Canonical :=
  canonical_foldl (fun _ _ h1 => when_canonical (fun _ h2 => queueXtrig_canonical h2) h1) h

theorem originateXtrig_canonical {code label : Nat} {p : Piece} (h : p.Canonical) : (originateXtrig code label p).Canonical :=
  when_canonical (fun _ h1 => spreadXtrig_canonical (onNet_canonical h1)) h

/-! ### Device DRAM over redundant elements -/

theorem onSafety_canonical {f : Safety → Safety} {p : Piece} (h : p.Canonical) : (onSafety f p).Canonical := h

theorem onMotif_canonical {k : Nat} {f : Motif → Motif} {p : Piece} (h : p.Canonical) : (onMotif k f p).Canonical := h

theorem onInput_canonical {source : Nat} {f : StampInput → StampInput} {p : Piece} (h : p.Canonical) :
    (onInput source f p).Canonical :=
  onMotif_canonical h

theorem loseInput_canonical {source : Nat} {p : Piece} (h : p.Canonical) : (loseInput source p).Canonical :=
  loseSource_canonical (onInput_canonical h)

theorem retireSlice_canonical {i j : Nat} {p : Piece} (h : p.Canonical) : (retireSlice i j p).Canonical :=
  when_canonical (fun _ h1 => raiseAlarm_canonical h1) (onRfin_canonical h)

theorem coverInput_canonical {k n : Nat} {p : Piece} (h : p.Canonical) : (coverInput k n p).Canonical := onMotif_canonical h

theorem endVisit_canonical {k : Nat} {cal : Bool} {p : Piece} (h : p.Canonical) : (endVisit k cal p).Canonical := by
  unfold endVisit
  dsimp only
  split
  · exact onMotif_canonical h
  · exact onMotif_canonical h
  · exact onMotif_canonical h
  · exact onMotif_canonical h
  · exact h

theorem faultInterp_canonical {k n : Nat} {p : Piece} (h : p.Canonical) : (faultInterp k n p).Canonical :=
  canonical_ite (coverInput_canonical (onInput_canonical h)) (when_canonical (fun _ h1 => coverInput_canonical h1)
    (endVisit_canonical (onInput_canonical h)))

theorem faultSpare_canonical {k : Nat} {p : Piece} (h : p.Canonical) : (faultSpare k p).Canonical :=
  onMotif_canonical (endVisit_canonical h)

theorem retireInterp_canonical {k n : Nat} {p : Piece} (h : p.Canonical) : (retireInterp k n p).Canonical :=
  canonical_ite (canonical_foldl (fun _ _ h1 => when_canonical (fun _ h2 => loseInput_canonical h2) h1)
    (raiseAlarm_canonical (onMotif_canonical h))) (canonical_ite (onMotif_canonical (onInput_canonical h))
    (canonical_ite (coverInput_canonical (endVisit_canonical (onMotif_canonical (onInput_canonical h))))
    (loseInput_canonical (onMotif_canonical (onInput_canonical h)))))

theorem coverAgain_canonical {k : Nat} {p : Piece} (h : p.Canonical) : (coverAgain k p).Canonical := by
  unfold coverAgain
  dsimp only
  split
  · exact when_canonical (fun _ h1 => coverInput_canonical h1) h
  · exact h

theorem retireComp_canonical {source c : Nat} {p : Piece} (h : p.Canonical) : (retireComp source c p).Canonical :=
  when_canonical (fun _ h1 => raiseAlarm_canonical (loseInput_canonical h1)) (onInput_canonical h)

theorem retireRow_canonical {e : Element} {p : Piece} (h : p.Canonical) : (retireRow e p).Canonical :=
  when_canonical (fun _ h1 => raiseAlarm_canonical h1) h

theorem loseElement_canonical {e : Element} {p : Piece} (h : p.Canonical) : (loseElement e p).Canonical := by
  unfold loseElement
  split
  · exact retireRow_canonical h
  · exact retireInterp_canonical h
  · exact retireSlice_canonical h
  · exact retireComp_canonical h
  · exact onPort_canonical h

theorem retireElement_canonical {e : Element} {p : Piece} (h : p.Canonical) : (retireElement e p).Canonical :=
  canonical_ite h (loseElement_canonical (alarmWith_canonical (onSafety_canonical h)))

theorem detectError_canonical {e : Element} {p : Piece} (h : p.Canonical) : (detectError e p).Canonical :=
  canonical_ite (onSafety_canonical h) (canonical_ite h (canonical_ite (retireElement_canonical h)
    (canonical_ite h (onSafety_canonical h))))

theorem returnElement_canonical {e : Element} {p : Piece} (h : p.Canonical) : (returnElement e p).Canonical := by
  unfold returnElement
  split
  · exact onSafety_canonical h
  · exact canonical_ite (coverAgain_canonical (onMotif_canonical h)) (onMotif_canonical (onInput_canonical h))
  · exact onRfin_canonical h
  · exact h
  · exact onPort_canonical h

theorem transientElement_canonical {e : Element} {p : Piece} (h : p.Canonical) : (transientElement e p).Canonical :=
  returnElement_canonical (writeJournal_canonical (onSafety_canonical h))

/-! ### Device DRAM over TRIGGER -/

theorem onTrigger_canonical {f : Trigger → Trigger} {p : Piece} (h : p.Canonical) : (onTrigger f p).Canonical := h

theorem onCell_canonical {n : Nat} {f : Cell → Cell} {p : Piece} (h : p.Canonical) : (onCell n f p).Canonical :=
  onTrigger_canonical h

theorem onOut_canonical {k : Nat} {f : TrigOut → TrigOut} {p : Piece} (h : p.Canonical) : (onOut k f p).Canonical :=
  onTrigger_canonical h

theorem issueCond_canonical {e : CondEvent} {p : Piece} (h : p.Canonical) : (issueCond e p).Canonical :=
  canonical_ite (onCell_canonical (onTrigger_canonical h)) (onCell_canonical (onTrigger_canonical h))

theorem feedTrigger_canonical {inst stream : Nat} {b : AcqBlock} {p : Piece} (h : p.Canonical) :
    (feedTrigger inst stream b p).Canonical :=
  canonical_foldl (fun _ _ h1 => issueCond_canonical h1) (canonical_fst_foldl (fun _ _ h1 => onCell_canonical h1) h)

theorem maskCell_canonical {v : MaskVerdict} {n : Nat} {p : Piece} (h : p.Canonical) : (maskCell v n p).Canonical := by
  unfold maskCell
  refine canonical_ite ?_ h
  split
  · exact when_canonical (fun _ h1 => issueCond_canonical h1) (onCell_canonical h)

theorem execFreqMaskVerdict_canonical {channel : Fin 4} {s : State} (h : s.piece.Canonical) :
    (execFreqMaskVerdict channel s).Canonical := by
  unfold execFreqMaskVerdict
  refine inIsland_canonical (fun _ h1 => ?_) h
  split
  · exact canonical_foldl (fun _ _ h2 => maskCell_canonical h2) (onTrigger_canonical h1)
  · exact h1

theorem coincCell_canonical {x : Stamp} {n : Nat} {p : Piece} (h : p.Canonical) : (coincCell x n p).Canonical := by
  unfold coincCell
  refine canonical_ite ?_ h
  split
  · exact issueCond_canonical (onCell_canonical h)
  · exact onCell_canonical h

theorem execStampCoincArrival_canonical {s : State} (h : s.piece.Canonical) : (execStampCoincArrival s).Canonical := by
  unfold execStampCoincArrival
  refine inIsland_canonical (fun _ h1 => ?_) h
  split
  · exact canonical_foldl (fun _ _ h2 => coincCell_canonical h2) (onTrigger_canonical h1)
  · exact h1

theorem reachOut_canonical {k : Nat} {p : Piece} (h : p.Canonical) : (reachOut k p).Canonical := onOut_canonical h

theorem expressCycle_canonical {k : Nat} {s : CellSetting} {p : Piece} {cycle : Nat} (h : p.Canonical) :
    (expressCycle k s p cycle).Canonical :=
  when_canonical (fun _ h1 => reachOut_canonical h1) (onTrigger_canonical h)

theorem settleExpress_canonical {k : Nat} {p : Piece} (h : p.Canonical) : (settleExpress k p).Canonical := by
  unfold settleExpress
  dsimp only
  split
  · exact h
  · exact canonical_foldl (fun _ _ h1 => expressCycle_canonical h1) h

theorem expressEdge_canonical {k n : Nat} {rising : Bool} {p : Piece} (h : p.Canonical) :
    (expressEdge k n rising p).Canonical := by
  unfold expressEdge
  split
  · exact h
  · exact canonical_ite h (settleExpress_canonical (onTrigger_canonical h))

theorem execTrigInEdge_canonical {pin : Fin 4} {rising : Bool} {s : State} (h : s.piece.Canonical) :
    (execTrigInEdge pin rising s).Canonical := by
  unfold execTrigInEdge
  refine effect_canonical (fun _ h1 => ?_) h
  refine canonical_foldl (fun _ _ h2 => when_canonical (fun _ h3 => issueCond_canonical h3) h2) ?_
  split
  · exact when_canonical (fun _ h2 => reachOut_canonical h2) h1
  · exact h1

theorem lookAtTargets_canonical {p : Piece} (h : p.Canonical) : (lookAtTargets p).Canonical := onTrigger_canonical h

theorem execTimeMatchFire_canonical {cell : Fin 16} {s : State} (h : s.piece.Canonical) :
    (execTimeMatchFire cell s).Canonical := by
  unfold execTimeMatchFire
  refine inIsland_canonical (fun _ h1 => ?_) h
  dsimp only
  split
  · exact canonical_ite (issueCond_canonical (onCell_canonical h1)) h1
  · exact h1

theorem pushOutput_canonical {n cycle : Nat} {used : List CondEvent} {p : Piece} (h : p.Canonical) :
    (pushOutput n cycle used p).Canonical :=
  onTrigger_canonical h

theorem holdOutput_canonical {p : Piece} {o : OutEvent} (h : p.Canonical) : (holdOutput p o).Canonical :=
  canonical_ite (onCell_canonical h) (onTrigger_canonical h)

theorem holdOutputs_canonical {p : Piece} (h : p.Canonical) : (holdOutputs p).Canonical :=
  canonical_foldl (fun _ _ h1 => holdOutput_canonical h1) (onTrigger_canonical h)

theorem combineCell_canonical {cycle : Nat} {batch : List CondEvent} {n : Nat} {p : Piece} (h : p.Canonical) :
    (combineCell cycle batch n p).Canonical := by
  unfold combineCell
  refine canonical_ite h (canonical_ite (canonical_foldl (fun _ _ h1 => pushOutput_canonical h1) h) ?_)
  refine canonical_ite (canonical_foldl (fun _ _ h1 => pushOutput_canonical h1) h) (canonical_ite h ?_)
  dsimp only
  split
  · exact pushOutput_canonical (onCell_canonical h)
  · exact onCell_canonical h

theorem execMatrixEventArrive_canonical {s : State} (h : s.piece.Canonical) : (execMatrixEventArrive s).Canonical := by
  unfold execMatrixEventArrive
  refine inIsland_canonical (fun _ h1 => ?_) h
  split
  · exact holdOutputs_canonical (canonical_foldl (fun _ _ h2 => combineCell_canonical h2) (onTrigger_canonical h1))
  · exact h1

theorem sendToAcq_canonical {e : TriggerEvent} {x : Nat} {p : Piece} (h : p.Canonical) : (sendToAcq e x p).Canonical := by
  unfold sendToAcq
  split
  · split
    · exact h
  · exact h

theorem grantPermit_canonical {source : Nat} {p : Piece} (h : p.Canonical) : (grantPermit source p).Canonical := h

theorem markEvent_canonical {e : TriggerEvent} {p : Piece} (h : p.Canonical) : (markEvent e p).Canonical :=
  canonical_ite (onTrigger_canonical (onAux_canonical (grantPermit_canonical h))) (onTrigger_canonical h)

theorem ringEvent_canonical {e : TriggerEvent} {p : Piece} (h : p.Canonical) : (ringEvent e p).Canonical := h

theorem routeEvent_canonical {e : TriggerEvent} {p : Piece} (h : p.Canonical) : (routeEvent e p).Canonical := by
  unfold routeEvent
  refine when_canonical (fun _ h1 => ringEvent_canonical h1) (when_canonical (fun _ h1 => markEvent_canonical h1) ?_)
  split
  · exact when_canonical (fun _ h1 => originateXtrig_canonical h1) (canonical_foldl (fun _ _ h1 => sendToAcq_canonical h1)
      (canonical_foldl (fun _ _ h1 => when_canonical (fun _ h2 => reachOut_canonical h2) h1) h))
  · exact canonical_foldl (fun _ _ h1 => sendToAcq_canonical h1) (canonical_foldl
      (fun _ _ h1 => when_canonical (fun _ h2 => reachOut_canonical h2) h1) h)

theorem execTriggerEventIssue_canonical {s : State} (h : s.piece.Canonical) : (execTriggerEventIssue s).Canonical :=
  inIsland_canonical (fun _ h1 => canonical_ite (when_canonical (fun _ h2 => onTrigger_canonical h2) h1)
    (routeEvent_canonical (onTrigger_canonical (when_canonical (fun _ h2 => onTrigger_canonical h2) h1)))) h

theorem execTrigOutPulseStart_canonical {output : Fin 4} {s : State} (h : s.piece.Canonical) :
    (execTrigOutPulseStart output s).Canonical :=
  effect_canonical (fun _ h1 => canonical_ite (settleExpress_canonical h1) (onOut_canonical (settleExpress_canonical h1))) h

theorem execTrigOutPulseEnd_canonical {output : Fin 4} {s : State} (h : s.piece.Canonical) :
    (execTrigOutPulseEnd output s).Canonical :=
  effect_canonical (fun _ h1 => onOut_canonical h1) h

theorem execTrigOutInactiveEnd_canonical {output : Fin 4} {s : State} (h : s.piece.Canonical) :
    (execTrigOutInactiveEnd output s).Canonical :=
  effect_canonical (fun _ h1 => onOut_canonical h1) h

theorem applyCell_canonical {n : Nat} {s : CellSetting} {at_ : Nat} {p : Piece} (h : p.Canonical) :
    (applyCell n s at_ p).Canonical := by
  unfold applyCell
  refine canonical_ite ?_ (onTrigger_canonical (onCell_canonical (canonical_foldl (fun _ _ h1 => settleExpress_canonical h1) h)))
  split
  · exact onTrigger_canonical (onTrigger_canonical (onCell_canonical (canonical_foldl (fun _ _ h1 => settleExpress_canonical h1)
      h)))
  · exact onTrigger_canonical (onCell_canonical (canonical_foldl (fun _ _ h1 => settleExpress_canonical h1) h))

theorem applyCellNext_canonical {n k : Nat} {p : Piece} (h : p.Canonical) : (applyCellNext n k p).Canonical := by
  induction k generalizing p with
  | zero => exact h
  | succ k ih =>
    unfold applyCellNext
    split
    · exact ih (finishWaiting_canonical (applyCell_canonical (onCell_canonical h)))
    · exact h

theorem applyCellDue_canonical {n : Nat} {p : Piece} (h : p.Canonical) : (applyCellDue n p).Canonical := applyCellNext_canonical h

theorem applyCellsDue_canonical {p : Piece} (h : p.Canonical) : (applyCellsDue p).Canonical :=
  canonical_foldl (fun _ _ h1 => applyCellDue_canonical h1) h

theorem execTrigSettingApply_canonical {cell : Fin 16} {s : State} (h : s.piece.Canonical) :
    (execTrigSettingApply cell s).Canonical :=
  inIsland_canonical (fun _ h1 => applyCellDue_canonical h1) h

theorem actTrigCell_canonical {fl : Flight} {ans : Answer} {p : Piece} (h : p.Canonical) :
    (actTrigCell fl ans p).1.Canonical := by
  unfold actTrigCell
  refine simple_canonical (fun _ _ h1 => ?_) h
  refine guarded_canonical h1 ?_
  split
  · exact canonical_fst_ite (applyCell_canonical h1) (onCell_canonical h1)
  · exact applyCell_canonical h1

theorem execTrigCellSet_canonical {c : Cmd} {s : State} (h : s.piece.Canonical) : (execTrigCellSet c s).Canonical :=
  effect_canonical (fun _ h1 => runCommand_canonical (fun _ _ _ h2 => actTrigCell_canonical h2) h1) h

theorem swapMask_canonical {ch : Nat} {p : Piece} (h : p.Canonical) : (swapMask ch p).Canonical := onTrigger_canonical h

theorem execMaskSwap_canonical {channel : Fin 4} {s : State} (h : s.piece.Canonical) : (execMaskSwap channel s).Canonical :=
  inIsland_canonical (fun _ h1 => swapMask_canonical h1) h

theorem actMaskLoad_canonical {fl : Flight} {ans : Answer} {p : Piece} (h : p.Canonical) : (actMaskLoad fl ans p).1.Canonical :=
  guarded_canonical h (withTable_canonical h (fun _ => canonical_fst_ite h
    (when_canonical (fun _ h1 => swapMask_canonical h1) (onTrigger_canonical h))))

theorem execTrigMaskLoad_canonical {c : Cmd} {s : State} (h : s.piece.Canonical) : (execTrigMaskLoad c s).Canonical :=
  effect_canonical (fun _ h1 => runCommand_canonical (fun _ _ _ h2 => actMaskLoad_canonical h2) h1) h

theorem actTrigCombine_canonical {fl : Flight} {ans : Answer} {p : Piece} (h : p.Canonical) :
    (actTrigCombine fl ans p).1.Canonical :=
  simple_canonical (fun _ _ h1 => guarded_canonical h1 (onCell_canonical h1)) h

theorem execTrigCombineSet_canonical {c : Cmd} {s : State} (h : s.piece.Canonical) : (execTrigCombineSet c s).Canonical :=
  effect_canonical (fun _ h1 => runCommand_canonical (fun _ _ _ h2 => actTrigCombine_canonical h2) h1) h

theorem actTrigRoute_canonical {fl : Flight} {ans : Answer} {p : Piece} (h : p.Canonical) : (actTrigRoute fl ans p).1.Canonical :=
  simple_canonical (fun _ _ h1 => guarded_canonical h1 (canonical_foldl (fun _ _ h2 => onOut_canonical h2)
    (when_canonical (fun _ h2 => onCell_canonical h2) h1))) h

theorem execTrigRouteSet_canonical {c : Cmd} {s : State} (h : s.piece.Canonical) : (execTrigRouteSet c s).Canonical :=
  effect_canonical (fun _ h1 => runCommand_canonical (fun _ _ _ h2 => actTrigRoute_canonical h2) h1) h

theorem actTrigForce_canonical {fl : Flight} {ans : Answer} {p : Piece} (h : p.Canonical) : (actTrigForce fl ans p).1.Canonical :=
  simple_canonical (fun _ _ h1 => guarded_canonical h1 (canonical_foldl
    (fun _ _ h2 => when_canonical (fun _ h3 => issueCond_canonical h3) h2) h1)) h

theorem execTrigForce_canonical {c : Cmd} {s : State} (h : s.piece.Canonical) : (execTrigForce c s).Canonical :=
  effect_canonical (fun _ h1 => runCommand_canonical (fun _ _ _ h2 => actTrigForce_canonical h2) h1) h

/-! ### Device DRAM over STAMP -/

theorem takeSetting_canonical {source : Nat} {new : StampSetting} {at_ : Nat} {p : Piece} (h : p.Canonical) :
    (takeSetting source new at_ p).Canonical :=
  finishWaiting_canonical (when_canonical (fun _ h1 => coverAgain_canonical h1)
    (when_canonical (fun _ h1 => loseSource_canonical h1) (when_canonical (fun _ h1 => markSource_canonical h1)
    (canonical_ite (onInput_canonical h) (onAux_canonical h)))))

theorem applySetting_canonical {source : Nat} {p : Piece} (h : p.Canonical) : (applySetting source p).Canonical :=
  canonical_foldl (fun _ _ h1 => when_canonical (fun _ h2 => takeSetting_canonical h2) h1) h

theorem execStampSettingsApply_canonical {source : Fin 24} {s : State} (h : s.piece.Canonical) :
    (execStampSettingsApply source s).Canonical :=
  effect_canonical (fun _ h1 => applySetting_canonical h1) h

theorem execThresholdBlankEnd_canonical {source : Fin 16} {s : State} (h : s.piece.Canonical) :
    (execThresholdBlankEnd source s).Canonical := by
  unfold execThresholdBlankEnd
  refine effect_canonical (fun _ h1 => ?_) h
  split
  · exact when_canonical (fun _ h2 => onInput_canonical h2) h1
  · exact h1

theorem actStampInput_canonical {fl : Flight} {ans : Answer} {p : Piece} (h : p.Canonical) :
    (actStampInput fl ans p).1.Canonical :=
  simple_canonical (fun _ _ h1 => guarded_canonical h1 (canonical_ite (onInput_canonical h1) (onAux_canonical h1))) h

theorem execStampInputSet_canonical {c : Cmd} {s : State} (h : s.piece.Canonical) : (execStampInputSet c s).Canonical :=
  effect_canonical (fun _ h1 => runCommand_canonical (fun _ _ _ h2 => actStampInput_canonical h2) h1) h

theorem actRawStream_canonical {fl : Flight} {ans : Answer} {p : Piece} (h : p.Canonical) : (actRawStream fl ans p).1.Canonical :=
  simple_canonical (fun _ _ h1 => guarded_canonical h1 h1) h

theorem execStampRawStream_canonical {c : Cmd} {s : State} (h : s.piece.Canonical) : (execStampRawStream c s).Canonical :=
  effect_canonical (fun _ h1 => runCommand_canonical (fun _ _ _ h2 => actRawStream_canonical h2) h1) h

theorem captureEdge_canonical {source : Nat} {raw : T16} {edge : StampEdge} {p : Piece} (h : p.Canonical) :
    (captureEdge source raw edge p).Canonical :=
  onInput_canonical (expressEdge_canonical (onMotif_canonical (onInput_canonical h)))

theorem inputEdge_canonical {source : Nat} {edge : StampEdge} {p : Piece} (h : p.Canonical) :
    (inputEdge source edge p).Canonical :=
  canonical_ite h (canonical_ite (onInput_canonical h) (canonical_ite (onInput_canonical (onInput_canonical h))
    (captureEdge_canonical (onInput_canonical h))))

theorem refinEdge_canonical {edge : StampEdge} {p : Piece} (h : p.Canonical) : (refinEdge edge p).Canonical :=
  canonical_ite (refinClock_canonical h) (when_canonical (fun _ h1 => onAux_canonical (pushSource_canonical h1))
    (onAux_canonical (refinClock_canonical h)))

theorem execStampEdgeCapture_canonical {source : Fin 24} {edge : StampEdge} {s : State} (h : s.piece.Canonical) :
    (execStampEdgeCapture source edge s).Canonical :=
  effect_canonical (fun _ h1 => canonical_ite (inputEdge_canonical (applySetting_canonical h1))
    (canonical_ite (refinEdge_canonical (applySetting_canonical h1)) (applySetting_canonical h1))) h

theorem expireInput_canonical {source : Nat} {p : Piece} (h : p.Canonical) : (expireInput source p).Canonical :=
  onInput_canonical h

theorem execStampFifoWaitExpiry_canonical {source : Fin 16} {s : State} (h : s.piece.Canonical) :
    (execStampFifoWaitExpiry source s).Canonical :=
  effect_canonical (fun _ h1 => expireInput_canonical h1) h

theorem onCal_canonical {f : Cal → Cal} {p : Piece} (h : p.Canonical) : (onCal f p).Canonical := h

theorem takeRole_canonical {k : Nat} {r : SpareRole} {n : Nat} {p : Piece} (h : p.Canonical) : (takeRole k r n p).Canonical :=
  onMotif_canonical h

theorem startRound_canonical {k : Nat} {p : Piece} (h : p.Canonical) : (startRound k p).Canonical :=
  takeRole_canonical (onMotif_canonical (onCal_canonical h))

theorem execInterpRoundStart_canonical {motif : Fin 4} {s : State} (h : s.piece.Canonical) :
    (execInterpRoundStart motif s).Canonical :=
  effect_canonical (fun _ h1 => canonical_ite (when_canonical (fun _ h2 => coverAgain_canonical h2) h1)
    (canonical_ite (when_canonical (fun _ h2 => onCal_canonical h2) (when_canonical (fun _ h2 => coverAgain_canonical h2) h1))
    (when_canonical (fun _ h2 => startRound_canonical h2) (when_canonical (fun _ h2 => coverAgain_canonical h2) h1)))) h

theorem visitFrom_canonical {k n : Nat} {p : Piece} (h : p.Canonical) : (visitFrom k n p).Canonical := by
  unfold visitFrom
  split
  · exact takeRole_canonical h
  · exact when_canonical (fun _ h1 => startRound_canonical h1) (onCal_canonical (onMotif_canonical h))

theorem afterVisit_canonical {k n : Nat} {p : Piece} (h : p.Canonical) : (afterVisit k n p).Canonical :=
  when_canonical (fun _ h1 => visitFrom_canonical h1) (coverAgain_canonical (onMotif_canonical h))

theorem handOver_canonical {k n : Nat} {toSpare : Bool} {p : Piece} (h : p.Canonical) : (handOver k n toSpare p).Canonical :=
  onMotif_canonical h

theorem countMatchFail_canonical {p : Piece} (h : p.Canonical) : (countMatchFail p).Canonical := onCal_canonical h

theorem countUnverified_canonical {k : Nat} {p : Piece} (h : p.Canonical) : (countUnverified k p).Canonical := onMotif_canonical h

theorem endOverlap_canonical {k n edges : Nat} {r : RoleResult} {p : Piece} (h : p.Canonical) :
    (endOverlap k n edges r p).Canonical :=
  canonical_ite (takeRole_canonical (handOver_canonical (countUnverified_canonical h)))
    (canonical_ite (takeRole_canonical (handOver_canonical h)) (detectError_canonical
    (countMatchFail_canonical (onMotif_canonical h))))

theorem endHandback_canonical {k n edges : Nat} {r : RoleResult} {p : Piece} (h : p.Canonical) :
    (endHandback k n edges r p).Canonical :=
  canonical_ite (afterVisit_canonical (handOver_canonical (countUnverified_canonical h)))
    (canonical_ite (afterVisit_canonical (handOver_canonical h)) (detectError_canonical
    (countMatchFail_canonical (coverInput_canonical (onInput_canonical h)))))

theorem execInterpRoleEnd_canonical {motif : Fin 4} {result : RoleResult} {s : State} (h : s.piece.Canonical) :
    (execInterpRoleEnd motif result s).Canonical := by
  unfold execInterpRoleEnd
  refine effect_canonical (fun _ h1 => ?_) h
  dsimp only
  split
  · exact when_canonical (fun _ h2 => visitFrom_canonical (onMotif_canonical h2)) h1
  · exact when_canonical (fun _ h2 => endOverlap_canonical h2) h1
  · exact when_canonical (fun _ h2 => takeRole_canonical h2) h1
  · exact when_canonical (fun _ h2 => endHandback_canonical h2) h1
  · exact h1

theorem execInterpFault_canonical {motif : Fin 4} {interpolator : Fin 5} {s : State} (h : s.piece.Canonical) :
    (execInterpFault motif interpolator s).Canonical :=
  effect_canonical (fun _ h1 => when_canonical (fun _ h2 => detectError_canonical
    (canonical_ite (faultSpare_canonical (alarmWith_canonical h2)) (faultInterp_canonical (alarmWith_canonical h2)))) h1) h

theorem execCompFault_canonical {source : Fin 16} {s : State} (h : s.piece.Canonical) : (execCompFault source s).Canonical :=
  effect_canonical (fun _ h1 => when_canonical (fun _ h2 => detectError_canonical (onInput_canonical (alarmWith_canonical h2)))
    h1) h

/-! ### Device DRAM over the mailboxes -/

theorem mbxWrite_canonical {r : Requester} {ch : Nat} {f : Piece → Piece} {p : Piece}
    (hf : ∀ p : Piece, p.Canonical → (f p).Canonical) (h : p.Canonical) : (mbxWrite r ch f p).Canonical :=
  canonical_ite (hf _ h) (canonical_ite (onChannel_canonical h) h)

theorem setStatus_canonical {ch : Nat} {was : Channel → Bool} {f : Channel → Channel} {p : Piece} (h : p.Canonical) :
    (setStatus ch was f p).Canonical :=
  when_canonical (fun _ h1 => attention_canonical h1) (onChannel_canonical h)

theorem voidNotices_canonical {ch n : Nat} {p : Piece} (h : p.Canonical) : (voidNotices ch n p).Canonical :=
  when_canonical (fun _ h1 => setStatus_canonical h1) h

theorem rejectNotice_canonical {ch : Nat} {p : Piece} (h : p.Canonical) : (rejectNotice ch p).Canonical := setStatus_canonical h

theorem ringDoorbell_canonical {requester : Requester} {channel word : Nat} {p : Piece} (h : p.Canonical) :
    (ringDoorbell requester channel word p).Canonical :=
  mbxWrite_canonical (fun _ h1 => canonical_ite (voidNotices_canonical (onChannel_canonical h1))
    (canonical_ite (setStatus_canonical (onChannel_canonical h1)) (onChannel_canonical (onChannel_canonical h1)))) h

theorem execDoorbell_canonical {requester : Requester} {channel : Fin 20} {word : Word} {s : State} (h : s.piece.Canonical) :
    (execDoorbell requester channel word s).Canonical :=
  effect_canonical (fun _ h1 => ringDoorbell_canonical h1) h

theorem takeInbound_canonical {requester : Requester} {channel : Nat} {wide : Bool} {p : Piece} (h : p.Canonical) :
    (takeInbound requester channel wide p).1.Canonical :=
  canonical_fst_ite h (onChannel_canonical h)

theorem execMbxInTake_canonical {requester : Requester} {channel : Fin 20} {wide : Bool} {s : State} (h : s.piece.Canonical) :
    (execMbxInTake requester channel wide s).Canonical := by
  unfold execMbxInTake
  refine effect_canonical (fun _ h1 => ?_) h
  split
  next _ _ _ he => exact emit_canonical (canonical_fst he (takeInbound_canonical h1))

theorem clearMbxStatus_canonical {requester : Requester} {channel v : Nat} {p : Piece} (h : p.Canonical) :
    (clearMbxStatus requester channel v p).Canonical :=
  mbxWrite_canonical (fun _ h1 => onChannel_canonical h1) h

theorem execMbxStatusClear_canonical {requester : Requester} {channel : Fin 20} {value : Word} {s : State}
    (h : s.piece.Canonical) : (execMbxStatusClear requester channel value s).Canonical :=
  effect_canonical (fun _ h1 => clearMbxStatus_canonical h1) h

theorem execMbxTimeoutExpiry_canonical {channel : Fin 20} {outbound : Bool} {index : Nat} {s : State} (h : s.piece.Canonical) :
    (execMbxTimeoutExpiry channel outbound index s).Canonical :=
  effect_canonical (fun _ h1 => when_canonical (fun _ h2 => canonical_ite (setStatus_canonical (onChannel_canonical h2))
    (writeJournal_canonical (onChannel_canonical h2))) h1) h

theorem issueRead_canonical {use : ReadUse} {address length : Nat} {p : Piece} (h : p.Canonical) :
    (issueRead use address length p).Canonical :=
  emit_canonical h

theorem execNoticeTakeBySteward_canonical {s : State} (h : s.piece.Canonical) : (execNoticeTakeBySteward s).Canonical := by
  unfold execNoticeTakeBySteward
  refine effect_canonical (fun _ h1 => when_canonical (fun _ h2 => ?_) h1) h
  split
  · exact h2
  · split
    · exact h2
    · exact canonical_ite (canonical_ite h2 (issueRead_canonical h2)) (rejectNotice_canonical h2)

theorem dropRequest_canonical {use : ReadUse} {p : Piece} (h : p.Canonical) : (dropRequest use p).Canonical := by
  unfold dropRequest
  split
  · exact h
  · exact h

theorem takeCommand_canonical {n : Notice} {ch : Nat} {bs : Bytes} {p : Piece} (h : p.Canonical) :
    (takeCommand n ch bs p).Canonical := by
  unfold takeCommand
  dsimp only
  split
  · exact failCheck_canonical (enroll_canonical h)
  · split
    · exact failCheck_canonical (enroll_canonical h)
    · exact enroll_canonical h

theorem fetchFails_canonical {ch : Nat} {p : Piece} (h : p.Canonical) : (fetchFails ch p).Canonical := by
  unfold fetchFails
  split
  · exact rejectNotice_canonical (dropRequest_canonical (onChannel_canonical h))
  · exact h

theorem dropAnswer_canonical {ch : Nat} {p : Piece} (h : p.Canonical) : (dropAnswer ch p).Canonical := by
  unfold dropAnswer
  split
  · exact h
  · exact h

theorem execCommandFetchDone_canonical {channel : Fin 20} {answer : Answer} {s : State} (h : s.piece.Canonical) :
    (execCommandFetchDone channel answer s).Canonical := by
  unfold execCommandFetchDone
  refine effect_canonical (fun _ h1 => ?_) h
  dsimp only
  split
  · exact h1
  · refine canonical_ite (fetchFails_canonical (dropAnswer_canonical h1)) ?_
    split
    · exact takeCommand_canonical (dropRequest_canonical (onChannel_canonical (dropAnswer_canonical h1)))
    · exact fetchFails_canonical (dropAnswer_canonical h1)

theorem execCommandFetchFail_canonical {channel : Fin 20} {s : State} (h : s.piece.Canonical) :
    (execCommandFetchFail channel s).Canonical :=
  effect_canonical (fun _ h1 => fetchFails_canonical h1) h

theorem execCompletionRingRetry_canonical {session : Nat} {channel : Fin 20} {consumer : Answer} {s : State}
    (h : s.piece.Canonical) : (execCompletionRingRetry session channel consumer s).Canonical :=
  effect_canonical (fun _ h1 => settle_canonical (canonical_ite (onChannel_canonical h1) (onSession_canonical h1))) h

theorem execStewardNoticePost_canonical {channel : Fin 20} {s : State} (h : s.piece.Canonical) :
    (execStewardNoticePost channel s).Canonical := by
  unfold execStewardNoticePost
  refine effect_canonical (fun _ h1 => ?_) h
  split
  · exact when_canonical (fun _ h2 => enterInbound_canonical (onChannel_canonical h2)) h1
  · exact h1

theorem bumpEpoch_canonical {r : Requester} {p : Piece} (h : p.Canonical) : (bumpEpoch r p).Canonical :=
  canonical_foldl (fun _ _ h1 => canonical_ite (voidNotices_canonical (onChannel_canonical h1))
    (voidNotices_canonical (onChannel_canonical h1))) h

theorem receiverReset_canonical {ch : Nat} {toSteward : Bool} {p : Piece} (h : p.Canonical) :
    (receiverReset ch toSteward p).Canonical :=
  setStatus_canonical h

theorem setLock_canonical {n o : Nat} {p : Piece} (h : p.Canonical) : (setLock n o p).Canonical := h

theorem countBadRelease_canonical {p : Piece} (h : p.Canonical) : (countBadRelease p).Canonical := h

theorem readLock_canonical {requester : Requester} {lock : Nat} {wide : Bool} {node : Nat} {p : Piece} (h : p.Canonical) :
    (readLock requester lock wide node p).1.Canonical :=
  canonical_fst_ite (countBadRelease_canonical h) (canonical_fst_ite (when_canonical (fun _ h1 => h1) (setLock_canonical h)) h)

theorem execLockAcquireRead_canonical {requester : Requester} {lock : Fin 64} {wide : Bool} {node : Fin 65536} {s : State}
    (h : s.piece.Canonical) : (execLockAcquireRead requester lock wide node s).Canonical := by
  unfold execLockAcquireRead
  refine effect_canonical (fun _ h1 => ?_) h
  refine when_canonical (fun _ h2 => ?_) h1
  split
  next _ _ _ he => exact emit_canonical (canonical_fst he (readLock_canonical h2))

theorem writeLock_canonical {requester : Requester} {lock value : Nat} {wide : Bool} {p : Piece} (h : p.Canonical) :
    (writeLock requester lock value wide p).Canonical :=
  canonical_ite (setLock_canonical h) (countBadRelease_canonical h)

theorem execLockReleaseWrite_canonical {requester : Requester} {lock : Fin 64} {value : Word} {wide : Bool} {s : State}
    (h : s.piece.Canonical) : (execLockReleaseWrite requester lock value wide s).Canonical :=
  effect_canonical (fun _ h1 => when_canonical (fun _ h2 => writeLock_canonical h2) h1) h

theorem releaseLocks_canonical {pick : Nat → Nat → Bool} {p : Piece} (h : p.Canonical) : (releaseLocks pick p).Canonical := h

/-! ### Device DRAM over sessions and event rings -/

theorem actHello_canonical {fl : Flight} {ans : Answer} {p : Piece} (h : p.Canonical) : (actHello fl ans p).1.Canonical := by
  unfold actHello
  refine simple_canonical (fun _ _ h1 => ?_) h
  refine guarded_canonical h1 (canonical_fst_ite h1 ?_)
  split
  · exact onChannel_canonical h1

theorem execSysHello_canonical {c : Cmd} {s : State} (h : s.piece.Canonical) : (execSysHello c s).Canonical :=
  effect_canonical (fun _ h1 => runCommand_canonical (fun _ _ _ h2 => actHello_canonical h2) h1) h

theorem actSessionOpen_canonical {fl : Flight} {ans : Answer} {p : Piece} (h : p.Canonical) :
    (actSessionOpen fl ans p).1.Canonical := by
  unfold actSessionOpen
  refine simple_canonical (fun _ _ h1 => ?_) h
  refine guarded_canonical h1 ?_
  split
  · exact h1
  · exact h1

theorem execSessionOpen_canonical {c : Cmd} {s : State} (h : s.piece.Canonical) : (execSessionOpen c s).Canonical :=
  effect_canonical (fun _ h1 => runCommand_canonical (fun _ _ _ h2 => actSessionOpen_canonical h2) h1) h

theorem abortNotStarted_canonical {session order : Nat} {p : Piece} (h : p.Canonical) :
    (abortNotStarted session order p).Canonical :=
  h

theorem closeStreams_canonical {session : Nat} {p : Piece} (h : p.Canonical) : (closeStreams session p).Canonical := h

theorem actSessionClose_canonical {fl : Flight} {ans : Answer} {p : Piece} (h : p.Canonical) :
    (actSessionClose fl ans p).1.Canonical :=
  simple_canonical (fun _ _ h1 => guarded_canonical h1 (closeStreams_canonical
    (abortNotStarted_canonical (onSession_canonical h1)))) h

theorem execSessionClose_canonical {c : Cmd} {s : State} (h : s.piece.Canonical) : (execSessionClose c s).Canonical :=
  effect_canonical (fun _ h1 => runCommand_canonical (fun _ _ _ h2 => actSessionClose_canonical h2) h1) h

theorem actPanelClaim_canonical {fl : Flight} {ans : Answer} {p : Piece} (h : p.Canonical) :
    (actPanelClaim fl ans p).1.Canonical :=
  simple_canonical (fun _ _ h1 => canonical_fst_ite h1 (guarded_canonical h1 (when_canonical (fun _ h2 => h2) h1))) h

theorem execPanelClaim_canonical {c : Cmd} {s : State} (h : s.piece.Canonical) : (execPanelClaim c s).Canonical :=
  effect_canonical (fun _ h1 => runCommand_canonical (fun _ _ _ h2 => actPanelClaim_canonical h2) h1) h

theorem actPanelRelease_canonical {fl : Flight} {ans : Answer} {p : Piece} (h : p.Canonical) :
    (actPanelRelease fl ans p).1.Canonical :=
  simple_canonical (fun _ _ h1 => guarded_canonical h1 h1) h

theorem execPanelRelease_canonical {c : Cmd} {s : State} (h : s.piece.Canonical) : (execPanelRelease c s).Canonical :=
  effect_canonical (fun _ h1 => runCommand_canonical (fun _ _ _ h2 => actPanelRelease_canonical h2) h1) h

theorem actFence_canonical {fl : Flight} {ans : Answer} {p : Piece} (h : p.Canonical) : (actFence fl ans p).1.Canonical :=
  simple_canonical (fun _ _ h1 => guarded_canonical h1 h1) h

theorem execFence_canonical {c : Cmd} {s : State} (h : s.piece.Canonical) : (execFence c s).Canonical :=
  effect_canonical (fun _ h1 => runCommand_canonical (fun _ _ _ h2 => actFence_canonical h2) h1) h

theorem actEventRingSet_canonical {fl : Flight} {ans : Answer} {p : Piece} (h : p.Canonical) :
    (actEventRingSet fl ans p).1.Canonical :=
  simple_canonical (fun _ _ h1 => guarded_canonical h1 (canonical_fst_ite h1 (onSession_canonical h1))) h

theorem execEventRingSet_canonical {c : Cmd} {s : State} (h : s.piece.Canonical) : (execEventRingSet c s).Canonical :=
  effect_canonical (fun _ h1 => runCommand_canonical (fun _ _ _ h2 => actEventRingSet_canonical h2) h1) h

theorem actCompletionRingSet_canonical {fl : Flight} {ans : Answer} {p : Piece} (h : p.Canonical) :
    (actCompletionRingSet fl ans p).1.Canonical :=
  simple_canonical (fun _ _ h1 => guarded_canonical h1 (canonical_fst_ite h1 (onSession_canonical h1))) h

theorem execCompletionRingSet_canonical {c : Cmd} {s : State} (h : s.piece.Canonical) : (execCompletionRingSet c s).Canonical :=
  effect_canonical (fun _ h1 => runCommand_canonical (fun _ _ _ h2 => actCompletionRingSet_canonical h2) h1) h

theorem actAbortTag_canonical {fl : Flight} {ans : Answer} {p : Piece} (h : p.Canonical) :
    (actAbortTag fl ans p).1.Canonical := by
  unfold actAbortTag
  refine simple_canonical (fun _ _ h1 => ?_) h
  refine guarded_canonical h1 ?_
  split
  · exact setFlight_canonical h1
  · exact h1

theorem execAbortTag_canonical {c : Cmd} {s : State} (h : s.piece.Canonical) : (execAbortTag c s).Canonical :=
  effect_canonical (fun _ h1 => runCommand_canonical (fun _ _ _ h2 => actAbortTag_canonical h2) h1) h

theorem writeEvent_canonical {id : Nat} {r : Ring} {e : EventRecord} {p : Piece} (h : p.Canonical) :
    (writeEvent id r e p).Canonical := by
  unfold writeEvent
  split
  next _ _ he => exact onSession_canonical (canonical_fst he (pieceWrite_canonical h))
  next _ _ _ _ he => exact countVoided_canonical (canonical_fst he (pieceWrite_canonical h))

theorem gapRecord_canonical {s : Session} {p : Piece} (h : p.Canonical) : (gapRecord s p).1.Canonical := by
  unfold gapRecord
  split
  next _ _ _ he => exact canonical_fst he (draw_canonical h)

theorem writeGap_canonical {id : Nat} {p : Piece} (h : p.Canonical) : (writeGap id p).Canonical := by
  unfold writeGap
  split
  · split
    · refine when_canonical (fun _ h1 => ?_) h
      split
      next _ _ _ he2 => exact onSession_canonical (writeEvent_canonical (canonical_fst he2 (gapRecord_canonical h1)))
    · exact h
  · exact h

theorem rereadEvent_canonical {id : Nat} {consumer : Answer} {p : Piece} (h : p.Canonical) :
    (rereadEvent id consumer p).Canonical :=
  onSession_canonical h

theorem enterEvent_canonical {id : Nat} {e : EventRecord} {dropped : Piece → Piece} {p : Piece}
    (hdropped : ∀ (a : Piece), a.Canonical → (dropped a).Canonical) (h : p.Canonical) :
    (enterEvent id e dropped p).Canonical := by
  unfold enterEvent
  dsimp only
  split
  · split
    · exact canonical_ite (countVoided_canonical (writeGap_canonical h))
        (canonical_ite (writeEvent_canonical (writeGap_canonical h)) (hdropped _ (onSession_canonical (writeGap_canonical h))))
    · exact countVoided_canonical (writeGap_canonical h)
  · exact countVoided_canonical (writeGap_canonical h)

theorem execEventRingRetry_canonical {session : Fin 256} {consumer : Answer} {s : State} (h : s.piece.Canonical) :
    (execEventRingRetry session consumer s).Canonical :=
  effect_canonical (fun _ h1 => writeGap_canonical (rereadEvent_canonical h1)) h

/-! ### Device DRAM over STREAM and CHECK -/

theorem onStream_canonical {ch : Nat} {f : StreamChannel → StreamChannel} {p : Piece} (h : p.Canonical) :
    (onStream ch f p).Canonical :=
  h

theorem sendStream_canonical {i : StreamItem} {p : Piece} (h : p.Canonical) : (sendStream i p).Canonical := h

theorem actStreamOpen_canonical {fl : Flight} {ans : Answer} {p : Piece} (h : p.Canonical) :
    (actStreamOpen fl ans p).1.Canonical :=
  simple_canonical (fun _ _ h1 => guarded_canonical h1 (onStream_canonical h1)) h

theorem execStreamOpen_canonical {c : Cmd} {s : State} (h : s.piece.Canonical) : (execStreamOpen c s).Canonical :=
  effect_canonical (fun _ h1 => runCommand_canonical (fun _ _ _ h2 => actStreamOpen_canonical h2) h1) h

theorem actStreamClose_canonical {fl : Flight} {ans : Answer} {p : Piece} (h : p.Canonical) :
    (actStreamClose fl ans p).1.Canonical :=
  simple_canonical (fun _ _ h1 => guarded_canonical h1 (onStream_canonical h1)) h

theorem execStreamClose_canonical {c : Cmd} {s : State} (h : s.piece.Canonical) : (execStreamClose c s).Canonical :=
  effect_canonical (fun _ h1 => runCommand_canonical (fun _ _ _ h2 => actStreamClose_canonical h2) h1) h

theorem actChainSet_canonical {fl : Flight} {ans : Answer} {p : Piece} (h : p.Canonical) : (actChainSet fl ans p).1.Canonical :=
  simple_canonical (fun _ _ h1 => guarded_canonical h1 (onStream_canonical h1)) h

theorem execStreamChainSet_canonical {c : Cmd} {s : State} (h : s.piece.Canonical) : (execStreamChainSet c s).Canonical :=
  effect_canonical (fun _ h1 => runCommand_canonical (fun _ _ _ h2 => actChainSet_canonical h2) h1) h

theorem moveBytes_canonical {b bs : Bytes} {p : Piece} (h : p.Canonical) : (moveBytes b bs p).Canonical :=
  canonical_ite (canonical_foldl (fun _ _ h1 => canonical_ite (dramWrite_canonical h1) (emit_canonical h1)) h)
    (when_canonical (fun _ h1 => canonical_ite (dramWrite_canonical h1) (emit_canonical h1)) h)

theorem writeBack_canonical {d err off check : Nat} {valid : Bool} {p : Piece} (h : p.Canonical) :
    (writeBack d err off check valid p).Canonical :=
  pieceWrite_canonical h

theorem failDescriptor_canonical {ch err off : Nat} {p : Piece} (h : p.Canonical) : (failDescriptor ch err off p).Canonical :=
  onStream_canonical (writeBack_canonical h)

theorem runDescriptor_canonical {ch : Nat} {b : Bytes} {data : Answer} {failAt : Option Nat} {p : Piece} (h : p.Canonical) :
    (runDescriptor ch b data failAt p).Canonical := by
  unfold runDescriptor
  refine canonical_ite (failDescriptor_canonical h) ?_
  split
  · exact failDescriptor_canonical (onStream_canonical (canonical_ite h (moveBytes_canonical h)))
  · exact canonical_ite (failDescriptor_canonical (onStream_canonical (moveBytes_canonical h)))
      (canonical_ite (onStream_canonical h) (onStream_canonical (writeBack_canonical (moveBytes_canonical h))))

theorem execDescriptorComplete_canonical {channel : Fin 64} {descriptor data : Answer} {failAt : Option Nat} {s : State}
    (h : s.piece.Canonical) : (execDescriptorComplete channel descriptor data failAt s).Canonical := by
  unfold execDescriptorComplete
  refine effect_canonical (fun _ h1 => ?_) h
  refine when_canonical (fun _ h2 => ?_) h1
  split
  · exact runDescriptor_canonical h2
  · exact onStream_canonical h2

theorem execChainLinkRead_canonical {channel : Fin 64} {answer : Answer} {s : State} (h : s.piece.Canonical) :
    (execChainLinkRead channel answer s).Canonical := by
  unfold execChainLinkRead
  refine effect_canonical (fun _ h1 => ?_) h
  refine when_canonical (fun _ h2 => ?_) h1
  split
  · exact onStream_canonical h2
  · exact canonical_ite (onStream_canonical h2) (canonical_ite (onStream_canonical h2) (onStream_canonical h2))

theorem extendChain_canonical {channel : Nat} {p : Piece} (h : p.Canonical) : (extendChain channel p).Canonical :=
  canonical_ite h (canonical_ite (onStream_canonical h) (canonical_ite (onStream_canonical h) h))

theorem execChainExtend_canonical {channel : Fin 64} {s : State} (h : s.piece.Canonical) :
    (execChainExtend channel s).Canonical :=
  effect_canonical (fun _ h1 => extendChain_canonical h1) h

theorem writeEntry_canonical {ch : Nat} {i : StreamItem} {p : Piece} (h : p.Canonical) : (writeEntry ch i p).Canonical :=
  pieceWrite_canonical (onStream_canonical (canonical_foldl (fun _ _ h1 => pieceWrite_canonical h1) h))

theorem flushRing_canonical {k ch : Nat} {p : Piece} (h : p.Canonical) : (flushRing k ch p).Canonical := by
  induction k generalizing p with
  | zero => exact h
  | succ k ih =>
    unfold flushRing
    refine canonical_ite h ?_
    split
    · exact canonical_ite (ih (writeEntry_canonical (onStream_canonical h))) h
    · exact canonical_ite (writeEntry_canonical (onStream_canonical h)) h

theorem dropEntry_canonical {ch : Nat} {p : Piece} (h : p.Canonical) : (dropEntry ch p).Canonical := onStream_canonical h

theorem stageEntry_canonical {ch : Nat} {i : StreamItem} {p : Piece} (h : p.Canonical) : (stageEntry ch i p).Canonical :=
  canonical_ite (onStream_canonical h) (dropEntry_canonical h)

theorem enterRing_canonical {ch : Nat} {i : StreamItem} {p : Piece} (h : p.Canonical) : (enterRing ch i p).Canonical :=
  canonical_ite (dropEntry_canonical (when_canonical (fun _ h1 => flushRing_canonical h1) h))
    (canonical_ite (writeEntry_canonical (when_canonical (fun _ h1 => flushRing_canonical h1) h))
    (stageEntry_canonical (when_canonical (fun _ h1 => flushRing_canonical h1) h)))

theorem vdifTake_canonical {ch : Nat} {t : T16} {period : Nat} {valid : Bool} {xs : List Int} {p : Piece} (h : p.Canonical) :
    (vdifTake ch t period valid xs p).Canonical := by
  unfold vdifTake
  dsimp only
  split
  · exact h
  · exact canonical_ite h (canonical_ite (onStream_canonical h) (enterRing_canonical (onStream_canonical h)))

theorem vdifBlock_canonical {ch : Nat} {i : StreamItem} {p : Piece} (h : p.Canonical) : (vdifBlock ch i p).Canonical := by
  unfold vdifBlock
  refine canonical_ite (onStream_canonical h) ?_
  split
  · exact canonical_ite (canonical_foldl (fun _ _ h1 => vdifTake_canonical h1) h) (onStream_canonical h)
  · split
    · exact canonical_ite (canonical_foldl (fun _ _ h1 => vdifTake_canonical h1) (onStream_canonical h)) (onStream_canonical h)
    · exact onStream_canonical h

theorem execSourceRecordArrive_canonical {s : State} {noRoom : optParam Bool false} (h : s.piece.Canonical) :
    (execSourceRecordArrive s noRoom).Canonical := by
  unfold execSourceRecordArrive
  refine effect_canonical (fun _ h1 => ?_) h
  split
  · exact h1
  · exact canonical_ite h1 (canonical_ite (onStream_canonical h1) (canonical_ite (vdifBlock_canonical h1)
      (enterRing_canonical h1)))

theorem execRingConsumerReread_canonical {channel : Fin 64} {consumer : Answer} {s : State} (h : s.piece.Canonical) :
    (execRingConsumerReread channel consumer s).Canonical := by
  unfold execRingConsumerReread
  refine effect_canonical (fun _ h1 => ?_) h
  refine flushRing_canonical ?_
  split
  · exact onStream_canonical h1
  · exact h1

theorem actRingSet_canonical {fl : Flight} {ans : Answer} {p : Piece} (h : p.Canonical) : (actRingSet fl ans p).1.Canonical :=
  simple_canonical (fun _ _ h1 => guarded_canonical h1 (canonical_fst_ite (onStream_canonical h1)
    (canonical_fst_ite (onStream_canonical h1) (onStream_canonical h1)))) h

theorem execStreamRingSet_canonical {c : Cmd} {s : State} (h : s.piece.Canonical) : (execStreamRingSet c s).Canonical :=
  effect_canonical (fun _ h1 => runCommand_canonical (fun _ _ _ h2 => actRingSet_canonical h2) h1) h

theorem onUnit_canonical {i : Nat} {f : CheckUnit → CheckUnit} {p : Piece} (h : p.Canonical) : (onUnit i f p).Canonical := h

theorem beginScan_canonical {i : Nat} {s : Scan} {p : Piece} (h : p.Canonical) : (beginScan i s p).Canonical := onUnit_canonical h

theorem recordScan_canonical {i : Nat} {s : Scan} {v : Nat} {p : Piece} (h : p.Canonical) : (recordScan i s v p).Canonical :=
  when_canonical (fun _ h1 => raiseAlarm_canonical h1) (onUnit_canonical h)

theorem actCheckScan_canonical {fl : Flight} {ans : Answer} {p : Piece} (h : p.Canonical) : (actCheckScan fl ans p).1.Canonical :=
  simple_canonical (fun _ _ h1 => guarded_canonical h1 (canonical_fst_ite (onUnit_canonical h1)
    (canonical_fst_ite (recordScan_canonical (beginScan_canonical h1)) (beginScan_canonical h1)))) h

theorem execCheckScan_canonical {c : Cmd} {s : State} (h : s.piece.Canonical) : (execCheckScan c s).Canonical :=
  effect_canonical (fun _ h1 => runCommand_canonical (fun _ _ _ h2 => actCheckScan_canonical h2) h1) h

theorem promoteScan_canonical {i : Nat} {p : Piece} (h : p.Canonical) : (promoteScan i p).Canonical := by
  unfold promoteScan
  split
  · exact setFlight_canonical h
  · exact h

theorem afterPass_canonical {i : Nat} {s : Scan} {go : Bool} {p : Piece} (h : p.Canonical) : (afterPass i s go p).Canonical := by
  unfold afterPass
  split
  · exact canonical_ite (finishWaiting_canonical (recordScan_canonical (promoteScan_canonical (beginScan_canonical h))))
      (promoteScan_canonical (beginScan_canonical h))
  · exact canonical_ite (onUnit_canonical h) (onUnit_canonical h)

theorem execCheckScanPassDone_canonical {unit : Fin 8} {answer : Answer} {s : State} (h : s.piece.Canonical) :
    (execCheckScanPassDone unit answer s).Canonical := by
  unfold execCheckScanPassDone
  refine effect_canonical (fun _ h1 => ?_) h
  dsimp only
  split
  · refine when_canonical (fun _ h2 => ?_) h1
    split
    · exact afterPass_canonical (finishWaiting_canonical (recordScan_canonical h2))
    · exact afterPass_canonical (finishWaiting_canonical h2)
  · exact h1

theorem execCheckPeriodicStart_canonical {unit : Fin 8} {s : State} (h : s.piece.Canonical) :
    (execCheckPeriodicStart unit s).Canonical := by
  unfold execCheckPeriodicStart
  refine effect_canonical (fun _ h1 => ?_) h
  dsimp only
  split
  · exact when_canonical (fun _ h2 => onUnit_canonical h2) h1
  · exact h1

/-! ### Device DRAM over XFORM -/

theorem onXform_canonical {i : Nat} {f : Xform → Xform} {p : Piece} (h : p.Canonical) : (onXform i f p).Canonical := h

theorem onDensityCh_canonical {i : Nat} {f : DensityChannel → DensityChannel} {p : Piece} (h : p.Canonical) :
    (onDensityCh i f p).Canonical :=
  h

theorem onTally_canonical {f : Tally → Tally} {p : Piece} (h : p.Canonical) : (onTally f p).Canonical := h

theorem newGrid_canonical {i : Nat} {p : Piece} (h : p.Canonical) : (newGrid i p).Canonical :=
  onTally_canonical (canonical_foldl (fun _ _ h1 => onDensityCh_canonical h1) h)

theorem routeItem_canonical {i route : Nat} {item : SpectrumItem} {p : Piece} (h : p.Canonical) :
    (routeItem i route item p).Canonical :=
  when_canonical (fun _ h1 => onTally_canonical h1) (when_canonical (fun _ h1 => onDensityCh_canonical h1) h)

theorem sendExport_canonical {i : Nat} {x : Xform} {record : Bytes} {p : Piece} (h : p.Canonical) :
    (sendExport i x record p).Canonical :=
  sendStream_canonical h

theorem compareMask_canonical {i : Nat} {item : SpectrumItem} {time : T16} {p : Piece} (h : p.Canonical) :
    (compareMask i item time p).Canonical :=
  onTrigger_canonical (swapMask_canonical h)

theorem onDetector_canonical {i n : Nat} {f : Detector → Detector} {p : Piece} (h : p.Canonical) :
    (onDetector i n f p).Canonical :=
  onXform_canonical h

theorem issueGroup_canonical {i n : Nat} {p : Piece} (h : p.Canonical) : (issueGroup i n p).Canonical := by
  unfold issueGroup
  refine canonical_ite h ?_
  split
  next _ _ _ he =>
    exact when_canonical (fun _ h1 => sendExport_canonical h1) (routeItem_canonical
      (when_canonical (fun _ h1 => compareMask_canonical h1) (onDetector_canonical (canonical_fst he (draw_canonical h)))))

theorem issueGroups_canonical {i : Nat} {p : Piece} (h : p.Canonical) : (issueGroups i p).Canonical :=
  canonical_foldl (fun _ _ h1 => issueGroup_canonical h1) h

theorem setDetector_canonical {i n : Nat} {s : DetectorSetting} {p : Piece} (h : p.Canonical) : (setDetector i n s p).Canonical :=
  finishWaiting_canonical (onDetector_canonical (issueGroup_canonical h))

theorem applyDetector_canonical {i n : Nat} {last : T16} {p : Piece} (h : p.Canonical) : (applyDetector i n last p).Canonical :=
  canonical_foldl (fun _ _ h1 => setDetector_canonical h1) (onDetector_canonical h)

theorem applyDetectors_canonical {i : Nat} {last : T16} {p : Piece} (h : p.Canonical) : (applyDetectors i last p).Canonical :=
  canonical_foldl (fun _ _ h1 => applyDetector_canonical h1) h

theorem feedDetector_canonical {i n : Nat} {item : SpectrumItem} {time : T16} {ps : List Rat} {p : Piece} (h : p.Canonical) :
    (feedDetector i n item time ps p).Canonical :=
  canonical_ite h (when_canonical (fun _ h1 => issueGroup_canonical h1) (onDetector_canonical h))

theorem settleMask_canonical {i : Nat} {p : Piece} (h : p.Canonical) : (settleMask i p).Canonical :=
  when_canonical (fun _ h1 => swapMask_canonical h1) h

theorem beginGrid_canonical {i : Nat} {change : Xform → Xform} {p : Piece} (h : p.Canonical) : (beginGrid i change p).Canonical :=
  settleMask_canonical (newGrid_canonical (onXform_canonical (issueGroups_canonical h)))

theorem restartFor_canonical {i : Nat} {r : T16} {s : XformSetting} {p : Piece} (h : p.Canonical) :
    (restartFor i r s p).Canonical :=
  finishWaiting_canonical (beginGrid_canonical h)

theorem restartInput_canonical {i : Nat} {input : XInput} {start : T16} {samples : List XSample} {p : Piece} (h : p.Canonical) :
    (restartInput i input start samples p).Canonical :=
  beginGrid_canonical h

theorem restartGrid_canonical {i : Nat} {p : Piece} (h : p.Canonical) : (restartGrid i p).Canonical := by
  unfold restartGrid
  dsimp only
  split
  · exact canonical_ite h (restartFor_canonical h)
  · exact canonical_ite (canonical_ite h (restartFor_canonical h)) (canonical_ite h (restartInput_canonical h))
  · exact canonical_ite h (restartInput_canonical h)
  · exact h

theorem execXformGridRestart_canonical {engine : Fin 4} {s : State} (h : s.piece.Canonical) :
    (execXformGridRestart engine s).Canonical :=
  inIsland_canonical (fun _ h1 => restartGrid_canonical h1) h

theorem openGrid_canonical {i : Nat} {input : XInput} {start : T16} {samples : List XSample} {t : T16} {p : Piece}
    (h : p.Canonical) : (openGrid i input start samples t p).Canonical :=
  canonical_ite (onXform_canonical h) (finishAllWaiting_canonical (when_canonical (fun _ h1 => newGrid_canonical h1)
    (onXform_canonical h)))

theorem feedGrid_canonical {i : Nat} {input : XInput} {start : T16} {samples : List XSample} {p : Piece} (h : p.Canonical) :
    (feedGrid i input start samples p).Canonical := by
  unfold feedGrid
  dsimp only
  split
  · exact openGrid_canonical h
  · exact canonical_ite (onXform_canonical h) (onXform_canonical h)
  · exact canonical_ite (onXform_canonical h) (onXform_canonical h)

theorem feedXform_canonical {i : Nat} {input : XInput} {start : T16} {samples : List XSample} {p : Piece} (h : p.Canonical) :
    (feedXform i input start samples p).Canonical :=
  canonical_ite h (feedGrid_canonical (when_canonical (fun _ h1 => onXform_canonical h1) h))

theorem followGrid_canonical {i : Nat} {g : NextGrid} {rest : List NextGrid} {p : Piece} (h : p.Canonical) :
    (followGrid i g rest p).Canonical :=
  canonical_foldl (fun _ _ h1 => feedXform_canonical h1) (settleMask_canonical (onXform_canonical h))

theorem endGrid_canonical {i : Nat} {p : Piece} (h : p.Canonical) : (endGrid i p).Canonical := by
  have hwords : ∀ f : List Nat → List Nat, (finishAllWaiting .xformEnd (gridKey i ((issueGroups i p).engine i)) stOk f
      (finishAllWaiting .xformGrid (gridKey i ((issueGroups i p).engine i)) stOk f (issueGroups i p))).Canonical := fun _ =>
    finishAllWaiting_canonical (finishAllWaiting_canonical (issueGroups_canonical h))
  unfold endGrid
  dsimp only
  split
  · exact followGrid_canonical (hwords _)
  · exact settleMask_canonical (onXform_canonical (hwords _))

theorem endIfDue_canonical {i : Nat} {p : Piece} (h : p.Canonical) : (endIfDue i p).Canonical := by
  unfold endIfDue
  dsimp only
  split
  · exact when_canonical (fun _ h1 => endGrid_canonical h1) h
  · exact h

theorem doFrame_canonical {i : Nat} {p : Piece} (h : p.Canonical) : (doFrame i p).Canonical :=
  onXform_canonical (canonical_foldl (fun _ _ h1 => feedDetector_canonical h1) (routeItem_canonical
    (when_canonical (fun _ h1 => compareMask_canonical h1) (when_canonical (fun _ h1 => sendExport_canonical h1)
      (draw_canonical (applyDetectors_canonical h))))))

theorem execTransformFrame_canonical {engine : Fin 4} {s : State} (h : s.piece.Canonical) :
    (execTransformFrame engine s).Canonical :=
  inIsland_canonical (fun _ h1 => canonical_ite (endIfDue_canonical (doFrame_canonical (restartGrid_canonical h1)))
    (endIfDue_canonical (restartGrid_canonical h1))) h

theorem actXform_canonical {fl : Flight} {ans : Answer} {p : Piece} (h : p.Canonical) : (actXform fl ans p).1.Canonical := by
  unfold actXform
  refine simple_canonical (fun _ _ h1 => guarded_canonical h1 (canonical_fst_ite ?_ (canonical_fst_ite ?_ ?_))) h
  · refine canonical_fst_ite (canonical_ite (onXform_canonical h1) (settleMask_canonical (onXform_canonical h1)))
      (canonical_fst_ite ?_ (onXform_canonical h1))
    dsimp only
    exact endGrid_canonical (onXform_canonical h1)
  · exact canonical_fst_ite (onXform_canonical h1) (settleMask_canonical (onXform_canonical h1))
  · exact canonical_fst_ite (settleMask_canonical (onXform_canonical h1))
      (canonical_fst_ite (onXform_canonical h1) (settleMask_canonical (onXform_canonical h1)))

theorem execXformConfigure_canonical {c : Cmd} {s : State} (h : s.piece.Canonical) : (execXformConfigure c s).Canonical :=
  effect_canonical (fun _ h1 => runCommand_canonical (fun _ _ _ h2 => actXform_canonical h2) h1) h

theorem actWindowLoad_canonical {fl : Flight} {ans : Answer} {p : Piece} (h : p.Canonical) :
    (actWindowLoad fl ans p).1.Canonical :=
  guarded_canonical h (withTable_canonical h (fun _ => canonical_fst_ite h (onXform_canonical h)))

theorem execXformWindowLoad_canonical {c : Cmd} {s : State} (h : s.piece.Canonical) : (execXformWindowLoad c s).Canonical :=
  effect_canonical (fun _ h1 => runCommand_canonical (fun _ _ _ h2 => actWindowLoad_canonical h2) h1) h

theorem actDetector_canonical {fl : Flight} {ans : Answer} {p : Piece} (h : p.Canonical) : (actDetector fl ans p).1.Canonical :=
  simple_canonical (fun _ _ h1 => guarded_canonical h1 (canonical_fst_ite (onDetector_canonical h1) (setDetector_canonical h1))) h

theorem execDetectorSet_canonical {c : Cmd} {s : State} (h : s.piece.Canonical) : (execDetectorSet c s).Canonical :=
  effect_canonical (fun _ h1 => runCommand_canonical (fun _ _ _ h2 => actDetector_canonical h2) h1) h

/-! ### Device DRAM over CHAN -/

theorem emitCrossing_canonical {i : Nat} {x b : XingSample} {rising cal : Bool} {p : Piece} (h : p.Canonical) :
    (emitCrossing i x b rising cal p).Canonical :=
  canonical_ite (markSource_canonical (onChan_canonical h)) (canonical_ite (onChan_canonical h)
    (pushSource_canonical (onChan_canonical h)))

theorem xingSample_canonical {i : Nat} {b : XingSample} {cal : Bool} {p : Piece} (h : p.Canonical) :
    (xingSample i b cal p).1.Canonical := by
  unfold xingSample
  dsimp only
  refine onChan_canonical ?_
  rcases (p.chanOf i).last with _ | a
  · exact h
  · dsimp only
    rcases crossing (p.chanOf i) a.y b.y with _ | r
    · exact h
    · exact canonical_fst_ite (emitCrossing_canonical (onChan_canonical h)) (onChan_canonical h)

theorem setXing_canonical {i : Nat} {x : Xing} {p : Piece} (h : p.Canonical) : (setXing i x p).Canonical :=
  when_canonical (fun _ h1 => loseSource_canonical h1) (when_canonical (fun _ h1 => markSource_canonical h1) (onChan_canonical h))

theorem applyXings_canonical {i k : Nat} {p : Piece} (h : p.Canonical) : (applyXings i k p).Canonical := by
  induction k generalizing p with
  | zero => exact h
  | succ k ih =>
    unfold applyXings
    split
    · exact canonical_ite (ih (setXing_canonical (onChan_canonical h))) h
    · exact h

theorem execXingSettingApply_canonical {chan : Fin 4} {s : State} (h : s.piece.Canonical) :
    (execXingSettingApply chan s).Canonical :=
  inIsland_canonical (fun _ h1 => applyXings_canonical h1) h

theorem xingBlock_canonical {i n : Nat} {xs : List XingSample} {cal : Bool} {p : Piece} (h : p.Canonical) :
    (xingBlock i n xs cal p).Canonical :=
  canonical_ite (canonical_fst_foldl (fun _ _ h1 => xingSample_canonical h1) h) h

theorem ddcLost_canonical {i n : Nat} {p : Piece} (h : p.Canonical) : (ddcLost i n p).Canonical :=
  when_canonical (fun _ h1 => loseSource_canonical h1) (when_canonical (fun _ h1 => onChan_canonical h1) (streamLost_canonical h))

theorem stopDdc_canonical {i n : Nat} {p : Piece} (h : p.Canonical) : (stopDdc i n p).Canonical :=
  when_canonical (fun _ h1 => ddcLost_canonical h1) (onDdc_canonical h)

theorem startDdc_canonical {i n : Nat} {s : DdcSetting} {start : T16} {p : Piece} (h : p.Canonical) :
    (startDdc i n s start p).Canonical :=
  onDdc_canonical h

theorem shapeDdc_canonical {i n : Nat} {s : DdcSetting} {p : Piece} (h : p.Canonical) : (shapeDdc i n s p).Canonical :=
  when_canonical (fun _ h1 => streamLost_canonical h1) (onDdc_canonical h)

theorem swapIfDue_canonical {i n : Nat} {p : Piece} (h : p.Canonical) : (swapIfDue i n p).Canonical := by
  unfold swapIfDue
  split
  · exact when_canonical (fun _ h1 => onDdc_canonical h1) h
  · exact h

theorem applyDdc_canonical {i n : Nat} {c : DdcChange} {p : Piece} (h : p.Canonical) : (applyDdc i n c p).Canonical := by
  unfold applyDdc
  split
  · exact startDdc_canonical h
  · exact onDdc_canonical h
  · exact shapeDdc_canonical (swapIfDue_canonical h)
  · exact stopDdc_canonical h

theorem applyDdcs_canonical {i n k : Nat} {p : Piece} (h : p.Canonical) : (applyDdcs i n k p).Canonical := by
  induction k generalizing p with
  | zero => exact h
  | succ k ih =>
    unfold applyDdcs
    split
    · exact ih (applyDdc_canonical (onDdc_canonical h))
    · exact h

theorem execDdcChangeApply_canonical {chan : Fin 4} {ddc : Fin 8} {s : State} (h : s.piece.Canonical) :
    (execDdcChangeApply chan ddc s).Canonical :=
  inIsland_canonical (fun _ h1 => applyDdcs_canonical h1) h

theorem execCoefficientSwap_canonical {chan : Fin 4} {ddc : Fin 8} {s : State} (h : s.piece.Canonical) :
    (execCoefficientSwap chan ddc s).Canonical :=
  inIsland_canonical (fun _ h1 => swapIfDue_canonical h1) h

theorem mixBlock_canonical {i n : Nat} {codes : List Int} {reason firstValid : Nat} {ends : Option T16} {hand cal : Bool}
    {p : Piece} (h : p.Canonical) : (mixBlock i n codes reason firstValid ends hand cal p).Canonical :=
  canonical_ite (applyDdcs_canonical h) (onDdc_canonical (applyDdcs_canonical h))

theorem doDdcBlock_canonical {i n : Nat} {p : Piece} (h : p.Canonical) : (doDdcBlock i n p).Canonical :=
  when_canonical (fun _ h2 => feedXform_canonical h2) (when_canonical (fun _ h2 => sendStream_canonical h2)
    (when_canonical (fun _ h2 => feedTrigger_canonical h2) (when_canonical (fun _ h2 => feedAcq_canonical h2)
      (xingBlock_canonical (onChan_canonical (onDdc_canonical h))))))

theorem execDdcBlock_canonical {chan : Fin 4} {ddc : Fin 8} {s : State} (h : s.piece.Canonical) :
    (execDdcBlock chan ddc s).Canonical :=
  inIsland_canonical (fun _ h1 => when_canonical (fun _ h2 => doDdcBlock_canonical h2)
    (applyXings_canonical (applyDdcs_canonical (when_canonical (fun _ h2 => swapIfDue_canonical h2)
    (applyCellsDue_canonical h1))))) h

theorem stageDdc_canonical {i n tick : Nat} {r : Bytes} {p : Piece} (h : p.Canonical) : (stageDdc i n tick r p).Canonical := by
  unfold stageDdc
  split
  · dsimp only
    split
    · exact onDdc_canonical h
    · exact when_canonical (fun _ h1 => onDdc_canonical h1) (when_canonical (fun _ h1 => onDdc_canonical h1) h)
    · exact onDdc_canonical h
    · exact onDdc_canonical h

theorem setRoutes_canonical {i raw src : Nat} {p : Piece} (h : p.Canonical) : (setRoutes i raw src p).Canonical :=
  when_canonical (fun _ h1 => streamLost_canonical h1) (onChan_canonical h)

theorem applyRoutes_canonical {i : Nat} {start : T16} {p : Piece} (h : p.Canonical) : (applyRoutes i start p).Canonical :=
  canonical_foldl (fun _ _ h1 => setRoutes_canonical h1) (onChan_canonical h)

theorem stageChan_canonical {b : Bytes} {p : Piece} (h : p.Canonical) : (stageChan b p).Canonical :=
  when_canonical (fun _ h1 => applyXings_canonical (onChan_canonical h1))
    (when_canonical (fun _ h1 => canonical_ite (setRoutes_canonical h1) (onChan_canonical h1))
    (canonical_foldl (fun _ _ h1 => stageDdc_canonical h1) h))

theorem actChan_canonical {fl : Flight} {ans : Answer} {p : Piece} (h : p.Canonical) : (actChan fl ans p).1.Canonical :=
  simple_canonical (fun _ _ h1 => guarded_canonical h1 (canonical_fst_ite (stageChan_canonical h1) (stageChan_canonical h1))) h

theorem execChanConfigure_canonical {c : Cmd} {s : State} (h : s.piece.Canonical) : (execChanConfigure c s).Canonical :=
  effect_canonical (fun _ h1 => runCommand_canonical (fun _ _ _ h2 => actChan_canonical h2) h1) h

theorem actFilterLoad_canonical {fl : Flight} {ans : Answer} {p : Piece} (h : p.Canonical) :
    (actFilterLoad fl ans p).1.Canonical :=
  guarded_canonical h (withTable_canonical h (fun _ => canonical_fst_ite h
    (canonical_fst_ite (onDdc_canonical h) (onDdc_canonical h))))

theorem execChanFilterLoad_canonical {c : Cmd} {s : State} (h : s.piece.Canonical) : (execChanFilterLoad c s).Canonical :=
  effect_canonical (fun _ h1 => runCommand_canonical (fun _ _ _ h2 => actFilterLoad_canonical h2) h1) h

/-! ### Device DRAM over RFIN -/

theorem endChan_canonical {i : Nat} {p : Piece} (h : p.Canonical) : (endChan i p).Canonical :=
  streamLost_canonical (canonical_foldl (fun _ _ h1 => onDdc_canonical (stopDdc_canonical h1)) h)

theorem changePairing_canonical {i : Nat} {on : Bool} {t : T16} {p : Piece} (h : p.Canonical) :
    (changePairing i on t p).Canonical :=
  onRfin_canonical (onRfin_canonical (onRfin_canonical (endChan_canonical (endChan_canonical h))))

theorem changeFront_canonical {i : Nat} {c : FrontChange} {t : T16} {p : Piece} (h : p.Canonical) :
    (changeFront i c t p).Canonical :=
  onRfin_canonical (when_canonical (fun _ h1 => onRfin_canonical h1) (when_canonical (fun _ h1 => onRfin_canonical h1)
    (when_canonical (fun _ h1 => onRfin_canonical h1) (when_canonical (fun _ h1 => changePairing_canonical h1) h))))

theorem applyFront_canonical {i k : Nat} {p : Piece} (h : p.Canonical) : (applyFront i k p).Canonical := by
  induction k generalizing p with
  | zero => exact h
  | succ k ih =>
    unfold applyFront
    dsimp only
    split
    · exact canonical_ite h (ih (finishWaiting_canonical (changeFront_canonical (onRfin_canonical h))))
    · exact h

theorem execFrontEndChangeApply_canonical {input : Fin 4} {s : State} (h : s.piece.Canonical) :
    (execFrontEndChangeApply input s).Canonical :=
  inIsland_canonical (fun _ h1 => applyFront_canonical h1) h

theorem takeOverOne_canonical {i : Nat} {start : T16} {p : Piece} {fault : Nat × Nat} (h : p.Canonical) :
    (takeOverOne i start p fault).Canonical :=
  when_canonical (fun _ h1 => onRfin_canonical h1) h

theorem takeOver_canonical {i : Nat} {p : Piece} (h : p.Canonical) : (takeOver i p).Canonical :=
  canonical_foldl (fun _ _ h1 => takeOverOne_canonical h1) h

theorem execSliceTakeover_canonical {input : Fin 4} {s : State} (h : s.piece.Canonical) : (execSliceTakeover input s).Canonical :=
  inIsland_canonical (fun _ h1 => takeOver_canonical h1) h

theorem failSlice_canonical {i slice : Nat} {p : Piece} (h : p.Canonical) : (failSlice i slice p).Canonical :=
  when_canonical (fun _ h1 => onRfin_canonical h1) (when_canonical (fun _ h1 => onRfin_canonical h1) h)

theorem execSliceFault_canonical {input : Fin 4} {slice : Fin 3} {s : State} (h : s.piece.Canonical) :
    (execSliceFault input slice s).Canonical :=
  inIsland_canonical (fun _ h1 => when_canonical (fun _ h2 => detectError_canonical
    (raiseAlarm_canonical (failSlice_canonical h2))) h1) h

theorem setTrim_canonical {i slice phase : Nat} {t : SliceTrim} {p : Piece} (h : p.Canonical) :
    (setTrim i slice phase t p).Canonical :=
  when_canonical (fun _ h1 => onRfin_canonical h1) h

theorem execSliceHandover_canonical {input : Fin 4} {residuals : SliceTrim} {s : State} {trim : optParam SliceTrim default}
    (h : s.piece.Canonical) : (execSliceHandover input residuals s trim).Canonical := by
  unfold execSliceHandover
  refine inIsland_canonical (fun _ h1 => ?_) h
  dsimp only
  split
  · exact when_canonical (fun _ h2 => when_canonical (fun _ h3 => onCal_canonical h3) (onRfin_canonical (setTrim_canonical h2)))
      h1
  · exact h1

theorem execHandoverAbandon_canonical {input : Fin 4} {s : State} (h : s.piece.Canonical) :
    (execHandoverAbandon input s).Canonical := by
  unfold execHandoverAbandon
  refine inIsland_canonical (fun _ h1 => ?_) h
  dsimp only
  split
  · exact when_canonical (fun _ h2 => detectError_canonical (onRfin_canonical h2)) h1
  · exact h1

theorem execSliceRotationStart_canonical {input : Fin 4} {s : State} (h : s.piece.Canonical) :
    (execSliceRotationStart input s).Canonical :=
  effect_canonical (fun _ h1 => when_canonical (fun _ h2 => onRfin_canonical h2) h1) h

theorem execSliceAwayEnd_canonical {input : Fin 4} {s : State} {trim : optParam SliceTrim default} (h : s.piece.Canonical) :
    (execSliceAwayEnd input s trim).Canonical := by
  unfold execSliceAwayEnd
  refine effect_canonical (fun _ h1 => ?_) h
  split
  · exact when_canonical (fun _ h2 => onRfin_canonical (setTrim_canonical h2)) h1
  · exact h1

theorem calTone_canonical {i : Nat} {p : Piece} (h : p.Canonical) : (calTone i p).Canonical := by
  unfold calTone
  dsimp only
  split
  · exact when_canonical (fun _ h1 => onRfin_canonical h1) h
  · exact when_canonical (fun _ h1 => onRfin_canonical h1) h

theorem feedChan_canonical {j : Nat} {codes : List Int} {b : AcqBlock} {reason : Nat} {ends : Option T16} {paired : Bool}
    {p : Piece} (h : p.Canonical) : (feedChan j codes b reason ends paired p).Canonical :=
  canonical_foldl (fun _ _ h1 => mixBlock_canonical h1) (when_canonical (fun _ h1 => feedXform_canonical h1)
    (when_canonical (fun _ h1 => sendStream_canonical h1) (feedTrigger_canonical
    (when_canonical (fun _ h1 => feedAcq_canonical h1) (applyRoutes_canonical h)))))

theorem doSampleBlock_canonical {i : Nat} {codes : List Int} {p : Piece} (h : p.Canonical) :
    (doSampleBlock i codes p).Canonical :=
  when_canonical (fun _ h1 => onRfin_canonical h1) (onRfin_canonical (canonical_foldl (fun _ _ h1 => feedChan_canonical h1) h))

theorem execSampleBlock_canonical {input : Fin 4} {codes : List Int} {s : State} (h : s.piece.Canonical) :
    (execSampleBlock input codes s).Canonical :=
  inIslandIf_canonical (fun _ h1 => when_canonical (fun _ h2 => doSampleBlock_canonical h2)
    (when_canonical (fun _ h2 => takeOver_canonical h2) (calTone_canonical
    (takeOver_canonical (applyFront_canonical (applyCellsDue_canonical h1)))))) h

theorem startConverters_canonical {p : Piece} (h : p.Canonical) : (startConverters p).Canonical := h

theorem failConverters_canonical {p : Piece} (h : p.Canonical) : (failConverters p).Canonical := h

theorem stageFront_canonical {i : Nat} {front : FrontEnd} {paired : Bool} {p : Piece} (h : p.Canonical) :
    (stageFront i front paired p).1.Canonical :=
  canonical_fst_ite (changeFront_canonical h) (onRfin_canonical h)

theorem actRfin_canonical {fl : Flight} {ans : Answer} {p : Piece} (h : p.Canonical) : (actRfin fl ans p).1.Canonical :=
  simple_canonical (fun _ _ h1 => guarded_canonical h1 (stageFront_canonical h1)) h

theorem execRfinConfigure_canonical {c : Cmd} {s : State} (h : s.piece.Canonical) : (execRfinConfigure c s).Canonical :=
  effect_canonical (fun _ h1 => runCommand_canonical (fun _ _ _ h2 => actRfin_canonical h2) h1) h

theorem actSource_canonical {fl : Flight} {ans : Answer} {p : Piece} (h : p.Canonical) : (actSource fl ans p).1.Canonical :=
  simple_canonical (fun _ _ h1 => guarded_canonical h1 (stageFront_canonical h1)) h

theorem execRfinSelectSource_canonical {c : Cmd} {s : State} (h : s.piece.Canonical) : (execRfinSelectSource c s).Canonical :=
  effect_canonical (fun _ h1 => runCommand_canonical (fun _ _ _ h2 => actSource_canonical h2) h1) h

/-! ### Device DRAM over the counter -/

theorem orderStamp_canonical {s : Stamp} {p : Piece} (h : p.Canonical) : (orderStamp s p).Canonical := mapSlots_canonical h

theorem execOrderingRelease_canonical {slot : Fin 32} {s : State} (h : s.piece.Canonical) :
    (execOrderingRelease slot s).Canonical := by
  unfold execOrderingRelease
  refine inIsland_canonical (fun _ h1 => ?_) h
  dsimp only
  split
  · exact when_canonical (fun _ h2 => onSlot_canonical h2) h1
  · exact h1

theorem countLost_canonical {slot : Nat} {p : Piece} (h : p.Canonical) : (countLost slot p).Canonical :=
  h

theorem pushRecord_canonical {slot : Nat} {bytes : Bytes} {stats : Bool} {p : Piece} (h : p.Canonical) :
    (pushRecord slot bytes stats p).Canonical :=
  canonical_ite (countLost_canonical h) h

theorem pushStats_canonical {slot : Nat} {p : Piece} (h : p.Canonical) : (pushStats slot p).Canonical :=
  canonical_ite h (onSlot_canonical (pushRecord_canonical h))

theorem recordGate_canonical {slot : Nat} {g : Gate} {truncated : Bool} {loss : Nat} {p : Piece} (h : p.Canonical) :
    (recordGate slot g truncated loss p).Canonical :=
  when_canonical (fun _ h1 => pushStats_canonical h1) (onSlot_canonical (pushRecord_canonical h))

theorem settleStops_canonical {p : Piece} (h : p.Canonical) : (settleStops p).Canonical :=
  canonical_foldl (fun _ _ h1 => finishWaiting_canonical h1) h

theorem stopSlot_canonical {slot cause : Nat} {p : Piece} (h : p.Canonical) : (stopSlot slot cause p).Canonical :=
  settleStops_canonical (when_canonical (fun _ h1 => h1) (when_canonical (fun _ h1 => pushStats_canonical h1)
    (onSlot_canonical h)))

theorem closeOldest_canonical {slot : Nat} {truncated : Bool} {loss : Nat} {p : Piece} (h : p.Canonical) :
    (closeOldest slot truncated loss p).Canonical := by
  unfold closeOldest
  split
  · exact h
  · exact onSlot_canonical (recordGate_canonical h)

theorem afterClose_canonical {slot seq : Nat} {p : Piece} (h : p.Canonical) : (afterClose slot seq p).Canonical :=
  when_canonical (fun _ h1 => stopSlot_canonical h1) h

theorem closeAtEnd_canonical {slot tick cause loss : Nat} {p : Piece} (h : p.Canonical) :
    (closeAtEnd slot tick cause loss p).Canonical :=
  stopSlot_canonical (canonical_foldl (fun _ _ h1 => canonical_ite h1 (canonical_ite (recordGate_canonical h1)
    (recordGate_canonical h1))) (onSlot_canonical (onSlot_canonical h)))

theorem execGateClose_canonical {slot : Fin 32} {s : State} (h : s.piece.Canonical) : (execGateClose slot s).Canonical := by
  unfold execGateClose
  refine inIsland_canonical (fun _ h1 => ?_) h
  refine canonical_ite h1 (canonical_ite (afterClose_canonical (closeOldest_canonical (onSlot_canonical h1))) ?_)
  split
  · exact when_canonical (fun _ h2 => closeAtEnd_canonical h2) h1
  · exact h1

theorem dropLate_canonical {p : Piece} (h : p.Canonical) : (dropLate p).Canonical :=
  canonical_foldl (fun _ _ h1 => countLost_canonical h1) h

theorem issueRecord_canonical {r : CountRecord} {p : Piece} (h : p.Canonical) : (issueRecord r p).Canonical :=
  when_canonical (fun _ h1 => h1) (when_canonical (fun _ h1 => h1) (onSlot_canonical h))

theorem execResultIssue_canonical {s : State} (h : s.piece.Canonical) : (execResultIssue s).Canonical := by
  unfold execResultIssue
  refine inIsland_canonical (fun _ h1 => ?_) h
  dsimp only
  split
  · exact when_canonical (fun _ h2 => issueRecord_canonical h2) (dropLate_canonical h1)
  · exact dropLate_canonical h1

theorem loadFirmwareKernels_canonical {p : Piece} (h : p.Canonical) : (loadFirmwareKernels p).Canonical := h

theorem actCountStart_canonical {fl : Flight} {ans : Answer} {p : Piece} (h : p.Canonical) :
    (actCountStart fl ans p).1.Canonical :=
  simple_canonical (fun _ _ h1 => guarded_canonical h1 (onSlot_canonical (loadFirmwareKernels_canonical h1))) h

theorem execCountStart_canonical {c : Cmd} {s : State} (h : s.piece.Canonical) : (execCountStart c s).Canonical :=
  effect_canonical (fun _ h1 => runCommand_canonical (fun _ _ _ h2 => actCountStart_canonical h2) h1) h

theorem execCountStartApply_canonical {slot : Fin 32} {s : State} (h : s.piece.Canonical) :
    (execCountStartApply slot s).Canonical := by
  unfold execCountStartApply
  refine inIsland_canonical (fun _ h1 => ?_) h
  dsimp only
  split
  · exact when_canonical (fun _ h2 => finishWaiting_canonical (onSlot_canonical h2)) h1
  · exact h1

theorem actCountStop_canonical {fl : Flight} {ans : Answer} {p : Piece} (h : p.Canonical) : (actCountStop fl ans p).1.Canonical :=
  simple_canonical (fun _ _ h1 => guarded_canonical h1 (canonical_fst_ite h1 h1)) h

theorem execCountStop_canonical {c : Cmd} {s : State} (h : s.piece.Canonical) : (execCountStop c s).Canonical :=
  effect_canonical (fun _ h1 => runCommand_canonical (fun _ _ _ h2 => actCountStop_canonical h2) h1) h

theorem actCountRead_canonical {fl : Flight} {ans : Answer} {p : Piece} (h : p.Canonical) :
    (actCountRead fl ans p).1.Canonical := by
  unfold actCountRead
  refine simple_canonical (fun _ _ h1 => ?_) h
  refine guarded_canonical h1 (canonical_fst_ite h1 ?_)
  split
  next _ _ he => exact canonical_fst he (pieceWrite_canonical h1)
  next _ _ _ _ he => exact canonical_fst he (pieceWrite_canonical h1)

theorem execCountRead_canonical {c : Cmd} {s : State} (h : s.piece.Canonical) : (execCountRead c s).Canonical :=
  effect_canonical (fun _ h1 => runCommand_canonical (fun _ _ _ h2 => actCountRead_canonical h2) h1) h

theorem actTiWindow_canonical {fl : Flight} {ans : Answer} {p : Piece} (h : p.Canonical) : (actTiWindow fl ans p).1.Canonical :=
  simple_canonical (fun _ _ h1 => guarded_canonical h1 (onSlot_canonical h1)) h

theorem execTiWindowSet_canonical {c : Cmd} {s : State} (h : s.piece.Canonical) : (execTiWindowSet c s).Canonical :=
  effect_canonical (fun _ h1 => runCommand_canonical (fun _ _ _ h2 => actTiWindow_canonical h2) h1) h

/-! ### Device DRAM over DENSITY -/

theorem acceptRow_canonical {i : Nat} {item : SpectrumItem} {p : Piece} (h : p.Canonical) : (acceptRow i item p).Canonical :=
  canonical_ite h (canonical_ite (onDensityCh_canonical h) (canonical_ite (onDensityCh_canonical (onDensityCh_canonical h))
    (onDensityCh_canonical (dramWrite_canonical (onDensityCh_canonical h)))))

theorem execDensitySnapshotCut_canonical {channel : Fin 4} {s : State} (h : s.piece.Canonical) :
    (execDensitySnapshotCut channel s).Canonical :=
  inIsland_canonical (fun _ h1 => onDensityCh_canonical h1) h

theorem execDensityItemAccept_canonical {channel : Fin 4} {s : State} (h : s.piece.Canonical) :
    (execDensityItemAccept channel s).Canonical := by
  unfold execDensityItemAccept
  refine inIsland_canonical (fun _ h1 => ?_) h
  dsimp only
  split
  · exact h1
  · exact canonical_ite (onDensityCh_canonical h1) (canonical_ite (onDensityCh_canonical (onDensityCh_canonical h1))
      (when_canonical (fun _ h2 => acceptRow_canonical h2) (acceptRow_canonical
      (onDensityCh_canonical (onDensityCh_canonical h1)))))

theorem execDensityReadoutDone_canonical {channel : Fin 4} {refusedAt : Option Nat} {s : State} (h : s.piece.Canonical) :
    (execDensityReadoutDone channel refusedAt s).Canonical := by
  unfold execDensityReadoutDone
  refine effect_canonical (fun _ h1 => ?_) h
  dsimp only
  split
  · exact finishWaiting_canonical (onDensityCh_canonical (readoutWrite_canonical (onDensityCh_canonical h1)))
  · exact onDensityCh_canonical h1

theorem actDensity_canonical {fl : Flight} {ans : Answer} {p : Piece} (h : p.Canonical) : (actDensity fl ans p).1.Canonical :=
  simple_canonical (fun _ _ h1 => guarded_canonical h1 (canonical_ite (onDensityCh_canonical (onDensityCh_canonical h1))
    (when_canonical (fun _ h2 => onDensityCh_canonical h2) (onDensityCh_canonical h1)))) h

theorem execDensityConfigure_canonical {c : Cmd} {s : State} (h : s.piece.Canonical) : (execDensityConfigure c s).Canonical :=
  effect_canonical (fun _ h1 => runCommand_canonical (fun _ _ _ h2 => actDensity_canonical h2) h1) h

theorem actDensitySnapshot_canonical {fl : Flight} {ans : Answer} {p : Piece} (h : p.Canonical) :
    (actDensitySnapshot fl ans p).1.Canonical :=
  simple_canonical (fun _ _ h1 => guarded_canonical h1 (onDensityCh_canonical h1)) h

theorem execDensitySnapshot_canonical {c : Cmd} {s : State} (h : s.piece.Canonical) : (execDensitySnapshot c s).Canonical :=
  effect_canonical (fun _ h1 => runCommand_canonical (fun _ _ _ h2 => actDensitySnapshot_canonical h2) h1) h

theorem actSpectrogram_canonical {fl : Flight} {ans : Answer} {p : Piece} (h : p.Canonical) :
    (actSpectrogram fl ans p).1.Canonical :=
  simple_canonical (fun _ _ h1 => guarded_canonical h1 (canonical_fst_ite (onDensityCh_canonical h1)
    (canonical_fst_ite (onDensityCh_canonical h1) (onDensityCh_canonical h1)))) h

theorem execSpectrogramConfigure_canonical {c : Cmd} {s : State} (h : s.piece.Canonical) :
    (execSpectrogramConfigure c s).Canonical :=
  effect_canonical (fun _ h1 => runCommand_canonical (fun _ _ _ h2 => actSpectrogram_canonical h2) h1) h

/-! ### Device DRAM over DMC -/

theorem onDmc_canonical {f : Dmc → Dmc} {p : Piece} (hf : (f p.dmc).dram = p.dmc.dram) (h : p.Canonical) : (onDmc f p).Canonical :=
  canonical_of_dram h hf

theorem startDump_canonical {cause code : Nat} {p : Piece} (h : p.Canonical) : (startDump cause code p).Canonical :=
  canonical_ite h (canonical_ite h h)

theorem freezeDmc_canonical {cause address : Nat} {p : Piece} (h : p.Canonical) : (freezeDmc cause address p).Canonical :=
  canonical_ite h (startDump_canonical (raiseAlarm_canonical h))

theorem execDramCorrectedError_canonical {address : Nat} {s : State} (h : s.piece.Canonical) :
    (execDramCorrectedError address s).Canonical :=
  effect_canonical (fun _ h1 => when_canonical (fun _ h2 => onDmc_canonical rfl h2) h1) h

theorem execPatrolScrub_canonical {s : State} (h : s.piece.Canonical) : (execPatrolScrub s).Canonical :=
  effect_canonical (fun _ h1 => h1) h

theorem execRefreshDue_canonical {busy : Bool} {s : State} (h : s.piece.Canonical) : (execRefreshDue busy s).Canonical := by
  refine effect_canonical (fun _ h1 => when_canonical (fun _ h2 => onDmc_canonical ?_ h2) h1) h
  split_ifs <;> rfl

theorem execNeighbourRefresh_canonical {bank row : Nat} {s : State} (h : s.piece.Canonical) :
    (execNeighbourRefresh bank row s).Canonical :=
  effect_canonical (fun _ h1 => when_canonical (fun _ h2 => onDmc_canonical rfl h2) h1) h

theorem execActWindowClear_canonical {s : State} (h : s.piece.Canonical) : (execActWindowClear s).Canonical :=
  effect_canonical (fun _ h1 => onDmc_canonical rfl h1) h

theorem execBulkPromotion_canonical {port : Fin 5} {s : State} (h : s.piece.Canonical) : (execBulkPromotion port s).Canonical :=
  effect_canonical (fun _ h1 => when_canonical (fun _ h2 => onDmc_canonical rfl h2) h1) h

theorem execPanicRaise_canonical {port : Fin 20} {raise : Bool} {s : State} (h : s.piece.Canonical) :
    (execPanicRaise port raise s).Canonical :=
  effect_canonical (fun _ h1 => when_canonical (fun _ h2 => onDmc_canonical (by dsimp only; split_ifs <;> rfl)
    (when_canonical (fun _ h3 => h3) h2)) h1) h

theorem execDramInitDone_canonical {s : State} (h : s.piece.Canonical) : (execDramInitDone s).Canonical :=
  effect_canonical (fun _ h1 => when_canonical (fun _ _ => rfl) h1) h

/-! ### Device DRAM over the stamp fabric -/

theorem sendRaw_canonical {ch : Nat} {s : Stamp} {p : Piece} (h : p.Canonical) : (sendRaw ch s p).Canonical := h

theorem flushRaw_canonical {p : Piece} (h : p.Canonical) : (flushRaw p).Canonical :=
  canonical_foldl (fun _ _ h1 => sendRaw_canonical h1) h

theorem applyRaw_canonical {p : Piece} (h : p.Canonical) : (applyRaw p).Canonical := by
  unfold applyRaw
  split
  · exact when_canonical (fun _ h1 => h1) h
  · exact h

theorem logRaw_canonical {s : Stamp} {p : Piece} (h : p.Canonical) : (logRaw s p).Canonical :=
  canonical_ite h (canonical_ite h (sendRaw_canonical h))

theorem deliverStamp_canonical {s : Stamp} {p : Piece} (h : p.Canonical) : (deliverStamp s p).Canonical :=
  logRaw_canonical (when_canonical (fun _ h1 => h1) (orderStamp_canonical (when_canonical (fun _ h1 => h1) h)))

theorem takeRecord_canonical {source : Nat} {p q : Piece} {s : Stamp} {labelled : Bool}
    (e : takeRecord source p = some (s, labelled, q)) (h : p.Canonical) : q.Canonical := by
  unfold takeRecord at e
  split at e <;> split at e
  · obtain ⟨-, -, rfl⟩ := e
    exact onInput_canonical h
  · cases e
  · obtain ⟨-, -, rfl⟩ := e
    exact onAux_canonical h
  · cases e

theorem labelStamp_canonical {s : Stamp} {p : Piece} (h : p.Canonical) : (labelStamp s p).2.Canonical := by
  unfold labelStamp
  dsimp only
  split
  · exact h
  · exact when_canonical (fun _ h1 => h1) h

theorem execFabricGrant_canonical {source : Fin 24} {s : State} (h : s.piece.Canonical) : (execFabricGrant source s).Canonical := by
  unfold execFabricGrant
  refine effect_canonical (fun p h1 => ?_) h
  have h2 : ((List.range 16).foldl (fun p n => expireInput n p) (flushRaw (applyRaw p))).Canonical :=
    canonical_foldl (fun _ _ h2 => expireInput_canonical h2) (flushRaw_canonical (applyRaw_canonical h1))
  refine canonical_ite h2 ?_
  split
  next _ _ labelled q he =>
    have h3 : (when (source.val != 22) (grantPermit source) q).Canonical :=
      when_canonical (fun _ h3 => grantPermit_canonical h3) (takeRecord_canonical he h2)
    cases labelled
    · exact deliverStamp_canonical (labelStamp_canonical h3)
    · exact deliverStamp_canonical h3
  · exact h2

theorem idle_canonical {p : Piece} (h : p.Canonical) : (idle p).Canonical :=
  canonical_ite (onDmc_canonical rfl (flushRaw_canonical (mapSlots_canonical
    (when_canonical (fun _ h1 => h1) (onClocks_canonical h))))) h

/-! ### Device DRAM over TALLY -/

theorem updateContext_canonical {time : T16} {f : Context → Context} {x : Context} {p : Piece} (h : p.Canonical) :
    (updateContext time f x p).Canonical :=
  onTally_canonical h

theorem updateAll_canonical {time : T16} {takes : Context → Bool} {f : Context → Context} {p : Piece} (h : p.Canonical) :
    (updateAll time takes f p).Canonical :=
  canonical_foldl (fun _ _ h1 => updateContext_canonical h1) h

theorem updateStamp_canonical {s : Stamp} {p : Piece} (h : p.Canonical) : (updateStamp s p).Canonical := updateAll_canonical h

theorem releasePairs_canonical {n : Nat} {p : Piece} (h : p.Canonical) : (releasePairs n p).Canonical := by
  induction n generalizing p with
  | zero => exact h
  | succ n ih =>
    unfold releasePairs
    split
    · exact canonical_ite (ih (updateAll_canonical (updateAll_canonical (onTally_canonical h)))) h
    · exact h

theorem execTallyStampUpdate_canonical {s : State} (h : s.piece.Canonical) : (execTallyStampUpdate s).Canonical := by
  unfold execTallyStampUpdate
  refine inIsland_canonical (fun _ h1 => ?_) h
  refine releasePairs_canonical ?_
  split
  · exact when_canonical (fun _ h2 => onTally_canonical h2) (updateStamp_canonical (onTally_canonical h1))
  · exact h1

theorem execTallyXformUpdate_canonical {s : State} (h : s.piece.Canonical) : (execTallyXformUpdate s).Canonical := by
  unfold execTallyXformUpdate
  refine inIsland_canonical (fun _ h1 => ?_) h
  split
  · exact h1
  · refine canonical_ite (onTally_canonical h1) ?_
    split
    next _ _ _ he1 =>
      exact canonical_ite (onTally_canonical (canonical_fst he1 (draw_canonical (onTally_canonical h1))))
        (updateAll_canonical (canonical_fst he1 (draw_canonical (onTally_canonical h1))))

theorem execTallyPostUpdate_canonical {s : State} (h : s.piece.Canonical) : (execTallyPostUpdate s).Canonical := by
  unfold execTallyPostUpdate
  refine inIsland_canonical (fun _ h1 => ?_) h
  split
  · exact h1
  · exact when_canonical (fun _ h2 => canonical_ite (updateAll_canonical (onTally_canonical h2))
      (onTally_canonical (onTally_canonical h2))) h1

theorem execTallyStoreClearDone_canonical {s : State} (h : s.piece.Canonical) : (execTallyStoreClearDone s).Canonical :=
  inIsland_canonical (fun _ h1 => onTally_canonical h1) h

theorem actTallyBind_canonical {fl : Flight} {ans : Answer} {p : Piece} (h : p.Canonical) : (actTallyBind fl ans p).1.Canonical :=
  simple_canonical (fun _ _ h1 => guarded_canonical h1 (onTally_canonical h1)) h

theorem execTallyBind_canonical {c : Cmd} {s : State} (h : s.piece.Canonical) : (execTallyBind c s).Canonical :=
  effect_canonical (fun _ h1 => runCommand_canonical (fun _ _ _ h2 => actTallyBind_canonical h2) h1) h

theorem actTallyClear_canonical {fl : Flight} {ans : Answer} {p : Piece} (h : p.Canonical) :
    (actTallyClear fl ans p).1.Canonical :=
  simple_canonical (fun _ _ h1 => guarded_canonical h1 (onTally_canonical h1)) h

theorem execTallyClear_canonical {c : Cmd} {s : State} (h : s.piece.Canonical) : (execTallyClear c s).Canonical :=
  effect_canonical (fun _ h1 => runCommand_canonical (fun _ _ _ h2 => actTallyClear_canonical h2) h1) h

theorem onSnap_canonical {k : Nat} {f : TallySnap → TallySnap} {p : Piece} (h : p.Canonical) : (onSnap k f p).Canonical :=
  onTally_canonical h

theorem cutSnap_canonical {k : Nat} {p : Piece} (h : p.Canonical) : (cutSnap k p).Canonical := by
  unfold cutSnap
  split
  · exact canonical_ite h (onSnap_canonical (onTally_canonical h))
  · exact h

theorem execTallySnapshotCut_canonical {snapshot : Fin 4} {s : State} (h : s.piece.Canonical) :
    (execTallySnapshotCut snapshot s).Canonical := by
  unfold execTallySnapshotCut
  refine inIsland_canonical (fun _ h1 => ?_) h
  split
  · exact when_canonical (fun _ h2 => cutSnap_canonical h2) h1
  · exact h1

theorem execTallySnapshotDone_canonical {snapshot : Fin 4} {refusedAt : Option Nat} {s : State} (h : s.piece.Canonical) :
    (execTallySnapshotDone snapshot refusedAt s).Canonical := by
  unfold execTallySnapshotDone
  refine effect_canonical (fun _ h1 => ?_) h
  split
  · exact canonical_ite h1 (finishWaiting_canonical (onTally_canonical (readoutWrite_canonical h1)))
  · exact h1

theorem actTallySnapshot_canonical {fl : Flight} {ans : Answer} {p : Piece} (h : p.Canonical) :
    (actTallySnapshot fl ans p).1.Canonical := by
  unfold actTallySnapshot
  refine simple_canonical (fun _ _ h1 => ?_) h
  refine guarded_canonical h1 ?_
  split
  · exact onTally_canonical h1
  · exact h1

theorem execTallySnapshot_canonical {c : Cmd} {s : State} (h : s.piece.Canonical) : (execTallySnapshot c s).Canonical :=
  effect_canonical (fun _ h1 => runCommand_canonical (fun _ _ _ h2 => actTallySnapshot_canonical h2) h1) h

/-! ### Device DRAM over CALMGR -/

theorem calEvent_canonical {ended : Bool} {p : Piece} (h : p.Canonical) : (calEvent ended p).Canonical := raiseEvent_canonical h

theorem endVisits_canonical {p : Piece} (h : p.Canonical) : (endVisits p).Canonical :=
  canonical_foldl (fun _ _ h1 => endVisit_canonical h1) h

theorem beginFull_canonical {p : Piece} (h : p.Canonical) : (beginFull p).Canonical := onCal_canonical (endVisits_canonical h)

theorem execMonitorFrameStart_canonical {s : State} {empty : optParam Nat 0} (h : s.piece.Canonical) :
    (execMonitorFrameStart s empty).Canonical := by
  unfold execMonitorFrameStart
  refine effect_canonical (fun _ h1 => ?_) h
  refine canonical_ite h1 (canonical_ite (startFrame_canonical h1) ?_)
  split
  · exact canonical_ite (onCal_canonical (startFrame_canonical h1)) (onCal_canonical (startFrame_canonical h1))
  · exact canonical_ite (onCal_canonical (startFrame_canonical h1)) (onCal_canonical (startFrame_canonical h1))
  · exact onCal_canonical (startFrame_canonical h1)
  · exact startFrame_canonical h1

theorem execFullCalStart_canonical {s : State} (h : s.piece.Canonical) : (execFullCalStart s).Canonical :=
  effect_canonical (fun _ h1 => when_canonical (fun _ h2 => beginFull_canonical h2) h1) h

theorem coverFailed_canonical {e : Element} {p : Piece} (h : p.Canonical) : (coverFailed e p).Canonical := by
  unfold coverFailed
  split
  · exact canonical_ite (faultSpare_canonical h) (faultInterp_canonical h)
  · exact failSlice_canonical h
  · exact onInput_canonical h
  · exact h

theorem judgeStartup_canonical {p : Piece} (h : p.Canonical) : (judgeStartup p).Canonical :=
  canonical_ite h (canonical_ite (onCal_canonical h) (canonical_ite (onCal_canonical (onCal_canonical h))
    (raiseAlarm_canonical (onCal_canonical (onCal_canonical h)))))

theorem execFullCalEnd_canonical {outcome : CalOutcome} {s : State} (h : s.piece.Canonical) :
    (execFullCalEnd outcome s).Canonical :=
  effect_canonical (fun _ h1 => when_canonical (fun _ h2 => finishAllWaiting_canonical
    (calEvent_canonical (judgeStartup_canonical (canonical_foldl (fun _ _ h3 => detectError_canonical (coverFailed_canonical h3))
    (onCal_canonical h2))))) h1) h

theorem overrideSlice_canonical {i j : Nat} {t : SliceTrim} {p : Piece} (h : p.Canonical) : (overrideSlice i j t p).Canonical :=
  onCal_canonical (onRfin_canonical h)

theorem overrideInterp_canonical {k n : Nat} {table : List Nat} {p : Piece} (h : p.Canonical) :
    (overrideInterp k n table p).Canonical :=
  onCal_canonical (onInput_canonical h)

theorem actCalPolicy_canonical {fl : Flight} {ans : Answer} {p : Piece} (h : p.Canonical) : (actCalPolicy fl ans p).1.Canonical :=
  guarded_canonical h (canonical_fst_ite (onCal_canonical h) (withTable_canonical h
    (fun _ => canonical_fst_ite (overrideInterp_canonical (onCal_canonical h))
    (canonical_fst_ite h (overrideSlice_canonical (onCal_canonical h))))))

theorem execCalPolicySet_canonical {c : Cmd} {s : State} (h : s.piece.Canonical) : (execCalPolicySet c s).Canonical :=
  effect_canonical (fun _ h1 => runCommand_canonical (fun _ _ _ h2 => actCalPolicy_canonical h2) h1) h

theorem actCalRun_canonical {fl : Flight} {ans : Answer} {p : Piece} (h : p.Canonical) : (actCalRun fl ans p).1.Canonical :=
  simple_canonical (fun _ _ h1 => guarded_canonical h1 (canonical_fst_ite (beginFull_canonical h1)
    (calEvent_canonical (onCal_canonical h1)))) h

theorem execCalRun_canonical {c : Cmd} {s : State} (h : s.piece.Canonical) : (execCalRun c s).Canonical :=
  effect_canonical (fun _ h1 => runCommand_canonical (fun _ _ _ h2 => actCalRun_canonical h2) h1) h

theorem actCalStatus_canonical {fl : Flight} {ans : Answer} {p : Piece} (h : p.Canonical) : (actCalStatus fl ans p).1.Canonical :=
  simple_canonical (fun _ _ h1 => guarded_canonical h1 h1) h

theorem execCalStatus_canonical {c : Cmd} {s : State} (h : s.piece.Canonical) : (execCalStatus c s).Canonical :=
  effect_canonical (fun _ h1 => runCommand_canonical (fun _ _ _ h2 => actCalStatus_canonical h2) h1) h

/-! ### Device DRAM over GYTHEN -/

theorem onCore_canonical {core : Nat} {f : Core → Core} {p : Piece} (h : p.Canonical) : (onCore core f p).Canonical := h

theorem kernelEnd_canonical {core : Nat} {p : Piece} (h : p.Canonical) : (kernelEnd core p).Canonical := raiseEvent_canonical h

theorem coreFault_canonical {core cause addr : Nat} {p : Piece} (h : p.Canonical) : (coreFault core cause addr p).Canonical :=
  kernelEnd_canonical (onCore_canonical h)

theorem issueFetch_canonical {core : Nat} {p : Piece} (h : p.Canonical) : (issueFetch core p).Canonical :=
  canonical_ite (onCore_canonical h) (onCore_canonical h)

theorem issueBundle_canonical {core : Nat} {p : Piece} (h : p.Canonical) : (issueBundle core p).Canonical := by
  unfold issueBundle
  refine canonical_ite (coreFault_canonical h) (canonical_ite (coreFault_canonical h) ?_)
  dsimp only
  split
  · exact coreFault_canonical h
  · exact canonical_ite (onCore_canonical h) (when_canonical (fun _ h1 => issueFetch_canonical h1) (onCore_canonical h))

theorem execGythenBundle_canonical {core : Fin 16} {s : State} (h : s.piece.Canonical) : (execGythenBundle core s).Canonical :=
  inIsland_canonical (fun _ h1 => when_canonical (fun _ h2 => issueBundle_canonical h2) h1) h

theorem execKernelDone_canonical {core : Fin 16} {s : State} (h : s.piece.Canonical) : (execKernelDone core s).Canonical :=
  inIsland_canonical (fun _ h1 => when_canonical (fun _ h2 => kernelEnd_canonical (onCore_canonical h2)) h1) h

theorem execPostQueueDrain_canonical {core : Fin 16} {s : State} (h : s.piece.Canonical) :
    (execPostQueueDrain core s).Canonical := by
  unfold execPostQueueDrain
  refine inIsland_canonical (fun _ h1 => ?_) h
  split
  · exact h1
  · dsimp only
    split
    · exact onTally_canonical (onCore_canonical h1)
    · exact sendStream_canonical (onCore_canonical h1)

theorem execFetchGo_canonical {core : Fin 16} {s : State} (h : s.piece.Canonical) : (execFetchGo core s).Canonical := by
  unfold execFetchGo
  refine inIsland_canonical (fun _ h1 => ?_) h
  refine when_canonical (fun _ h2 => ?_) h1
  split
  · exact coreFault_canonical h2
  · exact issueFetch_canonical h2

theorem execFetchComplete_canonical {core : Fin 16} {s : State} (h : s.piece.Canonical) :
    (execFetchComplete core s).Canonical := by
  unfold execFetchComplete
  refine inIsland_canonical (fun _ h1 => ?_) h
  split
  · exact h1
  · exact onCore_canonical h1

theorem execTimeLoRead_canonical {core : Fin 16} {s : State} (h : s.piece.Canonical) : (execTimeLoRead core s).Canonical :=
  inIsland_canonical (fun _ h1 => when_canonical (fun _ h2 => onCore_canonical h2) h1) h

theorem execStampPop_canonical {core : Fin 16} {s : State} (h : s.piece.Canonical) : (execStampPop core s).Canonical :=
  inIsland_canonical (fun _ h1 => when_canonical (fun _ h2 => canonical_ite (onCore_canonical h2) (coreFault_canonical h2)) h1) h

theorem execFirmwareKernelHalt_canonical {s : State} (h : s.piece.Canonical) : (execFirmwareKernelHalt s).Canonical :=
  effect_canonical (fun _ h1 => when_canonical (fun _ h2 => h2) h1) h

theorem actKernelLoad_canonical {fl : Flight} {ans : Answer} {p : Piece} (h : p.Canonical) :
    (actKernelLoad fl ans p).1.Canonical :=
  guarded_canonical h (withTable_canonical h (fun _ => guarded_canonical h
    (withTable_canonical h (fun _ => guarded_canonical h (canonical_foldl (fun _ _ h1 => onCore_canonical h1) h)))))

theorem execKernelLoad_canonical {c : Cmd} {s : State} (h : s.piece.Canonical) : (execKernelLoad c s).Canonical :=
  effect_canonical (fun _ h1 => runCommand_canonical (fun _ _ _ h2 => actKernelLoad_canonical h2) h1) h

theorem actKernelStart_canonical {fl : Flight} {ans : Answer} {p : Piece} (h : p.Canonical) :
    (actKernelStart fl ans p).1.Canonical :=
  simple_canonical (fun _ _ h1 => guarded_canonical h1 (canonical_foldl (fun _ _ h2 => onCore_canonical h2) h1)) h

theorem execKernelStart_canonical {c : Cmd} {s : State} (h : s.piece.Canonical) : (execKernelStart c s).Canonical :=
  effect_canonical (fun _ h1 => runCommand_canonical (fun _ _ _ h2 => actKernelStart_canonical h2) h1) h

theorem actKernelStop_canonical {fl : Flight} {ans : Answer} {p : Piece} (h : p.Canonical) :
    (actKernelStop fl ans p).1.Canonical :=
  simple_canonical (fun _ _ h1 => guarded_canonical h1 (canonical_foldl (fun _ _ h2 => onCore_canonical h2) h1)) h

theorem execKernelStop_canonical {c : Cmd} {s : State} (h : s.piece.Canonical) : (execKernelStop c s).Canonical :=
  effect_canonical (fun _ h1 => runCommand_canonical (fun _ _ _ h2 => actKernelStop_canonical h2) h1) h

theorem resetGythen_canonical {inst : Nat} {p : Piece} (h : p.Canonical) : (resetGythen inst p).Canonical :=
  canonical_foldl (fun _ _ h1 => onCore_canonical h1) h

/-! ### Device DRAM over HOSTIF -/

theorem onHostif_canonical {f : Hostif → Hostif} {p : Piece} (h : p.Canonical) : (onHostif f p).Canonical := h

theorem disableRings_canonical {fn : Nat} {p : Piece} (h : p.Canonical) : (disableRings fn p).Canonical := h

theorem stopStreams_canonical {fn : Nat} {p : Piece} (h : p.Canonical) : (stopStreams fn p).Canonical := h

theorem dropTransactions_canonical {fn : Nat} {p : Piece} (h : p.Canonical) : (dropTransactions fn p).Canonical :=
  onHostif_canonical (canonical_foldl (fun _ _ h1 => canonical_foldl (fun _ _ h2 => fetchFails_canonical h2) h1) h)

theorem removeFunction_canonical {fn : Nat} {p : Piece} (h : p.Canonical) : (removeFunction fn p).Canonical :=
  settle_canonical (when_canonical (fun _ h1 => releaseLocks_canonical h1)
    (stopStreams_canonical (disableRings_canonical (canonical_foldl (fun _ _ h1 => receiverReset_canonical h1)
    (bumpEpoch_canonical (dropTransactions_canonical h))))))

theorem removeLink_canonical {p : Piece} (h : p.Canonical) : (removeLink p).Canonical :=
  canonical_ite (removeFunction_canonical (removeFunction_canonical (onHostif_canonical h))) h

theorem execHostLinkRemoval_canonical {s : State} (h : s.piece.Canonical) : (execHostLinkRemoval s).Canonical :=
  effect_canonical (fun _ h1 => removeLink_canonical h1) h

theorem resetMsix_canonical {fn : Nat} {p : Piece} (h : p.Canonical) : (resetMsix fn p).Canonical := h

theorem resetHostif_canonical {p : Piece} (h : p.Canonical) : (resetHostif p).Canonical :=
  resetMsix_canonical (resetMsix_canonical (removeLink_canonical h))

theorem execPerstN_canonical {s : State} (h : s.piece.Canonical) : (execPerstN s).Canonical :=
  effect_canonical (fun _ h1 => resetHostif_canonical h1) h

theorem execFunctionLevelReset_canonical {function : Fin 2} {s : State} (h : s.piece.Canonical) :
    (execFunctionLevelReset function s).Canonical :=
  effect_canonical (fun _ h1 => resetMsix_canonical (removeFunction_canonical h1)) h

theorem execHostLinkUp_canonical {rate : Fin 8} {width : Fin 32} {cxl cache : Bool} {s : State} (h : s.piece.Canonical) :
    (execHostLinkUp rate width cxl cache s).Canonical :=
  effect_canonical (fun _ h1 => when_canonical (fun _ h2 => bumpEpoch_canonical (onHostif_canonical h2)) h1) h

theorem execLinkRetrain_canonical {rate : Fin 8} {width : Fin 32} {s : State} (h : s.piece.Canonical) :
    (execLinkRetrain rate width s).Canonical :=
  effect_canonical (fun _ h1 => when_canonical (fun _ h2 => onHostif_canonical h2) h1) h

theorem answerRequest_canonical {id : Nat} {ans : Answer} {p : Piece} (h : p.Canonical) : (answerRequest id ans p).Canonical := by
  unfold answerRequest
  split
  · exact onHostif_canonical h
  · exact h

theorem execHostRequestTimeout_canonical {request : Nat} {s : State} (h : s.piece.Canonical) :
    (execHostRequestTimeout request s).Canonical :=
  effect_canonical (fun _ h1 => answerRequest_canonical h1) h

theorem execHostReadCompletion_canonical {request : Nat} {answer : Answer} {s : State} (h : s.piece.Canonical) :
    (execHostReadCompletion request answer s).Canonical :=
  effect_canonical (fun _ h1 => answerRequest_canonical h1) h

theorem countHostRefused_canonical {p : Piece} (h : p.Canonical) : (countHostRefused p).Canonical := h

theorem hostDram_canonical {refusedRead : Output} {write : Bool} {x n : Nat} {bs : Bytes} {p : Piece} (h : p.Canonical) :
    (hostDram refusedRead write x n bs p).Canonical :=
  canonical_ite (canonical_ite (countHostRefused_canonical h) (emit_canonical h))
    (canonical_ite h (canonical_ite (emit_canonical h) (canonical_ite (dramWrite_canonical h) (emit_canonical h))))

theorem execBar2Access_canonical {write : Bool} {address length : Nat} {bytes : Bytes} {s : State} (h : s.piece.Canonical) :
    (execBar2Access write address length bytes s).Canonical :=
  effectIf_canonical (fun _ h1 => canonical_ite h1 (canonical_ite (emit_canonical (onHostif_canonical h1))
    (hostDram_canonical h1))) h

theorem execHdmAccess_canonical {write : Bool} {hostAddress length : Nat} {bytes : Bytes} {s : State} (h : s.piece.Canonical) :
    (execHdmAccess write hostAddress length bytes s).Canonical :=
  effectIf_canonical (fun _ h1 => when_canonical (fun _ h2 => hostDram_canonical h2) h1) h

theorem execHdmDecoderCommit_canonical {base size ways : Nat} {s : State} (h : s.piece.Canonical) :
    (execHdmDecoderCommit base size ways s).Canonical :=
  effect_canonical (fun _ h1 => when_canonical (fun _ h2 => canonical_ite (onHostif_canonical h2) (onHostif_canonical h2)) h1) h

/-! ### Device DRAM over NET -/

theorem manage_canonical {port : Nat} {name : String} {operands : List Int} {p : Piece} (h : p.Canonical) :
    (manage port name operands p).Canonical :=
  when_canonical (fun _ h1 => emit_canonical h1) h

theorem manageUp_canonical {name : String} {operands : List Int} {p : Piece} (h : p.Canonical) :
    (manageUp name operands p).Canonical := by
  unfold manageUp
  split
  · exact manage_canonical h
  · exact h

theorem manageDown_canonical {name : String} {operands : List Int} {p : Piece} (h : p.Canonical) :
    (manageDown name operands p).Canonical :=
  canonical_foldl (fun _ _ h1 => when_canonical (fun _ h2 => manage_canonical h2) h1) h

theorem netEvent_canonical {node port change : Nat} {p : Piece} (h : p.Canonical) : (netEvent node port change p).Canonical :=
  raiseEvent_canonical h

theorem loseNetSource_canonical {p : Piece} (h : p.Canonical) : (loseNetSource p).Canonical := onNet_canonical h

theorem becomeDetached_canonical {p : Piece} (h : p.Canonical) : (becomeDetached p).Canonical :=
  canonical_ite h (raiseAlarm_canonical (onNet_canonical h))

theorem promote_canonical {old new : Nat} {p : Piece} (h : p.Canonical) : (promote old new p).Canonical :=
  onNet_canonical (onPort_canonical (onPort_canonical h))

theorem loseParent_canonical {port : Nat} {p : Piece} (h : p.Canonical) : (loseParent port p).Canonical := by
  unfold loseParent
  refine canonical_ite (loseNetSource_canonical h) ?_
  split
  · exact manageUp_canonical (onNet_canonical (promote_canonical h))
  · exact becomeDetached_canonical (loseNetSource_canonical h)

theorem loseChild_canonical {port : Nat} {p : Piece} (h : p.Canonical) : (loseChild port p).Canonical :=
  when_canonical (fun _ h1 => netEvent_canonical h1) (when_canonical (fun _ h1 => manageUp_canonical h1)
    (releaseLocks_canonical (onNet_canonical h)))

theorem dropLink_canonical {port : Nat} {state : PortState} {p : Piece} (h : p.Canonical) :
    (dropLink port state p).Canonical := by
  unfold dropLink
  dsimp only
  split
  · exact loseParent_canonical (onPort_canonical h)
  · exact onPort_canonical (loseChild_canonical h)
  · exact onPort_canonical h

theorem linkLoss_canonical {port : Nat} {p : Piece} (h : p.Canonical) : (linkLoss port p).Canonical :=
  when_canonical (fun _ h1 => detectError_canonical (raiseAlarm_canonical (dropLink_canonical h1))) h

theorem execNetLinkLoss_canonical {port : Fin 4} {s : State} (h : s.piece.Canonical) : (execNetLinkLoss port s).Canonical :=
  effect_canonical (fun _ h1 => linkLoss_canonical h1) h

theorem rejoin_canonical {port : Nat} {p : Piece} (h : p.Canonical) : (rejoin port p).Canonical :=
  manage_canonical (onNet_canonical h)

theorem execPortLinked_canonical {port : Fin 4} {peer : NetPeer} {s : State} (h : s.piece.Canonical) :
    (execPortLinked port peer s).Canonical :=
  effect_canonical (fun _ h1 => when_canonical (fun _ h2 => when_canonical (fun _ h3 => rejoin_canonical h3)
    (onPort_canonical h2)) h1) h

theorem execSfpModuleRead_canonical {port : Fin 4} {present lossOfSignal txFault : Bool} {s : State} (h : s.piece.Canonical) :
    (execSfpModuleRead port present lossOfSignal txFault s).Canonical :=
  effect_canonical (fun _ h1 => onPort_canonical h1) h

theorem execTimeMessageSend_canonical {port : Fin 4} {departure : T16} {s : State} (h : s.piece.Canonical) :
    (execTimeMessageSend port departure s).Canonical :=
  effect_canonical (fun _ h1 => when_canonical (fun _ h2 => emit_canonical (onPort_canonical h2)) h1) h

theorem goodExchange_canonical {port : Nat} {r theta : Rat} {p : Piece} (h : p.Canonical) :
    (goodExchange port r theta p).Canonical :=
  onPort_canonical h

theorem badExchange_canonical {port : Nat} {p : Piece} (h : p.Canonical) : (badExchange port p).Canonical :=
  when_canonical (fun _ h1 => loseNetSource_canonical h1) (onPort_canonical h)

theorem netMeasure_canonical {t : T16} {theta : Rat} {p : Piece} (h : p.Canonical) : (netMeasure t theta p).Canonical :=
  canonical_ite h (canonical_ite (onLedger_canonical h) (canonical_ite (discipline_canonical h) h))

theorem judgeExchange_canonical {port : Nat} {t : T16} {arrival : Rat} {follows : Bool} {b : Bytes} {p : Piece}
    (h : p.Canonical) : (judgeExchange port t arrival follows b p).Canonical := by
  unfold judgeExchange
  dsimp only
  split
  · exact badExchange_canonical h
  · exact canonical_ite h (canonical_ite (badExchange_canonical h) (canonical_ite (goodExchange_canonical h)
      (netMeasure_canonical (when_canonical (fun _ h1 => onNet_canonical h1) (goodExchange_canonical h)))))

theorem recover_canonical {port : Nat} {p : Piece} (h : p.Canonical) : (recover port p).Canonical := by
  unfold recover
  refine when_canonical (fun _ h1 => ?_) h
  refine rejoin_canonical (onPort_canonical ?_)
  split
  · exact promote_canonical h1
  · exact promote_canonical h1

theorem execTimeMessageReceive_canonical {port : Fin 4} {arrival : T16} {bytes : Bytes} {s : State} (h : s.piece.Canonical) :
    (execTimeMessageReceive port arrival bytes s).Canonical :=
  effectIf_canonical (fun _ h1 => when_canonical (fun _ h2 => canonical_ite (badExchange_canonical h2)
    (recover_canonical (judgeExchange_canonical (when_canonical (fun _ h3 => loseNetSource_canonical h3) (onPort_canonical h2)))))
    h1) h

theorem announce_canonical {bs : Bytes} {p : Piece} (h : p.Canonical) : (announce bs p).Canonical :=
  canonical_foldl (fun _ _ h1 => when_canonical (fun _ h2 => emit_canonical h2) h1) h

theorem execAnnouncementSend_canonical {s : State} (h : s.piece.Canonical) : (execAnnouncementSend s).Canonical :=
  effect_canonical (fun _ h1 => when_canonical (fun _ h2 => announce_canonical h2) h1) h

theorem execAnnouncementReceive_canonical {port : Fin 4} {bytes : Bytes} {s : State} (h : s.piece.Canonical) :
    (execAnnouncementReceive port bytes s).Canonical :=
  effectIf_canonical (fun _ h1 => when_canonical (fun _ h2 => when_canonical (fun _ h3 => announce_canonical h3)
    (when_canonical (fun _ h3 => loseNetSource_canonical h3) (onNet_canonical (onPort_canonical h2)))) h1) h

theorem deliverXtrig_canonical {code node label : Nat} {p : Piece} (h : p.Canonical) :
    (deliverXtrig code node label p).Canonical :=
  canonical_foldl (fun _ _ h1 => when_canonical (fun _ h2 => issueCond_canonical h2) h1) h

theorem execCrossTriggerReceive_canonical {port : Fin 4} {bytes : Bytes} {s : State} (h : s.piece.Canonical) :
    (execCrossTriggerReceive port bytes s).Canonical :=
  effectIf_canonical (fun _ h1 => when_canonical (fun _ h2 => canonical_ite
    (onNet_canonical (when_canonical (fun _ h3 => spreadXtrig_canonical h3) h2))
    (canonical_ite (onNet_canonical (when_canonical (fun _ h3 => spreadXtrig_canonical h3) h2))
    (deliverXtrig_canonical (when_canonical (fun _ h3 => spreadXtrig_canonical h3) h2)))) h1) h

theorem execCrossTriggerSend_canonical {port : Fin 4} {s : State} (h : s.piece.Canonical) :
    (execCrossTriggerSend port s).Canonical := by
  unfold execCrossTriggerSend
  refine effect_canonical (fun _ h1 => ?_) h
  split
  · exact h1
  · exact when_canonical (fun _ h2 => emit_canonical (onPort_canonical h2)) h1

theorem execAlarmSummarySend_canonical {s : State} (h : s.piece.Canonical) : (execAlarmSummarySend s).Canonical := by
  unfold execAlarmSummarySend
  refine effect_canonical (fun _ h1 => ?_) h
  split
  · exact when_canonical (fun _ h2 => emit_canonical (onNet_canonical h2)) h1
  · exact h1

theorem execAlarmSummaryReceive_canonical {port : Fin 4} {bytes : Bytes} {s : State} (h : s.piece.Canonical) :
    (execAlarmSummaryReceive port bytes s).Canonical :=
  effectIf_canonical (fun _ h1 => when_canonical (fun _ h2 => onNet_canonical h2) h1) h

theorem activate_canonical {p : Piece} (h : p.Canonical) : (activate p).Canonical := onNet_canonical h

theorem addMember_canonical {m : NetNode} {p : Piece} (h : p.Canonical) : (addMember m p).Canonical := onNet_canonical h

theorem markChild_canonical {m : NetNode} {change : Nat} {p : Piece} (h : p.Canonical) : (markChild m change p).Canonical :=
  when_canonical (fun _ h1 => netEvent_canonical h1) (when_canonical (fun _ h1 => onPort_canonical h1) h)

theorem execJoinRequestReceive_canonical {port : Fin 4} {node : Fin 65536} {path : Nat} {s : State} (h : s.piece.Canonical) :
    (execJoinRequestReceive port node path s).Canonical :=
  effect_canonical (fun _ h1 => when_canonical (fun _ h2 => canonical_ite (manageUp_canonical (onNet_canonical h2))
    (canonical_ite (manage_canonical h2) (canonical_ite (manage_canonical h2)
    (manage_canonical (markChild_canonical (addMember_canonical (onNet_canonical h2))))))) h1) h

theorem finishJoin_canonical {response : JoinResponse} {p : Piece} (h : p.Canonical) : (finishJoin response p).Canonical := by
  unfold finishJoin
  dsimp only
  split
  · exact finishWaiting_canonical (activate_canonical (onNet_canonical (onNet_canonical h)))
  · exact finishWaiting_canonical (onNet_canonical h)
  · exact finishWaiting_canonical (onNet_canonical h)

theorem execJoinResponseReceive_canonical {response : JoinResponse} {s : State} (h : s.piece.Canonical) :
    (execJoinResponseReceive response s).Canonical := by
  unfold execJoinResponseReceive
  refine effect_canonical (fun _ h1 => ?_) h
  refine canonical_ite (finishJoin_canonical h1) ?_
  split
  · exact h1
  · dsimp only
    split
    · exact manage_canonical (markChild_canonical (addMember_canonical (onNet_canonical h1)))
    · exact manage_canonical (onNet_canonical h1)
    · exact manage_canonical (onNet_canonical h1)

theorem execJoinTimeout_canonical {s : State} (h : s.piece.Canonical) : (execJoinTimeout s).Canonical :=
  effect_canonical (fun _ h1 => when_canonical (fun _ h2 => finishWaiting_canonical (onNet_canonical h2)) h1) h

theorem unjoin_canonical {p : Piece} (h : p.Canonical) : (unjoin p).Canonical := onNet_canonical h

theorem execLeaveNoticeReceive_canonical {port : Fin 4} {s : State} (h : s.piece.Canonical) :
    (execLeaveNoticeReceive port s).Canonical :=
  effect_canonical (fun _ h1 => when_canonical (fun _ h2 => loseParent_canonical (onPort_canonical h2)) h1) h

theorem execLeaveRequestReceive_canonical {port : Fin 4} {node : Fin 65536} {s : State} (h : s.piece.Canonical) :
    (execLeaveRequestReceive port node s).Canonical :=
  effect_canonical (fun _ h1 => when_canonical (fun _ h2 => when_canonical (fun _ h3 => manageUp_canonical h3)
    (when_canonical (fun _ h3 => manage_canonical h3) (onNet_canonical (markChild_canonical h2)))) h1) h

theorem execLeaveConfirm_canonical {reparented : Nat} {s : State} (h : s.piece.Canonical) :
    (execLeaveConfirm reparented s).Canonical :=
  effect_canonical (fun _ h1 => when_canonical (fun _ h2 => finishWaiting_canonical (unjoin_canonical h2)) h1) h

theorem execEpochMessageReceive_canonical {delta : Int} {epoch : Fin 256} {s : State} (h : s.piece.Canonical) :
    (execEpochMessageReceive delta epoch s).Canonical :=
  effect_canonical (fun _ h1 => when_canonical (fun _ h2 => canonical_ite
    (stepLedger_canonical (manageDown_canonical (onNet_canonical h2))) (pushSource_canonical
    (manageDown_canonical (onNet_canonical h2)))) h1) h

theorem execReparentRequestReceive_canonical {port : Fin 4} {node : Fin 65536} {path : Nat} {s : State} (h : s.piece.Canonical) :
    (execReparentRequestReceive port node path s).Canonical :=
  effect_canonical (fun _ h1 => when_canonical (fun _ h2 => canonical_ite (manageUp_canonical (onNet_canonical h2))
    (manage_canonical (markChild_canonical (addMember_canonical (when_canonical (fun _ h3 => raiseAlarm_canonical h3)
    (onNet_canonical h2)))))) h1) h

theorem execReparentConfirmReceive_canonical {exceeded : Bool} {s : State} (h : s.piece.Canonical) :
    (execReparentConfirmReceive exceeded s).Canonical := by
  unfold execReparentConfirmReceive
  refine effect_canonical (fun _ h1 => ?_) h
  refine canonical_ite (netEvent_canonical (onNet_canonical h1)) ?_
  split
  · exact h1
  · exact manage_canonical (markChild_canonical (addMember_canonical (onNet_canonical h1)))

theorem execReparentTimeout_canonical {s : State} (h : s.piece.Canonical) : (execReparentTimeout s).Canonical :=
  effect_canonical (fun _ h1 => when_canonical (fun _ h2 => becomeDetached_canonical h2) h1) h

theorem setRole_canonical {port : Nat} {r : PortRole} {p : Piece} (h : p.Canonical) : (setRole port r p).Canonical :=
  canonical_ite h (canonical_ite (onPort_canonical (dropLink_canonical h))
    (canonical_ite (onPort_canonical (when_canonical (fun _ h1 => loseChild_canonical h1) h)) (onPort_canonical h)))

theorem actNetPortSet_canonical {fl : Flight} {ans : Answer} {p : Piece} (h : p.Canonical) :
    (actNetPortSet fl ans p).1.Canonical :=
  simple_canonical (fun _ _ h1 => guarded_canonical h1 (setRole_canonical h1)) h

theorem execNetPortSet_canonical {c : Cmd} {s : State} (h : s.piece.Canonical) : (execNetPortSet c s).Canonical :=
  effect_canonical (fun _ h1 => runCommand_canonical (fun _ _ _ h2 => actNetPortSet_canonical h2) h1) h

theorem actNetJoin_canonical {fl : Flight} {ans : Answer} {p : Piece} (h : p.Canonical) : (actNetJoin fl ans p).1.Canonical :=
  simple_canonical (fun _ _ h1 => guarded_canonical h1 (canonical_fst_ite (activate_canonical (onNet_canonical h1))
    (manageUp_canonical (onNet_canonical h1)))) h

theorem execNetJoin_canonical {c : Cmd} {s : State} (h : s.piece.Canonical) : (execNetJoin c s).Canonical :=
  effect_canonical (fun _ h1 => runCommand_canonical (fun _ _ _ h2 => actNetJoin_canonical h2) h1) h

theorem actNetLeave_canonical {fl : Flight} {ans : Answer} {p : Piece} (h : p.Canonical) : (actNetLeave fl ans p).1.Canonical := by
  unfold actNetLeave
  refine simple_canonical (fun _ _ h1 => guarded_canonical h1 ?_) h
  dsimp only
  exact manageUp_canonical (manageDown_canonical (onNet_canonical h1))

theorem execNetLeave_canonical {c : Cmd} {s : State} (h : s.piece.Canonical) : (execNetLeave c s).Canonical :=
  effect_canonical (fun _ h1 => runCommand_canonical (fun _ _ _ h2 => actNetLeave_canonical h2) h1) h

theorem actDelayTable_canonical {fl : Flight} {ans : Answer} {p : Piece} (h : p.Canonical) :
    (actDelayTable fl ans p).1.Canonical :=
  guarded_canonical h (withTable_canonical h (fun _ => guarded_canonical h (onPort_canonical h)))

theorem execNetDelayTableLoad_canonical {c : Cmd} {s : State} (h : s.piece.Canonical) : (execNetDelayTableLoad c s).Canonical :=
  effect_canonical (fun _ h1 => runCommand_canonical (fun _ _ _ h2 => actDelayTable_canonical h2) h1) h

theorem actNetHorizon_canonical {fl : Flight} {ans : Answer} {p : Piece} (h : p.Canonical) :
    (actNetHorizon fl ans p).1.Canonical :=
  simple_canonical (fun _ _ h1 => guarded_canonical h1 (canonical_fst_ite (onNet_canonical h1) (onNet_canonical h1))) h

theorem execNetHorizonSet_canonical {c : Cmd} {s : State} (h : s.piece.Canonical) : (execNetHorizonSet c s).Canonical :=
  effect_canonical (fun _ h1 => runCommand_canonical (fun _ _ _ h2 => actNetHorizon_canonical h2) h1) h

theorem actNetStatus_canonical {fl : Flight} {ans : Answer} {p : Piece} (h : p.Canonical) :
    (actNetStatus fl ans p).1.Canonical := by
  unfold actNetStatus
  refine simple_canonical (fun _ _ h1 => ?_) h
  refine guarded_canonical h1 (canonical_fst_ite h1 ?_)
  split
  next _ _ he => exact canonical_fst he (pieceWrite_canonical h1)
  next _ _ _ _ he => exact canonical_fst he (pieceWrite_canonical h1)

theorem execNetStatus_canonical {c : Cmd} {s : State} (h : s.piece.Canonical) : (execNetStatus c s).Canonical :=
  effect_canonical (fun _ h1 => runCommand_canonical (fun _ _ _ h2 => actNetStatus_canonical h2) h1) h

theorem resetNet_canonical {p : Piece} (h : p.Canonical) : (resetNet p).Canonical := onNet_canonical (releaseLocks_canonical h)

/-! ### Device DRAM over SAFETY -/

theorem raiseBoth_canonical {v : Nat} {p : Piece} (h : p.Canonical) : (raiseBoth v p).Canonical :=
  raiseVector_canonical (raiseVector_canonical h)

theorem enterSafe_canonical {code : Nat} {p : Piece} (h : p.Canonical) : (enterSafe code p).Canonical :=
  when_canonical (fun _ h1 => startDump_canonical (raiseBoth_canonical h1))
    (raiseAlarm_canonical (trackFreq_canonical (fun _ h1 => onSafety_canonical h1) h))

theorem execRailWindow_canonical {channel : Fin 40} {s : State} (h : s.piece.Canonical) : (execRailWindow channel s).Canonical :=
  effect_canonical (fun _ h1 => when_canonical (fun _ h2 => when_canonical (fun _ h3 => enterSafe_canonical h3)
    (when_canonical (fun _ h3 => onSafety_canonical h3) h2)) h1) h

theorem execOverTemp_canonical {sensor : Fin 16} {s : State} (h : s.piece.Canonical) : (execOverTemp sensor s).Canonical :=
  effect_canonical (fun _ h1 => enterSafe_canonical h1) h

theorem execOutputReadback_canonical {ball : Fin 4} {s : State} (h : s.piece.Canonical) : (execOutputReadback ball s).Canonical :=
  effect_canonical (fun _ h1 => enterSafe_canonical h1) h

theorem execDmcFreeze_canonical {commandParity : Bool} {address : Nat} {s : State} (h : s.piece.Canonical) :
    (execDmcFreeze commandParity address s).Canonical :=
  effect_canonical (fun _ h1 => when_canonical (fun _ h2 => faultAcqs_canonical (freezeDmc_canonical h2)) h1) h

theorem loseIsland_canonical {i : Nat} {p : Piece} (h : p.Canonical) : (loseIsland i p).Canonical :=
  canonical_ite (canonical_foldl (fun _ _ h1 => loseInput_canonical h1) h)
    (canonical_ite (streamLost_canonical (canonical_foldl (fun _ _ h1 => when_canonical (fun _ h2 => ddcLost_canonical h2) h1) h))
    (canonical_ite (enterSafe_canonical h) (canonical_ite (when_canonical
    (fun _ h1 => faultAcqs_canonical (freezeDmc_canonical h1)) h) (canonical_ite (removeLink_canonical h)
    (canonical_ite (linkLoss_canonical h) h)))))

theorem execIslandClock_canonical {island : Nat} {s : State} (h : s.piece.Canonical) : (execIslandClock island s).Canonical :=
  effect_canonical (fun _ h1 => when_canonical (fun _ h2 => loseIsland_canonical
    (when_canonical (fun _ h3 => raiseAlarm_canonical h3) (onSafety_canonical h2))) h1) h

theorem setSteward_canonical {st : StewardState} {p : Piece} (h : p.Canonical) : (setSteward st p).Canonical :=
  when_canonical (fun _ h1 => raiseBoth_canonical h1) h

theorem resetSteward_canonical {p : Piece} (h : p.Canonical) : (resetSteward p).Canonical :=
  canonical_foldl (fun _ _ h1 => receiverReset_canonical h1) (releaseLocks_canonical
    (bumpEpoch_canonical (setSteward_canonical h)))

theorem restartBringUp_canonical {p : Piece} (h : p.Canonical) : (restartBringUp p).Canonical :=
  when_canonical (fun _ h1 => setSteward_canonical h1) h

theorem lockstep_canonical {p : Piece} (h : p.Canonical) : (lockstep p).Canonical :=
  canonical_ite (raiseAlarm_canonical (setSteward_canonical (resetSteward_canonical
    (raiseAlarm_canonical (onSafety_canonical h))))) (restartBringUp_canonical
    (startDump_canonical (resetSteward_canonical (raiseAlarm_canonical (onSafety_canonical h)))))

theorem execStewardLockstep_canonical {s : State} (h : s.piece.Canonical) : (execStewardLockstep s).Canonical :=
  effect_canonical (fun _ h1 => when_canonical (fun _ h2 => lockstep_canonical h2) h1) h

theorem endInterrupted_canonical {p : Piece} (h : p.Canonical) : (endInterrupted p).Canonical := by
  unfold endInterrupted
  refine canonical_foldl (fun _ _ h1 => ?_) h
  split
  · split
    · exact finish_canonical h1
    · exact finish_canonical h1
    · exact h1
  · exact h1

theorem execStewardRestart_canonical {s : State} (h : s.piece.Canonical) : (execStewardRestart s).Canonical :=
  effect_canonical (fun _ h1 => when_canonical (fun _ h2 => endInterrupted_canonical (setSteward_canonical h2)) h1) h

theorem corrupt_canonical {panel inst index : Nat} {p : Piece} (h : p.Canonical) : (corrupt panel inst index p).Canonical := by
  unfold corrupt
  split
  · exact onXform_canonical (draw_canonical h)
  · exact h
  · exact onTally_canonical h
  · exact canonical_ite (coreFault_canonical h) (onCore_canonical h)
  · exact h

theorem mapRow_canonical {e : Element} {p : Piece} (h : p.Canonical) : (mapRow e p).Canonical :=
  when_canonical (fun _ h1 => onSafety_canonical h1) h

theorem execSramUe_canonical {panel instance_ index : Nat} {s : State} (h : s.piece.Canonical) :
    (execSramUe panel instance_ index s).Canonical :=
  effect_canonical (fun _ h1 => when_canonical (fun _ h2 => canonical_ite
    (when_canonical (fun _ h3 => lockstep_canonical h3) (raiseAlarm_canonical h2))
    (detectError_canonical (mapRow_canonical (corrupt_canonical (raiseAlarm_canonical h2))))) h1) h

theorem execSramScrub_canonical {s : State} (h : s.piece.Canonical) : (execSramScrub s).Canonical :=
  effect_canonical (fun _ h1 => h1) h

theorem execSpareRowMarch_canonical {s : State} (h : s.piece.Canonical) : (execSpareRowMarch s).Canonical :=
  effect_canonical (fun _ h1 => h1) h

theorem execTableCheck_canonical {mismatch : Bool} {s : State} (h : s.piece.Canonical) : (execTableCheck mismatch s).Canonical :=
  effect_canonical (fun _ h1 => when_canonical (fun _ h2 => raiseAlarm_canonical h2) h1) h

theorem execTargetedSelftestStart_canonical {element : Element} {s : State} (h : s.piece.Canonical) :
    (execTargetedSelftestStart element s).Canonical :=
  effect_canonical (fun _ h1 => when_canonical (fun _ h2 => onSafety_canonical h2) h1) h

theorem endHostTest_canonical {e : Element} {pass : Bool} {p : Piece} (h : p.Canonical) : (endHostTest e pass p).Canonical :=
  finishWaiting_canonical (when_canonical (fun _ h1 => retireElement_canonical h1) (writeJournal_canonical h))

theorem execTargetedSelftestEnd_canonical {pass : Bool} {s : State} (h : s.piece.Canonical) :
    (execTargetedSelftestEnd pass s).Canonical := by
  unfold execTargetedSelftestEnd
  refine effect_canonical (fun _ h1 => ?_) h
  split
  · exact h1
  · exact canonical_ite (endHostTest_canonical (onSafety_canonical h1))
      (canonical_ite (transientElement_canonical (onSafety_canonical h1)) (retireElement_canonical (onSafety_canonical h1)))

theorem actSelftestRun_canonical {fl : Flight} {ans : Answer} {p : Piece} (h : p.Canonical) :
    (actSelftestRun fl ans p).1.Canonical :=
  simple_canonical (fun _ _ h1 => guarded_canonical h1 (onSafety_canonical h1)) h

theorem execSelftestRun_canonical {c : Cmd} {s : State} (h : s.piece.Canonical) : (execSelftestRun c s).Canonical :=
  effect_canonical (fun _ h1 => runCommand_canonical (fun _ _ _ h2 => actSelftestRun_canonical h2) h1) h

theorem actSafetyConfigure_canonical {fl : Flight} {ans : Answer} {p : Piece} (h : p.Canonical) :
    (actSafetyConfigure fl ans p).1.Canonical :=
  simple_canonical (fun _ _ h1 => guarded_canonical h1 (writeJournal_canonical (onSafety_canonical (onDmc_canonical rfl h1)))) h

theorem execSafetyConfigure_canonical {c : Cmd} {s : State} (h : s.piece.Canonical) : (execSafetyConfigure c s).Canonical :=
  effect_canonical (fun _ h1 => runCommand_canonical (fun _ _ _ h2 => actSafetyConfigure_canonical h2) h1) h

theorem actJournalRead_canonical {fl : Flight} {ans : Answer} {p : Piece} (h : p.Canonical) :
    (actJournalRead fl ans p).1.Canonical := by
  unfold actJournalRead
  refine simple_canonical (fun _ _ h1 => ?_) h
  refine guarded_canonical h1 ?_
  split
  next _ _ he => exact canonical_fst he (pieceWrite_canonical h1)
  next _ _ _ _ he => exact canonical_fst he (pieceWrite_canonical h1)

theorem execJournalRead_canonical {c : Cmd} {s : State} (h : s.piece.Canonical) : (execJournalRead c s).Canonical :=
  effect_canonical (fun _ h1 => runCommand_canonical (fun _ _ _ h2 => actJournalRead_canonical h2) h1) h

theorem execJournalIncidentEnd_canonical {s : State} (h : s.piece.Canonical) : (execJournalIncidentEnd s).Canonical := by
  unfold execJournalIncidentEnd
  refine effect_canonical (fun _ h1 => ?_) h
  split
  · exact h1
  · exact when_canonical (fun _ h2 => canonical_foldl (fun _ _ h3 => writeJournal_canonical h3) (onSafety_canonical h2)) h1

theorem actDumpRegion_canonical {fl : Flight} {ans : Answer} {p : Piece} (h : p.Canonical) :
    (actDumpRegion fl ans p).1.Canonical :=
  simple_canonical (fun _ _ h1 => guarded_canonical h1 (onSafety_canonical h1)) h

theorem execDumpRegionSet_canonical {c : Cmd} {s : State} (h : s.piece.Canonical) : (execDumpRegionSet c s).Canonical :=
  effect_canonical (fun _ h1 => runCommand_canonical (fun _ _ _ h2 => actDumpRegion_canonical h2) h1) h

theorem actDumpRead_canonical {fl : Flight} {ans : Answer} {p : Piece} (h : p.Canonical) :
    (actDumpRead fl ans p).1.Canonical := by
  unfold actDumpRead
  refine simple_canonical (fun _ _ h1 => ?_) h
  refine guarded_canonical h1 ?_
  split
  next _ _ he => exact onSafety_canonical (canonical_fst he (pieceWrite_canonical h1))
  next _ _ _ _ he => exact canonical_fst he (pieceWrite_canonical h1)

theorem execDumpRead_canonical {c : Cmd} {s : State} (h : s.piece.Canonical) : (execDumpRead c s).Canonical :=
  effect_canonical (fun _ h1 => runCommand_canonical (fun _ _ _ h2 => actDumpRead_canonical h2) h1) h

theorem actFwBegin_canonical {fl : Flight} {ans : Answer} {p : Piece} (h : p.Canonical) : (actFwBegin fl ans p).1.Canonical :=
  simple_canonical (fun _ _ h1 => guarded_canonical h1 h1) h

theorem execFwUpdateBegin_canonical {c : Cmd} {s : State} (h : s.piece.Canonical) : (execFwUpdateBegin c s).Canonical :=
  effect_canonical (fun _ h1 => runCommand_canonical (fun _ _ _ h2 => actFwBegin_canonical h2) h1) h

theorem actFwChunk_canonical {fl : Flight} {ans : Answer} {p : Piece} (h : p.Canonical) : (actFwChunk fl ans p).1.Canonical :=
  guarded_canonical h (withTable_canonical h (fun _ => h))

theorem execFwUpdateChunk_canonical {c : Cmd} {s : State} (h : s.piece.Canonical) : (execFwUpdateChunk c s).Canonical :=
  effect_canonical (fun _ h1 => runCommand_canonical (fun _ _ _ h2 => actFwChunk_canonical h2) h1) h

theorem actFwCommit_canonical {fl : Flight} {ans : Answer} {p : Piece} (h : p.Canonical) : (actFwCommit fl ans p).1.Canonical :=
  simple_canonical (fun _ _ h1 => guarded_canonical h1 (canonical_fst_ite (writeJournal_canonical h1) h1)) h

theorem execFwUpdateCommit_canonical {c : Cmd} {s : State} (h : s.piece.Canonical) : (execFwUpdateCommit c s).Canonical :=
  effect_canonical (fun _ h1 => runCommand_canonical (fun _ _ _ h2 => actFwCommit_canonical h2) h1) h

theorem actKeyHash_canonical {fl : Flight} {ans : Answer} {p : Piece} (h : p.Canonical) : (actKeyHash fl ans p).1.Canonical := by
  unfold actKeyHash
  refine simple_canonical (fun _ _ h1 => ?_) h
  refine guarded_canonical h1 ?_
  split
  next _ _ he => exact canonical_fst he (pieceWrite_canonical h1)
  next _ _ _ _ he => exact canonical_fst he (pieceWrite_canonical h1)

theorem execKeyHashQuery_canonical {c : Cmd} {s : State} (h : s.piece.Canonical) : (execKeyHashQuery c s).Canonical :=
  effect_canonical (fun _ h1 => runCommand_canonical (fun _ _ _ h2 => actKeyHash_canonical h2) h1) h

theorem resetSafety_canonical {p : Piece} (h : p.Canonical) : (resetSafety p).Canonical := onSafety_canonical h

/-! ### Device DRAM over boot and bring-up -/

theorem onBoot_canonical {f : Boot → Boot} {p : Piece} (h : p.Canonical) : (onBoot f p).Canonical := h

theorem resetPiece_canonical {dump : Bool} {p : Piece} : (resetPiece dump p).Canonical := rfl

theorem execPowerOn_canonical {s : State} (h : s.piece.Canonical) : (execPowerOn s).Canonical :=
  effect_canonical (fun _ _ => resetPiece_canonical) h

theorem execSysResetAssert_canonical {widthNs : Nat} {s : State} (h : s.piece.Canonical) :
    (execSysResetAssert widthNs s).Canonical :=
  effect_canonical (fun _ h1 => canonical_ite resetPiece_canonical (canonical_ite h1
    (when_canonical (fun _ _ => resetPiece_canonical) (draw_canonical h1)))) h

theorem execSysResetRelease_canonical {s : State} (h : s.piece.Canonical) : (execSysResetRelease s).Canonical :=
  effect_canonical (fun _ h1 => when_canonical (fun _ h2 => onMonitor_canonical (onBoot_canonical h2)) h1) h

theorem execPowerDown_canonical {s : State} (h : s.piece.Canonical) : (execPowerDown s).Canonical :=
  effect_canonical (fun _ _ => resetPiece_canonical) h

theorem writeFirmwareEntry_canonical {panelType : Nat} {persistent : Bool} {p : Piece} (h : p.Canonical) :
    (writeFirmwareEntry panelType persistent p).Canonical := by
  unfold writeFirmwareEntry
  split
  next _ _ _ he => exact writeJournal_canonical (canonical_fst he (draw_canonical h))

theorem setPhase_canonical {ph : Phase} {p : Piece} (h : p.Canonical) : (setPhase ph p).Canonical := onBoot_canonical h

theorem enterCalibrate_canonical {p : Piece} (h : p.Canonical) : (enterCalibrate p).Canonical :=
  setPhase_canonical (onCal_canonical h)

theorem enterSynth_canonical {p : Piece} (h : p.Canonical) : (enterSynth p).Canonical := by
  unfold enterSynth
  split
  · dsimp only
    split
    next _ _ he => exact setPhase_canonical (startSynth_canonical he (onClocks_canonical h))
    · exact raiseAlarm_canonical (onBoot_canonical (onClocks_canonical h))
  · exact enterCalibrate_canonical h
  · exact setPhase_canonical h

theorem measureRefin_canonical {periodPs : Nat} {p : Piece} (h : p.Canonical) : (measureRefin periodPs p).Canonical := by
  unfold measureRefin
  split
  · exact onClocks_canonical h
  · exact h

theorem leaveWaitRef_canonical {p : Piece} (h : p.Canonical) : (leaveWaitRef p).Canonical :=
  when_canonical (fun _ h1 => enterSynth_canonical h1) h

theorem execBootImageVerified_canonical {verified : Bool} {s : State} (h : s.piece.Canonical) :
    (execBootImageVerified verified s).Canonical :=
  effect_canonical (fun _ h1 => when_canonical (fun _ h2 => canonical_ite
    (when_canonical (fun _ h3 => writeFirmwareEntry_canonical h3) (onSafety_canonical
    (endInterrupted_canonical (setPhase_canonical (onDmc_canonical rfl (setSteward_canonical h2))))))
    (canonical_ite (setSteward_canonical (setPhase_canonical h2)) (onBoot_canonical h2))) h1) h

theorem execDdr5TrainingDone_canonical {gib ranks : Nat} {rdimm : Bool} {rate6400 rate5600 rate4800 : Fin 16} {s : State}
    (h : s.piece.Canonical) : (execDdr5TrainingDone gib ranks rdimm rate6400 rate5600 rate4800 s).Canonical := by
  unfold execDdr5TrainingDone
  refine effect_canonical (fun _ h1 => ?_) h
  refine when_canonical (fun _ h2 => ?_) h1
  refine when_canonical (fun _ h3 => leaveWaitRef_canonical (setPhase_canonical (onBoot_canonical h3))) ?_
  split
  · exact onDmc_canonical rfl h2
  · exact writeFirmwareEntry_canonical (onDmc_canonical rfl h2)

theorem execReadyAssert_canonical {s : State} (h : s.piece.Canonical) : (execReadyAssert s).Canonical :=
  effect_canonical (fun _ h1 => when_canonical (fun _ h2 => onCal_canonical (onBoot_canonical h2)) h1) h

theorem execRefLoss_canonical {s : State} {cycles : optParam (List (Nat × Option Nat)) []} (h : s.piece.Canonical) :
    (execRefLoss s cycles).Canonical :=
  effect_canonical (fun _ h1 => when_canonical (fun _ h2 => raiseAlarm_canonical
    (trackFreq_canonical (fun _ h3 => onClocks_canonical h3) (onBoot_canonical h2))) (onClocks_canonical h1)) h

theorem execRefinPresent_canonical {cycles : List (Nat × Option Nat)} {s : State} (h : s.piece.Canonical) :
    (execRefinPresent cycles s).Canonical := by
  have hmeasured : ∀ p : Piece, p.Canonical → (((lastPeriod cycles).map fun t => measureRefin t p).getD p).Canonical := by
    intro p hp
    cases lastPeriod cycles
    · exact hp
    · exact measureRefin_canonical hp
  exact effect_canonical (fun _ h1 => when_canonical (fun p h2 => when_canonical
    (fun _ h3 => leaveWaitRef_canonical (trackFreq_canonical (fun _ h4 => onClocks_canonical h4) h3))
    (onClocks_canonical (canonical_ite h2 (hmeasured p h2)))) h1) h

theorem execWaitRefRetry_canonical {periodPs : Nat} {s : State} (h : s.piece.Canonical) :
    (execWaitRefRetry periodPs s).Canonical :=
  effect_canonical (fun _ h1 => when_canonical (fun _ h2 => leaveWaitRef_canonical (measureRefin_canonical (onBoot_canonical h2)))
    h1) h

theorem leaveSynth_canonical {p : Piece} (h : p.Canonical) : (leaveSynth p).Canonical :=
  when_canonical (fun _ h1 => enterCalibrate_canonical h1) h

theorem execSynthLockDeclare_canonical {s : State} (h : s.piece.Canonical) : (execSynthLockDeclare s).Canonical :=
  effect_canonical (fun _ h1 => when_canonical (fun _ h2 => leaveSynth_canonical
    (lookAtTargets_canonical (startConverters_canonical (trackFreq_canonical (fun _ h3 => declareLock_canonical h3) h2)))) h1) h

theorem execSynthUnlock_canonical {count : Nat} {s : State} (h : s.piece.Canonical) : (execSynthUnlock count s).Canonical := by
  unfold execSynthUnlock
  refine effect_canonical (fun _ h1 => ?_) h
  refine when_canonical (fun _ h2 => ?_) h1
  dsimp only
  split
  · exact enterCoast_canonical (onLedger_canonical (failConverters_canonical
      (raiseAlarm_canonical (trackFreq_canonical (fun _ h3 => onClocks_canonical h3) h2))))
  · exact enterCoast_canonical (onLedger_canonical (failConverters_canonical
      (raiseAlarm_canonical (trackFreq_canonical (fun _ h3 => onClocks_canonical h3) h2))))
  · exact enterCoast_canonical (onLedger_canonical (failConverters_canonical
      (raiseAlarm_canonical (trackFreq_canonical (fun _ h3 => onClocks_canonical h3) h2))))
  · exact enterCoast_canonical (onLedger_canonical (failConverters_canonical
      (raiseAlarm_canonical (trackFreq_canonical (fun _ h3 => onClocks_canonical h3) h2))))
  · exact failConverters_canonical (raiseAlarm_canonical (trackFreq_canonical (fun _ h3 => onClocks_canonical h3) h2))

theorem execSynthRelock_canonical {s : State} {windows : optParam (List (Nat × Nat)) []} (h : s.piece.Canonical) :
    (execSynthRelock s windows).Canonical :=
  effect_canonical (fun _ h1 => when_canonical (fun _ h2 => when_canonical
    (fun _ h3 => leaveSynth_canonical (startConverters_canonical (trackFreq_canonical (fun _ h4 => onClocks_canonical h4) h3)))
    (onClocks_canonical h2)) h1) h

/-! ### Device DRAM over SCAN -/

theorem onScan_canonical {f : Scanout → Scanout} {p : Piece} (h : p.Canonical) : (onScan f p).Canonical := h

theorem beginMode_canonical {m : ScanMode} {p : Piece} (h : p.Canonical) : (beginMode m p).Canonical :=
  when_canonical (fun _ h1 => finishAllWaiting_canonical h1) (onScan_canonical h)

theorem actScanMode_canonical {fl : Flight} {ans : Answer} {p : Piece} (h : p.Canonical) : (actScanMode fl ans p).1.Canonical :=
  simple_canonical (fun _ _ h1 => guarded_canonical h1 (canonical_fst_ite (onScan_canonical h1)
    (canonical_fst_ite (beginMode_canonical h1) (beginMode_canonical h1)))) h

theorem execScanModeSet_canonical {c : Cmd} {s : State} (h : s.piece.Canonical) : (execScanModeSet c s).Canonical :=
  effect_canonical (fun _ h1 => runCommand_canonical (fun _ _ _ h2 => actScanMode_canonical h2) h1) h

theorem execDpTrainingDone_canonical {ok : Bool} {s : State} (h : s.piece.Canonical) : (execDpTrainingDone ok s).Canonical :=
  effect_canonical (fun _ h1 => when_canonical (fun _ h2 => canonical_ite (finishAllWaiting_canonical (onScan_canonical h2))
    (finishAllWaiting_canonical (onScan_canonical h2))) h1) h

theorem execScanModeApply_canonical {s : State} (h : s.piece.Canonical) : (execScanModeApply s).Canonical := by
  unfold execScanModeApply
  refine effect_canonical (fun _ h1 => ?_) h
  refine when_canonical (fun _ h2 => ?_) h1
  refine canonical_ite (finishAllWaiting_canonical (onScan_canonical h2)) ?_
  split
  · exact beginMode_canonical h2
  · exact h2

theorem execHpdLoss_canonical {port : Fin 2} {s : State} (h : s.piece.Canonical) : (execHpdLoss port s).Canonical :=
  effect_canonical (fun _ h1 => canonical_ite (onScan_canonical (onScan_canonical h1))
    (when_canonical (fun _ h2 => finishAllWaiting_canonical (onScan_canonical h2)) (onScan_canonical h1))) h

theorem execIrqHpd_canonical {port : Fin 2} {linkLost : Bool} {s : State} (h : s.piece.Canonical) :
    (execIrqHpd port linkLost s).Canonical :=
  effect_canonical (fun _ h1 => when_canonical (fun _ h2 => onScan_canonical h2) (onScan_canonical h1)) h

theorem actScanLayer_canonical {fl : Flight} {ans : Answer} {p : Piece} (h : p.Canonical) : (actScanLayer fl ans p).1.Canonical :=
  simple_canonical (fun _ _ h1 => guarded_canonical h1 (onScan_canonical h1)) h

theorem execScanLayerSet_canonical {c : Cmd} {s : State} (h : s.piece.Canonical) : (execScanLayerSet c s).Canonical :=
  effect_canonical (fun _ h1 => runCommand_canonical (fun _ _ _ h2 => actScanLayer_canonical h2) h1) h

theorem actScanCommit_canonical {fl : Flight} {ans : Answer} {p : Piece} (h : p.Canonical) :
    (actScanCommit fl ans p).1.Canonical :=
  simple_canonical (fun _ _ h1 => guarded_canonical h1 (onScan_canonical h1)) h

theorem execScanCommit_canonical {c : Cmd} {s : State} (h : s.piece.Canonical) : (execScanCommit c s).Canonical :=
  effect_canonical (fun _ h1 => runCommand_canonical (fun _ _ _ h2 => actScanCommit_canonical h2) h1) h

theorem execScanLatch_canonical {s : State} (h : s.piece.Canonical) : (execScanLatch s).Canonical :=
  effect_canonical (fun _ h1 => when_canonical (fun _ h2 => when_canonical
    (fun _ h3 => when_canonical (fun _ h4 => finishAllWaiting_canonical h4) (onScan_canonical h3)) (onScan_canonical h2)) h1) h

theorem sendFrame_canonical {p : Piece} (h : p.Canonical) : (sendFrame p).Canonical :=
  when_canonical (fun _ h1 => emit_canonical h1) h

theorem execScanFrameStart_canonical {s : State} (h : s.piece.Canonical) : (execScanFrameStart s).Canonical :=
  effect_canonical (fun _ h1 => when_canonical (fun _ h2 => sendFrame_canonical (onScan_canonical h2)) h1) h

/-! ### Device DRAM over registers -/

theorem onRegs_canonical {f : Regs → Regs} {p : Piece} (h : p.Canonical) : (onRegs f p).Canonical := h

theorem dropShadows_canonical {r : Requester} {locs : List RegLoc} {p : Piece} (h : p.Canonical) :
    (dropShadows r locs p).Canonical :=
  onRegs_canonical h

theorem capture_canonical {r : Requester} {locs : List RegLoc} {p : Piece} (h : p.Canonical) : (capture r locs p).Canonical :=
  onRegs_canonical (dropShadows_canonical h)

theorem readWord_canonical {r : Requester} {loc : RegLoc} {p : Piece} (h : p.Canonical) : (readWord r loc p).1.Canonical := by
  unfold readWord
  split
  · split
    · exact dropShadows_canonical h
    · exact h
  · exact capture_canonical h

theorem readPair_canonical {r : Requester} {loc : RegLoc} {p : Piece} (h : p.Canonical) : (readPair r loc p).1.Canonical := by
  unfold readPair
  split
  · split
    next _ _ _ he1 =>
      split
      next _ _ _ he2 => exact canonical_fst he2 (readWord_canonical (canonical_fst he1 (readWord_canonical h)))
  · exact dropShadows_canonical h

theorem readReg_canonical {r : Requester} {loc : RegLoc} {wide : Bool} {p : Piece} (h : p.Canonical) :
    (readReg r loc wide p).1.Canonical := by
  unfold readReg
  split
  · exact takeInbound_canonical h
  · exact canonical_fst_ite (readLock_canonical h) h
  · refine canonical_fst_ite (readPair_canonical h) ?_
    split
    next _ _ _ he => exact canonical_fst he (readWord_canonical h)

theorem readBy_canonical {r : Requester} {loc : RegLoc} {wide : Bool} {p : Piece} (h : p.Canonical) :
    (readBy r loc wide p).Canonical := by
  unfold readBy
  refine when_canonical (fun _ h1 => ?_) h
  split
  next _ _ _ he => exact emit_canonical (canonical_fst he (readReg_canonical h1))

theorem execRscLowRead_canonical {requester : Requester} {loc : RegLoc} {wide : Bool} {s : State} (h : s.piece.Canonical) :
    (execRscLowRead requester loc wide s).Canonical :=
  effect_canonical (fun _ h1 => readBy_canonical h1) h

theorem execShadowRead_canonical {requester : Requester} {loc : RegLoc} {s : State} (h : s.piece.Canonical) :
    (execShadowRead requester loc s).Canonical :=
  effect_canonical (fun _ h1 => readBy_canonical h1) h

theorem onMsix_canonical {fn v : Nat} {f : MsixEntry → MsixEntry} {p : Piece} (h : p.Canonical) : (onMsix fn v f p).Canonical :=
  onRegs_canonical h

theorem writeMsixCtrl_canonical {fn v value : Nat} {p : Piece} (h : p.Canonical) : (writeMsixCtrl fn v value p).Canonical :=
  when_canonical (fun _ h1 => raiseVector_canonical h1) (onMsix_canonical h)

theorem writeMsix_canonical {fn off value : Nat} {p : Piece} (h : p.Canonical) : (writeMsix fn off value p).Canonical := by
  unfold writeMsix
  refine canonical_ite h ?_
  split
  · exact onMsix_canonical h
  · exact onMsix_canonical h
  · exact onMsix_canonical h
  · exact writeMsixCtrl_canonical h
  · exact h

theorem clearAlarms_canonical {pick : Nat → Bool} {p : Piece} (h : p.Canonical) : (clearAlarms pick p).Canonical :=
  onSafety_canonical h

theorem writeAlarm_canonical {r : Requester} {code value : Nat} {p : Piece} (h : p.Canonical) :
    (writeAlarm r code value p).Canonical :=
  when_canonical (fun _ h1 => clearAlarms_canonical h1) h

theorem writeGroupClear_canonical {r : Requester} {value : Nat} {p : Piece} (h : p.Canonical) :
    (writeGroupClear r value p).Canonical :=
  when_canonical (fun _ h1 => clearAlarms_canonical h1) h

theorem writePanelReset_canonical {value : Nat} {p : Piece} (h : p.Canonical) : (writePanelReset value p).Canonical :=
  when_canonical (fun _ h1 => onRegs_canonical h1) h

theorem writeMbx_canonical {r : Requester} {ch off value : Nat} {p : Piece} (h : p.Canonical) :
    (writeMbx r ch off value p).Canonical := by
  unfold writeMbx
  split
  · exact mbxWrite_canonical (fun _ h1 => onChannel_canonical h1) h
  · exact mbxWrite_canonical (fun _ h1 => onChannel_canonical h1) h
  · exact mbxWrite_canonical (fun _ h1 => onChannel_canonical h1) h
  · exact ringDoorbell_canonical h
  · exact clearMbxStatus_canonical h
  · exact mbxWrite_canonical (fun _ h1 => onChannel_canonical h1) h
  · exact h

theorem writeReg_canonical {r : Requester} {loc : RegLoc} {value : Nat} {p : Piece} (h : p.Canonical) :
    (writeReg r loc value p).Canonical := by
  unfold writeReg
  split
  · exact writeMbx_canonical h
  · exact when_canonical (fun _ h1 => writeLock_canonical h1) h
  · split
    · exact canonical_ite (writePanelReset_canonical h) (canonical_ite (writeMsix_canonical h) h)
    · exact canonical_ite (writeGroupClear_canonical h) (canonical_ite (writeAlarm_canonical h)
        (canonical_ite (canonical_ite h (writeMsix_canonical h)) h))
    · exact when_canonical (fun _ h1 => extendChain_canonical h1) h

theorem writeWide_canonical {r : Requester} {loc : RegLoc} {value : Nat} {p : Piece} (h : p.Canonical) :
    (writeWide r loc value p).Canonical := by
  unfold writeWide
  split
  · exact when_canonical (fun _ h1 => writeLock_canonical h1) h
  · exact writeReg_canonical (writeReg_canonical h)

theorem execRegisterWrite_canonical {requester : Requester} {loc : RegLoc} {value : BitVec 64} {s : State}
    {wide : optParam Bool false} (h : s.piece.Canonical) : (execRegisterWrite requester loc value s wide).Canonical := by
  unfold execRegisterWrite
  refine effect_canonical (fun _ h1 => ?_) h
  refine when_canonical (fun _ h2 => ?_) h1
  split
  · exact writeWide_canonical h2
  · exact writeReg_canonical h2

theorem execPiecePanelResetWrite_canonical {value : Word} {s : State} (h : s.piece.Canonical) :
    (execPiecePanelResetWrite value s).Canonical :=
  effect_canonical (fun _ h1 => when_canonical (fun _ h2 => writePanelReset_canonical h2) h1) h

theorem execMsixCtrlWrite_canonical {function : Fin 2} {vector : Fin 64} {value : Word} {s : State} (h : s.piece.Canonical) :
    (execMsixCtrlWrite function vector value s).Canonical :=
  effect_canonical (fun _ h1 => when_canonical (fun _ h2 => writeMsixCtrl_canonical h2) h1) h

theorem execAlarmEntryClear_canonical {requester : Requester} {code : Nat} {value : Word} {s : State} (h : s.piece.Canonical) :
    (execAlarmEntryClear requester code value s).Canonical :=
  effect_canonical (fun _ h1 => writeAlarm_canonical h1) h

theorem execSafeGroupClear_canonical {requester : Requester} {value : Word} {s : State} (h : s.piece.Canonical) :
    (execSafeGroupClear requester value s).Canonical :=
  effect_canonical (fun _ h1 => writeGroupClear_canonical h1) h

theorem execMgmtReadWord_canonical {offset count : Nat} {pecOk : Bool} {s : State} (h : s.piece.Canonical) :
    (execMgmtReadWord offset count pecOk s).Canonical := by
  unfold execMgmtReadWord
  refine effect_canonical (fun _ h1 => ?_) h
  refine canonical_ite h1 (canonical_ite (emit_canonical h1) ?_)
  refine canonical_ite ?_ (emit_canonical h1)
  split
  next _ _ _ he => exact emit_canonical (canonical_fst he (readReg_canonical h1))

theorem execMgmtWriteWord_canonical {offset count : Nat} {value : Word} {pecOk : Bool} {s : State} (h : s.piece.Canonical) :
    (execMgmtWriteWord offset count value pecOk s).Canonical :=
  effect_canonical (fun _ h1 => canonical_ite h1 (canonical_ite (emit_canonical h1)
    (when_canonical (fun _ h2 => writeReg_canonical h2) h1))) h

theorem execMgmtUnknownCommand_canonical {code : Byte} {s : State} (h : s.piece.Canonical) :
    (execMgmtUnknownCommand code s).Canonical :=
  effect_canonical (fun _ h1 => when_canonical (fun _ h2 => emit_canonical h2) h1) h

theorem countRecordDrop_canonical {e : EventRecord} {p : Piece} (h : p.Canonical) : (countRecordDrop e p).Canonical := by
  unfold countRecordDrop
  split
  · exact onTrigger_canonical h
  · exact countLost_canonical h
  · exact h

theorem execEventRecordWrite_canonical {consumer : Answer} {s : State} (h : s.piece.Canonical) :
    (execEventRecordWrite consumer s).Canonical := by
  unfold execEventRecordWrite
  refine effect_canonical (fun _ h1 => ?_) h
  split
  · exact h1
  · dsimp only
    split
    · exact enterEvent_canonical (fun _ h2 => countRecordDrop_canonical h2) (rereadEvent_canonical h1)
    · exact countVoided_canonical h1

theorem execDumpWritten_canonical {s : State} (h : s.piece.Canonical) : (execDumpWritten s).Canonical := by
  unfold execDumpWritten
  refine effect_canonical (fun _ h1 => ?_) h
  split
  · exact h1
  · exact when_canonical (fun _ h2 => when_canonical (fun _ h3 => emit_canonical h3)
      (writeJournal_canonical (onSafety_canonical h2))) h1

/-! ### Device DRAM over panel resets -/

theorem labelIssued_canonical {p : Piece} (h : p.Canonical) : (labelIssued p).Canonical := by
  unfold labelIssued
  refine canonical_foldl (fun q source h1 => onAux_canonical (canonical_snd_foldl (fun x r h2 => ?_) h1)) h
  dsimp only
  split
  · exact h2
  · exact labelStamp_canonical h2

theorem resetLedger_canonical {p : Piece} (h : p.Canonical) : (resetLedger p).Canonical :=
  onLedger_canonical (onClocks_canonical (setLedgerState_canonical (onLedger_canonical (labelIssued_canonical h))))

theorem resetClockSources_canonical {p : Piece} (h : p.Canonical) : (resetClockSources p).Canonical :=
  onAux_canonical (onAux_canonical (canonical_foldl (fun _ _ h1 => when_canonical (fun _ h2 => closeAtEnd_canonical h2) h1) h))

theorem idleConverter_canonical {i : Nat} {p : Piece} (h : p.Canonical) : (idleConverter i p).Canonical :=
  applyFront_canonical (onRfin_canonical h)

theorem rebaseTicks_canonical {p : Piece} (h : p.Canonical) : (rebaseTicks p).Canonical := h

theorem backToWaitRef_canonical {p : Piece} (h : p.Canonical) : (backToWaitRef p).Canonical :=
  when_canonical (fun _ h1 => setPhase_canonical h1) h

theorem resetClocks_canonical {p : Piece} (h : p.Canonical) : (resetClocks p).Canonical :=
  backToWaitRef_canonical (rebaseTicks_canonical (canonical_foldl (fun _ _ h1 => idleConverter_canonical h1)
    (trackFreq_canonical (fun _ h1 => onClocks_canonical h1) (onLedger_canonical
    (resetLedger_canonical (resetClockSources_canonical h))))))

theorem resetRfin_canonical {i : Nat} {p : Piece} (h : p.Canonical) : (resetRfin i p).Canonical :=
  when_canonical (fun _ h1 => onRfin_canonical h1) (onRfin_canonical (when_canonical (fun _ h1 => changePairing_canonical h1) h))

theorem regrid_canonical {i : Nat} {p : Piece} (h : p.Canonical) : (regrid i p).Canonical :=
  when_canonical (fun _ h1 => onXform_canonical h1) h

theorem resetChan_canonical {i : Nat} {p : Piece} (h : p.Canonical) : (resetChan i p).Canonical :=
  regrid_canonical (onChan_canonical (loseSource_canonical (endChan_canonical h)))

theorem resetXform_canonical {i : Nat} {p : Piece} (h : p.Canonical) : (resetXform i p).Canonical :=
  settleMask_canonical (onTrigger_canonical (onXform_canonical h))

theorem resetStamp_canonical {k : Nat} {p : Piece} (h : p.Canonical) : (resetStamp k p).Canonical := by
  have hlost : ((List.range 4).foldl (fun p n => loseSource (4 * k + n) 6 p) p).Canonical :=
    canonical_foldl (fun _ _ h1 => loseSource_canonical h1) h
  exact canonical_of_dmc hlost rfl

theorem resetTally_canonical {p : Piece} (h : p.Canonical) : (resetTally p).Canonical :=
  h

theorem resetDmc_canonical {p : Piece} (h : p.Canonical) : (resetDmc p).Canonical :=
  faultAcqs_canonical (onSafety_canonical (onDmc_canonical rfl h))

theorem resetStream_canonical {p : Piece} (h : p.Canonical) : (resetStream p).Canonical := onHostif_canonical h

theorem resetCal_canonical {p : Piece} (h : p.Canonical) : (resetCal p).Canonical :=
  when_canonical (fun _ h1 => calEvent_canonical h1) (onCal_canonical (endVisits_canonical h))

theorem resetPanel_canonical {t i : Nat} {p : Piece} (h : p.Canonical) : (resetPanel t i p).Canonical := by
  unfold resetPanel
  split
  · exact resetLedger_canonical h
  · exact resetClocks_canonical h
  · exact resetRfin_canonical h
  · exact resetChan_canonical h
  · exact resetXform_canonical h
  · exact h
  · exact h
  · exact h
  · exact resetStamp_canonical h
  · exact resetTally_canonical h
  · exact resetGythen_canonical h
  · exact resetStream_canonical h
  · exact h
  · exact resetDmc_canonical h
  · exact resetHostif_canonical h
  · exact resetNet_canonical h
  · exact h
  · exact resetSafety_canonical h
  · exact onMonitor_canonical h
  · exact resetCal_canonical h
  · exact restartBringUp_canonical (resetSteward_canonical h)
  · exact h

theorem abortWaiting_canonical {t i : Nat} {p : Piece} (h : p.Canonical) : (abortWaiting t i p).Canonical :=
  canonical_foldl (fun _ _ h1 => finish_canonical h1) h

theorem performReset_canonical {t i : Nat} {p : Piece} (h : p.Canonical) : (performReset t i p).Canonical :=
  onRegs_canonical (abortWaiting_canonical (resetPanel_canonical h))

theorem execPanelReset_canonical {s : State} (h : s.piece.Canonical) : (execPanelReset s).Canonical :=
  effect_canonical (fun _ h1 => when_canonical (fun _ h2 => canonical_ite (onRegs_canonical h2)
    (canonical_ite (performReset_canonical (onRegs_canonical h2)) (onRegs_canonical (performReset_canonical h2)))) h1) h

/-! ### Device DRAM over a step -/

/-- Every command that answers a next state leaves device DRAM in its canonical form. -/
theorem exec_canonical {i : Instr} {s : State} (h : s.piece.Canonical) : Out.Canonical (exec i s) :=
  match i with
  | .powerOn => execPowerOn_canonical h
  | .sysResetAssert _ => execSysResetAssert_canonical h
  | .sysResetRelease => execSysResetRelease_canonical h
  | .perstN => execPerstN_canonical h
  | .functionLevelReset _ => execFunctionLevelReset_canonical h
  | .hostLinkRemoval => execHostLinkRemoval_canonical h
  | .hostLinkUp _ _ _ _ => execHostLinkUp_canonical h
  | .linkRetrain _ _ => execLinkRetrain_canonical h
  | .hostRequestTimeout _ => execHostRequestTimeout_canonical h
  | .hostReadCompletion _ _ => execHostReadCompletion_canonical h
  | .bar2Access _ _ _ _ => execBar2Access_canonical h
  | .hdmAccess _ _ _ _ => execHdmAccess_canonical h
  | .hdmDecoderCommit _ _ _ => execHdmDecoderCommit_canonical h
  | .doorbell _ _ _ => execDoorbell_canonical h
  | .mbxInTake _ _ _ => execMbxInTake_canonical h
  | .mbxStatusClear _ _ _ => execMbxStatusClear_canonical h
  | .mbxTimeoutExpiry _ _ _ => execMbxTimeoutExpiry_canonical h
  | .noticeTakeBySteward => execNoticeTakeBySteward_canonical h
  | .commandFetchDone _ _ => execCommandFetchDone_canonical h
  | .commandFetchFail _ => execCommandFetchFail_canonical h
  | .completionRingRetry _ _ _ => execCompletionRingRetry_canonical h
  | .stewardNoticePost _ => execStewardNoticePost_canonical h
  | .lockAcquireRead _ _ _ _ => execLockAcquireRead_canonical h
  | .lockReleaseWrite _ _ _ _ => execLockReleaseWrite_canonical h
  | .rscLowRead _ _ _ => execRscLowRead_canonical h
  | .shadowRead _ _ => execShadowRead_canonical h
  | .piecePanelResetWrite _ => execPiecePanelResetWrite_canonical h
  | .panelReset => execPanelReset_canonical h
  | .msixCtrlWrite _ _ _ => execMsixCtrlWrite_canonical h
  | .alarmEntryClear _ _ _ => execAlarmEntryClear_canonical h
  | .safeGroupClear _ _ => execSafeGroupClear_canonical h
  | .registerWrite _ _ _ _ => execRegisterWrite_canonical h
  | .mgmtReadWord _ _ _ => execMgmtReadWord_canonical h
  | .mgmtWriteWord _ _ _ _ => execMgmtWriteWord_canonical h
  | .mgmtUnknownCommand _ => execMgmtUnknownCommand_canonical h
  | .journalIncidentEnd => execJournalIncidentEnd_canonical h
  | .refLoss _ => execRefLoss_canonical h
  | .refinPresent _ => execRefinPresent_canonical h
  | .ppsinPulse _ => execPpsinPulse_canonical h
  | .ppsWindowClose => execPpsWindowClose_canonical h
  | .ppsLoss => execPpsLoss_canonical h
  | .ppsinPresent => execPpsinPresent_canonical h
  | .synthLockDeclare => execSynthLockDeclare_canonical h
  | .synthUnlock _ => execSynthUnlock_canonical h
  | .synthRelock _ => execSynthRelock_canonical h
  | .mappingChangeApply => execMappingChangeApply_canonical h
  | .slewEnd => execSlewEnd_canonical h
  | .holdoverEval => execHoldoverEval_canonical h
  | .timeSourceLost => execTimeSourceLost_canonical h
  | .timeSourcePresent _ => execTimeSourcePresent_canonical h
  | .ledgerEpochStep => execLedgerEpochStep_canonical h
  | .ledgerMismatch => execLedgerMismatch_canonical h
  | .tapPhase _ => execTapPhase_canonical h
  | .ledgerSecondBoundary => execLedgerSecondBoundary_canonical h
  | .ppsoutPulseEnd => execPpsoutPulseEnd_canonical h
  | .clkoutSettingArrive _ => execClkoutSettingArrive_canonical h
  | .timecodeFrameIn _ => execTimecodeFrameIn_canonical h
  | .monitorConversion _ => execMonitorConversion_canonical h
  | .monitorFrameStart _ => execMonitorFrameStart_canonical h
  | .monitorUrgentRequest _ _ _ => execMonitorUrgentRequest_canonical h
  | .rfinConfigure _ => execRfinConfigure_canonical h
  | .rfinSelectSource _ => execRfinSelectSource_canonical h
  | .frontEndChangeApply _ => execFrontEndChangeApply_canonical h
  | .sampleBlock _ _ => execSampleBlock_canonical h
  | .sliceHandover _ _ _ => execSliceHandover_canonical h
  | .handoverAbandon _ => execHandoverAbandon_canonical h
  | .sliceFault _ _ => execSliceFault_canonical h
  | .sliceTakeover _ => execSliceTakeover_canonical h
  | .sliceRotationStart _ => execSliceRotationStart_canonical h
  | .sliceAwayEnd _ _ => execSliceAwayEnd_canonical h
  | .chanConfigure _ => execChanConfigure_canonical h
  | .chanFilterLoad _ => execChanFilterLoad_canonical h
  | .ddcChangeApply _ _ => execDdcChangeApply_canonical h
  | .coefficientSwap _ _ => execCoefficientSwap_canonical h
  | .ddcBlock _ _ => execDdcBlock_canonical h
  | .xingSettingApply _ => execXingSettingApply_canonical h
  | .xformConfigure _ => execXformConfigure_canonical h
  | .xformWindowLoad _ => execXformWindowLoad_canonical h
  | .detectorSet _ => execDetectorSet_canonical h
  | .xformGridRestart _ => execXformGridRestart_canonical h
  | .transformFrame _ => execTransformFrame_canonical h
  | .densityConfigure _ => execDensityConfigure_canonical h
  | .densitySnapshot _ => execDensitySnapshot_canonical h
  | .densitySnapshotCut _ => execDensitySnapshotCut_canonical h
  | .densityReadoutDone _ _ => execDensityReadoutDone_canonical h
  | .densityItemAccept _ => execDensityItemAccept_canonical h
  | .spectrogramConfigure _ => execSpectrogramConfigure_canonical h
  | .trigCellSet _ => execTrigCellSet_canonical h
  | .trigMaskLoad _ => execTrigMaskLoad_canonical h
  | .maskSwap _ => execMaskSwap_canonical h
  | .trigCombineSet _ => execTrigCombineSet_canonical h
  | .trigRouteSet _ => execTrigRouteSet_canonical h
  | .trigForce _ => execTrigForce_canonical h
  | .trigSettingApply _ => execTrigSettingApply_canonical h
  | .freqMaskVerdict _ => execFreqMaskVerdict_canonical h
  | .stampCoincArrival => execStampCoincArrival_canonical h
  | .trigInEdge _ _ => execTrigInEdge_canonical h
  | .timeMatchFire _ => execTimeMatchFire_canonical h
  | .matrixEventArrive => execMatrixEventArrive_canonical h
  | .triggerEventIssue => execTriggerEventIssue_canonical h
  | .trigOutPulseStart _ => execTrigOutPulseStart_canonical h
  | .trigOutPulseEnd _ => execTrigOutPulseEnd_canonical h
  | .acqConfigure _ => execAcqConfigure_canonical h
  | .acqArm _ => execAcqArm_canonical h
  | .acqArmPoint _ => execAcqArmPoint_canonical h
  | .acqStop _ => execAcqStop_canonical h
  | .acqMasktestLoad _ => execAcqMasktestLoad_canonical h
  | .acqReadout _ => execAcqReadout_canonical h
  | .acqReadoutDone _ _ => execAcqReadoutDone_canonical h
  | .acqBlockReceive _ _ => execAcqBlockReceive_canonical h
  | .acqTriggerArrive _ => execAcqTriggerArrive_canonical h
  | .segmentComplete _ => execSegmentComplete_canonical h
  | .stampInputSet _ => execStampInputSet_canonical h
  | .stampSettingsApply _ => execStampSettingsApply_canonical h
  | .thresholdBlankEnd _ => execThresholdBlankEnd_canonical h
  | .stampEdgeCapture _ _ => execStampEdgeCapture_canonical h
  | .fabricGrant _ => execFabricGrant_canonical h
  | .stampFifoWaitExpiry _ => execStampFifoWaitExpiry_canonical h
  | .stampRawStream _ => execStampRawStream_canonical h
  | .interpRoundStart _ => execInterpRoundStart_canonical h
  | .interpRoleEnd _ _ => execInterpRoleEnd_canonical h
  | .interpFault _ _ => execInterpFault_canonical h
  | .compFault _ => execCompFault_canonical h
  | .countStart _ => execCountStart_canonical h
  | .countStartApply _ => execCountStartApply_canonical h
  | .countStop _ => execCountStop_canonical h
  | .countRead _ => execCountRead_canonical h
  | .tiWindowSet _ => execTiWindowSet_canonical h
  | .orderingRelease _ => execOrderingRelease_canonical h
  | .gateClose _ => execGateClose_canonical h
  | .resultIssue => execResultIssue_canonical h
  | .firmwareKernelHalt => execFirmwareKernelHalt_canonical h
  | .tallyBind _ => execTallyBind_canonical h
  | .tallySnapshot _ => execTallySnapshot_canonical h
  | .tallySnapshotCut _ => execTallySnapshotCut_canonical h
  | .tallySnapshotDone _ _ => execTallySnapshotDone_canonical h
  | .tallyClear _ => execTallyClear_canonical h
  | .tallyStampUpdate => execTallyStampUpdate_canonical h
  | .tallyXformUpdate => execTallyXformUpdate_canonical h
  | .tallyPostUpdate => execTallyPostUpdate_canonical h
  | .tallyStoreClearDone => execTallyStoreClearDone_canonical h
  | .calPolicySet _ => execCalPolicySet_canonical h
  | .calRun _ => execCalRun_canonical h
  | .calStatus _ => execCalStatus_canonical h
  | .fullCalStart => execFullCalStart_canonical h
  | .fullCalEnd _ => execFullCalEnd_canonical h
  | .kernelLoad _ => execKernelLoad_canonical h
  | .kernelStart _ => execKernelStart_canonical h
  | .kernelStop _ => execKernelStop_canonical h
  | .gythenBundle _ => execGythenBundle_canonical h
  | .kernelDone _ => execKernelDone_canonical h
  | .postQueueDrain _ => execPostQueueDrain_canonical h
  | .fetchGo _ => execFetchGo_canonical h
  | .fetchComplete _ => execFetchComplete_canonical h
  | .timeLoRead _ => execTimeLoRead_canonical h
  | .stampPop _ => execStampPop_canonical h
  | .sysHello _ => execSysHello_canonical h
  | .sessionOpen _ => execSessionOpen_canonical h
  | .sessionClose _ => execSessionClose_canonical h
  | .panelClaim _ => execPanelClaim_canonical h
  | .panelRelease _ => execPanelRelease_canonical h
  | .fence _ => execFence_canonical h
  | .eventRingSet _ => execEventRingSet_canonical h
  | .completionRingSet _ => execCompletionRingSet_canonical h
  | .abortTag _ => execAbortTag_canonical h
  | .refSelect _ => execRefSelect_canonical h
  | .synthBandTableLoad _ => execSynthBandTableLoad_canonical h
  | .synthStart _ => execSynthStart_canonical h
  | .clkoutSet _ => execClkoutSet_canonical h
  | .ledgerSetEpoch _ => execLedgerSetEpoch_canonical h
  | .ledgerSteer _ => execLedgerSteer_canonical h
  | .ledgerJumpResolve _ => execLedgerJumpResolve_canonical h
  | .holdoverModelSet _ => execHoldoverModelSet_canonical h
  | .timecodeSet _ => execTimecodeSet_canonical h
  | .streamOpen _ => execStreamOpen_canonical h
  | .streamChainSet _ => execStreamChainSet_canonical h
  | .streamRingSet _ => execStreamRingSet_canonical h
  | .streamClose _ => execStreamClose_canonical h
  | .checkScan _ => execCheckScan_canonical h
  | .checkScanPassDone _ _ => execCheckScanPassDone_canonical h
  | .checkPeriodicStart _ => execCheckPeriodicStart_canonical h
  | .chainExtend _ => execChainExtend_canonical h
  | .descriptorComplete _ _ _ _ => execDescriptorComplete_canonical h
  | .chainLinkRead _ _ => execChainLinkRead_canonical h
  | .sourceRecordArrive _ => execSourceRecordArrive_canonical h
  | .ringConsumerReread _ _ => execRingConsumerReread_canonical h
  | .eventRecordWrite _ => execEventRecordWrite_canonical h
  | .eventRingRetry _ _ => execEventRingRetry_canonical h
  | .netPortSet _ => execNetPortSet_canonical h
  | .netJoin _ => execNetJoin_canonical h
  | .netLeave _ => execNetLeave_canonical h
  | .netDelayTableLoad _ => execNetDelayTableLoad_canonical h
  | .netStatus _ => execNetStatus_canonical h
  | .netHorizonSet _ => execNetHorizonSet_canonical h
  | .portLinked _ _ => execPortLinked_canonical h
  | .netLinkLoss _ => execNetLinkLoss_canonical h
  | .timeMessageSend _ _ => execTimeMessageSend_canonical h
  | .timeMessageReceive _ _ _ => execTimeMessageReceive_canonical h
  | .announcementSend => execAnnouncementSend_canonical h
  | .announcementReceive _ _ => execAnnouncementReceive_canonical h
  | .crossTriggerReceive _ _ => execCrossTriggerReceive_canonical h
  | .crossTriggerSend _ => execCrossTriggerSend_canonical h
  | .alarmSummarySend => execAlarmSummarySend_canonical h
  | .alarmSummaryReceive _ _ => execAlarmSummaryReceive_canonical h
  | .joinRequestReceive _ _ _ => execJoinRequestReceive_canonical h
  | .joinResponseReceive _ => execJoinResponseReceive_canonical h
  | .joinTimeout => execJoinTimeout_canonical h
  | .leaveNoticeReceive _ => execLeaveNoticeReceive_canonical h
  | .leaveRequestReceive _ _ => execLeaveRequestReceive_canonical h
  | .leaveConfirm _ => execLeaveConfirm_canonical h
  | .epochMessageReceive _ _ => execEpochMessageReceive_canonical h
  | .reparentRequestReceive _ _ _ => execReparentRequestReceive_canonical h
  | .reparentConfirmReceive _ => execReparentConfirmReceive_canonical h
  | .reparentTimeout => execReparentTimeout_canonical h
  | .scanModeSet _ => execScanModeSet_canonical h
  | .scanLayerSet _ => execScanLayerSet_canonical h
  | .scanCommit _ => execScanCommit_canonical h
  | .dpTrainingDone _ => execDpTrainingDone_canonical h
  | .scanLatch => execScanLatch_canonical h
  | .scanFrameStart => execScanFrameStart_canonical h
  | .scanModeApply => execScanModeApply_canonical h
  | .hpdLoss _ => execHpdLoss_canonical h
  | .irqHpd _ _ => execIrqHpd_canonical h
  | .safetyConfigure _ => execSafetyConfigure_canonical h
  | .journalRead _ => execJournalRead_canonical h
  | .selftestRun _ => execSelftestRun_canonical h
  | .dumpRegionSet _ => execDumpRegionSet_canonical h
  | .dumpRead _ => execDumpRead_canonical h
  | .monitorSequenceSet _ => execMonitorSequenceSet_canonical h
  | .fwUpdateBegin _ => execFwUpdateBegin_canonical h
  | .fwUpdateChunk _ => execFwUpdateChunk_canonical h
  | .fwUpdateCommit _ => execFwUpdateCommit_canonical h
  | .keyHashQuery _ => execKeyHashQuery_canonical h
  | .railWindow _ => execRailWindow_canonical h
  | .overTemp sensor => execOverTemp_canonical (sensor := sensor) h
  | .outputReadback ball => execOutputReadback_canonical (ball := ball) h
  | .islandClock _ => execIslandClock_canonical h
  | .sramUe _ _ _ => execSramUe_canonical h
  | .sramScrub => execSramScrub_canonical h
  | .stewardLockstep => execStewardLockstep_canonical h
  | .stewardRestart => execStewardRestart_canonical h
  | .tableCheck _ => execTableCheck_canonical h
  | .targetedSelftestStart _ => execTargetedSelftestStart_canonical h
  | .targetedSelftestEnd _ => execTargetedSelftestEnd_canonical h
  | .spareRowMarch => execSpareRowMarch_canonical h
  | .dumpWritten => execDumpWritten_canonical h
  | .dmcFreeze _ _ => execDmcFreeze_canonical h
  | .dramCorrectedError _ => execDramCorrectedError_canonical h
  | .patrolScrub => execPatrolScrub_canonical h
  | .refreshDue _ => execRefreshDue_canonical h
  | .neighbourRefresh _ _ => execNeighbourRefresh_canonical h
  | .actWindowClear => execActWindowClear_canonical h
  | .bulkPromotion _ => execBulkPromotion_canonical h
  | .panicRaise _ _ => execPanicRaise_canonical h
  | .ddr5TrainingDone _ _ _ _ _ _ => execDdr5TrainingDone_canonical h
  | .dramInitDone => execDramInitDone_canonical h
  | .bootImageVerified _ => execBootImageVerified_canonical h
  | .waitRefRetry _ => execWaitRefRetry_canonical h
  | .readyAssert => execReadyAssert_canonical h
  | .powerDown => execPowerDown_canonical h
  | .trigOutInactiveEnd _ => execTrigOutInactiveEnd_canonical h
  | .tcodeInPresentLapse => execTcodeInPresentLapse_canonical h
  | .sfpModuleRead _ _ _ _ => execSfpModuleRead_canonical h

/-- Settles O59: an idle tick keeps the canonical form, and so does the command in front of the queue. -/
theorem stepKeepsMemoryCanonical : Obligations.StepKeepsMemoryCanonical := by
  unfold Obligations.StepKeepsMemoryCanonical
  rintro ⟨p, q⟩ t h hstep
  cases q with
  | nil =>
    cases hstep
    exact idle_canonical h
  | cons i q => exact exec_canonical (s := ⟨p, q⟩) h t hstep

end Sys2Proof.Machine

/-! Every command answers: an effect of the piece, or a refusal of operands that the row cannot carry. -/

namespace Sys2Proof.Machine

/-- A command with a test of its operands answers the effect where the test holds, and is refused where it fails. -/
theorem effectIf_answers {ok : Bool} (f : Piece → Piece) (p : Piece) (q : List Instr) :
    if ok then ∃ t, effectIf ok f ⟨p, q⟩ = .next ⟨t, q⟩ else effectIf ok f ⟨p, q⟩ = .refused .illFormed := by
  cases ok
  · exact rfl
  · exact ⟨f p, rfl⟩

/-- Settles O3: seven rows test their operands; every other row is an effect of the piece, whatever its operands are. -/
theorem wellFormedCommandsAnswer : Obligations.WellFormedCommandsAnswer := by
  unfold Obligations.WellFormedCommandsAnswer
  intro i p q
  cases i
  case sampleBlock => exact effectIf_answers _ p q
  case bar2Access => exact effectIf_answers _ p q
  case hdmAccess => exact effectIf_answers _ p q
  case timeMessageReceive => exact effectIf_answers _ p q
  case announcementReceive => exact effectIf_answers _ p q
  case crossTriggerReceive => exact effectIf_answers _ p q
  case alarmSummaryReceive => exact effectIf_answers _ p q
  all_goals exact ⟨_, rfl⟩

end Sys2Proof.Machine

/-! A step of the piece, the state after reset, and what device DRAM reads after a write. -/

namespace Sys2Proof.Machine

/-- Settles O1: `step` on a queue with a command in front. -/
theorem stepRunsTheFrontCommand : Obligations.StepRunsTheFrontCommand := fun _ _ _ => rfl

/-- Settles O60: the memory after reset lists no byte. -/
theorem resetMemoryIsCanonical : Obligations.ResetMemoryIsCanonical := ⟨rfl, fun _ => rfl⟩

/-- Settles O4: each part is a value of the reset state. -/
theorem resetState : Obligations.ResetState := by
  unfold Obligations.ResetState
  refine ⟨{}, rfl, ?_⟩
  decide +kernel

/-! ### A read of device DRAM -/

theorem memRead_memWrite (m : List Host.Cell) (a : Nat) (bs : Bytes) (h : Memory.wf m = true) :
    memRead (memWrite m a bs) a bs.length = bs := by
  refine List.ext_getElem (by simp [memRead]) fun i hi hi' => ?_
  simp only [memRead, List.getElem_map, List.getElem_range]
  exact memByte_memWrite m a i bs h hi'

/-- Settles O8: the form, the bytes written and the bytes beside them. -/
theorem memoryReadsWhatWasWritten : Obligations.MemoryReadsWhatWasWritten := fun m a bs h =>
  ⟨memWrite_wf m a bs h, memRead_memWrite m a bs h, fun x hx => memByte_memWrite_other m a x bs h hx⟩

/-! ### An idle tick -/

/-- The raw log's records that leave change nothing but the arrivals of the stream. -/
theorem foldl_sendRaw (l : List (Stamp × Nat × Nat)) (p : Piece) :
    ∃ a, l.foldl (fun p x => sendRaw x.2.2 x.1 p) p = { p with stream := { p.stream with arrivals := a } } := by
  induction l generalizing p with
  | nil => exact ⟨p.stream.arrivals, rfl⟩
  | cons x l ih =>
    obtain ⟨a, ha⟩ := ih (sendRaw x.2.2 x.1 p)
    exact ⟨a, ha⟩

theorem flushRaw_eq (p : Piece) :
    ∃ r a, flushRaw p = { p with fabric := { p.fabric with rawHeld := r }, stream := { p.stream with arrivals := a } } := by
  obtain ⟨a, ha⟩ := foldl_sendRaw (p.fabric.rawHeld.filter fun x => decide (x.2.1 + orderingWait ≤ p.now))
    { p with fabric := { p.fabric with
      rawHeld := p.fabric.rawHeld.filter fun x => !decide (x.2.1 + orderingWait ≤ p.now) } }
  exact ⟨_, a, ha⟩

/-- The heartbeat is the one field that firmware's millisecond moves. -/
theorem when_heartbeat {c : Prop} [Decidable c] (p : Piece) :
    when (decide c) (fun p => { p with transport := { p.transport with heartbeat := wrap32 p.transport.heartbeat 1 } }) p =
      { p with transport := { p.transport with
        heartbeat := if c then (p.transport.heartbeat + 1) % 2 ^ 32 else p.transport.heartbeat } } := by
  by_cases h : c <;> simp [h, wrap32]

/-- The parts of an idle tick while the Mint counts: besides these only slots, held records and arrivals move. -/
theorem idle_of_counting {p : Piece} (h : p.clocks.mintRun = true) :
    ∃ slots r a, idle p = { p with
      clocks := { (if (p.clocks.mint + 1) % 64 = 0 then tuneStep p.ledger.tuneCode p.clocks else p.clocks) with
        mint := p.clocks.mint + 1 }
      dmc := serveBanks p.dmc
      transport := { p.transport with heartbeat :=
        if (p.clocks.mint + 1) % 2560000 = 0 ∧ p.transport.state = .running then (p.transport.heartbeat + 1) % 2 ^ 32
        else p.transport.heartbeat }
      tally := { p.tally with slots := slots }
      fabric := { p.fabric with rawHeld := r }
      stream := { p.stream with arrivals := a } } := by
  have hbeat : ((p.clocks.mint + 1) % ticksPerMs == 0 && p.transport.state == .running) =
      decide ((p.clocks.mint + 1) % 2560000 = 0 ∧ p.transport.state = .running) := by
    rw [Bool.eq_iff_iff]
    simp [ticksPerMs]
  rw [idle, if_pos h]
  simp only [hbeat, when_heartbeat, beq_iff_eq]
  generalize passBoundary _ = boundary
  obtain ⟨r, a, hraw⟩ := flushRaw_eq (mapSlots boundary _)
  rw [hraw]
  exact ⟨_, r, a, rfl⟩

/-- Settles O2: the Mint stands, or the tick moves the count, the tune stream, the heartbeat, the banks and the queues of records. -/
theorem emptyQueueIdles : Obligations.EmptyQueueIdles := by
  unfold Obligations.EmptyQueueIdles
  refine ⟨fun p h => ?_, fun p h => ⟨idle p, rfl, ?_⟩⟩
  · show Host.Outcome.next (State.mk (idle p) []) = _
    rw [idle, if_neg (by simp [h])]
  · obtain ⟨slots, r, a, he⟩ := idle_of_counting h
    rw [he]

end Sys2Proof.Machine

/-! Resets of the piece, the boot ROM and the training of device DRAM at bring-up (R387, R612 to R622). -/

namespace Sys2Proof.Machine

/-! ### What an effect answers -/

theorem effect_next {f : Piece → Piece} {p t : Piece} {q : List Instr} (h : f p = t) : effect f ⟨p, q⟩ = .next ⟨t, q⟩ :=
  h ▸ rfl

theorem effectIf_next {ok : Bool} {f : Piece → Piece} {p t : Piece} {q : List Instr} (hok : ok = true) (h : f p = t) :
    effectIf ok f ⟨p, q⟩ = .next ⟨t, q⟩ := by
  subst hok
  exact effect_next h

theorem when_pos {c : Bool} {f : Piece → Piece} {p : Piece} (h : c = true) : when c f p = f p := if_pos h

theorem when_neg {c : Bool} {f : Piece → Piece} {p : Piece} (h : c = false) : when c f p = p := by
  rw [h, when_false]

/-! ### Resets -/

theorem resetPiece_outputs (dump : Bool) (p : Piece) :
    timeValid (resetPiece dump p) = false ∧ freqValid (resetPiece dump p) = false ∧ safeStateN (resetPiece dump p) = false ∧
      faultN (resetPiece dump p) = false :=
  ⟨rfl, rfl, rfl, rfl⟩

theorem resetPiece_panels (dump : Bool) (p : Piece) :
    (resetPiece dump p).transport.sessions = [] ∧ (resetPiece dump p).transport.claims = [] ∧
      (resetPiece dump p).safety.retirements = [] ∧ (resetPiece dump p).boot.ready = false := by
  cases dump <;> exact ⟨rfl, rfl, rfl, rfl⟩

theorem sysResetAssert_resets_or_not (w : Nat) (p : Piece) (q : List Instr) :
    ∃ t, exec (.sysResetAssert w) ⟨p, q⟩ = .next ⟨t, q⟩ ∧
      (t.transport = p.transport ∧ t.clocks = p.clocks ∨ ∃ p0, t = resetPiece true p0) := by
  refine ⟨_, rfl, ?_⟩
  dsimp only
  split
  · exact .inr ⟨p, rfl⟩
  · split
    · exact .inl ⟨rfl, rfl⟩
    · cases Config.freeBit (draw p).2
      · exact .inl ⟨rfl, rfl⟩
      · exact .inr ⟨(draw p).1, rfl⟩

theorem resetsOfThePiece : Claim.ResetsOfThePiece := by
  refine ⟨?power, fun w p q hw => effect_next (if_pos hw), ?short, fun w p q => ?any⟩
  case power => rintro i p q (rfl | rfl) <;> rfl
  case short =>
    intro w p q hw
    show execSysResetAssert w ⟨p, q⟩ = _
    unfold execSysResetAssert
    refine effect_next ?_
    rw [if_neg (by omega), if_pos hw]
  case any =>
    obtain ⟨t, ht, hkept | ⟨p0, rfl⟩⟩ := sysResetAssert_resets_or_not w p q
    · exact ⟨t, ht, .inl hkept⟩
    · obtain ⟨hsessions, hclaims, hretired, hready⟩ := resetPiece_panels true p0
      exact ⟨_, ht, .inr ⟨hsessions, hclaims, hretired, hready, resetPiece_outputs true p0⟩⟩

theorem releaseStartsTheBootRom : Claim.ReleaseStartsTheBootRom :=
  ⟨fun p q h => effect_next (when_pos (by rw [h]; rfl)), fun p q h => effect_next (when_neg (by rw [h]; rfl))⟩

/-! ### The boot ROM -/

@[simp] theorem setPhase_boot (ph : Phase) (p : Piece) : (setPhase ph p).boot = { p.boot with phase := ph } := rfl

@[simp] theorem setSteward_state (st : StewardState) (p : Piece) : (setSteward st p).transport.state = st := by
  by_cases h : p.transport.state = st
  · simp [setSteward, h]
  · rw [setSteward, when_pos (by simpa using h)]
    simp

theorem bootTriesTheOtherSlotOnce : Claim.BootTriesTheOtherSlotOnce := by
  refine ⟨fun p q hreleased hphase hsteward himage htry => ?other, fun p q hreleased hphase hsteward himage htry => ⟨_, rfl, ?halts⟩,
    fun p q hreleased hphase hsteward himage => ⟨_, rfl, ?runs⟩⟩
  case other =>
    show execBootImageVerified false ⟨p, q⟩ = _
    unfold execBootImageVerified
    refine effect_next ?_
    simp [hreleased, hphase, hsteward, himage, htry, onBoot]
  case halts => simp [hreleased, hphase, hsteward, himage, htry]
  case runs =>
    cases htry : p.boot.secondTry <;> simp [hreleased, hphase, hsteward, himage, htry]

/-! ### Training -/

theorem dimmsOk_of_mem {gib ranks : Nat} (hgib : gib ∈ [8, 16, 32, 64]) (hranks : ranks ∈ [1, 2]) : dimmsOk gib ranks = true := by
  simp only [List.mem_cons, List.not_mem_nil, or_false] at hgib hranks
  rcases hgib with rfl | rfl | rfl | rfl <;> rcases hranks with rfl | rfl <;> rfl

theorem trainedSpeed_of_pass {r64 r56 r48 : Fin 16} (h : r64 = 15 ∨ r56 = 15 ∨ r48 = 15) :
    trainedSpeed r64 r56 r48 = some (if r64 = 15 then 2 else if r56 = 15 then 1 else 0) := by
  revert r64 r56 r48
  decide

theorem trainedSpeed_of_fail {r64 r56 r48 : Fin 16} (h64 : r64 ≠ 15) (h56 : r56 ≠ 15) (h48 : r48 ≠ 15) :
    trainedSpeed r64 r56 r48 = none := by
  revert r64 r56 r48
  decide

theorem dmcRefuses_of_chUp {d : Dmc} (h : d.chUp ≠ 15) : dmcRefuses d = true := by
  simp [dmcRefuses, h]

/-- Firmware's persistent entry joins a list that has room. -/
theorem writeFirmwareEntry_persistent (panelType : Nat) {p : Piece} (hroom : p.safety.persistent.length < 256) :
    ∃ e, (writeFirmwareEntry panelType true p).safety.persistent = p.safety.persistent ++ [e] ∧ e.persistent = true := by
  refine ⟨_, (writeJournal_persistent _ _).trans (if_pos ⟨rfl, ?_⟩), rfl⟩
  simpa using hroom

theorem trainingTakesTheHighestCommonRate : Claim.TrainingTakesTheHighestCommonRate := by
  refine ⟨fun p q gib ranks rdimm r64 r56 r48 htraining hsteward hgib hranks hphase hrefin hpass => ?_,
    fun p q gib ranks rdimm r64 r56 r48 htraining hsteward hgib hranks hphase hrefin h64 h56 h48 hroom => ⟨_, rfl, ?_⟩⟩
  · show execDdr5TrainingDone gib ranks rdimm r64 r56 r48 ⟨p, q⟩ = _
    unfold execDdr5TrainingDone
    refine effect_next ?_
    simp [htraining, hsteward, dimmsOk_of_mem hgib hranks, trainedSpeed_of_pass hpass, hphase, hrefin, leaveWaitRef, onBoot, setPhase, onDmc]
  · have hrefuses : (r48 : Nat) ≠ 15 := fun h => h48 (Fin.ext h)
    simp [htraining, hsteward, dimmsOk_of_mem hgib hranks, trainedSpeed_of_fail h64 h56 h48, hphase, hrefin, leaveWaitRef]
    exact ⟨dmcRefuses_of_chUp hrefuses, writeFirmwareEntry_persistent 15 hroom⟩

/-- Settles O5: resets, the release, the boot ROM and the training. -/
theorem resetsAndBoot : Obligations.ResetsAndBoot :=
  ⟨resetsOfThePiece, releaseStartsTheBootRom, bootTriesTheOtherSlotOnce, trainingTakesTheHighestCommonRate⟩

end Sys2Proof.Machine

/-! READY, and the retry of the synthesizer in WAIT_REF (R44, R315, R619 to R621). -/

namespace Sys2Proof.Machine

theorem readyWaitsForCalibrationAndMemory : Claim.ReadyWaitsForCalibrationAndMemory := by
  refine ⟨fun p q hphase hsteward hrun hdue hmem => ?_, fun p q hwait => effect_next (when_neg ?_)⟩
  · show execReadyAssert ⟨p, q⟩ = _
    refine effect_next ((when_pos ?_).trans ?_)
    · simpa [hphase, hsteward, hrun, hdue] using hmem
    · simp only [onCal, onBoot, beq_iff_eq]
  · rcases hwait with h | h | h <;> simp [h]

/-- A measured period within ±25 % of 100 ns names the nominal of 10 MHz. -/
theorem measuredFreq_of_tenMegahertz {period : Nat} (hlow : 75000 ≤ period) (hhigh : period ≤ 125000) :
    measuredFreq period = some 1 := by
  have h0 : periodGood 0 period = false := by
    simp only [periodGood, refinPeriod, Bool.and_eq_false_iff, decide_eq_false_iff_not]
    omega
  have h1 : periodGood 1 period = true := by
    simp only [periodGood, refinPeriod, Bool.and_eq_true, decide_eq_true_eq]
    omega
  simp [measuredFreq, List.range_succ, h0, h1]

/-- SYNTH with the synthesizer off: a band that qualifies starts it, and without one the start is tried again after 100 ms. -/
theorem enterSynth_of_off {p : Piece} (hoff : p.clocks.synth = .off) :
    enterSynth p = match selectBand factoryBands (dieTemp p) with
      | some band => { p with
          boot := { p.boot with phase := .synth }
          clocks := { p.clocks with bands := factoryBands, synth := .wait, band := band, bandTemp := dieTemp p, lockWait := 2000 } }
      | none => raiseAlarm 0x0102 0x02 0 { p with
          boot := { p.boot with retryAt := some (p.clocks.mint + 256000000), phase := .waitRef }
          clocks := { p.clocks with bands := factoryBands } } := by
  have hstart : startSynth 2000 (onClocks (fun c => { c with bands := factoryBands }) p) =
      (selectBand factoryBands (dieTemp p)).map fun i => onClocks (fun c => { c with
        synth := .wait, band := i, bandTemp := dieTemp p, lockWait := 2000 }) (onClocks (fun c => { c with bands := factoryBands }) p) :=
    rfl
  unfold enterSynth
  rw [hoff]
  dsimp only
  rw [hstart]
  cases selectBand factoryBands (dieTemp p) <;> rfl

theorem bringUpRetriesTheSynthesizer : Claim.BringUpRetriesTheSynthesizer := by
  refine ⟨fun p q t period hretry ht hphase hsteward hrefin hoff hlow hhigh => ?_, fun p q t period hretry ht hrun => ?_⟩
  · show execWaitRefRetry period ⟨p, q⟩ = _
    unfold execWaitRefRetry
    refine effect_next ?_
    have hmeasured : measureRefin period (onBoot (fun b => { b with retryAt := none }) p) = { p with
        boot := { p.boot with retryAt := none }, clocks := { p.clocks with refinFreq := 1 } } := by
      simp [measureRefin, onBoot, onClocks, hphase, measuredFreq_of_tenMegahertz hlow hhigh]
    rw [when_pos (by simp [hretry, hphase, hsteward, ht]), hmeasured, leaveWaitRef, when_pos (by simp [hphase, hrefin])]
    exact enterSynth_of_off hoff
  · show execWaitRefRetry period ⟨p, q⟩ = _
    refine effect_next (when_neg ?_)
    simp [hretry, hrun, ht]

/-- Settles O6: READY and the retry. -/
theorem bringUpToReady : Obligations.BringUpToReady := ⟨readyWaitsForCalibrationAndMemory, bringUpRetriesTheSynthesizer⟩

end Sys2Proof.Machine

/-! DMC: its counters, the initialisation, the freeze and the bank queues (R387 to R399, R610, R645). -/

namespace Sys2Proof.Machine

/-! ### Counters -/

theorem actReset_tracks (bank row : Nat) (t : List ActEntry) : { bank := bank, row := row, count := 0 } ∈ actReset bank row t := by
  simp [actReset]

/-- The entries of a bank that stay are entries of other rows. -/
theorem mem_actReset {bank row : Nat} {t : List ActEntry} {e : ActEntry} (h : e ∈ actReset bank row t) :
    e ∈ t ∧ e.bank ≠ bank ∨ e.bank = bank ∧ e.row ≠ row ∨ e = { bank := bank, row := row, count := 0 } := by
  simp only [actReset, List.mem_append, List.mem_filter, List.mem_singleton, bne_iff_ne] at h
  rcases h with (h | h) | h
  · exact .inl h
  · refine .inr (.inl ?_)
    have hmine : e ∈ t.filter fun e => e.bank == bank && e.row != row := by
      split at h
      · exact h
      · split at h
        · exact List.mem_of_mem_filter h
        · exact h
    simpa using (List.mem_filter.mp hmine).2
  · exact .inr (.inr h)

theorem mem_actReset_other {bank row : Nat} {t : List ActEntry} {e : ActEntry} (hbank : e.bank ≠ bank) :
    e ∈ actReset bank row t ↔ e ∈ t := by
  constructor
  · intro h
    rcases mem_actReset h with ⟨h, -⟩ | ⟨h, -⟩ | h
    · exact h
    · exact absurd h hbank
    · exact absurd (congrArg ActEntry.bank h) hbank
  · intro h
    simp [actReset, h, hbank]

theorem execNeighbourRefresh_next {bank row : Nat} {p : Piece} {q : List Instr} (h : dmcRefuses p.dmc = false) :
    exec (.neighbourRefresh bank row) ⟨p, q⟩ = .next ⟨{ p with dmc := { p.dmc with
      neighbourRefresh := min (p.dmc.neighbourRefresh + 1) (2 ^ 32 - 1), act := actReset bank row p.dmc.act } }, q⟩ :=
  effect_next (when_pos (by simp [h]))

/-- The three ways of PANIC_RAISE where the port's level calls for it: panic starts, it is cleared, or it stands as it is. -/
theorem execPanicRaise_next {port : Fin 20} {raise : Bool} {p t : Piece} {q : List Instr} (hlevel : panicLevel p port raise = true)
    (h : onDmc (fun d =>
        if raise && !bitAt p.dmc.panicActive port then
          { d with panicActive := d.panicActive + 2 ^ port.val, panicCount := sat32 d.panicCount 1 }
        else if !raise && bitAt p.dmc.panicActive port then { d with panicActive := d.panicActive - 2 ^ port.val }
        else d)
      (when (raise && !bitAt p.dmc.panicActive port && decide (port.val < 16))
        (fun p => { p with acq := { p.acq with panics := sat32 p.acq.panics 1 } }) p) = t) :
    exec (.panicRaise port raise) ⟨p, q⟩ = .next ⟨t, q⟩ :=
  effect_next ((when_pos hlevel).trans h)

theorem dmcCountsItsEvents : Claim.DmcCountsItsEvents := by
  refine ⟨fun p q a h => effect_next (when_pos (by simp [h])), fun p q => rfl, fun p q busy h => ?refresh,
    fun p q bank row h => ⟨_, execNeighbourRefresh_next h, actReset_tracks bank row _, fun e he hbank hrow => ?row,
      fun e hbank => mem_actReset_other hbank⟩,
    fun p q => rfl, fun p q port => ?bulk, fun p q port raise h => ?stands, fun p q port hidle hlevel => ?starts,
    fun p q port hactive hlevel => ?clears⟩
  case refresh =>
    show execRefreshDue busy ⟨p, q⟩ = _
    refine effect_next ((when_pos (by simp [h])).trans ?_)
    cases busy <;> rfl
  case row =>
    rcases mem_actReset he with ⟨-, h⟩ | ⟨-, h⟩ | h
    · exact absurd hbank h
    · exact absurd hrow h
    · rw [h]
  case bulk =>
    show execBulkPromotion port ⟨p, q⟩ = _
    refine effect_next ?_
    by_cases hzero : port = 0
    · subst hzero
      rfl
    · rw [when_pos ((bne_iff_ne (b := (0 : Nat))).mpr fun h => hzero (Fin.ext h))]
      simp only [onDmc, hzero, false_or, List.contains_iff_mem]
  case stands =>
    by_cases hlevel : panicLevel p port raise = true
    · obtain h | h := h
      · refine execPanicRaise_next hlevel ?_
        subst h
        cases bitAt p.dmc.panicActive port <;> rfl
      · rw [h] at hlevel
        cases hlevel
    · exact effect_next (when_neg (by simpa using hlevel))
  case starts =>
    refine execPanicRaise_next hlevel ?_
    by_cases hacq : port.val < 16
    · rw [when_pos (by simp [hidle, hacq]), if_pos hacq]
      simp only [hidle, Bool.not_false, Bool.and_self, if_true, onDmc, sat32]
    · rw [when_neg (by simp [hacq]), if_neg hacq]
      simp only [hidle, Bool.not_false, Bool.and_self, if_true, onDmc, sat32]
  case clears =>
    refine execPanicRaise_next hlevel ?_
    simp [hactive, onDmc]

/-! ### Initialisation -/

theorem initialisationZeroesDeviceMemory : Claim.InitialisationZeroesDeviceMemory := by
  refine ⟨fun p q hserves hinit => ⟨effect_next (when_pos (by simp [hserves, hinit])), fun _ => rfl⟩,
    fun p q h => effect_next (when_neg ?_)⟩
  rcases h with h | h <;> simp [h]

/-! ### The freeze -/

theorem startDump_of_free {c a : Nat} {p : Piece} (hsteward : p.transport.state ≠ .halted) (hdump : p.safety.dump = none)
    (hpending : p.safety.dumpPending = none) :
    startDump c a p = { p with safety := { p.safety with
      dumpPending := some { cause := c, mint := p.now, label := p.label, code := a } } } := by
  simp [startDump, hsteward, hdump, hpending]

@[simp] theorem startDump_alarms (c a : Nat) (p : Piece) : (startDump c a p).safety.alarms = p.safety.alarms := by
  simp only [startDump]
  split
  · rfl
  · split <;> rfl

@[simp] theorem freezeDmc_sessions (c a : Nat) (p : Piece) :
    (freezeDmc c a p).transport.sessions = p.transport.sessions := by
  simp only [freezeDmc]
  split <;> simp

/-- What a refused request to device DRAM leaves. -/
theorem pieceWrite_of_refuses {a : Nat} {bs : Bytes} {p : Piece} (hdevice : isDevice a = true) (hrefuses : dmcRefuses p.dmc = true) :
    pieceWrite a bs p = (p, .refused) := by
  simp [pieceWrite, hdevice, hrefuses]

theorem freezeKeepsContentsAndRefuses : Claim.FreezeKeepsContentsAndRefuses := by
  refine ⟨fun p q parity a hfrozen hsteward hdump hpending => ?_, fun p q parity a hfrozen => effect_next (when_neg (by simp [hfrozen]))⟩
  refine ⟨faultAcqs (freezeDmc (if parity then 2 else 1) a p), effect_next (when_pos (by simp [hfrozen])), ?_⟩
  have hdmc : (freezeDmc (if parity then 2 else 1) a p).dmc = { p.dmc with
      frozen := true, selfRefresh := true, subs := List.replicate 8 {}, freezeCause := if parity then 2 else 1
      freezeAddr := a % 2 ^ 38
      ueCount := if parity then p.dmc.ueCount else min (p.dmc.ueCount + 1) (2 ^ 32 - 1) } := by
    cases parity <;> simp [freezeDmc, hfrozen, sat32]
  have hrefuses : dmcRefuses (faultAcqs (freezeDmc (if parity then 2 else 1) a p)).dmc = true := by
    show dmcRefuses (freezeDmc (if parity then 2 else 1) a p).dmc = true
    simp [hdmc, dmcRefuses]
  refine ⟨hdmc, fun d bs hdevice => pieceWrite_of_refuses hdevice hrefuses, ?_, ?_, ?_⟩
  · have hpend : ∃ d, (freezeDmc (if parity then 2 else 1) a p).safety.dumpPending = some d ∧ d.cause = 1 := by
      simp only [freezeDmc, hfrozen, Bool.false_eq_true, if_false]
      rw [startDump_of_free (by simpa using hsteward) (by simpa using hdump) (by simpa using hpending)]
      exact ⟨_, rfl, rfl⟩
    exact hpend
  · have hlatched : Latched 0x0501 (freezeDmc (if parity then 2 else 1) a p) := by
      simp only [freezeDmc, hfrozen, Bool.false_eq_true, if_false]
      exact (raiseAlarm_latches 0x0501 0x0F 0 _).congr (startDump_alarms _ _ _)
    exact hlatched
  · simp [faultAcqs]

/-! ### The bank queues -/

/-- No bank's queue holds more than its depth. -/
def Subchannel.Bounded (s : Subchannel) : Prop := ∀ b, (s.queued.filter (·.bank == b)).length ≤ bankDepth

theorem Subchannel.Bounded.request {s : Subchannel} (h : s.Bounded) (r : DramRequest) : (s.request r).Bounded := by
  intro b
  unfold Subchannel.request
  split
  next hroom =>
    simp only [Bool.and_eq_true, decide_eq_true_eq] at hroom
    rw [List.filter_append, List.length_append]
    by_cases hb : r.bank = b
    · subst hb
      simpa using hroom.2
    · simpa [hb] using h b
  · exact h b

@[simp] theorem Subchannel.request_pointer (s : Subchannel) (r : DramRequest) : (s.request r).pointer = s.pointer := by
  unfold Subchannel.request
  split <;> rfl

@[simp] theorem Subchannel.request_serving (s : Subchannel) (r : DramRequest) : (s.request r).serving = s.serving := by
  unfold Subchannel.request
  split <;> rfl

theorem Subchannel.Bounded.refill {s : Subchannel} (h : s.Bounded) : s.refill.Bounded :=
  List.foldlRecOn s.waiting _ (motive := Subchannel.Bounded) h fun _ hs r _ => hs.request r

@[simp] theorem Subchannel.refill_pointer (s : Subchannel) : s.refill.pointer = s.pointer :=
  List.foldlRecOn s.waiting _ (motive := fun t : Subchannel => t.pointer = s.pointer) rfl fun _ ht r _ => by simpa using ht

@[simp] theorem Subchannel.refill_serving (s : Subchannel) : s.refill.serving = s.serving :=
  List.foldlRecOn s.waiting _ (motive := fun t : Subchannel => t.serving = s.serving) rfl fun _ ht r _ => by simpa using ht

theorem Subchannel.Bounded.erase {s : Subchannel} (h : s.Bounded) (r : DramRequest) :
    Subchannel.Bounded { s with queued := s.queued.erase r } := fun b =>
  ((List.erase_sublist.filter _).length_le).trans (h b)

/-- The three ways of a column access: the open row is served again, another bank activates its row, or nothing waits. -/
theorem Subchannel.serve_cases (s : Subchannel) :
    (∃ bank row n, n < columnLimit ∧ s.serve = (Subchannel.refill { s with
      queued := s.queued.erase { bank := bank, row := row }, serving := some (bank, row, n + 1) }, none)) ∨
    (∃ r ∈ s.queued, s.serve = (Subchannel.refill { s with
      queued := s.queued.erase r, pointer := r.bank, serving := some (r.bank, r.row, 1) }, some (r.bank, r.row))) ∨
    s.serve = ({ s with serving := none }, none) := by
  unfold Subchannel.serve
  dsimp only
  split
  next bank row n hstays =>
    obtain ⟨-, hn⟩ := Option.filter_eq_some_iff.mp hstays
    simp only [Bool.and_eq_true, decide_eq_true_eq] at hn
    exact .inl ⟨bank, row, n, hn.1, rfl⟩
  · split
    next r hr =>
      obtain ⟨b, -, hfind⟩ := Option.bind_eq_some_iff.mp hr
      exact .inr (.inl ⟨r, List.mem_of_find?_eq_some hfind, rfl⟩)
    · exact .inr (.inr rfl)

theorem Subchannel.Bounded.serve {s : Subchannel} (h : s.Bounded) : s.serve.1.Bounded := by
  rcases s.serve_cases with ⟨bank, row, n, -, he⟩ | ⟨r, -, he⟩ | he <;> rw [he]
  · exact Subchannel.Bounded.refill fun b => h.erase _ b
  · exact Subchannel.Bounded.refill fun b => h.erase _ b
  · exact h

theorem bankQueuesServeInTurn : Claim.BankQueuesServeInTurn := by
  refine ⟨fun a => ⟨rfl, rfl⟩, fun a b h => ?line, fun s r h => ⟨Subchannel.Bounded.request h r, Subchannel.Bounded.serve h⟩,
    fun s bank row n h => ?column, fun s => ?pointer⟩
  case line =>
    unfold dramChannel dramSubchannel
    omega
  case column =>
    rcases s.serve_cases with ⟨bank', row', m, hm, he⟩ | ⟨r, -, he⟩ | he <;> rw [he] at h
    · obtain ⟨-, -, rfl⟩ : bank' = bank ∧ row' = row ∧ m + 1 = n := by simpa using h
      exact ⟨Nat.succ_le_succ (Nat.zero_le m), hm⟩
    · obtain ⟨-, -, rfl⟩ : r.bank = bank ∧ r.row = row ∧ 1 = n := by simpa using h
      exact ⟨le_rfl, by decide⟩
    · cases h
  case pointer =>
    rcases s.serve_cases with ⟨bank', row', m, -, he⟩ | ⟨r, hr, he⟩ | he <;> rw [he]
    · simp
    · refine ⟨nofun, fun bank row h => ?_⟩
      obtain ⟨rfl, rfl⟩ : r.bank = bank ∧ r.row = row := by simpa using h
      exact ⟨Subchannel.refill_pointer _, r, hr, rfl, rfl⟩
    · simp

/-- Settles O7: counters, initialisation, freeze and queues. -/
theorem deviceMemoryController : Obligations.DeviceMemoryController :=
  ⟨dmcCountsItsEvents, initialisationZeroesDeviceMemory, freezeKeepsContentsAndRefuses, bankQueuesServeInTurn⟩

end Sys2Proof.Machine

/-! The host link: it comes up, retrains, goes, and a function is reset (R374, R378, R384, R415, R425, R431). -/

namespace Sys2Proof.Machine

theorem nextEpoch_def : nextEpoch = fun e => if e = 255 then 1 else e + 1 := by
  funext e
  simp [nextEpoch]

theorem owner_secure {p : Piece} {ch : Nat} (h : 16 ≤ ch) : owner p ch = if p.hostif.linkUp then .host1 else .mgmt := by
  simp [owner, Nat.not_lt.mpr h]

theorem owner_ordinary {p : Piece} {ch : Nat} (h : ch < 16) : owner p ch = .host0 := by
  simp [owner, h]

theorem linkUpPassesTheSecureChannels : Claim.LinkUpPassesTheSecureChannels := by
  refine ⟨fun p q rate width cxl cache hdown halive => ⟨_, effect_next (when_pos (by simp [hdown, halive])), ?_⟩,
    fun p q rate width cxl cache h => effect_next (when_neg (by simp [h])),
    fun p q rate width h => effect_next (when_pos h), fun p q rate width h => effect_next (when_neg h)⟩
  refine ⟨by simp [onHostif], by simp [onHostif, epochIndex, nextEpoch_def], fun ch h => ?_, fun ch h => owner_ordinary h, ?_⟩
  · simp [owner_secure h, hdown, onHostif]
  · simp [onHostif]

/-- The locks that go are those of host function 0, of the 64 there are. -/
theorem releaseLocks_host0 (p : Piece) :
    (releaseLocks (fun _ o => o == 0x01) p).transport.locks = (List.range p.transport.locks.length).map (fun n =>
      if n < 64 ∧ nth p.transport.locks n = 1 then 0 else nth p.transport.locks n) := by
  apply List.ext_getElem
  · simp [releaseLocks]
  · intro i h h'
    have hi : i < p.transport.locks.length := by simpa using h'
    have hnth : nth p.transport.locks i = p.transport.locks[i] := by simp [nth, hi]
    simp only [releaseLocks, List.getElem_mapIdx, List.getElem_map, List.getElem_range, List.contains_iff_mem,
      List.mem_filter, List.mem_range, hnth]
    by_cases hone : p.transport.locks[i] = 1 <;> simp [hone]

/-- Every channel is of one of the two functions. -/
theorem mem_channelsOf {ch : Nat} (h : ch < 20) : ch ∈ channelsOf 0 ∨ ch ∈ channelsOf 1 := by
  by_cases hlow : ch < 16
  · exact .inl (by simpa [channelsOf] using hlow)
  · refine .inr ?_
    simp only [channelsOf, Nat.reduceBEq, Bool.false_eq_true, if_false, List.mem_cons, List.not_mem_nil, or_false]
    omega

theorem removeLink_of_up {p : Piece} (h : p.hostif.linkUp = true) :
    removeLink p = removeFunction 1 (removeFunction 0 (onHostif (fun h =>
      { h with linkUp := false, rate := 0, width := 0, linkDownCount := sat32 h.linkDownCount 1 }) p)) := by
  simp [removeLink, h]

theorem removeLink_ring {p : Piece} {ch : Nat} (h : p.hostif.linkUp = true) (hch : ch < 20) :
    ((removeLink p).channel ch).ring.entries = 0 := by
  rw [removeLink_of_up h]
  obtain hch | hch := mem_channelsOf hch
  · exact removeFunction_ring_off _ _ _ (removeFunction_ring _ _ _ hch)
  · exact removeFunction_ring _ _ _ hch

theorem removeLink_locks {p : Piece} (h : p.hostif.linkUp = true) :
    (removeLink p).transport.locks = (List.range p.transport.locks.length).map (fun n =>
      if n < 64 ∧ nth p.transport.locks n = 1 then 0 else nth p.transport.locks n) := by
  rw [removeLink_of_up h, removeFunction_locks]
  exact (removeFunction_locks _ _).trans (releaseLocks_host0 _)

theorem removeLink_epochs {p : Piece} (h : p.hostif.linkUp = true) :
    (removeLink p).transport.epochs = upd (upd p.transport.epochs 0 fun e => if e = 255 then 1 else e + 1) 1
      (fun e => if e = 255 then 1 else e + 1) := by
  simp [removeLink_of_up h, onHostif, epochIndex, nextEpoch_def]

theorem removalTakesOnlyTheHostSide : Claim.RemovalTakesOnlyTheHostSide := by
  intro p q i hi hup
  obtain rfl | rfl := hi
  · refine ⟨removeLink p, rfl, ?_, fun _ => ?_, nofun, removeLink_epochs hup, removeLink_locks hup,
      fun ch hch => removeLink_ring hup hch, ?_⟩
    all_goals simp [removeLink_of_up hup, onHostif, sat32]
  · refine ⟨resetHostif p, rfl, ?_, nofun, fun _ => ?_, ?_, ?_, fun ch hch => ?_, ?_⟩
    · simp [resetHostif]
    · simp [resetHostif, resetMsix]
    · simpa [resetHostif] using removeLink_epochs hup
    · simpa [resetHostif] using removeLink_locks hup
    · simpa [resetHostif, channel_def] using removeLink_ring hup hch
    · simp [resetHostif, removeLink_of_up hup, onHostif]

theorem functionLevelResetSparesTheOtherFunction : Claim.FunctionLevelResetSparesTheOtherFunction := by
  intro p q fn
  refine ⟨resetMsix fn (removeFunction fn p), rfl, by simp, ?_, ?_, ?_, fun ch hch hfn => ?_, by simp⟩
  · match fn with
    | 0 => simp [epochIndex, nextEpoch_def]
    | 1 => simp [epochIndex, nextEpoch_def]
  · rintro rfl
    simp [resetMsix]
  · rintro rfl
    simp [resetMsix]
  · rw [resetMsix_channel]
    refine removeFunction_ring _ _ _ ?_
    match fn with
    | 0 => simpa [channelsOf] using hfn
    | 1 =>
      have : ¬ ch < 16 := by simpa using hfn
      simp only [channelsOf, Fin.val_one, Nat.reduceBEq, Bool.false_eq_true, if_false, List.mem_cons, List.not_mem_nil, or_false]
      omega

/-- Settles O9: the link up, its removal, and the reset of one function. -/
theorem hostLinkComesAndGoes : Obligations.HostLinkComesAndGoes :=
  ⟨linkUpPassesTheSecureChannels, removalTakesOnlyTheHostSide, functionLevelResetSparesTheOtherFunction⟩

end Sys2Proof.Machine

/-! Accesses of the host to device DRAM, and its answers to the piece's own reads (R375, R377, R382, R396). -/

namespace Sys2Proof.Machine

theorem answerRequest_of_found {id : Nat} {a : Answer} {p : Piece} {r : HostRequest}
    (h : p.hostif.requests.find? (fun x => x.id == id) = some r) :
    answerRequest id a p = { p with hostif := { p.hostif with
      requests := p.hostif.requests.filter (fun x => x.id != id), answers := p.hostif.answers ++ [(r, a)] } } := by
  simp [answerRequest, h, onHostif]

theorem answerRequest_of_absent {id : Nat} {a : Answer} {p : Piece} (h : ∀ x ∈ p.hostif.requests, x.id ≠ id) :
    answerRequest id a p = p := by
  have hfind : p.hostif.requests.find? (fun x => x.id == id) = none := by simpa using h
  simp [answerRequest, hfind]

theorem hostAnswersLeaveFlight : Claim.HostAnswersLeaveFlight :=
  ⟨fun _ _ _ _ _ h => ⟨effect_next (answerRequest_of_found h), effect_next (answerRequest_of_found h)⟩,
    fun _ _ _ _ h => ⟨effect_next (answerRequest_of_absent h), effect_next (answerRequest_of_absent h)⟩⟩

/-! ### What the DMC makes of a host access -/

theorem hostDram_refused {o : Output} {w : Bool} {a n : Nat} {bs : Bytes} {p : Piece} (h : dmcRefuses p.dmc = true) :
    hostDram o w a n bs p = if w then countHostRefused p else emit o p := by
  simp [hostDram, h]

theorem hostDram_serves {o : Output} {w : Bool} {a n : Nat} {bs : Bytes} {p : Piece} (hserves : dmcRefuses p.dmc = false)
    (hinit : p.dmc.initDone = true) (hin : a + n ≤ capacity p.dmc) :
    hostDram o w a n bs p = if w then dramWrite a bs p else emit (.busData (memRead p.dmc.dram a n)) p := by
  simp [hostDram, hserves, hinit, Nat.not_lt.mpr hin]

theorem execBar2Access_next {w : Bool} {a n : Nat} {bs : Bytes} {p t : Piece} {q : List Instr} (hup : p.hostif.linkUp = true)
    (hwindow : a + n ≤ 2 ^ 36) (hlength : w = true → bs.length = n)
    (h : (if p.hostif.hdmCommitted then
        emit (if w then .busDropped else .busUnsupported) (onHostif (fun h => { h with bar2Refused := sat32 h.bar2Refused 1 }) p)
      else hostDram .busAbort w a n bs p) = t) :
    exec (.bar2Access w a n bs) ⟨p, q⟩ = .next ⟨t, q⟩ := by
  refine effectIf_next ?_ (by simpa [hup] using h)
  cases w
  · simpa [Instr.wellFormed] using hwindow
  · simpa [Instr.wellFormed] using ⟨hwindow, hlength rfl⟩

theorem execHdmAccess_next {w : Bool} {a n : Nat} {bs : Bytes} {p t : Piece} {q : List Instr} (hup : p.hostif.linkUp = true)
    (hcommitted : p.hostif.hdmCommitted = true) (hbase : p.hostif.hdmBase ≤ a)
    (hend : a + n ≤ p.hostif.hdmBase + capacity p.dmc) (hlength : w = true → bs.length = n)
    (h : hostDram .busPoisoned w (a - p.hostif.hdmBase) n bs p = t) :
    exec (.hdmAccess w a n bs) ⟨p, q⟩ = .next ⟨t, q⟩ := by
  refine effectIf_next ?_ ((when_pos (by simp [hup, hcommitted, hbase, hend])).trans h)
  cases w
  · rfl
  · simpa [Instr.wellFormed] using hlength rfl

theorem hostReachesDeviceMemory : Claim.HostReachesDeviceMemory := by
  constructor
  · intro p q a n bs hup hfree hserves hinit hin hwindow
    exact ⟨fun hlength => execBar2Access_next hup hwindow (fun _ => hlength) (by rw [hfree]; exact hostDram_serves hserves hinit hin),
      execBar2Access_next hup hwindow nofun (by rw [hfree]; exact hostDram_serves hserves hinit hin)⟩
  · intro p q a n bs hup hcommitted hserves hinit hbase hend
    have hin : a - p.hostif.hdmBase + n ≤ capacity p.dmc := by omega
    exact ⟨fun hlength => execHdmAccess_next hup hcommitted hbase hend (fun _ => hlength) (hostDram_serves hserves hinit hin),
      execHdmAccess_next hup hcommitted hbase hend nofun (hostDram_serves hserves hinit hin)⟩

theorem hostAccessesAreRefusedAsStated : Claim.HostAccessesAreRefusedAsStated := by
  refine ⟨fun p q w a n bs hup hcommitted hwindow hlength => ?_, fun p q a n bs hup hrefuses hfree hwindow => ?_,
    fun p q a n bs hup hrefuses hcommitted hbase hend => ?_⟩
  · exact execBar2Access_next hup hwindow hlength (by rw [hcommitted]; rfl)
  · exact ⟨fun hlength => execBar2Access_next hup hwindow (fun _ => hlength) (by rw [hfree]; exact hostDram_refused hrefuses),
      execBar2Access_next hup hwindow nofun (by rw [hfree]; exact hostDram_refused hrefuses)⟩
  · exact ⟨fun hlength => execHdmAccess_next hup hcommitted hbase hend (fun _ => hlength) (hostDram_refused hrefuses),
      execHdmAccess_next hup hcommitted hbase hend nofun (hostDram_refused hrefuses)⟩

theorem decoderCommitsTheWholeCapacity : Claim.DecoderCommitsTheWholeCapacity := by
  refine ⟨fun p q base hup hcxl hcapacity => effect_next ((when_pos (by simp [hup, hcxl])).trans ?_),
    fun p q base size ways hup hcxl h => effect_next ((when_pos (by simp [hup, hcxl])).trans ?_)⟩
  · rw [if_pos (by simp [hcapacity])]
    rfl
  · rw [if_neg (by simp only [Bool.and_eq_true, beq_iff_eq, bne_iff_ne]; tauto)]
    rfl

/-- Settles O10: the host's accesses by BAR2 and HDM, the decoder, and answers to reads. -/
theorem hostAccesses : Obligations.HostAccesses :=
  ⟨hostAnswersLeaveFlight, hostReachesDeviceMemory, hostAccessesAreRefusedAsStated, decoderCommitsTheWholeCapacity⟩

end Sys2Proof.Machine

/-! Mailbox queues: doorbells, inbound reads, status bits, timers and held notices (R415 to R432). -/

namespace Sys2Proof.Machine

theorem effect_of_eq {g : State → Out} {f : Piece → Piece} {p t : Piece} {q : List Instr} (hg : g = effect f) (h : f p = t) :
    g ⟨p, q⟩ = .next ⟨t, q⟩ := by
  subst hg
  exact effect_next h

theorem mbxWrite_owner {r : Requester} {ch : Nat} {f : Piece → Piece} {p : Piece} (h : r = owner p ch) : mbxWrite r ch f p = f p := by
  simp [mbxWrite, h]

/-- The side that does not own a secure channel is ignored and counted (R415, R432). -/
theorem mbxWrite_secure_stranger {r : Requester} {ch : Nat} {f : Piece → Piece} {p : Piece} (h : r ≠ owner p ch) (hch : 16 ≤ ch)
    (hside : r = .host1 ∨ r = .mgmt) :
    mbxWrite r ch f p = onChannel ch (fun c => { c with fullCount := sat32 c.fullCount 1 }) p := by
  have hcounted : (decide (16 ≤ ch) && (r == .host1 || r == .mgmt)) = true := by simpa using ⟨hch, hside⟩
  rw [mbxWrite, if_neg (by simpa using h), if_pos hcounted]

theorem doorbellPostsVoidsOrRefuses : Claim.DoorbellPostsVoidsOrRefuses := by
  rintro p q r ch w p1 n rfl rfl
  refine ⟨fun hr he hroom => effect_next ((mbxWrite_owner hr).trans ?_), fun hr he => effect_next ((mbxWrite_owner hr).trans ?_),
    fun hr he hfull => effect_next ((mbxWrite_owner hr).trans ?_),
    fun hch hr hside => effect_next (mbxWrite_secure_stranger hr hch hside)⟩
  · exact (if_neg fun h => bne_iff_ne.mp h he).trans (if_neg (Nat.not_le.mpr hroom))
  · exact (if_pos (bne_iff_ne.mpr he)).trans (when_pos rfl)
  · exact (if_neg fun h => bne_iff_ne.mp h he).trans (if_pos hfull)

theorem inboundReadTakesTheHead : Claim.InboundReadTakesTheHead := by
  rintro p q r ch wide ws stale rfl rfl rfl
  refine effect_of_eq (g := execMbxInTake (owner p ch) ch wide) rfl ?_
  rw [takeInbound, if_neg (by simp)]
  dsimp only
  cases h : (p.channel ch).inq <;> rfl

theorem statusBitsClearByOnes : Claim.StatusBitsClearByOnes :=
  fun _ _ _ _ _ h => effect_next (mbxWrite_owner h)

/-! ### Timers -/

theorem timerExpired_of_due {p : Piece} {x : Queued} (htimer : x.timeout ≠ 0) (hfresh : x.expired = false)
    (hdue : x.entered + x.timeout * 2560 ≤ p.clocks.mint) : timerExpired p x = true := by
  simp [timerExpired, htimer, hfresh, ticksPerUs, hdue]

theorem timerExpired_of_silent {p : Piece} {x : Queued} (h : x.expired = true ∨ x.timeout = 0) : timerExpired p x = false := by
  obtain h | h := h <;> simp [timerExpired, h]

theorem onChannel_timeout (i : Nat) (f : Channel → Channel) (hf : ∀ c, (f c).timeout = c.timeout) (p : Piece) (ch : Nat) :
    ((onChannel i f p).channel ch).timeout = (p.channel ch).timeout :=
  nth_upd_keep Channel.timeout _ _ _ _ hf

theorem timeoutIsRaisedOnce : Claim.TimeoutIsRaisedOnce := by
  refine ⟨fun p q ch i x hx htimer hfresh hdue => ?_, fun p q ch i x hx htimer hfresh hdue => ?_, fun p q ch i x hx h => ?_⟩
  · refine ⟨_, effect_next (when_pos (by simp [hx, timerExpired_of_due htimer hfresh hdue])), ?_⟩
    exact congrArg (fun b => when (!b) _ _) (onChannel_timeout _ _ (by intro; rfl) _ _)
  · exact effect_next (when_pos (by simp [hx, timerExpired_of_due htimer hfresh hdue]))
  · exact effect_next (when_neg (by simp [hx, timerExpired_of_silent h]))

theorem heldNoticeIsPostedWhenASlotFrees : Claim.HeldNoticeIsPostedWhenASlotFrees := by
  intro p q ch n rest p1 hheld hp1
  subst hp1
  refine ⟨fun hroom => effect_of_eq (g := execStewardNoticePost ch) rfl ?_,
    fun hfull => effect_of_eq (g := execStewardNoticePost ch) rfl ?_⟩
  · rw [hheld]
    refine (when_pos (by simpa using hroom)).trans ?_
    simp only [enterInbound, channelVector, Nat.zero_add]
    rfl
  · rw [hheld]
    exact when_neg (by simpa using hfull)

/-- Settles O11: doorbells, reads, status bits, timers and held notices. -/
theorem mailboxQueues : Obligations.MailboxQueues :=
  ⟨doorbellPostsVoidsOrRefuses, inboundReadTakesTheHead, statusBitsClearByOnes, timeoutIsRaisedOnce, heldNoticeIsPostedWhenASlotFrees⟩

end Sys2Proof.Machine

/-! Locks (R429, R430). -/

namespace Sys2Proof.Machine

theorem lockWord_def (r o : Nat) : lockWord r o = if r = o then 2 ^ 31 + o else o := by
  by_cases h : r = o <;> simp [lockWord, flag, h]

/-- A read of a lock word is answered to a requester that may hold locks. -/
theorem execLockAcquireRead_next {r : Requester} {n : Fin 64} {wide : Bool} {node : Fin 65536} {p t : Piece} {q : List Instr}
    {ws : List Nat} (hr : locks? r = true) (h : readLock r n wide node p = (t, ws)) :
    exec (.lockAcquireRead r n wide node) ⟨p, q⟩ = .next ⟨emit (.readValue r.number ws) t, q⟩ := by
  refine effect_of_eq (g := execLockAcquireRead r n wide node) rfl ((when_pos hr).trans ?_)
  rw [h]

theorem lockReadAcquires : Claim.LockReadAcquires := by
  rintro p q r n node o hr rfl
  have hlocks : locks? r = true := by
    rcases r with _ | _ | _ | _ | _ <;> simp at hr <;> rfl
  have hhere : (r == .netRemote) = false := by
    rcases r with _ | _ | _ | _ | _ <;> simp at hr <;> rfl
  refine ⟨fun hfree => execLockAcquireRead_next (t := setLock n r.number p) hlocks ?_,
    fun hheld => execLockAcquireRead_next (t := p) hlocks ?_, execLockAcquireRead_next (t := countBadRelease p) hlocks rfl⟩
  · simp [readLock, hfree, hhere, lockWord_def]
  · simp [readLock, hheld, lockWord_def]

theorem lockWriteReleases : Claim.LockWriteReleases := by
  intro p q r n v wide hr
  have hlocks : locks? r = true := by
    rcases r with _ | _ | _ | _ | _ <;> simp at hr <;> rfl
  split
  next h =>
    obtain ⟨hnarrow, howner, hvalue⟩ := h
    refine effect_next ((when_pos hlocks).trans ?_)
    rw [writeLock, if_pos (by simp [hnarrow, howner, hvalue])]
    rfl
  next h =>
    refine effect_next ((when_pos hlocks).trans ?_)
    rw [writeLock, if_neg (by simpa [and_assoc] using h)]
    rfl

/-- Settles O12: reads acquire, the owner's write releases. -/
theorem lockBank : Obligations.LockBank :=
  ⟨lockReadAcquires, lockWriteReleases⟩

end Sys2Proof.Machine

/-! The steward's side of the mailboxes: notices in rotation, fetches, and the checks of a block (R417 to R443). -/

namespace Sys2Proof.Machine

theorem noticeOk_iff (n : Notice) : noticeOk n = true ↔ n.kind = 1 ∧ n.length ≠ 0 ∧ n.address % 64 = 0 ∧ n.reserved = 0 := by
  simp [noticeOk, and_assoc]

/-- NOTICE_TAKE_BY_STEWARD of a notice at the head of the channel next in rotation. -/
theorem execNoticeTakeBySteward_next {p t : Piece} {q : List Instr} {ch : Nat} {x : Queued} {rest : List Queued}
    (hrun : p.transport.state = .running) (hroom : inFlight p < 4096) (hnext : nextServed p = some ch)
    (houtq : (p.channel ch).outq = x :: rest)
    (h : (fun p1 : Piece => if noticeOk x.notice then
          (fun p2 : Piece => if isDevice x.notice.address then p2
            else issueRead (.commandFetch ch) x.notice.address (64 * x.notice.length) p2)
            (onChannel ch (fun c => { c with fetching := c.fetching ++ [x.notice] }) p1)
        else rejectNotice ch p1)
      (onChannel ch (fun c => { c with outq := rest, staleCount := if x.stale then c.staleCount - 1 else c.staleCount })
        { p with transport := { p.transport with lastServed := ch } }) = t) :
    exec .noticeTakeBySteward ⟨p, q⟩ = .next ⟨t, q⟩ := by
  refine effect_of_eq (g := execNoticeTakeBySteward) rfl ((when_pos (by simp [hrun, hroom])).trans ?_)
  rw [hnext]
  dsimp only
  rw [houtq]
  exact h

/-- The channel served next is the first with a notice after the last one served. -/
theorem nextServed_first {p : Piece} {ch : Nat} (h : nextServed p = some ch) :
    (p.channel ch).outq ≠ [] ∧ ch < 20 ∧
      ∀ k < 20, 0 < k → (∀ j ≤ k, 0 < j → (p.transport.lastServed + j) % 20 ≠ ch) →
        (p.channel ((p.transport.lastServed + k) % 20)).outq = [] := by
  obtain ⟨hhas, i, hi, hch, hbefore⟩ := List.find?_eq_some_iff_getElem.mp h
  simp only [List.length_map, List.length_range] at hi
  simp only [List.getElem_map, List.getElem_range] at hch hbefore
  refine ⟨by simpa using hhas, hch ▸ Nat.mod_lt _ (by decide), fun k hk hpos hskip => ?_⟩
  have hlt : k - 1 < i := by
    by_contra hge
    exact hskip (i + 1) (by omega) (by omega) (by rw [← hch, Nat.add_right_comm]; rfl)
  have hempty := hbefore (k - 1) hlt
  rw [show p.transport.lastServed + 1 + (k - 1) = p.transport.lastServed + k by omega] at hempty
  simpa using hempty

theorem stewardTakesNoticesInRotation : Claim.StewardTakesNoticesInRotation := by
  refine ⟨?_, fun p ch h => nextServed_first h,
    fun p q hfull => effect_of_eq (g := execNoticeTakeBySteward) rfl (when_neg (by simp [hfull]))⟩
  rintro p q ch x rest p1 hrun hroom hnext houtq rfl
  refine ⟨fun hbad => ?_, fun hkind hlength haligned hreserved hdevice => ?_, fun hkind hlength haligned hreserved hhost => ?_⟩
  · refine execNoticeTakeBySteward_next hrun hroom hnext houtq (if_neg ?_)
    rw [noticeOk_iff]
    tauto
  · exact execNoticeTakeBySteward_next hrun hroom hnext houtq
      ((if_pos ((noticeOk_iff _).mpr ⟨hkind, hlength, haligned, hreserved⟩)).trans (if_pos hdevice))
  · exact execNoticeTakeBySteward_next hrun hroom hnext houtq
      ((if_pos ((noticeOk_iff _).mpr ⟨hkind, hlength, haligned, hreserved⟩)).trans (if_neg (by simp [hhost])))

theorem fetchFails_of_fetching {ch : Nat} {n : Notice} {rest : List Notice} {p : Piece} (h : (p.channel ch).fetching = n :: rest) :
    fetchFails ch p = rejectNotice ch (dropRequest (.commandFetch ch) (onChannel ch (fun c => { c with fetching := rest }) p)) := by
  simp [fetchFails, h]

theorem failedFetchRejectsTheNotice : Claim.FailedFetchRejectsTheNotice :=
  fun _ _ _ _ _ h => ⟨effect_next (fetchFails_of_fetching h), fun _ => ⟨by simp, rfl⟩⟩

/-! ### Fetched blocks -/

theorem fetchAnswer_of_none {p : Piece} {ch : Nat} {a : Answer}
    (h : (p.hostif.answers.find? fun a => a.1.use == .commandFetch ch) = none) : fetchAnswer p ch a = a := by
  simp [fetchAnswer, h]

theorem dropAnswer_of_none {p : Piece} {ch : Nat} (h : (p.hostif.answers.find? fun a => a.1.use == .commandFetch ch) = none) :
    dropAnswer ch p = p := by
  simp [dropAnswer, h]

/-- COMMAND_FETCH_DONE of a block that has come whole is that of its command. -/
theorem execCommandFetchDone_next {p t : Piece} {q : List Instr} {ch : Fin 20} {answer : Answer} {n : Notice} {rest : List Notice}
    {bs : Bytes} (hfetching : (p.channel ch).fetching = n :: rest) (haddr : addrOk p.dmc n.address = true)
    (hanswers : (p.hostif.answers.find? fun a => a.1.use == .commandFetch ch.val) = none)
    (hread : pieceRead p n.address (64 * n.length) answer = .ok bs)
    (h : takeCommand n ch bs (dropRequest (.commandFetch ch) (onChannel ch (fun c => { c with fetching := rest }) p)) = t) :
    exec (.commandFetchDone ch answer) ⟨p, q⟩ = .next ⟨t, q⟩ := by
  refine effect_of_eq (g := execCommandFetchDone ch answer) rfl ?_
  simp only [fetchAnswer_of_none hanswers, dropAnswer_of_none hanswers, hfetching, haddr, hread]
  exact h

/-- The command of a fetched block, as it stands in flight. -/
def blockFlight (ch : Nat) (bs : Bytes) (p : Piece) : Flight :=
  { order := p.transport.nextOrder, opcode := u bs 0 2, channel := ch, session := u bs 4 2, tag := u bs 2 2 % 4096,
    irq := bitAt (u bs 6 2) 1, fenceBefore := bitAt (u bs 6 2) 0, isSealed := bitAt (u bs 6 2) 2,
    body := slice bs 32 (min (u bs 8 4) (bs.length - 32)) }

/-- The checks of a block in order: those of the block, and then those of the header. -/
theorem takeCommand_of_ready {n : Notice} {ch : Nat} {bs : Bytes} {p : Piece}
    (hready : beforeReady p (blockFlight ch bs p).opcode = false) :
    takeCommand n ch bs p =
      match blockFault n ch bs (blockOf bs) with
      | some st => failCheck (blockFlight ch bs p) st false (enroll (blockFlight ch bs p) p)
      | none =>
        match (cmdRow (blockFlight ch bs p).opcode).bind fun row =>
            headerFault (enroll (blockFlight ch bs p) p) row (blockFlight ch bs p) with
        | some (st, dup) => failCheck (blockFlight ch bs p) st dup (enroll (blockFlight ch bs p) p)
        | none => enroll (blockFlight ch bs p) p := by
  have hready' : beforeReady (enroll (blockFlight ch bs p) p) (blockOf bs).opcode = false := hready
  show (match if beforeReady (enroll (blockFlight ch bs p) p) (blockOf bs).opcode then some stBusy
    else blockFault n ch bs (blockOf bs) with | some st => _ | none => _) = _
  rw [hready']
  rfl

theorem fetchedBlockIsCheckedAndEnrolled : Claim.FetchedBlockIsCheckedAndEnrolled := by
  intro p q ch answer n rest bs p1 f row hfetching haddr hanswers hread hp1 hf hready
  replace hf : f = blockFlight ch bs p1 := hf
  subst hp1 hf
  refine ⟨fun st hfault => ?_, fun hfault hrow hheader => ?_, fun st dup hfault hrow hheader => ?_⟩
  · exact execCommandFetchDone_next hfetching haddr hanswers hread (by rw [takeCommand_of_ready hready, hfault])
  · exact execCommandFetchDone_next hfetching haddr hanswers hread (by
      rw [takeCommand_of_ready hready, hfault, hrow, Option.bind_some, hheader])
  · exact execCommandFetchDone_next hfetching haddr hanswers hread (by
      rw [takeCommand_of_ready hready, hfault, hrow, Option.bind_some, hheader])

theorem blockChecksInOrder : Claim.BlockChecksInOrder := by
  rintro n ch bs b -
  refine ⟨fun hsealed hcrc => if_pos (by simp [hsealed, hcrc]), fun hseal => ?_⟩
  have hpass : ¬ (bitAt b.flags 2 && b.sealCrc != sealOf n ch bs) = true := by
    obtain h | h := hseal <;> simp [h]
  unfold blockFault
  rw [if_neg hpass]
  refine ⟨fun hbad => if_pos ?_, fun htag hflags hzero hcrc hlen hsession => ?_⟩
  · simpa [or_assoc] using hbad
  · refine if_neg ?_
    have hsealZero : ¬ (bitAt b.flags 2 = false ∧ b.sealCrc ≠ 0) := fun h => h.2 (hcrc h.1)
    simp only [Bool.or_eq_true, Bool.and_eq_true, decide_eq_true_eq, Bool.not_eq_true', bne_iff_ne, hzero, hsealZero,
      Bool.true_eq_false, or_false]
    omega

/-- Settles O13: rotation, fetches and the order of the checks. -/
theorem noticesAndBlocks : Obligations.NoticesAndBlocks :=
  ⟨stewardTakesNoticesInRotation, failedFetchRejectsTheNotice, fetchedBlockIsCheckedAndEnrolled, blockChecksInOrder⟩

end Sys2Proof.Machine

/-! SYS_HELLO, sessions, claims and rings (R436 to R449, R489 to R494). -/

namespace Sys2Proof.Machine

/-! ### A command row that starts -/

section
variable {op : Nat} {c : Cmd} {p p1 p2 : Piece} {f : Flight} {act : Act} (q : List Instr) (h : Claim.Starts op c p f p1)
include h

/-- A row that starts and whose work is done at once completes, with the queue as it was. -/
theorem command_done {st : Nat} {rs : List Nat} (hact : act f c.read p1 = (p2, .done st rs)) :
    effect (runCommand op c act) ⟨p, q⟩ = .next ⟨finish f st rs p2, q⟩ :=
  effect_next (runCommand_of_starts_of_done h hact)

/-- A row that starts and whose work waits stands in flight, waiting. -/
theorem command_waits {k : WaitKind} {i : Nat} {rs : List Nat} (hact : act f c.read p1 = (p2, .wait k i rs)) :
    effect (runCommand op c act) ⟨p, q⟩ = .next ⟨settle (setFlight { f with progress := .waiting k i rs } p2), q⟩ := by
  have hfree : blocked p1 f = false := h.2.1
  refine effect_next ?_
  rw [runCommand_of_starts act h]
  simp [start, hfree, beforeReady_of_starts h, hact]

end

theorem helloRegistersTheDefaultRing : Claim.HelloRegistersTheDefaultRing := by
  rintro p q c f p1 p2 h hok hnow rfl
  exact command_done q h (act := actHello) (by simp [actHello, simple, hok, hnow, pieceId, pieceRev])

/-! ### Sessions -/

theorem freeSession_eq_some {p : Piece} {i : Nat} (hi : i < 256) (hfree : ∀ s ∈ p.transport.sessions, s.id ≠ i)
    (hbelow : ∀ j < i, ∃ s ∈ p.transport.sessions, s.id = j) : freeSession p = some i := by
  refine List.find?_range_eq_some.mpr ⟨by simpa using hfree, by simpa using hi, fun j hj => ?_⟩
  simpa using hbelow j hj

theorem freeSession_eq_none {p : Piece} (h : ∀ i < 256, ∃ s ∈ p.transport.sessions, s.id = i) : freeSession p = none :=
  List.find?_eq_none.mpr fun i hi => by simpa using h i (List.mem_range.mp hi)

theorem openTakesTheLowestFreeSession : Claim.OpenTakesTheLowestFreeSession := by
  intro p q c f p1 h hzero
  refine ⟨fun i hi hfree hbelow => command_done q h (act := actSessionOpen) ?_,
    fun hall => command_done q h (act := actSessionOpen) ?_⟩
  · simp [actSessionOpen, simple, hzero, freeSession_eq_some hi hfree hbelow, stOk]
  · simp [actSessionOpen, simple, hzero, freeSession_eq_none hall, stNoResource]

theorem closeReleasesClaimsAndWaits : Claim.CloseReleasesClaimsAndWaits := by
  intro p q c f p1 s h hzero hs
  refine ⟨fun hopen => command_waits q h (act := actSessionClose) ?_, fun hclosing => command_done q h (act := actSessionClose) ?_⟩
  · simp [actSessionClose, simple, hzero, hs, hopen]
  · simp [actSessionClose, simple, hzero, hs, hclosing, stState]

/-! ### Claims -/

theorem claimGivesAPanelToOneSession : Claim.ClaimGivesAPanelToOneSession := by
  rintro p q c f p1 t i h hpricking rfl rfl hzero
  refine ⟨fun hbad => command_done q h (act := actPanelClaim) ?unlisted,
    fun hmem hstream hfree => command_done q h (act := actPanelClaim) ?free,
    fun hmem hstream hmine => command_done q h (act := actPanelClaim) ?mine,
    fun holder hmem hstream hheld hother => command_done q h (act := actPanelClaim) ?held⟩
  case unlisted => obtain hbad | hbad := hbad <;> simp [actPanelClaim, simple, hpricking, hbad, stRange]
  case free => simp [actPanelClaim, simple, hpricking, hzero, hmem, beq_eq_false_iff_ne.mpr hstream, hfree, stOk]
  case mine => simp [actPanelClaim, simple, hpricking, hzero, hmem, beq_eq_false_iff_ne.mpr hstream, hmine, stOk]
  case held => simp [actPanelClaim, simple, hpricking, hzero, hmem, beq_eq_false_iff_ne.mpr hstream, hheld, bne_iff_ne.mpr hother, stBusy]

theorem releaseTakesTheClaimOnly : Claim.ReleaseTakesTheClaimOnly := by
  rintro p q c f p1 t i h rfl rfl hzero hmem
  refine ⟨fun hmine => command_done q h (act := actPanelRelease) ?_, fun hother => command_done q h (act := actPanelRelease) ?_⟩
  · simp [actPanelRelease, simple, hzero, hmem, hmine, stOk]
  · simp [actPanelRelease, simple, hzero, hmem, bne_iff_ne.mpr hother, stState]

/-! ### Rings -/

theorem flag_zero (b : Bool) : flag b 0 = if b then 1 else 0 := by
  cases b <;> rfl

theorem ringCommandsRegisterTheSessionsRing : Claim.RingCommandsRegisterTheSessionsRing := by
  intro p q c f p1 s old
  refine ⟨fun h hok hnow hs hold => command_done q h (act := actEventRingSet) ?_,
    fun h hok hnow hs hold => command_done q h (act := actCompletionRingSet) ?_⟩
  · simp [actEventRingSet, simple, hok, hnow, hs, ← hold, flag_zero, stOk]
  · simp [actCompletionRingSet, simple, hok, hnow, hs, ← hold, flag_zero, stOk]

theorem registerRing_anew {p : Piece} {old : Ring} {b : Bytes} (hlen : u b 8 4 ≠ 0)
    (h : old.base ≠ u b 0 8 ∨ old.consumerAddr ≠ u b 16 8 ∨ old.entries ≠ u b 8 4 ∧ old.holds p = false) :
    registerRing p old b = ({ base := u b 0 8, entries := u b 8 4, consumerAddr := u b 16 8 }, false) := by
  unfold registerRing
  dsimp only
  rw [if_neg (by simpa using hlen), if_neg, if_neg]
  · simp only [Bool.and_eq_true, beq_iff_eq]
    tauto
  · simp only [Bool.and_eq_true, beq_iff_eq]
    rintro ⟨⟨⟨-, hbase⟩, hcons⟩, hholds⟩
    simp [hbase, hcons, hholds] at h

theorem registrationStagesOrStartsAnew : Claim.RegistrationStagesOrStartsAnew := by
  intro p old b
  refine ⟨fun hzero => by simp [registerRing, hzero], fun hlen hother hused hbase hcons hholds => ?_, fun hlen h => ?_⟩
  · simp [registerRing, hlen, hother, hused, hbase, hcons, hholds]
  · rw [registerRing_anew hlen h]
    exact ⟨rfl, rfl, rfl⟩

/-- Settles O14: the hello, sessions, claims and rings. -/
theorem sessionsAndClaims : Obligations.SessionsAndClaims :=
  ⟨helloRegistersTheDefaultRing, openTakesTheLowestFreeSession, closeReleasesClaimsAndWaits, claimGivesAPanelToOneSession,
    releaseTakesTheClaimOnly, ringCommandsRegisterTheSessionsRing, registrationStagesOrStartsAnew⟩

end Sys2Proof.Machine

/-! Registers: shadows of captured words, writes, MSI-X control and the alarm block (R418, R634 to R641). -/

namespace Sys2Proof.Machine

/-! ### Shadows -/

theorem requester_number_inj {r r' : Requester} : r.number = r'.number ↔ r = r' :=
  ⟨fun h => by revert h; cases r <;> cases r' <;> decide, fun h => h ▸ rfl⟩

theorem shadowOf_dropShadows (r r' : Requester) (locs : List RegLoc) (l : RegLoc) (p : Piece) :
    shadowOf (dropShadows r locs p) r' l = if r'.number = r.number ∧ l ∈ locs then none else shadowOf p r' l := by
  simp only [shadowOf, dropShadows, onRegs, List.find?_filter]
  split
  next h =>
    obtain ⟨hr, hl⟩ := h
    rw [List.find?_eq_none.mpr]
    · rfl
    · rintro x - hx
      simp only [decide_eq_true_eq, Bool.and_eq_true, beq_iff_eq] at hx
      obtain ⟨hkept, hxr, hxl⟩ := hx
      simp [hxr, hr, hxl, hl] at hkept
  next h =>
    congr 2
    funext x
    by_cases hx : x.requester = r'.number ∧ x.loc = l
    · obtain ⟨hxr, rfl⟩ := hx
      simpa [hxr, imp_iff_not_or] using h
    · simp only [Bool.and_eq_true, beq_iff_eq, hx, and_false, decide_false]
      simpa using hx

theorem shadowOf_capture_same {r : Requester} {locs : List RegLoc} {l : RegLoc} (p : Piece) (h : l ∈ locs) :
    shadowOf (capture r locs p) r l = some (liveWord p r l) := by
  have hfind : (locs.map fun l => { requester := r.number, loc := l, value := liveWord p r l : Shadow }).find?
      (fun s => s.requester == r.number && s.loc == l) = some ⟨r.number, l, liveWord p r l⟩ := by
    rw [List.find?_map]
    cases hf : locs.find? ((fun s : Shadow => s.requester == r.number && s.loc == l) ∘ fun l => ⟨r.number, l, liveWord p r l⟩) with
    | none =>
      have := List.find?_eq_none.mp hf l h
      simp at this
    | some x =>
      have hx : x = l := by simpa using List.find?_some hf
      rw [hx]
      rfl
  simp only [shadowOf, capture, onRegs, List.find?_append]
  erw [hfind]
  rfl

theorem shadowOf_capture_other {r r' : Requester} {locs : List RegLoc} (l : RegLoc) (p : Piece) (h : r'.number ≠ r.number) :
    shadowOf (capture r locs p) r' l = shadowOf p r' l := by
  have hnone : ((locs.map fun l => { requester := r.number, loc := l, value := liveWord p r l : Shadow }).find?
      fun s => s.requester == r'.number && s.loc == l) = none := by
    simp [List.find?_eq_none, Ne.symm h]
  have hdrop := shadowOf_dropShadows r r' locs l p
  rw [if_neg (fun hboth => h hboth.1)] at hdrop
  rw [← hdrop]
  simp [shadowOf, capture, onRegs, List.find?_append, hnone]

/-! ### Reads -/

theorem readReg_plain {r : Requester} {loc : RegLoc} {wide : Bool} {p : Piece} (hmbx : mbxAt loc = none) (hlock : lockAt loc = none) :
    readReg r loc wide p = if wide then readPair r loc p else ((readWord r loc p).1, [(readWord r loc p).2]) := by
  simp [readReg, hmbx, hlock]

theorem readBy_of_reaches {r : Requester} {a : RegLoc} {wide : Bool} {p : Piece} (hreach : reaches p r (resolve a) = true)
    (haligned : aligned a wide = true) :
    readBy r a wide p = emit (.readValue r.number (readReg r (resolve a) wide p).2) (readReg r (resolve a) wide p).1 := by
  unfold readBy
  exact when_pos (by simp [hreach, haligned])

theorem lowWordReadHoldsTheRest : Claim.LowWordReadHoldsTheRest := by
  rintro p q r a loc wide rfl hreach haligned hcaptures hmbx hlock
  refine ⟨_, effect_next (readBy_of_reaches hreach haligned), ?_⟩
  rw [readReg_plain hmbx hlock]
  obtain ⟨l, ls, hls⟩ := List.exists_cons_of_ne_nil hcaptures
  cases wide
  · have hword : readWord r (resolve a) p = (capture r (captures (resolve a)) p, liveWord p r (resolve a)) := by
      simp [readWord, hls]
    rw [hword]
    exact ⟨rfl, fun _ l hl => shadowOf_capture_same p hl, nofun, fun r' l h => shadowOf_capture_other l p h⟩
  · have hpair : readPair r (resolve a) p = (dropShadows r [nextWord (resolve a)] p,
        [liveWord p r (resolve a), liveWord p r (nextWord (resolve a))]) := by
      simp [readPair, hls]
    rw [if_pos rfl, hpair]
    refine ⟨rfl, nofun, fun _ => ?_, fun r' l h => ?_⟩
    · exact (shadowOf_dropShadows ..).trans (if_pos ⟨rfl, List.mem_singleton_self _⟩)
    · exact (shadowOf_dropShadows ..).trans (if_neg fun hboth => h hboth.1)

theorem shadowReadsOnce : Claim.ShadowReadsOnce := by
  rintro p q r a loc rfl hreach haligned hcaptures hmbx hlock
  refine ⟨fun v hv => ⟨_, effect_next (readBy_of_reaches hreach haligned), ?_⟩,
    fun hnone => effect_next ((readBy_of_reaches hreach haligned).trans ?_)⟩
  · have hword : readWord r (resolve a) p = (dropShadows r [resolve a] p, v) := by
      simp [readWord, hcaptures, hv]
    rw [readReg_plain hmbx hlock, if_neg (by decide), hword]
    refine ⟨rfl, ?_, fun r' l h => ?_⟩
    · exact (shadowOf_dropShadows ..).trans (if_pos ⟨rfl, List.mem_singleton_self _⟩)
    · refine (shadowOf_dropShadows ..).trans (if_neg fun hboth => h ?_)
      rw [requester_number_inj.mp hboth.1, List.mem_singleton.mp hboth.2]
  · have hword : readWord r (resolve a) p = (p, liveWord p r (resolve a)) := by
      simp [readWord, hcaptures, hnone]
    rw [readReg_plain hmbx hlock, if_neg (by decide), hword]
    rfl

/-! ### Writes -/

theorem resolve_low {off : Nat} (h : off < 0x400000) : resolve (.fixed0 off) = .fixed0 off := by
  have : ¬ (0x400000 ≤ off ∧ off < 0x1000000) := by omega
  simp [resolve, Nat.not_le.mpr h]

theorem mbxAt_channel {ch k : Nat} (hch : ch < 16) (hk : k < 0x100) : mbxAt (.fixed0 (0x1000 + 0x100 * ch + k)) = some (ch, k) := by
  have hrange : 0x1000 ≤ 0x1000 + 0x100 * ch + k ∧ 0x1000 + 0x100 * ch + k < 0x2000 := by omega
  have hchannel : (0x1000 + 0x100 * ch + k - 0x1000) / 0x100 = ch := by omega
  have hoffset : (0x1000 + 0x100 * ch + k) % 0x100 = k := by omega
  simp only [mbxAt, hrange.1, hrange.2, decide_true, Bool.and_self, if_true, hchannel, hoffset]

theorem writeReg_channel {r : Requester} {ch k v : Nat} {p : Piece} (hch : ch < 16) (hk : k < 0x100) :
    writeReg r (.fixed0 (0x1000 + 0x100 * ch + k)) v p = writeMbx r ch k v p := by
  unfold writeReg
  rw [mbxAt_channel hch hk]

theorem execRegisterWrite_next {r : Requester} {off : Nat} {v : BitVec 64} {wide : Bool} {p t : Piece} {q : List Instr}
    (hlow : off < 0x400000) (hreach : reaches p r (.fixed0 off) = true) (haligned : off % (if wide then 8 else 4) = 0)
    (h : (if wide then writeWide r (.fixed0 off) v.toNat else writeReg r (.fixed0 off) (v.toNat % 2 ^ 32)) p = t) :
    exec (.registerWrite r (.fixed0 off) v wide) ⟨p, q⟩ = .next ⟨t, q⟩ := by
  show execRegisterWrite r (.fixed0 off) v ⟨p, q⟩ wide = _
  unfold execRegisterWrite
  refine effect_next ?_
  rw [resolve_low hlow]
  exact (when_pos (by simp [hreach, aligned, regOffset, haligned])).trans h

/-- The offsets of function 0 that a write of 32 bits finds no register at (R7, R634, R641). -/
theorem writeReg_readOnly {r : Requester} {off v : Nat} {p : Piece} (h : off < 0x14 ∨ 0x20000 ≤ off ∧ off < 0x23000) :
    writeReg r (.fixed0 off) v p = p := by
  have hmbx : ¬ (0x1000 ≤ off ∧ off < 0x2000) := by omega
  have hlock : ¬ (0x10000 ≤ off ∧ off < 0x10100) := by omega
  have hreset : off ≠ 0x14 := by omega
  have hmsix : ¬ (0x8000 ≤ off ∧ off < 0x8408) := by omega
  have hm : mbxAt (.fixed0 off) = none := if_neg (by simpa using hmbx)
  have hl : lockAt (.fixed0 off) = none := if_neg (by simpa using hlock)
  unfold writeReg
  rw [hm, hl]
  dsimp only
  rw [if_neg (by simpa using hreset), if_neg (by simpa using hmsix)]

theorem writeReg_msix {r : Requester} {off v : Nat} {p : Piece} (hlow : 0x8000 ≤ off) (hhigh : off < 0x8408) :
    writeReg r (.fixed0 off) v p = writeMsix 0 (off - 0x8000) v p := by
  have hm : mbxAt (.fixed0 off) = none := if_neg (by simp only [Bool.and_eq_true, decide_eq_true_eq]; omega)
  have hl : lockAt (.fixed0 off) = none := if_neg (by simp only [Bool.and_eq_true, decide_eq_true_eq]; omega)
  unfold writeReg
  rw [hm, hl]
  dsimp only
  rw [if_neg (by simp only [beq_iff_eq]; omega), if_pos (by simp [hlow, hhigh])]

/-- The message address of vector `n` (R638). -/
theorem writeMsix_address {n v : Nat} {p : Piece} (h : n < 64) :
    writeMsix 0 (0x8000 + 16 * n - 0x8000) v p = onMsix 0 n (fun e => { e with addrLo := v / 4 * 4 }) p := by
  have hoff : 0x8000 + 16 * n - 0x8000 = 16 * n := by omega
  rw [writeMsix, hoff, if_neg (by omega), Nat.mul_mod_right, Nat.mul_div_cancel_left _ (by decide)]
  rfl

theorem registerWriteReachesItsRegister : Claim.RegisterWriteReachesItsRegister := by
  intro p q v hreleased hup
  have hreach : ∀ off, reaches p .host0 (.fixed0 off) = true := fun off => by simp [reaches, hreleased, hup]
  refine ⟨fun ch k => ?staging, fun n => ?msix, fun off hoff => ?readOnly, fun ch => ?doorbell⟩
  case staging =>
    have hoff : 0x1000 + 0x100 * ch.val + 4 * k.val < 0x400000 := by omega
    refine execRegisterWrite_next hoff (hreach _) (by simp only [Bool.false_eq_true, if_false]; omega) ?_
    rw [if_neg (by decide), writeReg_channel ch.isLt (by omega)]
    match k with
    | 0 => exact mbxWrite_owner (owner_ordinary ch.isLt).symm
    | 1 => exact mbxWrite_owner (owner_ordinary ch.isLt).symm
    | 2 => exact mbxWrite_owner (owner_ordinary ch.isLt).symm
  case msix =>
    have hoff : 0x8000 + 16 * n.val < 0x400000 := by omega
    refine execRegisterWrite_next hoff (hreach _) (by simp only [Bool.false_eq_true, if_false]; omega) ?_
    have hrange : 0x8000 ≤ 0x8000 + 16 * n.val ∧ 0x8000 + 16 * n.val < 0x8408 := by omega
    rw [if_neg (by decide), writeReg_msix hrange.1 hrange.2, writeMsix_address (by omega)]
    rfl
  case readOnly =>
    show execRegisterWrite .host0 (.fixed0 off) v ⟨p, q⟩ false = _
    unfold execRegisterWrite
    refine effect_next ?_
    rw [resolve_low (by omega)]
    dsimp only
    cases reaches p .host0 (.fixed0 off) && aligned (.fixed0 off) false
    · rfl
    · exact writeReg_readOnly hoff
  case doorbell =>
    have hoff : 0x1000 + 0x100 * ch.val + 8 < 0x400000 := by omega
    refine execRegisterWrite_next hoff (hreach _) (by simp only [if_true]; omega) ?_
    have hlock : lockAt (.fixed0 (0x1000 + 0x100 * ch.val + 8)) = none :=
      if_neg (by simp only [Bool.and_eq_true, decide_eq_true_eq]; omega)
    rw [if_pos rfl, writeWide, hlock]
    dsimp only
    rw [nextWord, Nat.add_assoc _ 8 4, writeReg_channel ch.isLt (by decide), writeReg_channel ch.isLt (by decide)]
    exact congrArg (ringDoorbell .host0 ch.val (v.toNat / 2 ^ 32)) (mbxWrite_owner (owner_ordinary ch.isLt).symm)

/-! ### MSI-X control -/

theorem unmaskSendsWhatIsPending : Claim.UnmaskSendsWhatIsPending := by
  intro p q v e es hup he
  have hnth : nth p.regs.msix0 v = e := by simp [nth, he]
  refine ⟨fun w hw => effect_next ((when_pos hup).trans ?_), fun w hw hes => effect_next ((when_pos hup).trans ?_)⟩
  · have hmask : bitAt w.toNat 0 = true := by simp [bitAt, hw]
    simp [writeMsixCtrl, hmask, onMsix, onRegs]
  · have hmask : bitAt w.toNat 0 = false := by simp [bitAt, hw]
    subst hes
    cases hp : e.pending <;> simp [writeMsixCtrl, hmask, hnth, hp, onMsix, onRegs]

/-! ### The alarm block -/

theorem clears_of_private {p : Piece} {r : Requester} (hreleased : p.boot.released = true) (hup : p.hostif.linkUp = true)
    (h : r = .host1 ∨ r = .mgmt) : clears p r = true := by
  obtain rfl | rfl := h <;> simp [clears, hreleased, hup]

theorem clears_of_other {p : Piece} {r : Requester} (h : r = .host0 ∨ r = .steward) : clears p r = false := by
  obtain rfl | rfl := h <;> rfl

theorem alarmClearsWholeEntries : Claim.AlarmClearsWholeEntries := by
  intro p q r v hreleased hup
  refine ⟨fun code hr hbit => effect_next ((when_pos ?_).trans ?_), fun code hbit => effect_next (when_neg ?_),
    fun hr => effect_next ((when_pos (clears_of_private hreleased hup hr)).trans ?_),
    fun code hr => ⟨effect_next (when_neg ?_), effect_next (when_neg (clears_of_other hr))⟩⟩
  · rw [clears_of_private hreleased hup hr, bitAt, hbit]
    rfl
  · simp +contextual [clearAlarms, onSafety, beq_iff_eq]
  · rw [bitAt, hbit, Bool.and_eq_false_iff]
    exact .inr rfl
  · simp [clearAlarms, onSafety, bitAt]
  · simp [clears_of_other hr]

/-- Settles O17: shadows, writes, MSI-X control and the alarm block. -/
theorem registersAndVectors : Obligations.RegistersAndVectors :=
  ⟨lowWordReadHoldsTheRest, shadowReadsOnce, registerWriteReachesItsRegister, unmaskSendsWhatIsPending, alarmClearsWholeEntries⟩

end Sys2Proof.Machine

/-! PIECE_PANEL_RESET (R617, R636). -/

namespace Sys2Proof.Machine

theorem panelResetRequestSetsBusy : Claim.PanelResetRequestSetsBusy := by
  intro p q v hreleased hup
  have hreach : reaches p .host0 (.fixed0 0x14) = true := by simp [reaches, hreleased, hup]
  refine ⟨fun hidle => effect_next ((when_pos hreach).trans ?_), fun hbusy => effect_next ((when_pos hreach).trans ?_)⟩
  · refine (when_pos (by simp [hidle])).trans ?_
    simp [onRegs, field]
  · exact when_neg (by simp [hbusy])

/-- PANEL_RESET of a request that is refused leaves its status and nothing else. -/
theorem execPanelReset_refused {p : Piece} (q : List Instr) {st : Nat} (hbusy : p.regs.resetBusy = true)
    (hrun : p.transport.state = .running) (hst : resetStatusOf p p.regs.resetSession p.regs.resetType p.regs.resetInst = st)
    (hbad : st ≠ stOk) :
    exec .panelReset ⟨p, q⟩ = .next ⟨{ p with regs := { p.regs with resetBusy := false, resetStatus := st } }, q⟩ := by
  refine effect_of_eq (g := execPanelReset) rfl ((when_pos (by simp [hbusy, hrun])).trans ?_)
  dsimp only
  rw [hst, if_pos (bne_iff_ne.mpr hbad)]
  rfl

theorem execPanelReset_performed {p : Piece} (q : List Instr) (hbusy : p.regs.resetBusy = true)
    (hrun : p.transport.state = .running) (hother : p.regs.resetType ≠ 0x17)
    (hst : resetStatusOf p p.regs.resetSession p.regs.resetType p.regs.resetInst = stOk) :
    exec .panelReset ⟨p, q⟩ = .next ⟨onRegs (fun r => { r with resetBusy := false, resetStatus := stOk })
      (performReset p.regs.resetType p.regs.resetInst p), q⟩ := by
  refine effect_of_eq (g := execPanelReset) rfl ((when_pos (by simp [hbusy, hrun])).trans ?_)
  dsimp only
  rw [hst, if_neg (by decide), if_neg (by simpa using hother)]

theorem panelResetIsPerformedOrRefused : Claim.PanelResetIsPerformedOrRefused := by
  rintro p q t i s hbusy hrun rfl rfl rfl
  refine ⟨fun hnone => execPanelReset_refused q hbusy hrun ?_ (by decide), fun hopen => ?_⟩
  · exact if_pos (by simpa using hnone)
  · have hsession : ¬ (!(p.transport.sessions.any fun s => s.id == p.regs.resetSession && decide (s.channel < 16))) = true := by
      simpa using hopen
    refine ⟨fun hmem => execPanelReset_refused q hbusy hrun ?_ (by decide),
      fun hmem hclaim => execPanelReset_refused q hbusy hrun ?_ (by decide),
      fun hmem hclaim hrefused => execPanelReset_refused q hbusy hrun ?_ (by decide),
      fun p1 hmem hclaim hallowed hother hp1 => ?_⟩
    · exact (if_neg hsession).trans (if_pos (by simpa using hmem))
    · exact (if_neg hsession).trans ((if_neg (by simpa using hmem)).trans (if_pos (bne_iff_ne.mpr hclaim)))
    · exact (if_neg hsession).trans ((if_neg (by simpa using hmem)).trans ((if_neg (by simp [hclaim])).trans (if_pos hrefused)))
    · subst hp1
      exact execPanelReset_performed q hbusy hrun hother
        ((if_neg hsession).trans ((if_neg (by simpa using hmem)).trans ((if_neg (by simp [hclaim])).trans (if_neg (by simp [hallowed])))))

/-- Settles O18: the request, its refusals and the reset. -/
theorem panelResets : Obligations.PanelResets :=
  ⟨panelResetRequestSetsBusy, panelResetIsPerformedOrRefused⟩

end Sys2Proof.Machine

/-! Bytes: the fields of a record that is a concatenation of little-endian words. -/

namespace Sys2Proof.Machine

@[simp] theorem leBytes_length (k n : Nat) : (leBytes k n).length = k := by
  induction k generalizing n with
  | zero => rfl
  | succ k ih => simp [leBytes, ih]

@[simp] theorem zeros_length (n : Nat) : (zeros n).length = n := List.length_replicate

theorem leNat_leBytes (k n : Nat) : leNat (leBytes k n) = n % 256 ^ k := by
  induction k generalizing n with
  | zero => simp [leBytes, leNat, Nat.mod_one]
  | succ k ih =>
    rw [leBytes, leNat, ih, BitVec.toNat_ofNat, show (2 : Nat) ^ 8 = 256 from rfl, Nat.pow_succ', Nat.mod_mul]

theorem slice_of_le {bs : Bytes} {off len : Nat} (h : off + len ≤ bs.length) : slice bs off len = (bs.drop off).take len := by
  have : len - min len (bs.length - off) = 0 := by omega
  simp [slice, this]

theorem slice_append_left {a b : Bytes} {off len : Nat} (h : off + len ≤ a.length) : slice (a ++ b) off len = slice a off len := by
  rw [slice_of_le h, slice_of_le (by simpa using Nat.le_trans h (Nat.le_add_right _ _)), List.drop_append_of_le_length (by omega),
    List.take_append_of_le_length (by simp; omega)]

theorem slice_append_right {a b : Bytes} {off len : Nat} (h : a.length ≤ off) :
    slice (a ++ b) off len = slice b (off - a.length) len := by
  simp [slice, List.drop_append, List.drop_eq_nil_of_le h]

theorem slice_all {bs : Bytes} {len : Nat} (h : bs.length = len) : slice bs 0 len = bs := by
  subst h
  rw [slice_of_le (by omega)]
  simp

theorem u_append_left {a b : Bytes} {off len : Nat} (h : off + len ≤ a.length) : u (a ++ b) off len = u a off len :=
  congrArg leNat (slice_append_left h)

theorem u_append_right {a b : Bytes} {off len : Nat} (h : a.length ≤ off) : u (a ++ b) off len = u b (off - a.length) len :=
  congrArg leNat (slice_append_right h)

@[simp] theorem u_leBytes (k n : Nat) : u (leBytes k n) 0 k = n % 256 ^ k := by
  rw [u, slice_all (leBytes_length k n), leNat_leBytes]

/-- The word that a record begins with. -/
@[simp] theorem u_leBytes_append (k n : Nat) (bs : Bytes) : u (leBytes k n ++ bs) 0 k = n % 256 ^ k := by
  rw [u_append_left (by simp), u_leBytes]

end Sys2Proof.Machine

/-! Event records and the GAP that tells of lost ones (R495, R497). -/

namespace Sys2Proof.Machine

theorem writeGap_of_ring {id : Nat} {p : Piece} {s : Session} {r : Ring} (hs : p.session id = some s) (hr : s.eventRing = some r) :
    writeGap id p = when (decide (0 < s.lost) && r.entries != 0 && !r.full p) (fun p =>
      onSession id (fun s => { s with lost := 0 }) (writeEvent id r (gapRecord s p).2 (gapRecord s p).1)) p := by
  simp [writeGap, hs, hr]

/-- An event record of a claimed panel is for the ring of the session that holds the claim. -/
theorem execEventRecordWrite_claimed {p : Piece} (q : List Instr) {a : Answer} {e : EventRecord} {rest : List EventRecord} {id : Nat}
    {t : Piece} (hraised : p.transport.raised = e :: rest)
    (hclaim : claimHolder { p with transport := { p.transport with raised := rest } } e.panelType e.inst = some id)
    (h : enterEvent id e (countRecordDrop e) (rereadEvent id a { p with transport := { p.transport with raised := rest } }) = t) :
    exec (.eventRecordWrite a) ⟨p, q⟩ = .next ⟨t, q⟩ := by
  refine effect_of_eq (g := execEventRecordWrite a) rfl ?_
  rw [hraised]
  dsimp only
  rw [hclaim]
  exact h

theorem enterEvent_of_session {id : Nat} {e : EventRecord} {dropped : Piece → Piece} {p p2 : Piece} {s : Session}
    (hp2 : p2 = writeGap id p) (hs : p2.session id = some s) :
    enterEvent id e dropped p = match s.eventRing with
      | some r =>
        if r.entries == 0 then countVoided p2
        else if s.lost == 0 && !r.full p2 then writeEvent id r e p2
        else dropped (onSession id (fun s =>
          { s with lost := s.lost + 1, lostMint := if s.lost == 0 then p2.now else s.lostMint }) p2)
      | none => countVoided p2 := by
  subst hp2
  simp only [enterEvent, hs] <;> rfl

theorem eventRecordFindsItsRing : Claim.EventRecordFindsItsRing := by
  rintro p q a e rest p1 p2 hraised rfl
  refine ⟨fun hfree => ?unclaimed, fun id s r hclaim hp2 hs => ⟨fun hring => ?noRing, fun hring hlen hlost hroom => ?room,
    fun hring hlen hfull => ?full⟩⟩
  case unclaimed =>
    refine effect_of_eq (g := execEventRecordWrite a) rfl ?_
    rw [hraised]
    dsimp only
    rw [hfree]
    rfl
  case noRing =>
    refine execEventRecordWrite_claimed q hraised hclaim ((enterEvent_of_session hp2 hs).trans ?_)
    obtain hring | ⟨hring, hlen⟩ := hring
    · rw [hring]
    · rw [hring]
      exact if_pos (by simp [hlen])
  case room =>
    refine execEventRecordWrite_claimed q hraised hclaim ((enterEvent_of_session hp2 hs).trans ?_)
    rw [hring]
    exact (if_neg (by simpa using hlen)).trans (if_pos (by simp [hlost, hroom]))
  case full =>
    refine execEventRecordWrite_claimed q hraised hclaim ((enterEvent_of_session hp2 hs).trans ?_)
    rw [hring]
    refine (if_neg (by simpa using hlen)).trans ((if_neg ?_).trans ?_)
    · obtain h | h := hfull <;> simp [h]
    · simp only [beq_iff_eq]

theorem gapTakesTheFirstFreeSlot : Claim.GapTakesTheFirstFreeSlot := by
  intro p q id bs s r p1 hp1 hs hring hlen
  have hreread : rereadEvent id (.data bs) p = p1 := hp1.symm
  have hexec : ∀ {t}, writeGap id p1 = t → exec (.eventRingRetry id (.data bs)) ⟨p, q⟩ = .next ⟨t, q⟩ := fun h =>
    effect_next ((congrArg (writeGap id) hreread).trans h)
  refine ⟨fun hlost hroom => ⟨(gapRecord s p1).1, (gapRecord s p1).2, rfl, rfl, ?_, hexec ?_⟩, fun hkeep => hexec ?_⟩
  · show u (leBytes 4 s.lost ++ zeros 4 ++ leBytes 8 s.lostMint) 0 4 = _
    rw [List.append_assoc, u_leBytes_append]
    rfl
  · exact (writeGap_of_ring hs hring).trans (when_pos (by simp [hlost, hlen, hroom]))
  · refine (writeGap_of_ring hs hring).trans (when_neg ?_)
    obtain h | h := hkeep <;> simp [h]

/-- Settles O20: event records and the GAP record. -/
theorem eventRecords : Obligations.EventRecords :=
  ⟨eventRecordFindsItsRing, gapTakesTheFirstFreeSlot⟩

end Sys2Proof.Machine

/-! The references REFIN and PPSIN, and lock, unlock and relock of the synthesizer (R22, R40 to R46, R85, R500). -/

namespace Sys2Proof.Machine

/-! ### What TRACK_FREQ keeps -/

/-- FREQ_VALID marks the counter's slots and nothing else. -/
theorem trackFreq_cases (f : Piece → Piece) (p : Piece) : ∃ g : CountSlot → CountSlot, trackFreq f p = mapSlots g (f p) ∨ trackFreq f p = f p := by
  unfold trackFreq
  dsimp only
  split
  · exact ⟨_, .inl rfl⟩
  · split
    · exact ⟨_, .inl rfl⟩
    · exact ⟨id, .inr rfl⟩

theorem trackFreq_congr {f g : Piece → Piece} {p : Piece} (h : f p = g p) : trackFreq f p = trackFreq g p := by
  unfold trackFreq
  rw [h]

@[simp] theorem trackFreq_ledger (f : Piece → Piece) (p : Piece) : (trackFreq f p).ledger = (f p).ledger := by
  obtain ⟨g, h | h⟩ := trackFreq_cases f p
  · rw [h]
    rfl
  · rw [h]

@[simp] theorem trackFreq_boot (f : Piece → Piece) (p : Piece) : (trackFreq f p).boot = (f p).boot := by
  obtain ⟨g, h | h⟩ := trackFreq_cases f p
  · rw [h]
    rfl
  · rw [h]

/-! ### REFIN -/

theorem countCycles_good {c : Clocks} {n per : Nat} (hn : 0 < n)
    (h : 3 * refinPeriod c.refinFreq ≤ 4 * per ∧ 4 * per ≤ 5 * refinPeriod c.refinFreq) :
    countCycles c (n, some per) = { c with refinGood := c.refinGood + n, refinBad := 0 } := by
  have hgood : periodGood c.refinFreq per = true := by simpa [periodGood] using h
  simp [countCycles, Nat.ne_of_gt hn, hgood]

theorem countCycles_bad {c : Clocks} {n per : Nat} (hn : 0 < n)
    (h : 4 * per < 3 * refinPeriod c.refinFreq ∨ 5 * refinPeriod c.refinFreq < 4 * per) :
    countCycles c (n, some per) = { c with refinBad := c.refinBad + n, refinGood := 0 } := by
  have hbad : periodGood c.refinFreq per = false := by
    simp only [periodGood, Bool.and_eq_false_iff, decide_eq_false_iff_not]
    omega
  simp [countCycles, Nat.ne_of_gt hn, hbad]

theorem countCycles_missing {c : Clocks} {n : Nat} (hn : 0 < n) :
    countCycles c (n, none) = { c with refinBad := c.refinBad + n, refinGood := 0 } := by
  simp [countCycles, Nat.ne_of_gt hn]

theorem countCycles_refinPresent (c : Clocks) (run : Nat × Option Nat) : (countCycles c run).refinPresent = c.refinPresent := by
  unfold countCycles
  split
  · rfl
  · split <;> rfl

theorem measureCycles_refinPresent (cycles : List (Nat × Option Nat)) (c : Clocks) :
    (measureCycles cycles c).refinPresent = c.refinPresent :=
  List.foldlRecOn cycles countCycles (motive := fun d : Clocks => d.refinPresent = c.refinPresent) rfl
    fun d h run _ => (countCycles_refinPresent d run).trans h

theorem measureRefin_of_ready {n : Nat} {p : Piece} (h : p.boot.phase = .ready) : measureRefin n p = p := by
  simp [measureRefin, h]

theorem leaveWaitRef_of_ready {p : Piece} (h : p.boot.phase = .ready) : leaveWaitRef p = p :=
  when_neg (by simp [h])

theorem execRefinPresent_next {cycles : List (Nat × Option Nat)} {p t : Piece} {q : List Instr} (hreleased : p.boot.released = true)
    (hready : p.boot.phase = .ready)
    (h : when (!(measureCycles cycles p.clocks).refinPresent && decide (1024 ≤ (measureCycles cycles p.clocks).refinGood))
      (fun p => leaveWaitRef (trackFreq (onClocks fun c => { c with refinPresent := true }) p))
      { p with clocks := measureCycles cycles p.clocks } = t) :
    exec (.refinPresent cycles) ⟨p, q⟩ = .next ⟨t, q⟩ := by
  refine effect_of_eq (g := execRefinPresent cycles) rfl ((when_pos hreleased).trans ?_)
  have hkeep : (if p.clocks.refinPresent then p else ((lastPeriod cycles).map fun t => measureRefin t p).getD p) = p := by
    cases lastPeriod cycles <;> simp [measureRefin_of_ready hready]
  dsimp only
  rw [hkeep]
  exact h

theorem refinLossAndPresence : Claim.RefinLossAndPresence := by
  refine ⟨fun c n per hn => ⟨countCycles_good hn, countCycles_bad hn, countCycles_missing hn⟩, ?_⟩
  rintro p q cycles c rfl
  refine ⟨fun p1 hpresent hretry hp1 => ⟨fun hbad => ?lost, fun hfew => ?kept⟩,
    fun hreleased habsent hready => ⟨fun hgood => ?present, fun hfew => ?absent⟩⟩
  case lost =>
    show execRefLoss ⟨p, q⟩ cycles = _
    unfold execRefLoss
    refine effect_next ((when_pos ?_).trans ?_)
    · simp [onClocks, hpresent, hbad]
    · have hboot : onBoot (fun b => { b with retryAt := none }) (onClocks (measureCycles cycles) p) =
          { p with clocks := measureCycles cycles p.clocks } := by
        simp [onBoot, onClocks, ← hretry]
      dsimp only
      rw [hboot, hp1]
      rfl
  case kept =>
    show execRefLoss ⟨p, q⟩ cycles = _
    unfold execRefLoss
    exact effect_next (when_neg (by simp [onClocks, Nat.not_le.mpr hfew]))
  case present =>
    refine execRefinPresent_next hreleased hready ((when_pos (by simp [habsent, hgood])).trans ?_)
    exact leaveWaitRef_of_ready (by simpa [onClocks] using hready)
  case absent =>
    exact execRefinPresent_next hreleased hready (when_neg (by simpa using fun _ => hfew))

/-! ### PPSIN -/

theorem badPulse_of_present {t : T16} {p : Piece} (h : p.clocks.ppsPresent = true) :
    badPulse t p = { p with clocks := { p.clocks with ppsBad := p.clocks.ppsBad + 1, ppsGood := 0 } } := by
  simp [badPulse, onClocks, h]

theorem badPulse_of_absent {t : T16} {p : Piece} (h : p.clocks.ppsPresent = false) :
    badPulse t p = { p with clocks := { p.clocks with
      ppsBad := p.clocks.ppsBad + 1, ppsGood := 0, ppsAnchor := some t, ppsAnchorRate := rateIntegral p.ledger t, ppsWindows := 0 } } := by
  simp [badPulse, onClocks, h]

/-- A good pulse that is no time source, is waited for by no step and has no stamp input is the new anchor and nothing else. -/
theorem goodPulse_alone {t : T16} {p : Piece} (hsource : p.ledger.source = .none) (hwait : p.ledger.epochWait = none)
    (haux : (nth p.fabric.aux 5).en = false) :
    goodPulse t p = { p with clocks := { p.clocks with
      ppsAnchor := some t, ppsAnchorRate := rateIntegral p.ledger t, ppsWindows := 0, ppsGood := p.clocks.ppsGood + 1, ppsBad := 0 } } := by
  simp [goodPulse, onClocks, haux, hwait, ppsMeasure, hsource]

theorem execPpsinPulse_anchored {fr : Fin 65536} {p t : Piece} {q : List Instr} {a : T16} {n : Nat} {within : Bool}
    (hlocked : p.clocks.synth = .locked) (hanchor : p.clocks.ppsAnchor = some a)
    (hverdict : ppsVerdict p a (T16.ofTick p.clocks.mint + fr.val - Config.rootDelay 21) = (n, within))
    (h : (if within && decide (p.clocks.ppsWindows < n) then
        goodPulse (T16.ofTick p.clocks.mint + fr.val - Config.rootDelay 21) p
      else badPulse (T16.ofTick p.clocks.mint + fr.val - Config.rootDelay 21) p) = t) :
    exec (.ppsinPulse fr) ⟨p, q⟩ = .next ⟨t, q⟩ := by
  refine effect_of_eq (g := execPpsinPulse fr) rfl ((when_pos (by simp [hlocked])).trans ?_)
  rw [hanchor]
  dsimp only [Piece.now]
  rw [hverdict]
  exact h

theorem pulsesAreJudgedByTheirWindow : Claim.PulsesAreJudgedByTheirWindow := by
  rintro p q fr t rfl
  refine ⟨fun h => effect_of_eq (g := execPpsinPulse fr) rfl (when_neg (by simpa using h)), fun hlocked hanchor habsent => ?_,
    fun a n within hlocked hanchor hverdict => ⟨fun hwithin hopen hsource hwait haux => ?_, fun hbad hpresent => ?_,
      fun hbad habsent => ?_⟩⟩
  · refine effect_of_eq (g := execPpsinPulse fr) rfl ((when_pos (by simp [hlocked])).trans ?_)
    rw [hanchor]
    exact badPulse_of_absent habsent
  · exact execPpsinPulse_anchored hlocked hanchor hverdict
      ((if_pos (by simp [hwithin, hopen])).trans (goodPulse_alone hsource hwait haux))
  · exact execPpsinPulse_anchored hlocked hanchor hverdict
      ((if_neg (by obtain h | h := hbad <;> simp [h])).trans (badPulse_of_present hpresent))
  · exact execPpsinPulse_anchored hlocked hanchor hverdict
      ((if_neg (by obtain h | h := hbad <;> simp [h])).trans (badPulse_of_absent habsent))

theorem ppsinLossAndPresence : Claim.PpsinLossAndPresence := by
  intro p q
  refine ⟨fun a d sec hanchor hsince hlocked hpast => ?_, fun hpresent hbad hwait => ?_,
    fun habsent hgood => effect_next (when_pos (by simp [habsent, hgood])),
    fun hpresent hfew => effect_of_eq (g := execPpsLoss) rfl (when_neg (by simpa using fun _ => hfew)),
    fun habsent hfew => effect_next (when_neg (by simpa using fun _ => hfew))⟩
  · refine effect_of_eq (g := execPpsWindowClose) rfl ?_
    rw [hanchor]
    dsimp only [Piece.now]
    rw [hsince]
    exact when_pos (by simpa [hlocked] using hpast)
  · refine effect_of_eq (g := execPpsLoss) rfl ((when_pos (by simp [hpresent, hbad])).trans ?_)
    simp [onClocks, hwait, sat32]

/-! ### Lock, unlock and relock -/

theorem leaveSynth_of_ready {p : Piece} (h : p.boot.phase = .ready) : leaveSynth p = p :=
  when_neg (by simp [h])

theorem lockDeclarationStartsTheMint : Claim.LockDeclarationStartsTheMint := by
  intro p q p1 hwait hselect hready hp1
  have hlock : trackFreq declareLock p = p1 := by
    rw [hp1]
    refine trackFreq_congr ?_
    unfold declareLock
    dsimp only [onClocks]
    rw [hselect]
  have hphase : p1.boot.phase = .ready := by
    rw [hp1, trackFreq_boot]
    simpa using hready
  refine ⟨_, effect_of_eq (g := execSynthLockDeclare) rfl ((when_pos (by simp [hwait])).trans (b := _) (c := lookAtTargets (startConverters p1)) ?_), ?_⟩
  · rw [hlock]
    exact leaveSynth_of_ready hphase
  · exact ⟨rfl, rfl, rfl⟩

theorem windowGood_iff (n : Nat) : windowGood n = true ↔ 2558 ≤ n ∧ n ≤ 2562 := by
  simp [windowGood]

theorem unlockIsDeclaredOutsideTolerance : Claim.UnlockIsDeclaredOutsideTolerance := by
  intro p q n
  refine ⟨fun h => effect_of_eq (g := execSynthUnlock n) rfl (when_neg ?_), fun p1 hlocked hpresent hout hp1 => ?_⟩
  · obtain h | h | h := h
    · simp [h]
    · simp [h]
    · simp [(windowGood_iff n).mpr h]
  · have hledger : p1.ledger = p.ledger := by
      rw [hp1]
      simp [failConverters, onClocks]
    have hexec : ∀ {t}, (match p1.ledger.state with
        | .locked | .slewing | .jumpPending | .coast => enterCoast (onLedger (fun l => { l with sourcePresent := false }) p1)
        | _ => p1) = t → exec (.synthUnlock n) ⟨p, q⟩ = .next ⟨t, q⟩ := fun h => by
      have hbad : windowGood n = false := by
        rw [Bool.eq_false_iff, ne_eq, windowGood_iff]
        omega
      refine effect_of_eq (g := execSynthUnlock n) rfl ((when_pos (by simp [hlocked, hpresent, hbad])).trans ?_)
      subst hp1
      exact h
    refine ⟨hledger, fun hstate => hexec ?_, fun hset hfree => hexec ?_⟩
    · rw [hledger]
      obtain h | h := hstate <;> rw [h]
    · rw [← hledger] at hset hfree
      cases h : p1.ledger.state with
      | unset => exact absurd h hset
      | free => exact absurd h hfree
      | _ => rfl

theorem relockNeedsRefin : Claim.RelockNeedsRefin := by
  refine ⟨fun n k w hk => ?_, ?_⟩
  · simp [countWindows, Nat.ne_of_gt hk, windowGood_iff]
  · rintro p q windows n p1 rfl hp1
    have hexec : ∀ {t}, p.clocks.synth = .failed → p.clocks.refinPresent = true →
        when (decide (1024 ≤ countWindows windows p.clocks.relockWindows))
          (fun p => leaveSynth (startConverters (trackFreq (onClocks fun c => { c with synth := .locked }) p))) p1 = t →
        exec (.synthRelock windows) ⟨p, q⟩ = .next ⟨t, q⟩ := fun hfailed hpresent h => by
      show execSynthRelock ⟨p, q⟩ windows = _
      unfold execSynthRelock
      refine effect_next ((when_pos (by simp [hfailed, hpresent])).trans ?_)
      rw [hp1] at h
      exact h
    refine ⟨fun hfailed hpresent hall hready => hexec hfailed hpresent ((when_pos (by simpa using hall)).trans ?_),
      fun hfailed hpresent hfew => hexec hfailed hpresent (when_neg (by simpa using hfew)), fun habsent => ?_⟩
    · refine leaveSynth_of_ready ?_
      show (trackFreq _ p1).boot.phase = .ready
      rw [trackFreq_boot, hp1]
      exact hready
    · show execSynthRelock ⟨p, q⟩ windows = _
      unfold execSynthRelock
      exact effect_next (when_neg (by simp [habsent]))

/-- Settles O21: the references, and the lock of the synthesizer. -/
theorem referenceAndLock : Obligations.ReferenceAndLock :=
  ⟨refinLossAndPresence, pulsesAreJudgedByTheirWindow, ppsinLossAndPresence, lockDeclarationStartsTheMint,
    unlockIsDeclaredOutsideTolerance, relockNeedsRefin⟩

end Sys2Proof.Machine

/-! The states of the Ledger: holdover, coast, capture, mismatch and tap phase (R23, R56, R59 to R64). -/

namespace Sys2Proof.Machine

/-! ### Holdover -/

theorem holdoverIsEvaluatedOnTheGrid : Claim.HoldoverIsEvaluatedOnTheGrid := by
  intro p q
  refine ⟨fun h => effect_of_eq (g := execHoldoverEval) rfl (when_neg ?_), fun p1 u hrun hgrid hset hp1 hu => ?_⟩
  · obtain h | h := h <;> simp [ticksPerMs, h]
  · have hdue : (p.clocks.mintRun && p.now % ticksPerMs == 0 && p.ledger.state != .unset) = true := by
      simp [hrun, ticksPerMs, hgrid, hset]
    have hgrow : growEstimates p = p1 := hp1.symm
    have hlimit : p1.ledger.limitReached = p.ledger.limitReached := by rw [hp1]
    refine ⟨fun hbelow => effect_of_eq (g := execHoldoverEval) rfl ((when_pos hdue).trans ?_),
      fun hreach => effect_of_eq (g := execHoldoverEval) rfl ((when_pos hdue).trans ?_)⟩
    · dsimp only
      rw [hgrow, ← hu, decide_eq_false (not_le.mpr hbelow)]
      rfl
    · dsimp only
      rw [hgrow, ← hu, decide_eq_true hreach, hlimit]
      rfl

/-! ### State changes -/

@[simp] theorem setLedgerState_state (new : LedgerState) (d : Int) (p : Piece) : (setLedgerState new d p).ledger.state = new := by
  unfold setLedgerState
  dsimp only
  cases p.ledger.state != new <;> simp

@[simp] theorem setLedgerState_slew (new : LedgerState) (d : Int) (p : Piece) :
    (setLedgerState new d p).ledger.slew = p.ledger.slew := by
  unfold setLedgerState
  dsimp only
  cases p.ledger.state != new <;> simp

@[simp] theorem setLedgerState_current (new : LedgerState) (d : Int) (p : Piece) :
    (setLedgerState new d p).ledger.current = p.ledger.current := by
  unfold setLedgerState
  dsimp only
  cases p.ledger.state != new <;> simp

@[simp] theorem setLedgerState_refJump (new : LedgerState) (d : Int) (p : Piece) :
    (setLedgerState new d p).ledger.refJump = p.ledger.refJump := by
  unfold setLedgerState
  dsimp only
  cases p.ledger.state != new <;> simp

/-- A coast keeps its start. -/
@[simp] theorem setLedgerState_coast_coastStart (d : Int) (p : Piece) :
    (setLedgerState .coast d p).ledger.coastStart = p.ledger.coastStart := by
  unfold setLedgerState
  dsimp only
  cases p.ledger.state != .coast <;> simp

theorem execTimeSourceLost_next {p t : Piece} {q : List Instr} (hpresent : p.ledger.sourcePresent = true)
    (hgone : sourceIsPresent p = false)
    (h : (match p.ledger.state with
      | .unset | .free => { p with ledger := { p.ledger with sourcePresent := false, lost := true } }
      | _ => enterCoast { p with ledger := { p.ledger with sourcePresent := false, lost := true } }) = t) :
    exec .timeSourceLost ⟨p, q⟩ = .next ⟨t, q⟩ :=
  effect_of_eq (g := execTimeSourceLost) rfl ((when_pos (by simp [hpresent, hgone])).trans h)

theorem enterCoast_of_tracking {p : Piece} (h : p.ledger.state = .locked ∨ p.ledger.state = .slewing) :
    enterCoast p = setLedgerState .coast 0 (startCoast p) := by
  obtain h | h := h <;> simp [enterCoast, coasting, h]

theorem enterCoast_of_jumpPending {p : Piece} (h : p.ledger.state = .jumpPending) : enterCoast p = setLedgerState .coast 0 p := by
  simp [enterCoast, coasting, h]

theorem sourceLossCoasts : Claim.SourceLossCoasts := by
  rintro p q p1 hpresent hgone rfl
  refine ⟨fun h => execTimeSourceLost_next hpresent hgone ?_, fun h => ?_, fun h => ?_⟩
  · obtain h | h := h <;> rw [h]
  · refine ⟨setLedgerState .coast 0 (startCoast { p with ledger := { p.ledger with sourcePresent := false, lost := true } }),
      execTimeSourceLost_next hpresent hgone ?_, ?_⟩
    · rw [← enterCoast_of_tracking (by exact h)]
      obtain h | h := h <;> rw [h]
    · simp [startCoast]
  · refine ⟨setLedgerState .coast 0 { p with ledger := { p.ledger with sourcePresent := false, lost := true } },
      execTimeSourceLost_next hpresent hgone ?_, ?_⟩
    · rw [← enterCoast_of_jumpPending (by exact h), h]
    · simp

/-! ### The return of the time source -/

theorem execTimeSourcePresent_coast {p t : Piece} {q : List Instr} (hpresent : sourceIsPresent p = true)
    (hnew : p.ledger.sourcePresent = false) (hlocked : p.clocks.synth = .locked) (hcoast : p.ledger.state = .coast)
    (h : returnSource (sourceDelta p) { p with ledger := { p.ledger with
      sourcePresent := true, lost := false, refInvalid := p.ledger.refInvalid && !p.ledger.lost } } = t) :
    exec (.timeSourcePresent p.ledger.source) ⟨p, q⟩ = .next ⟨t, q⟩ := by
  refine effect_of_eq (g := execTimeSourcePresent p.ledger.source) rfl ((when_pos (by simp [hpresent, hnew, hlocked])).trans ?_)
  dsimp only [onLedger]
  split
  next => exact h
  next hunset => exact absurd (hcoast.symm.trans hunset) nofun
  next hother _ => exact absurd hcoast hother

theorem withinCapture_iff (c : Nat) (d : Int) : withinCapture c d = true ↔ 0 < c ∧ d.natAbs * 10 ^ 12 ≤ c * 2 ^ 48 := by
  simp [withinCapture]

theorem sourceReturnIsJudgedByCapture : Claim.SourceReturnIsJudgedByCapture := by
  intro p q delta p1 hpresent hnew hcoast hdelta hp1
  subst hdelta
  have hvalid : p.ledger.refInvalid = false → ¬ p1.ledger.refInvalid = true := fun h => by simp [hp1, h]
  have hcapture : p1.ledger.capture = p.ledger.capture := by rw [hp1]
  refine ⟨fun hunlocked => effect_of_eq (g := execTimeSourcePresent _) rfl (when_neg (by simp [hunlocked])),
    fun source hother => effect_of_eq (g := execTimeSourcePresent _) rfl (when_neg (by simp [hother])),
    fun hlocked hinvalid hlost => execTimeSourcePresent_coast hpresent hnew hlocked hcoast (hp1 ▸ if_pos ?_),
    fun hlocked hinvalid hfar => execTimeSourcePresent_coast hpresent hnew hlocked hcoast (hp1 ▸ (if_neg (hvalid hinvalid)).trans (if_neg ?_)),
    fun hlocked hinvalid hpos hnear =>
      execTimeSourcePresent_coast hpresent hnew hlocked hcoast (hp1 ▸ (if_neg (hvalid hinvalid)).trans (if_pos ?_))⟩
  · simp [hp1, hinvalid, hlost]
  · rw [hcapture, withinCapture_iff]
    omega
  · rw [hcapture, withinCapture_iff]
    exact ⟨hpos, hnear⟩

/-! ### Checks of the Ledger -/

theorem mismatchAndTapPhaseEndTimeValid : Claim.MismatchAndTapPhaseEndTimeValid := by
  intro p q i
  refine ⟨rfl, rfl, ?_, ?_⟩
  · simp [timeValid]
  · simp [timeValid, Piece.now]

/-- Settles O23: holdover, coast, capture, mismatch and tap phase. -/
theorem ledgerStates : Obligations.LedgerStates :=
  ⟨holdoverIsEvaluatedOnTheGrid, sourceLossCoasts, sourceReturnIsJudgedByCapture, mismatchAndTapPhaseEndTimeValid⟩

end Sys2Proof.Machine

/-! PPSOUT, clock outputs and time codes (R49 to R52, R65 to R67, R501, R506). -/

namespace Sys2Proof.Machine

/-! ### PPSOUT -/

@[simp] theorem timecodeStart_ppsout (k : Int) (p : Piece) : (timecodeStart k p).clocks.ppsout = p.clocks.ppsout := by
  unfold timecodeStart
  dsimp only
  exact when_same (·.clocks.ppsout) _ _ _ rfl

theorem execLedgerSecondBoundary_next {p : Piece} (q : List Instr) {k : Int} (hsecond : boundarySecond p = some k)
    (hrun : p.clocks.mintRun = true) (hset : p.ledger.state ≠ .unset) :
    exec .ledgerSecondBoundary ⟨p, q⟩ = .next ⟨timecodeStart (k % 2 ^ 32) (ppsoutRise k p), q⟩ := by
  refine effect_of_eq (g := execLedgerSecondBoundary) rfl ?_
  rw [hsecond]
  exact when_pos (by simp [hset, hrun])

/-- The label second that begins at a boundary lies at or after the tick's own label. -/
theorem boundarySecond_ge {p : Piece} {k : Int} (h : boundarySecond p = some k) :
    p.ledger.current.exact (T16.ofTick p.clocks.mint) ≤ k * secondUnits := by
  unfold boundarySecond at h
  dsimp only at h
  split at h
  next hlt =>
    obtain rfl := Option.some.inj h
    have hpos : (0 : Int) < secondUnits := by decide
    have hstep := Int.lt_ediv_add_one_mul_self (p.ledger.current.exact (T16.ofTick p.now) - 1) hpos
    have hnow : p.now = p.clocks.mint := rfl
    have hmul := Int.mul_le_mul_of_nonneg_right (Int.add_one_le_of_lt hlt) hpos.le
    rw [hnow] at hstep hmul ⊢
    omega
  · cases h

/-- Rounding to the nearest: half a step on either side. -/
theorem roundDiv_nearest (a : Int) {b : Nat} (hb : 0 < b) :
    2 * (roundDiv a b * b - a) ≤ b ∧ -(b : Int) < 2 * (roundDiv a b * b - a) := by
  have hpos : (0 : Int) < ((2 * b : Nat) : Int) := by omega
  have hlow := Int.ediv_mul_le (2 * a + b) hpos.ne'
  have hhigh := Int.lt_ediv_add_one_mul_self (2 * a + b) hpos
  rw [← roundDiv] at hlow hhigh
  push_cast at hlow hhigh
  constructor <;> linarith

theorem roundDiv_nonneg {a : Int} (b : Nat) (h : 0 ≤ a) : 0 ≤ roundDiv a b :=
  Int.ediv_nonneg (by omega) (by omega)

/-- The fine delay is the nearest step of the rest of the way to the boundary (R51). -/
theorem fineDelay_nearest {p : Piece} {k step : Int} (hsecond : boundarySecond p = some k)
    (hstep : step = 6100 * 65536 * (2 ^ 64 + p.ledger.current.rho + p.ledger.current.sigma)) (hpos : 0 < step) :
    2 * ((fineDelay k p : Int) * step - (k * secondUnits - p.ledger.current.exact (T16.ofTick p.clocks.mint)) * 390625) ≤ step ∧
      -step < 2 * ((fineDelay k p : Int) * step -
        (k * secondUnits - p.ledger.current.exact (T16.ofTick p.clocks.mint)) * 390625) := by
  have hrest := boundarySecond_ge hsecond
  obtain ⟨n, hn⟩ := Int.eq_ofNat_of_zero_le
    (show 0 ≤ 2 ^ 64 + p.ledger.current.rho + p.ledger.current.sigma by omega)
  have hrest' : 0 ≤ (k * secondUnits - p.ledger.current.exact (T16.ofTick p.clocks.mint)) * 390625 := by omega
  have hfine : (fineDelay k p : Int) =
      roundDiv ((k * secondUnits - p.ledger.current.exact (T16.ofTick p.clocks.mint)) * 390625) (6100 * 65536 * n) := by
    show ((roundDiv _ (6100 * 65536 * (2 ^ 64 + p.ledger.current.rho + p.ledger.current.sigma).toNat)).toNat : Int) = _
    rw [hn, Int.toNat_natCast]
    exact Int.toNat_of_nonneg (roundDiv_nonneg _ hrest')
  have hcast : step = ((6100 * 65536 * n : Nat) : Int) := by
    rw [hstep, hn]
    push_cast
    rfl
  rw [hfine, hcast]
  exact roundDiv_nearest _ (by omega)

theorem ppsoutPulsesAtSecondBoundaries : Claim.PpsoutPulsesAtSecondBoundaries := by
  rintro p q k o hsecond hrun rfl
  refine ⟨fun hunset => ?unset, fun hset hen hfree => ?rises, fun m hset hen hlast hnear => ?near, fun hset hoff => ?off,
    fun m hlevel hlast hdue => ?falls, fun step hstep hpos => fineDelay_nearest hsecond hstep hpos⟩
  case unset =>
    refine effect_of_eq (g := execLedgerSecondBoundary) rfl ?_
    rw [hsecond]
    exact when_neg (by simp [hunset])
  case rises =>
    refine ⟨_, execLedgerSecondBoundary_next q hsecond hrun hset, ?_⟩
    rw [timecodeStart_ppsout]
    cases hlast : p.clocks.ppsout.lastRise with
    | none => simp [ppsoutRise, hen, hlast, onClocks]
    | some m =>
      have hfar : ¬ p.clocks.mint < m + p.clocks.ppsout.widthUs * ticksPerUs := Nat.not_lt.mpr (hfree m hlast)
      simp [ppsoutRise, hen, hlast, onClocks, hfar]
  case near =>
    refine ⟨_, execLedgerSecondBoundary_next q hsecond hrun hset, ?_⟩
    have hclose : p.clocks.mint < m + p.clocks.ppsout.widthUs * ticksPerUs := hnear
    rw [timecodeStart_ppsout]
    simp [ppsoutRise, hen, hlast, onClocks, hclose]
  case off =>
    refine ⟨_, execLedgerSecondBoundary_next q hsecond hrun hset, ?_⟩
    rw [timecodeStart_ppsout]
    simp [ppsoutRise, hoff]
  case falls =>
    refine effect_of_eq (g := execPpsoutPulseEnd) rfl ?_
    dsimp only
    rw [hlast]
    refine when_pos ?_
    rw [hlevel, Bool.true_and]
    exact decide_eq_true hdue

/-! ### Clock outputs -/

theorem when_finishWaiting_clocks (b : Bool) (k : WaitKind) (i st : Nat) (g : List Nat → List Nat) (p : Piece) :
    (when b (finishWaiting k i st g) p).clocks = p.clocks :=
  when_same (·.clocks) _ _ _ (by simp)

theorem clkSettle_of_none {c : Clkout} (m : Nat) (h : c.next = none) : clkSettle m c = c := by
  simp [clkSettle, h]

theorem clkArrive_of_idle {s : ClkSetting} {m : Nat} {c : Clkout} (h : clkRuns c m = false) :
    clkArrive s m c = clkArm s m { c with pending := none } :=
  if_pos (show (!clkRuns c m) = true by simp [h])

theorem clkArrive_of_disable {s : ClkSetting} {m : Nat} {c : Clkout} (hruns : clkRuns c m = true) (hnext : c.next = none)
    (hoff : s.en = false) (hcopy : c.setting.refCopy = false) : (clkArrive s m c).stopsAt = some (stopTick c.setting m) := by
  have hstop : clkArrive s m c = clkStop s m { c with pending := none } := by
    refine (if_neg (show ¬ (!clkRuns c m) = true by simp [hruns])).trans ((if_neg ?_).trans (if_neg ?_))
    · simp [hnext]
    · simp [hoff]
  rw [hstop]
  simp [clkStop, hcopy]

/-- The rising edge of a setting after a tick. -/
theorem nextRising_spec {s : ClkSetting} (m : Nat) (hphase : s.phase < s.divider) :
    m < nextRising s m ∧ nextRising s m ≤ m + s.divider ∧ nextRising s m % s.divider = s.phase := by
  have hlt : (m + s.divider - s.phase) % s.divider < s.divider := Nat.mod_lt _ (by omega)
  have hdiv := Nat.div_add_mod (m + s.divider - s.phase) s.divider
  rw [nextRising, Nat.mod_eq_of_lt hphase]
  refine ⟨by omega, by omega, ?_⟩
  have hedge : m + s.divider - (m + s.divider - s.phase) % s.divider =
      s.phase + s.divider * ((m + s.divider - s.phase) / s.divider) := by omega
  rw [hedge, Nat.add_mul_mod_self_left, Nat.mod_eq_of_lt hphase]

/-- The place of a tick in the period of a setting, `d` ticks on. -/
theorem clkPosition_add {s : ClkSetting} {m d : Nat} (hphase : s.phase < s.divider) :
    (m + d + s.divider - s.phase % s.divider) % s.divider =
      ((m + s.divider - s.phase % s.divider) % s.divider + d) % s.divider := by
  rw [Nat.mod_eq_of_lt hphase, Nat.mod_add_mod]
  congr 1
  omega

theorem clkLevel_running {c : Clkout} {m x : Nat} (hruns : clkRuns c m = true) (hx : m ≤ x) (hcopy : c.setting.refCopy = false) :
    clkLevel { c with stopsAt := none } x =
      decide ((x + c.setting.divider - c.setting.phase % c.setting.divider) % c.setting.divider < c.setting.divider / 2) := by
  have hstill : clkRuns { c with stopsAt := none } x = true := by
    cases hs : c.startsAt with
    | none => simp [clkRuns, hs] at hruns
    | some a =>
      have : a ≤ m := by
        simp only [clkRuns, hs, Bool.and_eq_true, decide_eq_true_eq] at hruns
        exact hruns.1
      simp only [clkRuns, Bool.and_true, decide_eq_true_eq]
      omega
  simp [clkLevel, hstill, hcopy]

/-- A stop lets the high phase finish and begins no other. -/
theorem stopTick_spec {c : Clkout} {m : Nat} (hruns : clkRuns c m = true) (hcopy : c.setting.refCopy = false)
    (hdiv : 0 < c.setting.divider) (hphase : c.setting.phase < c.setting.divider) :
    m ≤ stopTick c.setting m ∧ (∀ x, m ≤ x → x < stopTick c.setting m → clkLevel { c with stopsAt := none } x = true) ∧
      clkLevel { c with stopsAt := none } (stopTick c.setting m) = false := by
  have hlt : (m + c.setting.divider - c.setting.phase % c.setting.divider) % c.setting.divider < c.setting.divider :=
    Nat.mod_lt _ hdiv
  rw [stopTick]
  split
  next hhigh =>
    refine ⟨by omega, fun x hmx hxe => ?_, ?_⟩
    · obtain ⟨d, rfl⟩ := Nat.exists_eq_add_of_le hmx
      rw [clkLevel_running hruns hmx hcopy, clkPosition_add hphase, Nat.mod_eq_of_lt (by omega)]
      exact decide_eq_true (by omega)
    · rw [clkLevel_running hruns (by omega) hcopy, Nat.add_sub_assoc hhigh.le, clkPosition_add hphase, Nat.mod_eq_of_lt (by omega)]
      exact decide_eq_false (by omega)
  next hlow =>
    refine ⟨le_rfl, fun x hmx hxe => absurd hxe (Nat.not_lt.mpr hmx), ?_⟩
    rw [clkLevel_running hruns le_rfl hcopy]
    exact decide_eq_false hlow

theorem clockOutputNeverEmitsARunt : Claim.ClockOutputNeverEmitsARunt := by
  rintro p q k s c m rfl hk hc hpending hnext hplain hcopy
  have hnth : nth p.clocks.clkouts k = c := by simp [nth, hc]
  refine ⟨?arrives, fun hidle hen hdiv hphase => ?_, fun hidle hoff => ?_, fun hruns hoff hdiv hphase => ?_⟩
  case arrives =>
    refine ⟨_, rfl, ?_⟩
    dsimp only
    rw [if_pos hk, hnth, hpending]
    dsimp only
    rw [when_finishWaiting_clocks]
    refine List.ext_getElem? fun i => ?_
    simp only [onClocks, upd, List.getElem?_modify]
    by_cases hi : k.val = i
    · subst hi
      simp [hc, clkSettle_of_none _ hnext, Piece.now]
    · simp [hi]
  · obtain ⟨hafter, hwithin, hmod⟩ := nextRising_spec p.clocks.mint hphase
    refine ⟨nextRising s p.clocks.mint, ?_, hafter, hwithin, hmod⟩
    rw [clkArrive_of_idle hidle]
    simp [clkArm, hen, hplain]
  · rw [clkArrive_of_idle hidle]
    simp [clkArm, hoff]
  · exact ⟨_, clkArrive_of_disable hruns hnext hoff hcopy, stopTick_spec hruns hcopy hdiv hphase⟩

theorem ppsoutSettingArrives : Claim.PpsoutSettingArrives := by
  rintro p q en w o rfl hpending
  refine ⟨_, rfl, ?_⟩
  dsimp only
  rw [if_neg (by decide), hpending]
  dsimp only
  rw [when_finishWaiting_clocks]
  exact ⟨rfl, rfl⟩

/-! ### Time codes -/

theorem irigHasYear_of_low {n : Nat} (h : n < 4) : irigHasYear n = false := by
  simp [irigHasYear, h]

/-- The body of a TIMECODE record (R67). -/
def timecodeBody (x : Nat) : Bytes :=
  leBytes 2 (irigValue x irigDay) ++ leBytes 1 (irigValue x irigHours) ++ leBytes 1 (irigValue x irigMinutes) ++
    leBytes 1 (irigValue x irigSeconds) ++ leBytes 1 (Config.irigFormat x).val ++
    leBytes 2 (if irigHasYear (Config.irigFormat x).val then irigValue x irigYear else 0xFFFF) ++
    leBytes 4 (if irigHasSbs (Config.irigFormat x).val then irigNumber x irigSbs else 0xFFFFFFFF) ++
    leBytes 4 (if irigHasControl (Config.irigFormat x).val then irigControlOf (Config.irigFormat x).val x else 0)

theorem timecodeBody_fields (x : Nat) :
    u (timecodeBody x) 0 2 = irigValue x irigDay % 65536 ∧ u (timecodeBody x) 4 1 = irigValue x irigSeconds % 256 ∧
      u (timecodeBody x) 5 1 = (Config.irigFormat x).val ∧
      ((Config.irigFormat x).val < 4 → u (timecodeBody x) 6 2 = 0xFFFF) := by
  have hformat : (Config.irigFormat x).val % 256 = (Config.irigFormat x).val := Nat.mod_eq_of_lt (by omega)
  refine ⟨?_, ?_, ?_, fun hlow => ?_⟩
  · simp [timecodeBody, List.append_assoc]
  · simp [timecodeBody, List.append_assoc, u_append_right]
  · simp [timecodeBody, List.append_assoc, u_append_right, hformat]
  · simp [timecodeBody, List.append_assoc, u_append_right, irigHasYear_of_low hlow]

theorem timecodeFramesAreRecordedOrCounted : Claim.TimecodeFramesAreRecordedOrCounted := by
  intro p q f
  refine ⟨fun hnone => ?counted, fun x n hx hn => ?recorded, fun m hm => ⟨fun hdue => ?lapsed, fun hearly => ?present⟩⟩
  case counted =>
    refine effect_of_eq (g := execTimecodeFrameIn f) rfl ?_
    rw [hnone]
    rfl
  case recorded =>
    subst hn
    refine ⟨_, { kind := 6, mint := (T16.tick f.marker).toNat, panelType := 2, label := _, inst := 0, body := timecodeBody x },
      effect_of_eq (g := execTimecodeFrameIn f) rfl (by rw [hx]), rfl, rfl, rfl, rfl, rfl, timecodeBody_fields x⟩
  case lapsed =>
    refine effect_of_eq (g := execTcodeInPresentLapse) rfl ?_
    rw [hm]
    exact when_pos (decide_eq_true hdue)
  case present =>
    refine effect_of_eq (g := execTcodeInPresentLapse) rfl ?_
    rw [hm]
    exact when_neg (decide_eq_false (Nat.not_le.mpr hearly))

/-! ### CLKOUT_SET and TIMECODE_SET -/

theorem clkoutSetAppliesItsRecords : Claim.ClkoutSetAppliesItsRecords := by
  rintro p q c f p1 rec_ ap h rfl rfl
  refine ⟨fun hnone => command_done q h (act := actClkoutSet) ?_, fun k hk hap hbad => command_done q h (act := actClkoutSet) ?_,
    fun k hk hap hok hpps => command_waits q h (act := actClkoutSet) ?_⟩
  · have hany : (List.range 5).any (fun k => bitAt (u (slice f.body (8 * k) 8) 0 1) 7) = false := by
      simpa [List.any_eq_false] using hnone
    simp [actClkoutSet, simple, hany, stZero]
  · have hany : (List.range 5).any (fun k => bitAt (u (slice f.body (8 * k) 8) 0 1) 7) = true :=
      List.any_eq_true.mpr ⟨k, by simpa using Nat.lt_of_lt_of_le hk (by decide), hap⟩
    have hout : (List.range 4).any (fun k => bitAt (u (slice f.body (8 * k) 8) 0 1) 7 && !clkRecordOk (slice f.body (8 * k) 8)) = true :=
      List.any_eq_true.mpr ⟨k, by simpa using hk, by simp [hap, hbad]⟩
    simp only [actClkoutSet, simple, hany, hout, Bool.not_true, guarded_cons_of_kept, guarded_cons_of_broken, stRange]
  · have hany : (List.range 5).any (fun k => bitAt (u (slice f.body (8 * k) 8) 0 1) 7) = true :=
      List.any_eq_true.mpr ⟨k, by simpa using hk, hap⟩
    have hin : (List.range 4).any (fun k => bitAt (u (slice f.body (8 * k) 8) 0 1) 7 && !clkRecordOk (slice f.body (8 * k) 8)) = false := by
      simp only [List.any_eq_false, List.mem_range]
      intro j hj
      cases hj' : bitAt (u (slice f.body (8 * j) 8) 0 1) 7
      · simp
      · simp [hok j hj hj']
    simp only [actClkoutSet, simple, hany, hin, Bool.not_true, guarded_cons_of_kept]
    cases h4 : bitAt (u (slice f.body (8 * 4) 8) 0 1) 7
    · simp only [Bool.false_and, guarded_cons_of_kept, guarded_nil, when_false, onClocks, Bool.false_eq_true, if_false]
    · obtain ⟨hlow, hzero, hmin, hmax⟩ := hpps h4
      have hgood : (u (slice f.body (8 * 4) 8) 0 1 % 64 != 0 || !isZero (slice (slice f.body (8 * 4) 8) 1 3) ||
          u (slice f.body (8 * 4) 8) 4 4 == 0 || decide (500000 < u (slice f.body (8 * 4) 8) 4 4)) = false := by
        simp only [Bool.or_eq_false_iff, bne_eq_false_iff_eq, Bool.not_eq_false', beq_eq_false_iff_ne, decide_eq_false_iff_not]
        exact ⟨⟨⟨hlow, hzero⟩, Nat.ne_of_gt hmin⟩, Nat.not_lt.mpr hmax⟩
      simp only [hgood, Bool.true_and, guarded_cons_of_kept, guarded_nil, when_true, onClocks, if_true]

theorem timecodeSetHoldsTheOffset : Claim.TimecodeSetHoldsTheOffset := by
  rintro p q c f p1 b h rfl
  refine ⟨fun hbad => command_done q h (act := actTimecodeSet) ?_,
    fun hflags hformat hzero hcontrol hzero' heff => command_done q h (act := actTimecodeSet) ?_⟩
  · obtain hbad | ⟨hset, hpast⟩ := hbad
    · simp [actTimecodeSet, simple, hbad, stRange]
    · simp [actTimecodeSet, simple, bne_iff_ne.mpr hset, hpast, stRange]
  · have heff' : (u f.body 16 4 != 0 && decide (u f.body 16 4 ≤ labelSeconds p1.label)) = false := by
      obtain h | h := heff
      · simp [h]
      · simp [Nat.not_le.mpr h]
    simp only [actTimecodeSet, simple, hflags, hzero, hzero', heff', decide_eq_false (Nat.not_lt.mpr hformat),
      decide_eq_false (Nat.not_le.mpr hcontrol), bne_self_eq_false, Bool.or_false, guarded_cons_of_kept, guarded_nil, onClocks, stOk]

/-! ### VCXO_TUNE -/

theorem tuneStep_iterate (code n : Nat) (c : Clocks) (h : c.tuneAcc < 2 ^ 20) :
    (Nat.iterate (tuneStep code) n c).tuneAcc = (c.tuneAcc + n * code) % 2 ^ 20 := by
  induction n generalizing c with
  | zero => simpa using (Nat.mod_eq_of_lt h).symm
  | succ n ih =>
    rw [Function.iterate_succ_apply, ih _ (Nat.mod_lt _ (by decide))]
    show ((c.tuneAcc + code) % 2 ^ 20 + n * code) % 2 ^ 20 = _
    rw [Nat.mod_add_mod, Nat.succ_mul]
    congr 1
    omega

theorem tuneStreamCarriesTheCode : Claim.TuneStreamCarriesTheCode := by
  intro code n c hcode hacc
  refine ⟨?_, Nat.mod_lt _ (by decide), tuneStep_iterate code n c hacc⟩
  simp only [tuneStep, decide_eq_true_eq]
  split <;> omega

/-- Settles O24: PPSOUT, the clock outputs, time codes and VCXO_TUNE. -/
theorem clockOutputs : Obligations.ClockOutputs :=
  ⟨ppsoutPulsesAtSecondBoundaries, clockOutputNeverEmitsARunt, timecodeFramesAreRecordedOrCounted, clkoutSetAppliesItsRecords,
    timecodeSetHoldsTheOffset, tuneStreamCarriesTheCode, ppsoutSettingArrives⟩

end Sys2Proof.Machine

/-! REF_SELECT, SYNTH_BAND_TABLE_LOAD and SYNTH_START (R37, R43 to R45, R59, R64, R498 to R500). -/

namespace Sys2Proof.Machine

/-! ### Rules of a command that hold or fail -/

theorem guarded_kept {b : Bool} {st : Nat} {rules : List (Bool × Nat)} {p : Piece} {k : Piece × Verdict} (h : b = false) :
    guarded ((b, st) :: rules) p k = guarded rules p k := by
  subst h
  rfl

theorem guarded_broken {b : Bool} {st : Nat} {rules : List (Bool × Nat)} {p : Piece} {k : Piece × Verdict} (h : b = true) :
    guarded ((b, st) :: rules) p k = (p, .done st []) := by
  subst h
  rfl

theorem withTable_ok {p : Piece} {a n : Nat} {host : Answer} {k : Bytes → Piece × Verdict} {t : Bytes}
    (h : pieceRead p a n host = .ok t) : withTable p a n host k = k t := by
  simp [withTable, h]

/-! ### REF_SELECT -/

theorem refSelectTakesEffect : Claim.RefSelectTakesEffect := by
  rintro p q c f p1 b h rfl h1 h2 h3 h4 h5 h6 h7 h8 h9 h10 h11 h12 h13
  have hguards : ∀ k, guarded [(u f.body 4 4 == 0 || u f.body 8 4 == 0 || u f.body 12 4 == 0, stZero),
      (decide (1 < u f.body 0 1) || decide (2 < u f.body 1 1) || (u f.body 0 1 == 1 && u f.body 1 1 != 2) ||
        decide (1 < u f.body 2 1) || decide (2 < u f.body 3 1) || decide (u f.body 4 4 < 10) || decide (100000000 < u f.body 4 4) ||
        decide (100000 < u f.body 8 4) || decide (1000000 < u f.body 12 4) || decide (1000000 < u f.body 16 4) ||
        u f.body 20 4 != 0, stRange),
      (p1.clocks.synth != .off && u f.body 1 1 != p1.clocks.refinFreq, stState)] p1 k =
      if p1.clocks.synth != .off && u f.body 1 1 != p1.clocks.refinFreq then (p1, .done stState []) else k := fun k => by
    refine (guarded_kept (by grind)).trans ((guarded_kept (by grind)).trans ?_)
    cases p1.clocks.synth != .off && u f.body 1 1 != p1.clocks.refinFreq <;> rfl
  refine ⟨fun hfree => ⟨fun hrun => command_done q h (act := actRefSelect) ?_, fun hstopped => command_waits q h (act := actRefSelect) ?_⟩,
    fun hruns hfreq => command_done q h (act := actRefSelect) ?_⟩
  · refine (hguards _).trans ((if_neg (by simpa [Decidable.or_iff_not_imp_left] using hfree)).trans (if_pos hrun))
  · refine (hguards _).trans ((if_neg (by simpa [Decidable.or_iff_not_imp_left] using hfree)).trans (if_neg (by simp [hstopped])))
  · exact (hguards _).trans (if_pos (by simp [hruns, hfreq]))

@[simp] theorem setLedgerState_clocks (new : LedgerState) (d : Int) (p : Piece) : (setLedgerState new d p).clocks = p.clocks := by
  unfold setLedgerState
  dsimp only
  cases p.ledger.state != new <;> simp

/-- A change of state says nothing of a coast but its start and the last one. -/
theorem setLedgerState_ledger (new : LedgerState) (d : Int) (p : Piece) : ∃ start last, (setLedgerState new d p).ledger =
    { p.ledger with state := new, coastStart := start, lastCoast := last } := by
  unfold setLedgerState
  dsimp only
  cases p.ledger.state != new
  · exact ⟨_, _, rfl⟩
  · exact ⟨_, _, rfl⟩

theorem enterCoast_ledger (p : Piece) : ∃ start last est, (enterCoast p).ledger =
    { p.ledger with state := .coast, coastStart := start, lastCoast := last, coastEstimate := est } := by
  unfold enterCoast
  obtain ⟨start, last, h⟩ := setLedgerState_ledger .coast 0 (if coasting p then p else startCoast p)
  rw [h]
  cases coasting p
  · exact ⟨_, _, _, rfl⟩
  · exact ⟨_, _, p.ledger.coastEstimate, rfl⟩

@[simp] theorem enterCoast_clocks (p : Piece) : (enterCoast p).clocks = p.clocks := by
  unfold enterCoast
  rw [setLedgerState_clocks]
  cases coasting p <;> rfl

/-- What REF_SELECT sets apart from the Ledger's state. -/
def refSelectSet (b : Bytes) (p : Piece) : Piece :=
  onLedger (fun l => { l with source := sourceOf (u b 3 1), loopTau := u b 8 4, slewMax := u b 12 4, capture := u b 16 4, refInvalid := false,
                              tuneCode := if u b 0 1 == 1 then l.tuneCode else 0x80000 })
    (onClocks (fun c => { c with vcxo := u b 0 1 == 1, refinFreq := u b 1 1, square := u b 2 1 == 1, ppsWindowNs := u b 4 4 }) p)

/-- The same, with a new source that has yet to be found present. -/
def refSelectNew (b : Bytes) (p : Piece) : Piece := onLedger (fun l => { l with sourcePresent := false }) (refSelectSet b p)

theorem applyRefSelect_same {b : Bytes} {p : Piece} (h : sourceOf (u b 3 1) = p.ledger.source) :
    applyRefSelect b p = refSelectSet b p :=
  if_pos (beq_iff_eq.mpr h)

/-- The Ledger's state after a change of source. -/
theorem applyRefSelect_new {b : Bytes} {p : Piece} (h : sourceOf (u b 3 1) ≠ p.ledger.source) :
    (p.ledger.state = .unset ∧ applyRefSelect b p = refSelectNew b p) ∨
    (p.ledger.state = .free ∧ sourceOf (u b 3 1) = .none ∧ applyRefSelect b p = refSelectSet b p) ∨
    (p.ledger.state ≠ .unset ∧ p.ledger.state ≠ .free ∧ sourceOf (u b 3 1) = .none ∧
      applyRefSelect b p = setLedgerState .free 0 (refSelectNew b p)) ∨
    (p.ledger.state ≠ .unset ∧ sourceOf (u b 3 1) ≠ .none ∧ applyRefSelect b p = enterCoast (refSelectNew b p)) := by
  have hbody : applyRefSelect b p = match (refSelectSet b p).ledger.state, sourceOf (u b 3 1) with
      | .unset, _ => refSelectNew b p
      | .free, .none => refSelectSet b p
      | .free, _ => enterCoast (refSelectNew b p)
      | _, .none => setLedgerState .free 0 (refSelectNew b p)
      | _, _ => enterCoast (refSelectNew b p) := if_neg (by simpa using h)
  rw [hbody, show (refSelectSet b p).ledger.state = p.ledger.state from rfl]
  cases p.ledger.state <;> cases sourceOf (u b 3 1) <;> simp

/-- Whatever becomes of the state, REF_SELECT sets its own fields. -/
theorem applyRefSelect_sets (b : Bytes) (p : Piece) : (applyRefSelect b p).clocks = (refSelectSet b p).clocks ∧
    ∃ st start last est present, (applyRefSelect b p).ledger = { (refSelectSet b p).ledger with
      state := st, coastStart := start, lastCoast := last, coastEstimate := est, sourcePresent := present } := by
  by_cases hsame : sourceOf (u b 3 1) = p.ledger.source
  · rw [applyRefSelect_same hsame]
    exact ⟨rfl, _, _, _, _, _, rfl⟩
  · obtain ⟨-, he⟩ | ⟨-, -, he⟩ | ⟨-, -, -, he⟩ | ⟨-, -, he⟩ := applyRefSelect_new hsame <;> rw [he]
    · exact ⟨rfl, _, _, _, _, _, rfl⟩
    · exact ⟨rfl, _, _, _, _, _, rfl⟩
    · obtain ⟨start, last, hl⟩ := setLedgerState_ledger .free 0 (refSelectNew b p)
      exact ⟨setLedgerState_clocks _ _ _, _, _, _, _, _, hl⟩
    · obtain ⟨start, last, est, hl⟩ := enterCoast_ledger (refSelectNew b p)
      exact ⟨enterCoast_clocks _, _, _, _, _, _, hl⟩

theorem enterCoast_coastStart {p : Piece} (h : p.ledger.state = .coast ∨ p.ledger.state = .jumpPending) :
    (enterCoast p).ledger.coastStart = p.ledger.coastStart := by
  have hcoasting : coasting p = true := by simpa [coasting] using h
  simp [enterCoast, hcoasting]

@[simp] theorem enterCoast_state (p : Piece) : (enterCoast p).ledger.state = .coast := setLedgerState_state _ _ _

theorem refSelectChangesTheSource : Claim.RefSelectChangesTheSource := by
  rintro b p t rfl
  obtain ⟨hclocks, st, start, last, est, present, hledger⟩ := applyRefSelect_sets b p
  refine ⟨by rw [hclocks]; rfl, by rw [hclocks]; rfl, by rw [hclocks]; rfl, by rw [hledger]; rfl, by rw [hledger]; rfl,
    by rw [hledger]; rfl, by rw [hledger]; rfl, by rw [hledger]; rfl, by rw [hledger]; rfl, by rw [hledger]; rfl,
    by rw [hclocks]; rfl, fun hsame => by rw [applyRefSelect_same hsame]; rfl, fun hunset => ?unset,
    fun hnew hnone hset => ?none, fun hnew hsome hset => ?coast⟩
  case unset =>
    by_cases hsame : sourceOf (u b 3 1) = p.ledger.source
    · rw [applyRefSelect_same hsame]
      exact hunset
    · obtain ⟨-, he⟩ | ⟨hfree, -⟩ | ⟨hset, -⟩ | ⟨hset, -⟩ := applyRefSelect_new hsame
      · rw [he]
        exact hunset
      · rw [hunset] at hfree
        cases hfree
      · exact absurd hunset hset
      · exact absurd hunset hset
  case none =>
    obtain ⟨hunset, -⟩ | ⟨hfree, -, he⟩ | ⟨-, -, -, he⟩ | ⟨-, hsome, -⟩ := applyRefSelect_new hnew
    · exact absurd hunset hset
    · rw [he]
      exact hfree
    · rw [he]
      exact setLedgerState_state _ _ _
    · exact absurd hnone hsome
  case coast =>
    obtain ⟨hunset, -⟩ | ⟨-, hnone, -⟩ | ⟨-, -, hnone, -⟩ | ⟨-, -, he⟩ := applyRefSelect_new hnew
    · exact absurd hunset hset
    · exact absurd hnone hsome
    · exact absurd hnone hsome
    · rw [he]
      exact ⟨enterCoast_state _, fun h => enterCoast_coastStart (p := refSelectNew b p) h⟩

/-! ### The band table and SYNTH_START -/

theorem bandTableLoadIsWholeOrNothing : Claim.BandTableLoadIsWholeOrNothing := by
  rintro p q c f p1 n t es h rfl hmin hmax hzero haddr hread rfl
  refine ⟨fun hall => command_done q h (act := actBandTable) ?_, fun ⟨e, he, hbad⟩ => command_done q h (act := actBandTable) ?_⟩
  · refine (guarded_kept (by grind)).trans ((guarded_kept (by grind)).trans ((withTable_ok hread).trans ?_))
    exact if_pos (List.all_eq_true.mpr hall)
  · refine (guarded_kept (by grind)).trans ((guarded_kept (by grind)).trans ((withTable_ok hread).trans ?_))
    refine if_neg fun hall => ?_
    rw [List.all_eq_true.mp hall e he] at hbad
    cases hbad

theorem synthStartSelectsABand : Claim.SynthStartSelectsABand := by
  rintro p q c f p1 w h rfl hzero hw
  refine ⟨fun i hoff hband => command_waits q h (act := actSynthStart) ?_,
    fun hoff hnone => command_done q h (act := actSynthStart) ?_, fun hon => command_done q h (act := actSynthStart) ?_⟩
  · refine (guarded_kept (by grind)).trans ((guarded_kept (by simp [hband])).trans ((guarded_kept (by simp [hoff])).trans ?_))
    simp [startSynth, hband, onClocks]
  · exact (guarded_kept (by grind)).trans (guarded_broken (by simp [hoff, hnone]))
  · exact (guarded_kept (by grind)).trans ((guarded_kept (by simp [hon])).trans (guarded_broken (by simp [hon])))

/-! ### The choice of a band -/

/-- The closer of a candidate and the best so far, which stays where both are as close. -/
def closer (dist : Nat → Nat) (best : Option Nat) (i : Nat) : Option Nat :=
  match best with
  | some j => if dist i < dist j then some i else some j
  | none => some i

/-- Among candidates in rising order the closest is kept, and of equally close ones the first. -/
theorem foldl_closer_some (dist : Nat → Nat) (l : List Nat) (j : Nat) (h : (j :: l).Pairwise (· < ·)) :
    ∃ k ∈ j :: l, l.foldl (closer dist) (some j) = some k ∧ ∀ i ∈ j :: l, dist k < dist i ∨ (dist k = dist i ∧ k ≤ i) := by
  induction l generalizing j with
  | nil => exact ⟨j, by simp, rfl, by simp⟩
  | cons a l ih =>
    obtain ⟨hj, hrest⟩ := List.pairwise_cons.mp h
    obtain ⟨ha, hl⟩ := List.pairwise_cons.mp hrest
    have hja : j < a := hj a (by simp)
    by_cases hcloser : dist a < dist j
    · obtain ⟨k, hk, hfold, hbest⟩ := ih a hrest
      refine ⟨k, List.mem_cons_of_mem _ hk, by simpa [closer, hcloser] using hfold, fun i hi => ?_⟩
      obtain rfl | hi := List.mem_cons.mp hi
      · have := hbest a (by simp)
        omega
      · exact hbest i hi
    · obtain ⟨k, hk, hfold, hbest⟩ := ih j (List.pairwise_cons.mpr ⟨fun i hi => hj i (by simp [hi]), hl⟩)
      refine ⟨k, by simp only [List.mem_cons] at hk ⊢; tauto, by simpa [closer, hcloser] using hfold, fun i hi => ?_⟩
      obtain rfl | hi := List.mem_cons.mp hi
      · exact hbest i (by simp)
      · obtain rfl | hi := List.mem_cons.mp hi
        · have := hbest j (by simp)
          omega
        · exact hbest i (by simp [hi])

theorem foldl_closer (dist : Nat → Nat) {l : List Nat} (h : l.Pairwise (· < ·)) :
    (∀ k, l.foldl (closer dist) none = some k → k ∈ l ∧ ∀ i ∈ l, dist k < dist i ∨ (dist k = dist i ∧ k ≤ i)) ∧
      (l.foldl (closer dist) none = none → l = []) := by
  cases l with
  | nil => exact ⟨nofun, fun _ => rfl⟩
  | cons j l =>
    obtain ⟨k, hk, hfold, hbest⟩ := foldl_closer_some dist l j h
    have hstart : (j :: l).foldl (closer dist) none = some k := hfold
    rw [hstart]
    exact ⟨fun k' hk' => by obtain rfl := Option.some.inj hk'; exact ⟨hk, hbest⟩, nofun⟩

theorem bandChoiceIsTheClosest : Claim.BandChoiceIsTheClosest := by
  rintro bs temp ok dist rfl rfl
  have hsorted : ((List.range bs.length).filter fun i => (nth bs i).valid && decide ((bandEdges (nth bs i) temp).1 ≤ 10240 * 160) &&
      decide (10240 * 160 ≤ (bandEdges (nth bs i) temp).2)).Pairwise (· < ·) := List.pairwise_lt_range.filter _
  have hmem : ∀ i, i ∈ ((List.range bs.length).filter fun i => (nth bs i).valid &&
      decide ((bandEdges (nth bs i) temp).1 ≤ 10240 * 160) && decide (10240 * 160 ≤ (bandEdges (nth bs i) temp).2)) ↔
      i < bs.length ∧ (nth bs i).valid = true ∧ (bandEdges (nth bs i) temp).1 ≤ 1638400 ∧
        1638400 ≤ (bandEdges (nth bs i) temp).2 := fun i => by
    simp [and_assoc]
  obtain ⟨hsome, hnone⟩ := foldl_closer
    (fun i => ((bandEdges (nth bs i) temp).1 + (bandEdges (nth bs i) temp).2 - 2 * 1638400).natAbs) hsorted
  refine ⟨fun i hi => ?_, fun hi j hj => ?_⟩
  · obtain ⟨hin, hbest⟩ := hsome i hi
    exact ⟨(hmem i).mp hin, fun j hj => hbest j ((hmem j).mpr hj)⟩
  · have hempty := hnone hi
    replace hj := (hmem j).mpr hj
    rw [hempty] at hj
    cases hj

/-- Settles O25: the reference and the start of the synthesizer. -/
theorem referenceCommands : Obligations.ReferenceCommands :=
  ⟨refSelectTakesEffect, refSelectChangesTheSource, bandTableLoadIsWholeOrNothing, synthStartSelectsABand, bandChoiceIsTheClosest⟩

end Sys2Proof.Machine

/-! LEDGER_SET_EPOCH, LEDGER_STEER, LEDGER_JUMP_RESOLVE and HOLDOVER_MODEL_SET (R38, R53, R58 to R64, R502 to R505). -/

namespace Sys2Proof.Machine

theorem setEpochWaitsForItsMoment : Claim.SetEpochWaitsForItsMoment := by
  rintro p q c f p1 b x h rfl hx hzero
  refine ⟨fun hx0 hearly => command_done q h (act := actSetEpoch) ?_, fun hmode => ⟨fun hbad => command_done q h (act := actSetEpoch) ?_,
    fun hpps hrun hstate => ⟨fun hwaits => command_done q h (act := actSetEpoch) ?_,
      fun w hfree hw => command_waits q h (act := actSetEpoch) ?_⟩⟩⟩
  · exact guarded_broken (by grind)
  · exact (guarded_kept (by grind)).trans (guarded_broken (by grind))
  · refine (guarded_kept (by grind)).trans ((guarded_kept (by grind)).trans (guarded_broken ?_))
    exact Option.isSome_iff_ne_none.mpr hwaits
  · refine (guarded_kept (by grind)).trans ((guarded_kept (by grind)).trans ((guarded_kept (by simp [hfree])).trans ?_))
    rw [hw, ← hx]
    simp only [beq_iff_eq, onLedger, guarded_nil]

/-! ### LEDGER_STEER -/

theorem changedRho_add {rho r : Int} {slew : Option Int} (hlow : -(2 ^ 47) ≤ rho + r) (hhigh : rho + r < 2 ^ 47) :
    changedRho rho { rhoAdd := r, slew := slew } = rho + r := by
  simp only [changedRho, Option.getD_none, rhoMin, rhoMax]
  omega

/-- A slew, or none where its rate or its way is zero, begins at the present tick from the old mapping. -/
theorem startSlew_ledger (rho delta : Int) (p : Piece) : ∃ sigma slew,
    startSlew rho delta p = onLedger (fun l => { reanchor p.now rho sigma l with slew := slew }) p := by
  unfold startSlew
  dsimp only
  split
  · exact ⟨_, _, rfl⟩
  · exact ⟨_, _, rfl⟩

/-- A change of ρ and σ that is made at once anchors the mapping at the present tick. -/
theorem applyChange_ledger {r d : Int} {p : Piece} (hlow : -(2 ^ 47) ≤ p.ledger.current.rho + r)
    (hhigh : p.ledger.current.rho + r < 2 ^ 47) : ∃ sigma slew limit,
    applyChange { rhoAdd := r, slew := if d == 0 then none else some d } p = onLedger (fun l =>
      { reanchor p.now (p.ledger.current.rho + r) sigma l with slew := slew, rateLimit := limit }) p ∧
    (d = 0 → slew = p.ledger.slew ∧ sigma = p.ledger.current.sigma) := by
  unfold applyChange
  dsimp only
  rw [changedRho_add hlow hhigh]
  by_cases hd : d = 0
  · subst hd
    exact ⟨p.ledger.current.sigma, p.ledger.slew, _, rfl, fun _ => ⟨rfl, rfl⟩⟩
  · obtain ⟨sigma, slew, hslew⟩ := startSlew_ledger (p.ledger.current.rho + r) d (onLedger (fun l =>
      { l with rateLimit := limitAfter l { rhoAdd := r, slew := some d } (p.ledger.current.rho + r) }) p)
    refine ⟨sigma, slew, limitAfter p.ledger { rhoAdd := r, slew := some d } (p.ledger.current.rho + r), ?_, fun h => absurd h hd⟩
    rw [if_neg (show ¬ (d == 0) = true by simpa using hd)]
    dsimp only
    rw [hslew]
    rfl

theorem reanchor_exact (m : Nat) (rho sigma : Int) (l : Ledger) :
    (reanchor m rho sigma l).current.exact (T16.ofTick m) = l.current.exact (T16.ofTick m) := by
  simp [reanchor, Mapping.exact]

theorem steerAddsToRho : Claim.SteerAddsToRho := by
  rintro p q c f p1 r d h rfl rfl
  refine ⟨fun hr hd => command_done q h (act := actSteer) (guarded_broken (by simp [hr, hd])),
    fun hsome hout => command_done q h (act := actSteer) ?range, fun hsome hlow hhigh =>
      ⟨fun hsource => command_done q h (act := actSteer) ?source, fun hsource hfree hheld => ?once,
        fun hsource hbusy => command_waits q h (act := actSteer) ?waits⟩⟩
  case range => exact (guarded_kept (by grind)).trans (guarded_broken (by grind [rhoMin, rhoMax]))
  case source =>
    exact (guarded_kept (by grind)).trans ((guarded_kept (by grind [rhoMin, rhoMax])).trans (guarded_broken (by simpa using hsource)))
  case waits =>
    refine (guarded_kept (by grind)).trans ((guarded_kept (by grind [rhoMin, rhoMax])).trans ((guarded_kept (by simp [hsource])).trans ?_))
    simp [hbusy, onLedger]
  case once =>
    have hrho : heldRho p1.ledger = p1.ledger.current.rho := by simp [heldRho, hheld]
    rw [hrho] at hlow hhigh
    obtain ⟨sigma, slew, limit, hchange, hzero⟩ := applyChange_ledger (d := sgn f.body 8 8) hlow hhigh
    refine ⟨restartEstimate (onLedger (fun l =>
      { reanchor p1.now (p1.ledger.current.rho + sgn f.body 0 8) sigma l with slew := slew, rateLimit := limit }) p1),
      command_done q h (act := actSteer) ?_, rfl, reanchor_exact _ _ _ _, rfl, rfl, hzero⟩
    refine (guarded_kept (by grind)).trans ((guarded_kept (by grind [rhoMin, rhoMax])).trans ((guarded_kept (by simp [hsource])).trans ?_))
    rw [← hchange]
    exact if_pos (by simp [hfree, hheld])

/-! ### LEDGER_JUMP_RESOLVE -/

@[simp] theorem sendEpoch_ledger (d : Int) (l : Nat) (p : Piece) : (sendEpoch d l p).ledger = p.ledger := by
  unfold sendEpoch
  split
  · exact foldl_same (·.ledger) _ (fun p i => when_same (·.ledger) _ _ _ rfl) _ _
  · rfl

@[simp] theorem passTargets_ledger (a b : Nat) (p : Piece) : (passTargets a b p).ledger = p.ledger := rfl

/-- A step of L at a time sets the mapping through the new value there, and counts. -/
theorem stepLedger_ledger (t : T16) (l : Int) (p : Piece) : ∃ g : Ledger, (stepLedger t l p).ledger = g ∧
    g.current = { p.ledger.current with m0 := p.now, l0 := l - (t - T16.ofTick p.now) * (2 ^ 64 + p.ledger.current.rho + p.ledger.current.sigma) } ∧
    g.epochCount = wrap32 p.ledger.epochCount 1 ∧ g.state = p.ledger.state := by
  refine ⟨_, rfl, ?_⟩
  unfold stepLedger
  simp [markPostJump]

theorem setLedgerState_epochCount (new : LedgerState) (d : Int) (p : Piece) :
    (setLedgerState new d p).ledger.epochCount = p.ledger.epochCount := by
  obtain ⟨start, last, h⟩ := setLedgerState_ledger new d p
  rw [h]

theorem jumpIsResolvedAsAsked : Claim.JumpIsResolvedAsAsked := by
  rintro p q c f p1 a d h ha hzero rfl
  refine ⟨fun hle hstate => command_done q h (act := actJumpResolve) ?other, fun hbig => command_done q h (act := actJumpResolve) ?range,
    fun hjump h0 => ?step, fun hjump h1 => command_done q h (act := actJumpResolve) ?slew,
    fun hjump h2 => command_done q h (act := actJumpResolve) ?reject⟩
  case range => exact guarded_broken (by simp [← ha, hbig])
  case other => exact (guarded_kept (by grind)).trans (guarded_broken (by simpa using hstate))
  case step =>
    obtain ⟨g, hg, hcurrent, hcount, -⟩ := stepLedger_ledger (T16.ofTick p1.now)
      (p1.ledger.current.exact (T16.ofTick p1.now) + p1.ledger.lastDelta * labelUnits)
      (onLedger (fun l => { l with refJump := false }) p1)
    refine ⟨setLedgerState .locked p1.ledger.lastDelta (stepLedger (T16.ofTick p1.now)
      (p1.ledger.current.exact (T16.ofTick p1.now) + p1.ledger.lastDelta * labelUnits)
      (onLedger (fun l => { l with refJump := false }) p1)), command_done q h (act := actJumpResolve) ?_, setLedgerState_state _ _ _, ?_, ?_⟩
    · refine (guarded_kept (by grind)).trans ((guarded_kept (by simp [hjump])).trans ?_)
      dsimp only
      rw [← ha, h0]
      rfl
    · rw [setLedgerState_current, hg, hcurrent]
      simp [Mapping.exact, Piece.now]
    · rw [setLedgerState_epochCount, hg, hcount]
      rfl
  case slew =>
    refine (guarded_kept (by grind)).trans ((guarded_kept (by simp [hjump])).trans ?_)
    dsimp only
    rw [← ha, h1]
    rfl
  case reject =>
    refine (guarded_kept (by grind)).trans ((guarded_kept (by simp [hjump])).trans ?_)
    dsimp only
    rw [← ha, h2]
    rfl

theorem holdoverModelIsApplied : Claim.HoldoverModelIsApplied := by
  rintro p q c f p1 v h rfl
  refine ⟨fun hzero => command_done q h (act := actHoldoverModel) (guarded_broken ?_),
    fun h1 h2 h3 h4 h5 h6 h7 h8 h9 h10 h11 h12 h13 => command_done q h (act := actHoldoverModel) ?_⟩
  · simpa using hzero
  · dsimp only at h1 h2 h3 h4 h5 h6 h7 h8 h9 h10 h11 h12 h13
    exact (guarded_kept (by grind)).trans ((guarded_kept (by grind)).trans rfl)

/-- Settles O26: the epoch, steering, jumps and the holdover model. -/
theorem ledgerCommands : Obligations.LedgerCommands :=
  ⟨setEpochWaitsForItsMoment, steerAddsToRho, jumpIsResolvedAsAsked, holdoverModelIsApplied⟩

end Sys2Proof.Machine

/-! RFIN: front-end commands, block boundaries, spans and sample blocks (R71 to R86, R123, R458, R459). -/

namespace Sys2Proof.Machine

/-! ### Changes of one input -/

theorem upd_upd {α : Type} (l : List α) (i : Nat) (f g : α → α) : upd (upd l i g) i f = upd l i fun a => f (g a) := by
  refine List.ext_getElem? fun j => ?_
  simp only [upd, List.getElem?_modify]
  cases l[j]? <;> by_cases h : i = j <;> simp [h]

theorem upd_of_id {α : Type} {l : List α} {i : Nat} {f : α → α} (h : ∀ a, f a = a) : upd l i f = l := by
  refine List.ext_getElem? fun j => ?_
  simp only [upd, List.getElem?_modify]
  cases l[j]? <;> by_cases hi : i = j <;> simp [hi, h]

/-- A change of one element depends on that element alone. -/
theorem upd_eq_const {α : Type} [Inhabited α] (l : List α) (i : Nat) (f : α → α) : upd l i f = upd l i fun _ => f (nth l i) := by
  refine List.ext_getElem? fun j => ?_
  simp only [upd, List.getElem?_modify]
  by_cases h : i = j
  · subst h
    cases hl : l[i]? <;> simp [nth, hl]
  · simp [h]

theorem onRfin_onRfin (i : Nat) (f g : Rfin → Rfin) (p : Piece) : onRfin i f (onRfin i g p) = onRfin i (fun r => f (g r)) p := by
  simp only [onRfin, upd_upd]

theorem when_onRfin (b : Bool) (i : Nat) (f : Rfin → Rfin) (p : Piece) :
    when b (onRfin i f) p = onRfin i (fun r => if b then f r else r) p := by
  cases b
  · simp [onRfin, upd_of_id]
  · rfl

theorem onRfin_eq_const (i : Nat) (f : Rfin → Rfin) (p : Piece) : onRfin i f p = onRfin i (fun _ => f (p.rf i)) p := by
  simp only [onRfin]
  rw [upd_eq_const]
  rfl

theorem onRfin_rf_self {i : Nat} {f : Rfin → Rfin} {p : Piece} (h : i < p.rfin.length) : (onRfin i f p).rf i = f (p.rf i) :=
  nth_upd_self p.rfin f h

theorem onRfin_rf_ne {i j : Nat} {f : Rfin → Rfin} {p : Piece} (h : i ≠ j) : (onRfin i f p).rf j = p.rf j :=
  nth_upd_ne p.rfin f h

theorem changeOpensItsSpans : Claim.ChangeOpensItsSpans := by
  rintro i c t p r rfl hpaired
  unfold changeFront
  rw [when_neg (by simp [hpaired])]
  dsimp only
  simp only [when_onRfin, onRfin_onRfin]
  rw [onRfin_eq_const]
  congr 1
  funext x
  by_cases hatt : (p.rf i).front.att = c.front.att <;> by_cases hhigh : (p.rf i).front.high = c.front.high <;>
    by_cases htone : (p.rf i).front.tone = c.front.tone <;>
    simp [hatt, hhigh, htone, Rfin.openSpan, Rfin.spanOf]

/-! ### RFIN_CONFIGURE and RFIN_SELECT_SOURCE -/

theorem stageFront_idle {i : Nat} {fr : FrontEnd} {paired : Bool} {p : Piece} (h : (p.rf i).conv = .idle) :
    stageFront i fr paired p = (changeFront i { front := fr, paired := paired, seq := 0 } (p.rf i).start p, .done stOk [0]) :=
  if_pos (beq_iff_eq.mpr h)

theorem stageFront_runs {i k : Nat} {fr : FrontEnd} {paired : Bool} {p : Piece} (h : (p.rf i).conv ≠ .idle)
    (hk : k = boundarySeq (T16.ofTick (p.now + 32)) (p.rf i).changes (p.rf i).start (p.rf i).seq (p.rf i).paired) :
    stageFront i fr paired p =
      (onRfin i (fun r => { r with changes := r.changes ++ [{ front := fr, paired := paired, seq := k }] }) p,
        .wait .frontEnd i [low32 k]) := by
  subst hk
  exact if_neg (by simpa using h)

theorem rfinConfigureStagesTheChange : Claim.RfinConfigureStagesTheChange := by
  rintro p q c f p1 b i s pr fr h rfl rfl rfl heven hmax hhigh hpair hpos hzero rfl rfl
  have hrange : ∀ rules p k, guarded ((u f.body 1 1 % 2 != 0 || decide (30 < u f.body 1 1) || decide (1 < u f.body 2 1) ||
      decide (1 < u f.body 3 1) || (u f.body 3 1 == 1 && u f.body 0 1 % 2 == 1) || u f.body 4 4 != 0, stRange) :: rules) p k =
      guarded rules p k := fun rules p k => guarded_kept (by grind)
  refine ⟨fun hpartner => command_done q h (act := actRfin) ?partner,
    fun hown hcal => command_done q h (act := actRfin) ?calibrating,
    fun hown hcal hpr hnew hover => command_done q h (act := actRfin) ?resource,
    fun hown hcal hroom => ⟨fun hidle => command_done q h (act := actRfin) ?idle, fun hruns => command_waits q h (act := actRfin) ?runs⟩⟩
  case partner => exact (hrange _ _ _).trans (guarded_broken hpartner)
  case calibrating => exact (hrange _ _ _).trans ((guarded_kept hown).trans (guarded_broken hcal))
  case resource =>
    refine (hrange _ _ _).trans ((guarded_kept hown).trans ((guarded_kept hcal).trans (guarded_broken ?_)))
    rw [hpr, hnew]
    simpa using hover
  case idle =>
    refine (hrange _ _ _).trans ((guarded_kept hown).trans ((guarded_kept hcal).trans ((guarded_kept (by grind)).trans ?_)))
    exact stageFront_idle hidle
  case runs =>
    refine (hrange _ _ _).trans ((guarded_kept hown).trans ((guarded_kept hcal).trans ((guarded_kept (by grind)).trans ?_)))
    exact stageFront_runs hruns rfl

theorem selectSourceStagesTheChange : Claim.SelectSourceStagesTheChange := by
  rintro p q c f p1 b i s o fr h rfl rfl htone hn hzero rfl rfl rfl
  refine ⟨fun h1 h0 => command_done q h (act := actSource) (guarded_broken (by simp [h1, h0])), fun hok => ?_⟩
  have hrules : ∀ rules p k, guarded ((u f.body 1 1 == 1 && u f.body 2 2 == 0, stZero) ::
      (decide (1 < u f.body 1 1) || decide (511 < u f.body 2 2) || u f.body 4 4 != 0, stRange) :: rules) p k = guarded rules p k :=
    fun rules p k => (guarded_kept (by grind)).trans (guarded_kept (by grind))
  refine ⟨fun hpartner => command_done q h (act := actSource) ?partner,
    fun hown hcal => command_done q h (act := actSource) ?calibrating,
    fun hown hcal => ⟨fun hidle => command_done q h (act := actSource) ?idle, fun hruns => command_waits q h (act := actSource) ?runs⟩⟩
  case partner => exact (hrules _ _ _).trans (guarded_broken hpartner)
  case calibrating => exact (hrules _ _ _).trans ((guarded_kept hown).trans (guarded_broken hcal))
  case idle =>
    refine (hrules _ _ _).trans ((guarded_kept hown).trans ((guarded_kept hcal).trans ((stageFront_idle hidle).trans ?_)))
    simp only [beq_iff_eq, stOk]
  case runs =>
    refine (hrules _ _ _).trans ((guarded_kept hown).trans ((guarded_kept hcal).trans ((stageFront_runs hruns rfl).trans ?_)))
    simp only [beq_iff_eq]

/-! ### Boundaries -/

theorem inputPeriod_pos (paired : Bool) : 0 < inputPeriod paired := by
  cases paired <;> decide

theorem le_ceilDiv_mul (a : Nat) {b : Nat} (hb : 0 < b) : a ≤ ceilDiv a b * b := by
  have hlt : (a + b - 1) % b < b := Nat.mod_lt _ hb
  have hdiv := Nat.div_add_mod (a + b - 1) b
  rw [Nat.mul_comm] at hdiv
  show a ≤ (a + b - 1) / b * b
  omega

theorem ceilDiv_pred_mul_lt {a b : Nat} (hb : 0 < b) (h : 0 < ceilDiv a b) : (ceilDiv a b - 1) * b < a := by
  have hdiv := Nat.div_mul_le_self (a + b - 1) b
  show ((a + b - 1) / b - 1) * b < a
  have hone : 0 < (a + b - 1) / b := h
  rw [Nat.sub_mul]
  have : b ≤ (a + b - 1) / b * b := Nat.le_mul_of_pos_left _ hone
  omega

/-- So many whole lengths from a start reach a time. -/
theorem le_start_add_mul {t start : Int} {b m : Nat} (hb : 0 < b) (h : ceilDiv (t - start).toNat b ≤ m) :
    t ≤ start + ((m * b : Nat) : Int) := by
  have hle := le_ceilDiv_mul (t - start).toNat hb
  have hmono := Nat.mul_le_mul_right b h
  omega

/-- Fewer whole lengths from a start do not reach it. -/
theorem start_add_mul_lt {t start : Int} {b m : Nat} (hb : 0 < b) (h : m < ceilDiv (t - start).toNat b) :
    start + ((m * b : Nat) : Int) < t := by
  have hlt := ceilDiv_pred_mul_lt hb (Nat.zero_lt_of_lt h)
  have hmono := Nat.mul_le_mul_right b (Nat.le_sub_one_of_lt h)
  omega

theorem ceilDiv_pos_of_lt {t start : Int} {b : Nat} (hb : 0 < b) (h : start < t) : 0 < ceilDiv (t - start).toNat b :=
  Nat.div_pos (by omega) hb

theorem boundaryIsTheFirstAtOrAfter : Claim.BoundaryIsTheFirstAtOrAfter := by
  rintro t start seq k paired rfl
  have hlen : 0 < blockLen * inputPeriod paired := Nat.mul_pos (by decide) (inputPeriod_pos paired)
  have hk : boundarySeq t [] start seq paired - seq = ceilDiv (t - start).toNat (blockLen * inputPeriod paired) := Nat.add_sub_cancel_left _ _
  refine ⟨Nat.le_add_right _ _, le_start_add_mul hlen hk.ge, fun hlt => start_add_mul_lt hlen ?_⟩
  omega

/-! ### FRONT_END_CHANGE_APPLY -/

theorem inIsland_next {n : Nat} {g : Piece → Piece} {p t : Piece} {q : List Instr} (halive : islandDead p n = false) (h : g p = t) :
    inIsland n g ⟨p, q⟩ = .next ⟨t, q⟩ :=
  effect_next ((when_pos (by simp [halive])).trans h)

theorem frontEndChangeTakesItsBlock : Claim.FrontEndChangeTakesItsBlock := by
  intro p q i ch halive hchanges
  have hlen : (p.rf i).changes.length = 1 := by rw [hchanges]; rfl
  refine ⟨fun hdue hready => inIsland_next halive ?_, fun hearly => inIsland_next halive ?_⟩
  · have hpartner : partnerReady p i ch = true := by
      simp only [partnerReady, Bool.or_eq_true, Bool.not_eq_true', decide_eq_true_eq]
      tauto
    rw [hlen, applyFront, hchanges]
    dsimp only
    rw [if_neg (by simp [Nat.not_lt.mpr hdue, hpartner])]
    rfl
  · rw [hlen, applyFront, hchanges]
    exact if_pos (by simp [hearly])

/-! ### Validity of a block -/

theorem lastSpan_of_one {r : Rfin} {s : Span} (h : r.spans = [s]) (hstart : s.start < r.blockEnd)
    (hstop : ∀ e, s.stop = some e → r.start < e) : lastSpan r = some s := by
  cases hs : s.stop with
  | none => simp [lastSpan, h, hs, hstart]
  | some e => simp [lastSpan, h, hs, hstart, hstop e hs]

theorem lastSpan_of_untouched {r : Rfin} (h : ∀ s ∈ r.spans, r.blockEnd ≤ s.start ∨ ∃ e, s.stop = some e ∧ e ≤ r.start) :
    lastSpan r = none := by
  unfold lastSpan
  dsimp only
  rw [List.filter_eq_nil_iff.mpr]
  · rfl
  · intro s hs
    obtain hlate | ⟨e, he, hended⟩ := h s hs
    · simp [not_lt.mpr hlate]
    · simp [he, not_lt.mpr hended]

theorem blockValidityFollowsItsSpan : Claim.BlockValidityFollowsItsSpan := by
  intro r
  refine ⟨fun b hb => by simp [blockSpanOf, hb], fun hnone => by simp [blockSpanOf, lastSpan_of_untouched hnone],
    fun s n hs hstart => ⟨fun hstop => ?_, fun e hstop hafter hn => ?_⟩⟩
  · simp [blockSpanOf, lastSpan_of_one hs hstart (by simp [hstop]), hstop]
  · have hspan : blockSpanOf r false = (min 512 (ceilDiv (e - r.start).toNat (inputPeriod r.paired)), s.reason) := by
      simp [blockSpanOf, lastSpan_of_one hs hstart (fun e' he' => by rw [hstop] at he'; cases he'; exact hafter), hstop]
    rw [hspan] at hn ⊢
    dsimp only at hn
    have hpos := ceilDiv_pos_of_lt (inputPeriod_pos r.paired) hafter
    exact ⟨rfl, by omega, fun hshort => le_start_add_mul (inputPeriod_pos _) (by omega),
      start_add_mul_lt (inputPeriod_pos _) (by omega)⟩

/-! ### SAMPLE_BLOCK -/

theorem chunks_two_length {α : Type} {m k : Nat} {l : List α} (hl : l.length = 2 * m) (hk : m ≤ k) : (chunks 2 k l).length = m := by
  induction m generalizing k l with
  | zero =>
    obtain rfl : l = [] := List.eq_nil_of_length_eq_zero hl
    cases k <;> rfl
  | succ m ih =>
    obtain ⟨k, rfl⟩ := Nat.exists_eq_succ_of_ne_zero (by omega : k ≠ 0)
    match l, hl with
    | x :: l, hl =>
      rw [chunks, List.length_cons, ih (by simp only [List.length_drop]; omega) (by omega)]
      exact nofun

/-- Two samples of 12 bits are packed into three bytes. -/
theorem packSamples_length {codes : List Int} {m : Nat} (h : codes.length = 2 * m) : (packSamples codes).length = 3 * m := by
  simp [packSamples, List.length_flatMap, chunks_two_length h (by omega : m ≤ codes.length), Nat.mul_comm]

/-- The samples of a block at either end of the converter's range. -/
def clippedCount (codes : List Int) : Nat := (codes.filter fun x => x == -2048 || x == 2047).length

/-- The block in the making of an input (R83). -/
def sampledBlock (i : Nat) (codes : List Int) (p : Piece) : AcqBlock :=
  let r := p.rf i
  let valid := (blockSpanOf (feedSpans p i) (feedUnusable p i)).1
  let hand := r.handoverDue || (r.paired && (p.rf (i + 1)).handoverDue)
  let cal := r.calDue || (r.paired && (p.rf (i + 1)).calDue)
  let mark := gateMark p r.start
  let post := postJumpDue p r.postJump r.start
  { header := leBytes 4 (r.seq % 2 ^ 32) ++ leBytes 1 (flag r.paired 2 + i) ++
      leBytes 1 (flag cal 5 + flag post 4 + flag mark.coast 3 + flag (decide (0 < clippedCount codes)) 2 + flag hand 1 +
        flag (valid != 0) 0) ++
      leBytes 2 valid ++ leBytes 8 (T16.tick r.start).toNat ++ labelBytes mark.label ++
      leBytes 1 (blockSpanOf (feedSpans p i) (feedUnusable p i)).2 ++
      leBytes 1 (r.front.att / 2 * 16 + flag r.front.high 3 + flag r.front.tone 2) ++ leBytes 2 (sliceMap p i) ++
      leBytes 2 (min 65535 (clippedCount codes))
    data := packSamples codes, seq := r.seq, samples := codes.map fun x => (x, 0), start := r.start
    period := inputPeriod r.paired, invalidFrom := 0, firstValid := valid
    flags := flag hand 0 + flag mark.coast 1 + flag post 2 + flag cal 3 + flag (decide (0 < clippedCount codes)) 8 }

/-- The block goes to the CHAN instances that take the stream. -/
def handOnBlock (i : Nat) (codes : List Int) (p : Piece) : Piece :=
  (if (p.rf i).paired then [i, i + 1] else [i]).foldl (fun t j => feedChan j codes (sampledBlock i codes p)
    (blockSpanOf (feedSpans p i) (feedUnusable p i)).2
    (if feedUnusable p i then none else (lastSpan (feedSpans p i)).bind (·.stop)) (p.rf i).paired t) p

/-- An input goes on to the next block. -/
def beginNextBlock (clipped : Nat) (post : Bool) (r : Rfin) : Rfin :=
  countShadow { r with
    seq := r.seq + 1, start := r.blockEnd, lastSeq := r.seq, overBlocks := sat32 r.overBlocks (if 0 < clipped then 1 else 0)
    handoverDue := false, calDue := false, postJump := r.postJump && !post, spans := r.spans.filter fun s => !s.endedBy r.blockEnd
    conv := if r.conv == .starting && !(r.spans.any fun s => s.reason == 5 && !s.endedBy r.blockEnd) then .running else r.conv }

theorem doSampleBlock_rfin (i : Nat) (codes : List Int) (p : Piece) : ∃ f : Rfin → Rfin,
    doSampleBlock i codes p = when (p.rf i).paired (onRfin (i + 1) f)
      (onRfin i (beginNextBlock (clippedCount codes) (postJumpDue p (p.rf i).postJump (p.rf i).start)) (handOnBlock i codes p)) :=
  ⟨_, rfl⟩

/-- What a block leaves of the piece besides the inputs, and of its own input. -/
theorem doSampleBlock_spec (i : Nat) (codes : List Int) (p : Piece) :
    doSampleBlock i codes p = { handOnBlock i codes p with rfin := (doSampleBlock i codes p).rfin } ∧
      (i < (handOnBlock i codes p).rfin.length → (doSampleBlock i codes p).rf i =
        beginNextBlock (clippedCount codes) (postJumpDue p (p.rf i).postJump (p.rf i).start) ((handOnBlock i codes p).rf i)) := by
  obtain ⟨f, h⟩ := doSampleBlock_rfin i codes p
  rw [h]
  cases (p.rf i).paired
  · exact ⟨rfl, fun hi => onRfin_rf_self hi⟩
  · exact ⟨rfl, fun hi => (onRfin_rf_ne (by omega)).trans (onRfin_rf_self hi)⟩

theorem sampleBlockIsHandedOn : Claim.SampleBlockIsHandedOn := by
  intro p p0 q i codes r mark clipped valid reason ends hand cal post hwf halive hp0 hr hruns hown hchanges hend hmark hclipped
    hspan hends hhand hcal hpost
  obtain ⟨hvalid, hreason⟩ := Prod.ext_iff.mp hspan
  dsimp only at hvalid hreason
  have hcodes : codes.length = 2 * 256 := by
    simp only [Instr.wellFormed, Bool.and_eq_true, beq_iff_eq] at hwf
    exact hwf.1
  obtain ⟨hkeeps, hnext⟩ := doSampleBlock_spec i codes p0
  subst hr hmark hclipped hvalid hreason hends hhand hcal hpost
  refine ⟨sampledBlock i codes p0, handOnBlock i codes p0, rfl, rfl, packSamples_length hcodes, rfl, rfl, rfl, rfl,
    doSampleBlock i codes p0, ?_, hkeeps, fun hi => ?_⟩
  · refine effectIf_next hwf ((when_pos (by simp [halive])).trans ?_)
    rw [hp0] at hruns hown hchanges hend ⊢
    refine when_pos ?_
    simp only [Bool.and_eq_true, bne_iff_ne, Bool.not_eq_true', List.any_eq_false, decide_eq_true_eq]
    exact ⟨⟨⟨hruns, hown⟩, fun ch hch => Nat.not_le.mpr (hchanges ch hch)⟩, hend⟩
  · rw [hnext hi]
    exact ⟨rfl, rfl, rfl, rfl, rfl, rfl⟩

/-- Settles O28: front-end changes and sample blocks. -/
theorem frontEndAndBlocks : Obligations.FrontEndAndBlocks :=
  ⟨rfinConfigureStagesTheChange, selectSourceStagesTheChange, boundaryIsTheFirstAtOrAfter, frontEndChangeTakesItsBlock,
    changeOpensItsSpans, sampleBlockIsHandedOn, blockValidityFollowsItsSpan⟩

end Sys2Proof.Machine

/-! Converter slices: faults, takeover, handover and rotation (R77 to R81, R321, R326, R594). -/

namespace Sys2Proof.Machine

/-! ### Faults -/

/-- SLICE_FAULT of a slice in use. -/
theorem execSliceFault_used {i : Fin 4} {s : Fin 3} {p t : Piece} {q : List Instr} (halive : islandDead p (0x10 + i.val) = false)
    (hfit : bitAt (p.rf i).retired s = false) (hconv : (p.rf (feedOf p i)).conv ≠ .idle) (h : failSlice i s p = t) :
    exec (.sliceFault i s) ⟨p, q⟩ = .next ⟨detectError (sliceElement i s) (raiseAlarm 0x0400 0x03 i t), q⟩ := by
  subst h
  exact inIsland_next halive (when_pos (by simp [hfit, feeding, hconv]))

theorem failSlice_active {i s : Nat} {p : Piece} (hactive : s ∈ (p.rf i).map) (hnew : ∀ x ∈ (p.rf i).faulted, x.1 ≠ s) :
    failSlice i s p = onRfin i (fun r => { r with
      faulted := r.faulted ++ [(s, p.now)], rotation := none
      spans := if r.faulted = [] then r.spans ++ [{ start := T16.ofTick p.now, stop := none, reason := 6 }] else r.spans }) p := by
  have hcontains : (p.rf i).map.contains s = true := by simpa using hactive
  have hany : ((p.rf i).faulted.any fun x => x.1 == s) = false := by simpa using hnew
  simp only [failSlice, hcontains, hany, Bool.not_false, Bool.and_self, Bool.true_or, when_true, onRfin_onRfin, List.isEmpty_iff]

theorem failSlice_inactive {i s : Nat} {p : Piece} (hactive : s ∉ (p.rf i).map) :
    failSlice i s p = if s = 2 then onRfin i (fun r => { r with rotation := none }) p else p := by
  have hcontains : (p.rf i).map.contains s = false := by simpa using hactive
  simp only [failSlice, hcontains, Bool.false_and, when_false, Bool.false_or]
  by_cases h : s = 2
  · simp [h]
  · rw [when_neg (by simpa using h), if_neg h]

theorem sliceFaultOpensASpan : Claim.SliceFaultOpensASpan := by
  intro p q i s halive
  refine ⟨fun h => inIsland_next halive (when_neg ?_), fun hfit hconv => ⟨fun hactive hnew => ?_, fun hactive => ?_⟩⟩
  · obtain h | h := h <;> simp [h, feeding]
  · exact execSliceFault_used halive hfit hconv (failSlice_active hactive hnew)
  · exact execSliceFault_used halive hfit hconv (failSlice_inactive hactive)

/-! ### Takeover -/

/-- The slice whose phase S holds. -/
def absentSlice (r : Rfin) : Option Nat := (List.range 2).find? fun k => nth r.map k == 2

/-- A takeover of the one faulted slice that is due and that a fit slice covers. -/
theorem takeOver_of_one {p : Piece} {i j t : Nat} {m : List Nat} {start : T16} (hfaulted : (p.rf i).faulted = [(j, t)])
    (hstart : start = (p.rf (feedOf p i)).start) (hdue : T16.ofTick (t + 2560) ≤ start)
    (hfit : ((j != 2 && spareReady p i && !((p.rf i).faulted.any (·.1 == 2)) && (absentSlice (p.rf i)).all (mayReturn p i)) ||
      (j == 2 && (absentSlice (p.rf i)).any (mayReturn p i))) = true)
    (hmap : (if j == 2 then (p.rf i).map.mapIdx fun k x => if x == 2 then k else x
      else swapSlice j 2 ((p.rf i).map.mapIdx fun k x => if x == 2 then k else x)) = m) :
    takeOver i p = onRfin i (fun r => { r with
      map := m, rotation := none, faulted := []
      spans := (r.spans.map fun s => if s.reason == 6 && s.stop.isNone then { s with stop := some start } else s) }) p := by
  subst hstart
  have hone : takeOver i p = takeOverOne i (p.rf (feedOf p i)).start p (j, t) := by
    rw [takeOver, hfaulted]
    rfl
  rw [hone]
  unfold takeOverOne
  dsimp only
  rw [when_pos]
  · rw [onRfin_eq_const]
    refine Eq.trans ?_ (onRfin_eq_const i _ p).symm
    simp only [hmap, clearFault, hfaulted, List.filter_cons, bne_self_eq_false, Bool.false_eq_true, if_false, List.filter_nil,
      List.isEmpty_nil, if_true]
  · rw [Bool.and_eq_true]
    exact ⟨decide_eq_true hdue, hfit⟩

theorem takeOver_early {p : Piece} {i j t : Nat} (hfaulted : (p.rf i).faulted = [(j, t)])
    (hearly : (p.rf (feedOf p i)).start < T16.ofTick (t + 2560)) : takeOver i p = p := by
  have hone : takeOver i p = takeOverOne i (p.rf (feedOf p i)).start p (j, t) := by
    rw [takeOver, hfaulted]
    rfl
  rw [hone]
  refine when_neg ?_
  rw [Bool.and_eq_false_iff]
  exact .inl (decide_eq_false (not_le.mpr hearly))

theorem spareReady_of_fit {p : Piece} {i : Nat} (hfit : bitAt (p.rf i).retired 2 = false)
    (htests : ∀ x ∈ p.safety.tests, x.element ≠ sliceElement i 2) : spareReady p i = true := by
  have hany : (p.safety.tests.any fun t => t.element == sliceElement i 2) = false := by simpa using htests
  simp [spareReady, hfit, hany]

theorem mayReturn_of_fit {p : Piece} {i k j t : Nat} (hfit : bitAt (p.rf i).retired k = false)
    (htests : ∀ x ∈ p.safety.tests, x.element ≠ sliceElement i k) (hfaulted : (p.rf i).faulted = [(j, t)]) (hother : j ≠ k) :
    mayReturn p i k = true := by
  have hany : (p.safety.tests.any fun t => t.element == sliceElement i k) = false := by simpa using htests
  simp [mayReturn, hfit, hany, hfaulted, hother]

theorem spareTakesTheFaultedPhase : Claim.SpareTakesTheFaultedPhase := by
  rintro p q i j t start done halive hfaulted hstart rfl
  refine ⟨fun hearly => inIsland_next halive (takeOver_early hfaulted (hstart ▸ hearly)), fun hdue hj hspare htests => ?_,
    fun k hdue hj hk hmap hfit htests => inIsland_next halive (takeOver_of_one hfaulted hstart hdue ?_ ?_)⟩
  · have hready := spareReady_of_fit hspare htests
    have hj' : j = 0 ∨ j = 1 := by omega
    refine ⟨fun hmap => inIsland_next halive (takeOver_of_one hfaulted hstart hdue ?_ ?_),
      fun hmap hfit htests' => inIsland_next halive (takeOver_of_one hfaulted hstart hdue ?_ ?_)⟩
    · have habsent : absentSlice (p.rf i) = none := by
        rw [absentSlice, hmap]
        rfl
      obtain rfl | rfl := hj' <;> simp [hready, hfaulted, habsent]
    · obtain rfl | rfl := hj' <;> simp [hmap, swapSlice]
    · have hreturn := mayReturn_of_fit hfit htests' hfaulted (by omega)
      have habsent : absentSlice (p.rf i) = some (1 - j) := by
        obtain rfl | rfl := hj' <;> rw [absentSlice, hmap] <;> rfl
      obtain rfl | rfl := hj' <;> simpa [hready, hfaulted, habsent] using hreturn
    · obtain rfl | rfl := hj' <;> simp [hmap, swapSlice]
  · subst hj
    have hreturn := mayReturn_of_fit hfit htests hfaulted (by omega)
    have habsent : absentSlice (p.rf i) = some k := by
      obtain rfl | rfl : k = 0 ∨ k = 1 := by omega
      · rw [absentSlice, hmap]
        rfl
      · rw [absentSlice, hmap]
        rfl
    simp [habsent, hreturn]
  · subst hj
    obtain rfl | rfl : k = 0 ∨ k = 1 := by omega
    · simp [hmap]
    · simp [hmap]

/-! ### Handover -/

theorem setTrim_eq (i slice phase : Nat) (y : SliceTrim) (p : Piece) : setTrim i slice phase y p =
    onRfin i (fun r => { r with
      trims := if bitAt p.cal.sliceOverrides (3 * i + slice) then r.trims else put r.trims (trimSet slice phase) y }) p := by
  unfold setTrim
  cases bitAt p.cal.sliceOverrides (3 * i + slice)
  · rfl
  · simp [onRfin, upd_of_id]

theorem handoverSwapsTheSlices : Claim.HandoverSwapsTheSlices := by
  intro p q i x y t halive hrotation
  refine ⟨fun hstep hblocks hoffset hgain hskew hclear => inIsland_next halive ?_, fun hout => inIsland_next halive ?_⟩
  · dsimp only
    rw [hrotation]
    have hmeet : residualsMeet x = true := by simp [residualsMeet, hoffset, hgain, hskew]
    refine (when_pos (by simp [hstep, hblocks, hmeet, hclear])).trans ?_
    have hplace : trimSet 2 t.slice = 2 + t.slice := rfl
    simp [hstep, setTrim_eq, onRfin_onRfin, swapSlice, hplace, Piece.now]
  · dsimp only
    rw [hrotation]
    refine when_neg ?_
    have hmeet : ¬ (residualsMeet x = true ∧ 256 ≤ t.blocks ∧ boundaryClear p i = true) := by
      simp only [residualsMeet, Bool.and_eq_true, decide_eq_true_eq]
      rintro ⟨⟨⟨hoffset, hgain⟩, hskew⟩, hblocks, hclear⟩
      simp only [hclear, Bool.true_eq_false, or_false] at hout
      omega
    rw [Bool.eq_false_iff]
    simp only [ne_eq, Bool.and_eq_true, decide_eq_true_eq]
    tauto

theorem handoverIsAbandoned : Claim.HandoverIsAbandoned := by
  intro p q i t halive hrotation
  refine ⟨fun hstep hblocks => inIsland_next halive ?_, fun hfew => inIsland_next halive ?_⟩
  · dsimp only
    rw [hrotation]
    refine (when_pos (by obtain h | h := hstep <;> simp [h, hblocks])).trans ?_
    simp only [beq_iff_eq]
  · dsimp only
    rw [hrotation]
    exact when_neg (by simp [hfew])

theorem mayLeave_of_fit {p : Piece} {i j : Nat} (hmap : (p.rf i).map = [0, 1]) (hj : j ≤ 1) (htests : p.safety.tests = [])
    (hfaulted : (p.rf i).faulted = []) : mayLeave p i j = true := by
  obtain rfl | rfl : j = 0 ∨ j = 1 := by omega
  · simp [mayLeave, hmap, htests, hfaulted]
  · simp [mayLeave, hmap, htests, hfaulted]

theorem rotationLeavesAndReturns : Claim.RotationLeavesAndReturns := by
  rintro p q i y r rfl
  have hms : ticksPerMs = 2560000 := rfl
  refine ⟨fun hmode hcal hen hconv husable hidle hspare htests hfaulted hmap hnext hrotated => ?leaves,
    fun hoff => effect_of_eq (g := execSliceRotationStart i) rfl (when_neg (by simp [hoff])), fun t hrotation hstep => ⟨fun hdue => ?back, fun hearly => ?away⟩⟩
  case leaves =>
    refine effect_of_eq (g := execSliceRotationStart i) rfl (when_pos ?_)
    have hready : spareReady p i = true := spareReady_of_fit hspare (by simp [htests])
    have hleave := mayLeave_of_fit hmap hnext htests hfaulted
    cases hlast : (p.rf i).rotated with
    | none => simp [hmode, hcal, hen, feeding, hconv, husable, hidle, hready, hmap, hleave]
    | some t =>
      have hdue : t + p.cal.slicePeriod * ticksPerMs / 2 ≤ p.clocks.mint := by
        rw [hms]
        exact hrotated t hlast
      simp [hmode, hcal, hen, feeding, hconv, husable, hidle, hready, hmap, hleave, hdue]
  case back =>
    show execSliceAwayEnd i ⟨p, q⟩ y = _
    unfold execSliceAwayEnd
    refine effect_next ?_
    rw [hrotation]
    refine (when_pos (by simp only [hstep, beq_self_eq_true, hms, hdue, decide_true, Bool.and_self])).trans ?_
    simp only [setTrim_eq, onRfin_onRfin, trimSet, beq_iff_eq]
  case away =>
    show execSliceAwayEnd i ⟨p, q⟩ y = _
    unfold execSliceAwayEnd
    refine effect_next ?_
    rw [hrotation]
    exact when_neg (by simp only [hstep, hms, not_le.mpr hearly, decide_false, Bool.and_false])

/-- Settles O29: faults of slices, takeovers, handovers and rotations. -/
theorem converterSlices : Obligations.ConverterSlices :=
  ⟨sliceFaultOpensASpan, spareTakesTheFaultedPhase, handoverSwapsTheSlices, handoverIsAbandoned, rotationLeavesAndReturns⟩

end Sys2Proof.Machine

/-! XFORM_CONFIGURE, XFORM_WINDOW_LOAD and DETECTOR_SET (R118 to R126, R134 to R137, R462 to R464). -/

namespace Sys2Proof.Machine

/-! ### Rows whose rules hold -/

theorem guarded_kept_three {a b c : Bool} {x y z : Nat} {p : Piece} {k : Piece × Verdict} (ha : a = false) (hb : b = false)
    (hc : c = false) : guarded [(a, x), (b, y), (c, z)] p k = k := by
  subst ha hb hc
  rfl

theorem guarded_kept_four {a b c d : Bool} {x y z w : Nat} {p : Piece} {k : Piece × Verdict} (ha : a = false) (hb : b = false)
    (hc : c = false) (hd : d = false) : guarded [(a, x), (b, y), (c, z), (d, w)] p k = k :=
  (guarded_kept ha).trans (guarded_kept_three hb hc hd)

theorem guarded_kept_five {a b c d e : Bool} {x y z w v : Nat} {p : Piece} {k : Piece × Verdict} (ha : a = false) (hb : b = false)
    (hc : c = false) (hd : d = false) (he : e = false) : guarded [(a, x), (b, y), (c, z), (d, w), (e, v)] p k = k :=
  (guarded_kept ha).trans (guarded_kept_four hb hc hd he)

theorem guarded_second {a b : Bool} {x y : Nat} {rules : List (Bool × Nat)} {p : Piece} {k : Piece × Verdict} (ha : a = false)
    (hb : b = true) : guarded ((a, x) :: (b, y) :: rules) p k = (p, .done y []) :=
  (guarded_kept ha).trans (guarded_broken hb)

theorem guarded_third {a b c : Bool} {x y z : Nat} {rules : List (Bool × Nat)} {p : Piece} {k : Piece × Verdict} (ha : a = false)
    (hb : b = false) (hc : c = true) : guarded ((a, x) :: (b, y) :: (c, z) :: rules) p k = (p, .done z []) :=
  (guarded_kept ha).trans (guarded_second hb hc)

theorem guarded_fourth {a b c d : Bool} {x y z w : Nat} {rules : List (Bool × Nat)} {p : Piece} {k : Piece × Verdict} (ha : a = false)
    (hb : b = false) (hc : c = false) (hd : d = true) : guarded ((a, x) :: (b, y) :: (c, z) :: (d, w) :: rules) p k = (p, .done w []) :=
  (guarded_kept ha).trans (guarded_third hb hc hd)

theorem guarded_fifth {a b c d e : Bool} {x y z w v : Nat} {rules : List (Bool × Nat)} {p : Piece} {k : Piece × Verdict} (ha : a = false)
    (hb : b = false) (hc : c = false) (hd : d = false) (he : e = true) :
    guarded ((a, x) :: (b, y) :: (c, z) :: (d, w) :: (e, v) :: rules) p k = (p, .done v []) :=
  (guarded_kept ha).trans (guarded_fourth hb hc hd he)

theorem withTable_error {p : Piece} {a n : Nat} {host : Answer} {k : Bytes → Piece × Verdict} {t : Transfer}
    (h : pieceRead p a n host = .error t) : withTable p a n host k = (p, .done (transferStatus t) []) := by
  simp [withTable, h]

/-! ### XFORM_CONFIGURE -/

theorem xformConfigureStartsOrRestarts : Claim.XformConfigureStartsOrRestarts := by
  rintro p q c f p1 b i x s n g d z0 r0 s0 t0 v0 h rfl rfl rfl rfl rfl rfl rfl rfl rfl rfl rfl rfl
  refine ⟨fun hz => command_done q h (act := actXform) (guarded_broken hz),
    fun hz hr => command_done q h (act := actXform) (guarded_second hz hr),
    fun hz hr hs => command_done q h (act := actXform) (guarded_third hz hr hs),
    fun hz hr hs ht => command_done q h (act := actXform) (guarded_fourth hz hr hs ht),
    fun hz hr hs ht hv => command_done q h (act := actXform) (guarded_fifth hz hr hs ht hv), fun hz hr hs ht hv => ?_⟩
  refine ⟨fun hdis hruns hen => command_done q h (act := actXform) ((guarded_kept_five hz hr hs ht hv).trans ?_),
    fun hdis hruns hen => command_done q h (act := actXform) ((guarded_kept_five hz hr hs ht hv).trans ?_),
    fun t hdis hruns hfrom hafter hbegins => command_done q h (act := actXform) ((guarded_kept_five hz hr hs ht hv).trans ?_),
    fun hdis hruns hbegins => command_waits q h (act := actXform) ((guarded_kept_five hz hr hs ht hv).trans ?_),
    fun hena hruns hen => command_waits q h (act := actXform) ((guarded_kept_five hz hr hs ht hv).trans ?_),
    fun hena hruns hen => command_waits q h (act := actXform) ((guarded_kept_five hz hr hs ht hv).trans ?_),
    fun hena hruns hbegun => command_waits q h (act := actXform) ((guarded_kept_five hz hr hs ht hv).trans ?_),
    fun hena hruns hbegun hchange => command_waits q h (act := actXform) ((guarded_kept_five hz hr hs ht hv).trans ?_),
    fun hena hruns hbegun hchange => command_done q h (act := actXform) ((guarded_kept_five hz hr hs ht hv).trans ?_)⟩
  · exact (if_pos (by simp [hdis])).trans ((if_pos (by simp [hruns])).trans (by rw [if_pos hen]; rfl))
  · exact (if_pos (by simp [hdis])).trans ((if_pos (by simp [hruns])).trans (by rw [if_neg (by simp [hen])]; rfl))
  · exact (if_pos (by simp [hdis])).trans ((if_neg (by simp [hruns])).trans (if_pos (by simp [hfrom, hafter, hbegins])))
  · refine (if_pos (by simp [hdis])).trans ((if_neg (by simp [hruns])).trans (if_neg ?_))
    cases hfrom : (p1.engine (u f.body 0 1)).from_ with
    | none => simp
    | some t =>
      obtain hnone | hafter | hlate := hbegins
      · exact absurd (hfrom.symm.trans hnone) (by simp)
      · simp [hafter]
      · simp [hlate t hfrom]
  · exact (if_neg (by simp [hena])).trans ((if_pos (by simp [hruns])).trans (if_pos hen))
  · exact (if_neg (by simp [hena])).trans ((if_pos (by simp [hruns])).trans (if_neg (by simp [hen])))
  · exact (if_neg (by simp [hena])).trans ((if_neg (by simp [hruns])).trans (if_pos (by simp [hbegun])))
  · exact (if_neg (by simp [hena])).trans ((if_neg (by simp [hruns])).trans ((if_neg (by simp [hbegun])).trans (if_pos hchange)))
  · exact (if_neg (by simp [hena])).trans ((if_neg (by simp [hruns])).trans ((if_neg (by simp [hbegun])).trans
      (if_neg (by simp [hchange]))))

theorem windowLoadReplacesTheTable : Claim.WindowLoadReplacesTheTable := by
  rintro p q c f p1 b i n x z0 r0 s0 h rfl rfl rfl rfl rfl rfl rfl
  refine ⟨fun hz => command_done q h (act := actWindowLoad) (guarded_broken hz),
    fun hz hr => command_done q h (act := actWindowLoad) (guarded_second hz hr),
    fun hz hr hs => command_done q h (act := actWindowLoad) (guarded_third hz hr hs), fun hz hr hs => ?_⟩
  exact ⟨fun t hread hwide => command_done q h (act := actWindowLoad) ((guarded_kept_three hz hr hs).trans ((withTable_ok hread).trans (if_pos hwide))),
    fun t hread hwide => command_done q h (act := actWindowLoad) ((guarded_kept_three hz hr hs).trans ((withTable_ok hread).trans (if_neg (Bool.eq_false_iff.mp hwide)))),
    fun t hread => command_done q h (act := actWindowLoad) ((guarded_kept_three hz hr hs).trans (withTable_error hread))⟩

theorem detectorSettingWaitsForAFrame : Claim.DetectorSettingWaitsForAFrame := by
  rintro p q c f p1 b i n s x g z0 r0 s0 t0 h rfl rfl rfl rfl rfl rfl rfl rfl rfl rfl
  refine ⟨fun hz => command_done q h (act := actDetector) (guarded_broken hz),
    fun hz hr => command_done q h (act := actDetector) (guarded_second hz hr),
    fun hz hr hs => command_done q h (act := actDetector) (guarded_third hz hr hs),
    fun hz hr hs ht => command_done q h (act := actDetector) (guarded_fourth hz hr hs ht), fun hz hr hs ht => ?_⟩
  exact ⟨fun hruns => command_done q h (act := actDetector) ((guarded_kept_four hz hr hs ht).trans (if_neg (by simp [hruns]))),
    fun hruns => command_waits q h (act := actDetector) ((guarded_kept_four hz hr hs ht).trans (if_pos hruns))⟩

/-- Settles O31: the rules of the rows in order, and what the kept ones do. -/
theorem transformCommands : Obligations.TransformCommands :=
  ⟨xformConfigureStartsOrRestarts, windowLoadReplacesTheTable, detectorSettingWaitsForAFrame⟩

end Sys2Proof.Machine

/-! TRIG_CELL_SET, TRIG_MASK_LOAD, TRIG_COMBINE_SET, TRIG_ROUTE_SET, TRIG_FORCE, held settings and MASK_SWAP (R168 to R194, R468 to
R472). -/

namespace Sys2Proof.Machine

theorem guarded_kept_two {a b : Bool} {x y : Nat} {p : Piece} {k : Piece × Verdict} (ha : a = false) (hb : b = false) :
    guarded [(a, x), (b, y)] p k = k := by
  subst ha hb
  rfl

/-- An element set to itself. -/
theorem upd_nth {α : Type} [Inhabited α] (l : List α) (i : Nat) : (upd l i fun _ => nth l i) = l :=
  (upd_eq_const l i id).symm.trans (upd_of_id fun _ => rfl)

/-! ### The commands -/

theorem cellSettingWaitsForItsStream : Claim.CellSettingWaitsForItsStream := by
  rintro p q c f p1 b i s o z0 r0 s0 t0 h rfl rfl rfl rfl rfl rfl rfl rfl
  refine ⟨fun hz => command_done q h (act := actTrigCell) (guarded_broken hz),
    fun hz hr => command_done q h (act := actTrigCell) (guarded_second hz hr),
    fun hz hr hs => command_done q h (act := actTrigCell) (guarded_third hz hr hs),
    fun hz hr hs ht => command_done q h (act := actTrigCell) (guarded_fourth hz hr hs ht), fun hz hr hs ht =>
    ⟨fun hnone => command_done q h (act := actTrigCell) ((guarded_kept_four hz hr hs ht).trans ?_),
      fun x y hstream hidle hempty => command_done q h (act := actTrigCell) ((guarded_kept_four hz hr hs ht).trans ?_),
      fun x y hstream hwaits => command_waits q h (act := actTrigCell) ((guarded_kept_four hz hr hs ht).trans ?_)⟩⟩
  · rw [hnone]
    rfl
  · rw [hstream]
    exact if_pos (by rw [hidle, hempty]; rfl)
  · rw [hstream]
    exact if_neg (by rw [hwaits]; exact Bool.false_ne_true)

theorem maskLoadArmsTheOtherBank : Claim.MaskLoadArmsTheOtherBank := by
  rintro p q c f p1 b i n a m lim z0 r0 s0 h rfl rfl rfl rfl rfl rfl rfl rfl rfl
  refine ⟨fun hz => command_done q h (act := actMaskLoad) (guarded_broken hz),
    fun hz hr => command_done q h (act := actMaskLoad) (guarded_second hz hr),
    fun hz hr hs => command_done q h (act := actMaskLoad) (guarded_third hz hr hs), fun hz hr hs =>
    ⟨fun t hread => command_done q h (act := actMaskLoad) ((guarded_kept_three hz hr hs).trans (withTable_error hread)),
      fun t hread hcross => command_done q h (act := actMaskLoad) ((guarded_kept_three hz hr hs).trans ?_),
      fun t hread hright => command_done q h (act := actMaskLoad) ((guarded_kept_three hz hr hs).trans ?_)⟩⟩
  · exact (withTable_ok hread).trans (if_pos hcross)
  · exact (withTable_ok hread).trans (if_neg (Bool.eq_false_iff.mp hright))

theorem combinationIsSet : Claim.CombinationIsSet := by
  rintro p q c f p1 b i x z0 r0 h rfl rfl rfl rfl rfl
  exact ⟨fun hz => command_done q h (act := actTrigCombine) (guarded_broken hz),
    fun hz hr => command_done q h (act := actTrigCombine) (guarded_second hz hr),
    fun hz hr => command_done q h (act := actTrigCombine) (guarded_kept_two hz hr)⟩

theorem routesAreSet : Claim.RoutesAreSet := by
  rintro p q c f p1 b i w o z0 r0 h rfl rfl rfl rfl rfl rfl
  exact ⟨fun hz => command_done q h (act := actTrigRoute) (guarded_broken hz),
    fun hz hr => command_done q h (act := actTrigRoute) (guarded_second hz hr),
    fun hz hr => command_done q h (act := actTrigRoute) (guarded_kept_two hz hr)⟩

theorem forceIssuesEvents : Claim.ForceIssuesEvents := by
  rintro p q c f p1 m z0 r0 h rfl rfl rfl
  exact ⟨fun hz => command_done q h (act := actTrigForce) (guarded_broken hz),
    fun hz hr => command_done q h (act := actTrigForce) (guarded_second hz hr),
    fun hz hr => command_done q h (act := actTrigForce) (guarded_kept_two hz hr)⟩

/-! ### A setting takes effect -/

theorem settleExpress_cells_matrix (k : Nat) (p : Piece) :
    ((settleExpress k p).trigger.cells, (settleExpress k p).trigger.matrix) = (p.trigger.cells, p.trigger.matrix) := by
  have hcycle : ∀ s p cycle, ((expressCycle k s p cycle).trigger.cells, (expressCycle k s p cycle).trigger.matrix) =
      (p.trigger.cells, p.trigger.matrix) := fun s p cycle =>
    when_same (fun p => (p.trigger.cells, p.trigger.matrix)) _ (reachOut k) _ rfl
  unfold settleExpress
  dsimp only
  cases (nth p.trigger.express k).cell with
  | none => rfl
  | some m => exact foldl_same (fun p => (p.trigger.cells, p.trigger.matrix)) _ (hcycle _) _ p

/-- A first look at the target changes nothing but the mark of that look. -/
theorem lookAtTarget_eq (p : Piece) (c : Cell) : ∃ look, lookAtTarget p c = { c with firstLook := look } := by
  unfold lookAtTarget
  split
  · exact ⟨_, rfl⟩
  · exact ⟨c.firstLook, rfl⟩

/-- The cell after a setting has taken effect. -/
theorem applyCell_cells_matrix (n : Nat) (s : CellSetting) (t : Nat) (p : Piece) : ∃ p' : Piece,
    (applyCell n s t p).trigger.matrix = p.trigger.matrix ∧
    (applyCell n s t p).trigger.cells = upd p.trigger.cells n (fun c => lookAtTarget p'
      { c with setting := s, since := tallyCycle t, detector := {}, run := 0, runTainted := false, issued := false, stamps := []
               retained := [], target := if s.en && s.source == 9 then some s.target else none, stepped := false }) := by
  have hsettled := foldl_same (fun p => (p.trigger.cells, p.trigger.matrix)) (fun p k => settleExpress k p)
    (fun p k => settleExpress_cells_matrix k p) (List.range 4) p
  obtain ⟨hcells, hmatrix⟩ := Prod.mk.inj hsettled
  refine ⟨(List.range 4).foldl (fun p k => settleExpress k p) p, ?_⟩
  rw [← hcells, ← hmatrix]
  unfold applyCell
  cases s.express with
  | false => exact ⟨rfl, rfl⟩
  | true => cases expressIsland s <;> exact ⟨rfl, rfl⟩

theorem heldSettingTakesEffect : Claim.HeldSettingTakesEffect := by
  intro p q i halive
  refine ⟨fun hnone => inIsland_next halive ?_, fun s t hdue hlen => inIsland_next halive ?_, ?_⟩
  · unfold applyCellDue
    cases (p.cell i).next.length with
    | zero => rfl
    | succ k => simp only [applyCellNext, hnone]
  · rw [applyCellDue, hlen]
    simp only [applyCellNext, hdue]
  · rintro s t p' hi rfl
    obtain ⟨p', hmatrix, hcells⟩ := applyCell_cells_matrix i s t p
    have hself : (applyCell i s t p).cell i = lookAtTarget p' { p.cell i with
        setting := s, since := tallyCycle t, detector := {}, run := 0, runTainted := false, issued := false, stamps := []
        retained := [], target := if s.en && s.source == 9 then some s.target else none, stepped := false } := by
      rw [Piece.cell, hcells]
      exact nth_upd_self _ _ hi
    obtain ⟨look, hlook⟩ := lookAtTarget_eq p' { p.cell i with
        setting := s, since := tallyCycle t, detector := {}, run := 0, runTainted := false, issued := false, stamps := []
        retained := [], target := if s.en && s.source == 9 then some s.target else none, stepped := false }
    rw [hself, hlook]
    refine ⟨rfl, rfl, rfl, rfl, rfl, rfl, rfl, rfl, hmatrix, fun n hn => ?_⟩
    rw [Piece.cell, hcells]
    exact nth_upd_ne _ _ (Ne.symm hn)

theorem swapMakesTheBankActive : Claim.SwapMakesTheBankActive := by
  rintro p q i m halive rfl
  refine ⟨fun harmed => inIsland_next halive ?_, fun hidle => inIsland_next halive ?_⟩
  · simp only [swapMask, onTrigger]
    rw [upd_eq_const]
    simp only [harmed, if_true]
  · simp only [swapMask, onTrigger]
    rw [upd_eq_const]
    simp only [hidle, Bool.false_eq_true, if_false]
    rw [upd_nth]

/-- Settles O34: the rules of the commands, the setting that takes effect and the swap. -/
theorem triggerCommands : Obligations.TriggerCommands :=
  ⟨cellSettingWaitsForItsStream, maskLoadArmsTheOtherBank, combinationIsSet, routesAreSet, forceIssuesEvents, heldSettingTakesEffect,
    swapMakesTheBankActive⟩

end Sys2Proof.Machine

/-! The combination matrix, trigger events and TRIG_OUT pulses (R183 to R196). -/

namespace Sys2Proof.Machine

/-! ### Sorting and the earliest of a list -/

theorem insertBy_perm {α : Type} (before : α → α → Bool) (a : α) (l : List α) : (insertBy before a l).Perm (a :: l) := by
  induction l with
  | nil => rfl
  | cons b l ih =>
    unfold insertBy
    split
    · rfl
    · exact (ih.cons b).trans (List.Perm.swap a b l)

theorem sortBy_perm {α : Type} (before : α → α → Bool) (l : List α) : (sortBy before l).Perm l := by
  have hfold : ∀ r : List α, (l.foldl (fun r a => insertBy before a r) r).Perm (l ++ r) := by
    induction l with
    | nil => exact fun r => .refl r
    | cons a l ih => exact fun r => (ih _).trans (((insertBy_perm before a r).append_left l).trans List.perm_middle)
  simpa [sortBy] using hfold []

theorem mem_sortBy {α : Type} {before : α → α → Bool} {l : List α} {a : α} : a ∈ sortBy before l ↔ a ∈ l :=
  (sortBy_perm before l).mem_iff

theorem mem_of_earliest {α : Type} {time : α → T16} {l : List α} {a : α} (h : earliest time l = some a) : a ∈ l := by
  have hfold : ∀ (best : Option α), (l.foldl (fun best a => match best with
      | some b => if time a < time b then some a else some b
      | none => some a) best) = some a → a ∈ l ∨ best = some a := by
    clear h
    induction l with
    | nil => exact fun best h => .inr h
    | cons b l ih =>
      intro best h
      obtain hmem | hbest := ih _ h
      · exact .inl (List.mem_cons_of_mem b hmem)
      · cases best with
        | none => exact .inl (by simp_all)
        | some c =>
          dsimp only at hbest
          split at hbest
          · exact .inl (by simp_all)
          · exact .inr hbest
  obtain hmem | hnone := hfold none h
  · exact hmem
  · cases hnone

/-! ### The matrix -/

theorem cycleReachesTheMatrix : Claim.CycleReachesTheMatrix := by
  refine fun p q halive => ⟨fun e r hmatrix => inIsland_next halive ?_, fun hnone => inIsland_next halive ?_⟩
  · rw [hmatrix]
  · rw [hnone]

/-- A choice for each index, each with what the choice for one index is known to satisfy. -/
theorem mapM_some {α β : Type} {f : α → Option β} {g : β → α} {P : β → Prop} (hf : ∀ a b, f a = some b → g b = a ∧ P b) {l : List α} :
    ∀ {bs : List β}, l.mapM f = some bs → bs.map g = l ∧ ∀ b ∈ bs, P b := by
  induction l with
  | nil =>
    intro bs h
    obtain rfl : [] = bs := by simpa using h
    simp
  | cons a l ih =>
    intro bs h
    simp only [List.mapM_cons, Option.bind_eq_bind, Option.bind_eq_some_iff, Option.pure_def, Option.some.injEq] at h
    obtain ⟨b, hb, bs', hbs, rfl⟩ := h
    obtain ⟨hg, hP⟩ := hf a b hb
    obtain ⟨hmap, hall⟩ := ih hbs
    exact ⟨by simp [hg, hmap], by simpa using ⟨hP, hall⟩⟩

theorem andWinNeedsEveryCell : Claim.AndWinNeedsEveryCell := by
  intro c r used h
  obtain ⟨t, -, hused⟩ := List.exists_of_findSome?_eq_some h
  obtain ⟨hcells, hall⟩ := mapM_some (g := (·.cell))
    (P := fun e => e ∈ r ∧ e.time ≤ t ∧ withinPs (t - e.time) c.window = true) (fun n e he => by
      have hmem := mem_of_earliest he
      simp only [List.mem_filter, Bool.and_eq_true, beq_iff_eq, decide_eq_true_eq] at hmem
      obtain ⟨hmem, ⟨hcell, hle⟩, hwithin⟩ := hmem
      exact ⟨hcell, hmem, hle, hwithin⟩) hused
  exact ⟨hcells, t, hall⟩

theorem seqNeedsTheOrder : Claim.SeqNeedsTheOrder := by
  intro c r used h
  obtain ⟨b, hb, hused⟩ := List.exists_of_findSome?_eq_some h
  obtain ⟨a, ha, rfl⟩ := Option.map_eq_some_iff.mp hused
  have hb := List.mem_filter.mp (mem_sortBy.mp hb)
  have ha := mem_of_earliest ha
  simp only [List.mem_filter, Bool.and_eq_true, Bool.or_eq_true, beq_iff_eq] at ha
  obtain ⟨hmem, ⟨⟨hmask, -⟩, hhold⟩, htimeout⟩ := ha
  exact ⟨a, b, rfl, hmem, hb.1, hmask, hb.2, hhold, fun hne => htimeout.resolve_left hne⟩

/-! ### Trigger events -/

/-- An output event comes before another, or with it: by cycle, then by time. -/
def OutEvent.NotAfter (g o : OutEvent) : Prop := g.cycle < o.cycle ∨ (g.cycle = o.cycle ∧ g.time ≤ o.time)

/-- The earlier of two output events. -/
def earlierOutput (b x : OutEvent) : OutEvent := if x.cycle < b.cycle || (x.cycle == b.cycle && decide (x.time < b.time)) then x else b

theorem OutEvent.NotAfter.trans {a b c : OutEvent} (h : a.NotAfter b) (h' : b.NotAfter c) : a.NotAfter c := by
  unfold NotAfter at *
  grind

theorem earlierOutput_cases (b x : OutEvent) :
    (earlierOutput b x = x ∨ earlierOutput b x = b) ∧ (earlierOutput b x).NotAfter b ∧ (earlierOutput b x).NotAfter x := by
  unfold earlierOutput OutEvent.NotAfter
  split
  case isTrue h =>
    simp only [Bool.or_eq_true, Bool.and_eq_true, decide_eq_true_eq, beq_iff_eq] at h
    exact ⟨.inl rfl, by grind, by grind⟩
  case isFalse h =>
    simp only [Bool.or_eq_true, Bool.and_eq_true, decide_eq_true_eq, beq_iff_eq] at h
    exact ⟨.inr rfl, by grind, by grind⟩

theorem foldl_earlierOutput (l : List OutEvent) (o : OutEvent) : l.foldl earlierOutput o ∈ o :: l ∧
    ∀ x ∈ o :: l, (l.foldl earlierOutput o).NotAfter x := by
  induction l generalizing o with
  | nil => exact ⟨by simp, by simp [OutEvent.NotAfter]⟩
  | cons y l ih =>
    obtain ⟨hchoice, hleft, hright⟩ := earlierOutput_cases o y
    obtain ⟨hmem, hall⟩ := ih (earlierOutput o y)
    have hfirst := hall _ List.mem_cons_self
    refine ⟨?_, fun x hx => ?_⟩
    · obtain h | h := List.mem_cons.mp hmem
      · rw [List.foldl_cons, h]
        obtain h | h := hchoice <;> simp [h]
      · exact List.mem_cons_of_mem _ (List.mem_cons_of_mem _ h)
    · obtain rfl | rfl | hx : x = o ∨ x = y ∨ x ∈ l := by simpa using hx
      · exact hfirst.trans hleft
      · exact hfirst.trans hright
      · exact hall x (List.mem_cons_of_mem _ hx)

/-- The next group holds the first of the queue, and only what stands with it. -/
theorem nextGroup_first {q : List OutEvent} (hq : q ≠ []) : ∃ first ∈ q, (∀ o ∈ q, first.NotAfter o) ∧
    ∀ g, g ∈ nextGroup q ↔ g ∈ q ∧ g.cycle = first.cycle ∧ g.time = first.time := by
  cases q with
  | nil => exact absurd rfl hq
  | cons o l =>
    obtain ⟨hmem, hall⟩ := foldl_earlierOutput l o
    refine ⟨l.foldl earlierOutput o, hmem, hall, fun g => ?_⟩
    show g ∈ sortBy _ _ ↔ _
    rw [mem_sortBy, List.mem_filter, Bool.and_eq_true, beq_iff_eq, beq_iff_eq]
    rfl

theorem nextGroup_ne_nil {q : List OutEvent} (hq : q ≠ []) : nextGroup q ≠ [] := by
  obtain ⟨first, hfirst, -, hgroup⟩ := nextGroup_first hq
  exact List.ne_nil_of_mem ((hgroup first).mpr ⟨hfirst, rfl, rfl⟩)

theorem triggerEvent_bytes_length (n : Nat) (e : TriggerEvent) : (e.bytes n).length = 32 := by
  simp [TriggerEvent.bytes, labelBytes, leBytes_length]

/-- The piece from which the next trigger event goes to its routes. -/
def afterIssue (p : Piece) : Piece :=
  onTrigger (fun t => { t with
    queue := t.queue.filter (fun o => !(nextGroup p.trigger.queue).contains o), issuedAt := some (tallyCycle p.now)
    eventSeq := wrap32 t.eventSeq 1
    postJump := t.postJump && !postJumpDue p t.postJump (triggerEventOf p (nextGroup p.trigger.queue)).time }) p

theorem oneTriggerEventPerCycle : Claim.OneTriggerEventPerCycle := by
  refine ⟨fun p q halive => ⟨fun hissued => inIsland_next halive ?_, fun hfree hnone => inIsland_next halive ?_,
    fun g e hsome hfree hg he => ?_⟩, fun q hq => ⟨nextGroup_ne_nil hq, fun g hg => ?_⟩, triggerEvent_bytes_length⟩
  · simp [hissued]
  · simp only [when_pos (bne_iff_ne.mpr hfree), hnone]
    exact if_pos rfl
  · subst hg he
    refine ⟨afterIssue (onTrigger (fun t => { t with queue := routedQueue p }) p), inIsland_next halive ?_, rfl, rfl, rfl, rfl, rfl, rfl⟩
    have hgroup := nextGroup_ne_nil hsome
    simp only [when_pos (bne_iff_ne.mpr hfree)]
    exact if_neg (by simpa [onTrigger] using ⟨hgroup, hfree⟩)
  · obtain ⟨first, hfirst, hall, hgroup⟩ := nextGroup_first hq
    obtain ⟨hmem, hcycle, htime⟩ := (hgroup g).mp hg
    exact ⟨hmem, fun o ho => by rw [hcycle, htime]; exact hall o ho⟩

/-! ### TRIG_OUT -/

theorem onOut_eq_const (k : Nat) (f : TrigOut → TrigOut) (p : Piece) : onOut k f p = onOut k (fun _ => f (nth p.trigger.outs k)) p := by
  simp only [onOut, onTrigger]
  rw [upd_eq_const]

theorem onOut_of_kept {k : Nat} {f : TrigOut → TrigOut} {p : Piece} (h : f (nth p.trigger.outs k) = nth p.trigger.outs k) :
    onOut k f p = p := by
  rw [onOut_eq_const, h]
  simp only [onOut, onTrigger]
  rw [upd_nth]

theorem outputTakesAnEvent : Claim.OutputTakesAnEvent := by
  rintro p0 p q k o rfl rfl
  refine ⟨fun hnone => effect_next (if_pos (by simp [hnone])), fun hsome => ⟨fun hbusy => ?_, fun hpulse hdue hquiet => ?_,
    fun hpulse hdue hquiet => ?_⟩⟩
  · refine effect_next ((if_neg (by simpa using hsome)).trans ((onOut_eq_const _ _ _).trans ?_))
    congr 1
    funext _
    exact if_pos (by simpa using hbusy)
  · refine effect_next ((if_neg (by simpa using hsome)).trans ((onOut_eq_const _ _ _).trans ?_))
    congr 1
    funext _
    exact (if_neg (by simp [hpulse, hdue])).trans (if_pos hquiet)
  · refine effect_next ((if_neg (by simpa using hsome)).trans ((onOut_eq_const _ _ _).trans ?_))
    congr 1
    funext _
    refine (if_neg (by simp [hpulse, hdue])).trans ((if_neg (by simp [hquiet])).trans ?_)
    simp [startPulse, hdue, hquiet]

theorem pulseEndsAndTheOutputRests : Claim.PulseEndsAndTheOutputRests := by
  rintro p q k o rfl
  refine ⟨fun b t hpulse => ⟨fun hover => ?_, fun hlasts => ?_⟩, fun hnone => ?_, fun t hquiet =>
    ⟨fun hover hdue => ?_, fun hover hdue => ?_, fun hlasts => ?_⟩, fun hnone => ?_⟩
  · refine effect_next ((onOut_eq_const _ _ _).trans ?_)
    simp [hpulse, hover]
  · refine effect_next (onOut_of_kept ?_)
    simp [hpulse, hlasts]
  · refine effect_next (onOut_of_kept ?_)
    simp [hnone]
  · refine effect_next ((onOut_eq_const _ _ _).trans ?_)
    simp [hquiet, hover, hdue, startPulse]
  · refine effect_next ((onOut_eq_const _ _ _).trans ?_)
    simp [hquiet, hover, hdue]
  · refine effect_next (onOut_of_kept ?_)
    simp [hquiet, hlasts]
  · refine effect_next (onOut_of_kept ?_)
    simp [hnone]

/-- Settles O36: the events of a cycle, what AND_WIN and SEQ use, the one trigger event of a cycle, and the output's pulses. -/
theorem triggerMatrixAndOutputs : Obligations.TriggerMatrixAndOutputs :=
  ⟨cycleReachesTheMatrix, andWinNeedsEveryCell, seqNeedsTheOrder, oneTriggerEventPerCycle, outputTakesAnEvent,
    pulseEndsAndTheOutputRests⟩

end Sys2Proof.Machine

/-! The ACQ commands, arming and readout (R199 to R223, R473 to R476). -/

namespace Sys2Proof.Machine

theorem acqConfigureSetsGeometry : Claim.AcqConfigureSetsGeometry := by
  rintro p q c f p1 b k s n z0 r0 s0 h rfl rfl rfl rfl rfl rfl rfl
  exact ⟨fun hz => command_done q h (act := actAcqConfigure) (guarded_broken hz),
    fun hz hr => command_done q h (act := actAcqConfigure) (guarded_second hz hr),
    fun hz hr hs => command_done q h (act := actAcqConfigure) (guarded_third hz hr hs),
    fun hz hr hs => command_done q h (act := actAcqConfigure) (guarded_kept_three hz hr hs)⟩

theorem acqArmArmsTheNamed : Claim.AcqArmArmsTheNamed := by
  rintro p q c f p1 m z0 r0 s0 t0 v0 h rfl rfl rfl rfl rfl rfl
  exact ⟨fun hz => command_done q h (act := actAcqArm) (guarded_broken hz),
    fun hz hr => command_done q h (act := actAcqArm) (guarded_second hz hr),
    fun hz hr hs => command_done q h (act := actAcqArm) (guarded_third hz hr hs),
    fun hz hr hs ht => command_done q h (act := actAcqArm) (guarded_fourth hz hr hs ht),
    fun hz hr hs ht hv => command_done q h (act := actAcqArm) (guarded_fifth hz hr hs ht hv),
    fun hz hr hs ht hv => command_done q h (act := actAcqArm) (guarded_kept_five hz hr hs ht hv)⟩

theorem acqStopEndsTheNamed : Claim.AcqStopEndsTheNamed := by
  rintro p q c f p1 m e z0 r0 h rfl rfl rfl rfl
  exact ⟨fun hz => command_done q h (act := actAcqStop) (guarded_broken hz),
    fun hz hr => command_done q h (act := actAcqStop) (guarded_second hz hr),
    fun hz hr => command_done q h (act := actAcqStop) (guarded_kept_two hz hr)⟩

theorem masktestLoadIsWholeOrNothing : Claim.MasktestLoadIsWholeOrNothing := by
  rintro p q c f p1 b k n o a lim z0 r0 s0 h rfl rfl rfl rfl rfl rfl rfl rfl rfl
  refine ⟨fun hz => command_done q h (act := actMasktestLoad) (guarded_broken hz),
    fun hz hr => command_done q h (act := actMasktestLoad) (guarded_second hz hr),
    fun hz hr hs => command_done q h (act := actMasktestLoad) (guarded_third hz hr hs), fun hz hr hs =>
    ⟨fun t hread => command_done q h (act := actMasktestLoad) ((guarded_kept_three hz hr hs).trans (withTable_error hread)),
      fun t hread hcross => command_done q h (act := actMasktestLoad) ((guarded_kept_three hz hr hs).trans ?_),
      fun t hread hright => command_done q h (act := actMasktestLoad) ((guarded_kept_three hz hr hs).trans ?_)⟩⟩
  · exact (withTable_ok hread).trans (if_pos hcross)
  · exact (withTable_ok hread).trans (if_neg (Bool.eq_false_iff.mp hright))

theorem acqReadoutWaits : Claim.AcqReadoutWaits := by
  rintro p q c f p1 b k a z0 r0 s0 t0 h rfl rfl rfl rfl rfl rfl rfl
  exact ⟨fun hz => command_done q h (act := actAcqReadout) (guarded_broken hz),
    fun hz hr => command_done q h (act := actAcqReadout) (guarded_second hz hr),
    fun hz hr hs => command_done q h (act := actAcqReadout) (guarded_third hz hr hs),
    fun hz hr hs ht => command_done q h (act := actAcqReadout) (guarded_fourth hz hr hs ht),
    fun hz hr hs ht => command_waits q h (act := actAcqReadout) (guarded_kept_four hz hr hs ht)⟩

/-! ### Arming -/

theorem writeDirectory_acq (s : AcqSetting) (i : Nat) (bs : Bytes) (p : Piece) : (writeDirectory s i bs p).acq = p.acq :=
  when_same (·.acq) _ (dramWrite _ bs) p rfl

theorem armingStartsAnew : Claim.ArmingStartsAnew := by
  rintro p p' k t a rfl rfl hk
  have hacq : (armAcq t k p).acq = { p.acq with acqs := upd p.acq.acqs k fun a =>
      { setting := a.setting, mask := a.mask, maskLoaded := a.maskLoaded, armCount := wrap32 a.armCount 1, state := .armed
        armAt := some t, triggers := a.triggers } } :=
    foldl_same (·.acq) _ (fun p i => writeDirectory_acq _ i (zeros 64) p) _ _
  refine ⟨?_, fun j hj => ?_⟩
  · rw [Piece.acqOf, hacq]
    exact nth_upd_self _ _ hk
  · rw [Piece.acqOf, hacq]
    exact nth_upd_ne _ _ (Ne.symm hj)

/-! ### Readout -/

theorem slice_length (bs : Bytes) (off len : Nat) : (slice bs off len).length = len := by
  simp only [slice, List.length_append, List.length_replicate, List.length_take]
  omega

theorem acqHeader_length (j : Nat) (a : Acq) : (acqHeader j a).length = 64 := by
  simp [acqHeader, leBytes_length, zeros_length, pad, slice_length]

theorem readoutWritesItsSegments : Claim.ReadoutWritesItsSegments := by
  rintro p p2 q i r first n w dest st m rs a bs rfl
  refine ⟨fun hwaits hbs hwrite => ?_, fun hnone => ?_, fun j => acqHeader_length j _⟩
  · show execAcqReadoutDone i r ⟨p, q⟩ = _
    unfold execAcqReadoutDone
    refine effect_next ?_
    subst hbs
    simp only [hwaits, beq_iff_eq, hwrite]
  · show execAcqReadoutDone i r ⟨p, q⟩ = _
    unfold execAcqReadoutDone
    refine effect_next ?_
    rw [hnone]

/-- Settles O37: the rules of the ACQ commands, what arming leaves and what a readout writes. -/
theorem acquisitionCommands : Obligations.AcquisitionCommands :=
  ⟨acqConfigureSetsGeometry, acqArmArmsTheNamed, acqStopEndsTheNamed, masktestLoadIsWholeOrNothing, acqReadoutWaits, armingStartsAnew,
    readoutWritesItsSegments⟩

end Sys2Proof.Machine

/-! Interpolator rounds, roles and handovers, and faults of interpolators and comparators (R232, R245 to R248, R322 to R324, R594). -/

namespace Sys2Proof.Machine

/-! ### Rounds and roles -/

/-- INTERP_ROUND_START over the piece in which failed inputs are covered, given whether a round is due. -/
def startsRound (k : Nat) (due : Bool) (p : Piece) : Piece :=
  if !rotates p k || !due then p
  else if (p.motif k).inRound then
    when (!nth p.cal.roundLate k) (onCal fun c => { c with overrun := sat32 c.overrun 1, roundLate := put c.roundLate k true }) p
  else when ((p.motif k).role == .idle) (startRound k) p

theorem roundStartsOrIsDelayed : Claim.RoundStartsOrIsDelayed := by
  intro p p0 q k due hcovered hdue
  have hexec : ∀ {t : Piece}, startsRound k due p0 = t → exec (.interpRoundStart k) ⟨p, q⟩ = .next ⟨t, q⟩ := fun h => by
    subst hcovered hdue
    show execInterpRoundStart k ⟨p, q⟩ = _
    unfold execInterpRoundStart
    exact effect_next h
  clear hcovered hdue
  refine ⟨fun hnot => hexec (if_pos ?_), fun hrot hdue => ?_⟩
  · obtain h | h := hnot <;> simp [h]
  · have hgoes : ¬ (!rotates p0 k || !due) = true := by simp [hrot, hdue]
    exact ⟨fun hround hlate => hexec ((if_neg hgoes).trans ((if_pos hround).trans (when_neg (by simp [hlate])))),
      fun hround hlate => hexec ((if_neg hgoes).trans ((if_pos hround).trans (when_pos (by simp [hlate])))),
      fun hround hrole => hexec ((if_neg hgoes).trans ((if_neg (by simp [hround])).trans (when_pos (by simp [hrole])))),
      fun hround hrole => hexec ((if_neg hgoes).trans ((if_neg (by simp [hround])).trans (when_neg (by simpa using hrole))))⟩

/-- A handover that has its 64 edges, or whose time is over, is due. -/
theorem when_edges_or_past {edges b ticks now : Nat} {f : Piece → Piece} {p : Piece} (h : 64 ≤ edges ∨ b + ticks ≤ now) :
    when (decide (64 ≤ edges) || decide (b + ticks ≤ now)) f p = f p :=
  when_pos (by simpa using h)

theorem when_edges_nor_past {edges b ticks now : Nat} {f : Piece → Piece} {p : Piece} (hedges : edges < 64) (hnow : now < b + ticks) :
    when (decide (64 ≤ edges) || decide (b + ticks ≤ now)) f p = p :=
  when_neg (by simp [hedges, hnow])

theorem when_decide {c : Prop} [Decidable c] (f : Piece → Piece) (p : Piece) : when (decide c) f p = if c then f p else p := by
  by_cases h : c
  · rw [when_pos (decide_eq_true h), if_pos h]
  · rw [when_neg (decide_eq_false h), if_neg h]

theorem roleLastsItsTime : Claim.RoleLastsItsTime := by
  rintro p q k r m b rfl rfl
  have hexec : ∀ {t : Piece}, exec (.interpRoleEnd k r) ⟨p, q⟩ = .next ⟨t, q⟩ ↔ execInterpRoleEnd k r ⟨p, q⟩ = .next ⟨t, q⟩ := .rfl
  refine ⟨fun hrole => ?_, fun hrole => ?_, fun hrole => ⟨fun hedges hnow => ?_, fun hends => ?_⟩,
    fun hrole => ⟨fun hedges hnow => ?_, fun hends => ?_⟩, fun hrole => ?_⟩
  all_goals
    rw [hexec]
    unfold execInterpRoleEnd
    refine effect_next ?_
    dsimp only
  · rw [hrole]
    exact when_decide _ _
  · rw [hrole]
    exact when_decide _ _
  · rw [hrole]
    exact when_edges_nor_past hedges hnow
  · rw [hrole]
    exact when_edges_or_past hends
  · rw [hrole]
    exact when_edges_nor_past hedges hnow
  · rw [hrole]
    exact when_edges_or_past hends
  · obtain hrole | hrole := hrole <;> rw [hrole]

theorem handoverNeedsAMatch : Claim.HandoverNeedsAMatch := by
  rintro k n edges r p ok rfl
  refine ⟨fun hfew => ⟨if_pos hfew, if_pos hfew⟩, fun hmany hok => ?_, fun hmany hbad => ?_⟩
  · exact ⟨(if_neg (by omega)).trans (if_pos hok), (if_neg (by omega)).trans (if_pos hok)⟩
  · exact ⟨(if_neg (by omega)).trans (if_neg (Bool.eq_false_iff.mp hbad)), (if_neg (by omega)).trans (if_neg (Bool.eq_false_iff.mp hbad))⟩

/-! ### Faults -/

theorem interpolatorFaultIsCovered : Claim.InterpolatorFaultIsCovered := by
  rintro p p0 q k n rfl
  have hexec : ∀ {t : Piece}, exec (.interpFault k n) ⟨p, q⟩ = .next ⟨t, q⟩ ↔ execInterpFault k n ⟨p, q⟩ = .next ⟨t, q⟩ := .rfl
  refine ⟨fun hn hfit => ?_, fun hn hfit => ?_, fun hn hretired => ?_, fun hn hretired => ?_⟩
  all_goals
    rw [hexec]
    unfold execInterpFault
    refine effect_next ?_
  · have hown : (n.val == 4) = false := by simpa using hn.ne
    simp only [hown, hfit, Bool.not_false, when_true, Bool.false_eq_true, if_false]
  · have hown : (n.val == 4) = true := by simpa using hn
    simp only [hown, hfit, Bool.not_false, when_true, if_true]
  · have hown : (n.val == 4) = false := by simpa using hn.ne
    simp only [hown, hretired, Bool.not_true, when_false, Bool.false_eq_true, if_false]
  · have hown : (n.val == 4) = true := by simpa using hn
    simp only [hown, hretired, Bool.not_true, when_false, if_true]

theorem bitAt_or_eq_false {m n i : Nat} (h : bitAt (m ||| n) i = false) : bitAt m i = false := by
  have htest : ∀ x, bitAt x i = x.testBit i := fun x => by
    rw [bitAt, Nat.testBit_eq_decide_div_mod_eq]
    rfl
  rw [htest] at *
  simp_all [Nat.testBit_or]

theorem nextComparatorTakesOver : Claim.NextComparatorTakesOver := by
  rintro p p0 q n i rfl rfl
  have hexec : ∀ {t : Piece}, exec (.compFault n) ⟨p, q⟩ = .next ⟨t, q⟩ ↔ execCompFault n ⟨p, q⟩ = .next ⟨t, q⟩ := .rfl
  refine ⟨fun hok hdetects => ⟨fun i => nextComp { i with compHeld := i.compHeld ||| 2 ^ i.compSel }, hexec.mpr ?_, ?_⟩,
    fun hnone => hexec.mpr ?_⟩
  · unfold execCompFault
    exact effect_next (when_pos (by simp [hok, hdetects]))
  rotate_left
  · unfold execCompFault
    exact effect_next (when_neg (by obtain h | h := hnone <;> simp [h]))
  rintro j r rfl
  dsimp only [nextComp]
  cases hnext : (List.range 4).find? fun c => c != j.compSel && !bitAt (j.compRetired ||| (j.compHeld ||| 2 ^ j.compSel)) c with
  | none => simp
  | some c =>
    have hfound := List.find?_some hnext
    simp only [Bool.and_eq_true, bne_iff_ne, ne_eq, Bool.not_eq_true'] at hfound
    obtain ⟨hother, hfit⟩ := hfound
    refine ⟨rfl, rfl, rfl, fun h => (Option.some_ne_none _ h).elim, fun d hd => ?_⟩
    obtain rfl : c = d := Option.some.inj hd
    exact ⟨rfl, rfl, List.mem_range.mp (List.mem_of_find?_eq_some hnext), hother, bitAt_or_eq_false hfit⟩

/-- Settles O40: rounds, roles and handovers, and the two kinds of fault. -/
theorem interpolators : Obligations.Interpolators :=
  ⟨roundStartsOrIsDelayed, roleLastsItsTime, handoverNeedsAMatch, interpolatorFaultIsCovered, nextComparatorTakesOver⟩

end Sys2Proof.Machine

/-! The stamp fabric: rotation, grants and records (R241, R242, R249). -/

namespace Sys2Proof.Machine

/-! ### Rotation -/

theorem nextGrant_some {p : Piece} {n : Nat} (h : nextGrant p = some n) : n < 24 ∧ mayGrant p n = true ∧
    ∃ k, k < 24 ∧ n = (p.fabric.pointer + 1 + k) % 24 ∧ ∀ j, j < k → mayGrant p ((p.fabric.pointer + 1 + j) % 24) = false := by
  rw [nextGrant, List.find?_map, Option.map_eq_some_iff] at h
  obtain ⟨k, hk, rfl⟩ := h
  obtain ⟨hmay, hrange, hfirst⟩ := List.find?_range_eq_some.mp hk
  exact ⟨Nat.mod_lt _ (by decide), hmay, k, List.mem_range.mp hrange, rfl, fun j hj => by simpa using hfirst j hj⟩

theorem nextGrant_none {p : Piece} {n : Nat} (h : nextGrant p = none) (hn : n < 24) : mayGrant p n = false := by
  have hnone := List.find?_eq_none.mp h
  have hreached : (p.fabric.pointer + 1 + (n + 24 - (p.fabric.pointer + 1) % 24) % 24) % 24 = n := by omega
  refine Bool.eq_false_iff.mpr (hnone n (List.mem_map.mpr ⟨_, List.mem_range.mpr (Nat.mod_lt _ (by decide)), hreached⟩))

theorem stampBytes_length (s : Stamp) : (stampBytes s).length = 16 := by
  simp [stampBytes, leBytes_length]

theorem rotationFindsTheNextSource : Claim.RotationFindsTheNextSource :=
  ⟨fun _ _ => nextGrant_some, fun _ _ => nextGrant_none, stampBytes_length⟩

/-! ### Grants -/

/-- The grants of the present cycle so far. -/
def grantsInCycle (p : Piece) : Nat := if p.fabric.granted.1 == tallyCycle p.now then p.fabric.granted.2 else 0

theorem fabricServesInRotation : Claim.FabricServesInRotation := by
  rintro p p0 q n cycle m hp0 rfl hm
  have hgrants : m = grantsInCycle p0 := by simp [hm, grantsInCycle]
  have hexec : ∀ {t : Piece}, exec (.fabricGrant n) ⟨p, q⟩ = .next ⟨t, q⟩ ↔ execFabricGrant n ⟨p, q⟩ = .next ⟨t, q⟩ := .rfl
  refine ⟨fun hnot => hexec.mpr ?_, fun s b p1 p2 p3 hnext hm2 htake hp2 hp3 => ⟨fun hb => hexec.mpr ?_, fun hb => hexec.mpr ?_⟩⟩
  · unfold execFabricGrant
    refine effect_next ?_
    rw [← hp0]
    refine if_pos ?_
    rw [hgrants] at hnot
    simpa [grantsInCycle] using hnot
  all_goals
    have hfree : ¬ (nextGrant p0 != some n.val || decide (2 ≤ grantsInCycle p0)) = true := by
      rw [← hgrants]
      simp [hnext, hm2]
    unfold execFabricGrant
    refine effect_next ?_
    rw [← hp0]
    refine (if_neg hfree).trans ?_
    simp only [htake, hp3, hp2, hb, hgrants]
    rfl

/-- Settles O41: which source the rotation names and what a grant does. -/
theorem stampFabric : Obligations.StampFabric := ⟨fabricServesInRotation, rotationFindsTheNextSource⟩

end Sys2Proof.Machine

/-! The COUNT commands and the start of a slot (R259 to R291, R479 to R482). -/

namespace Sys2Proof.Machine

theorem countStartArmsASlot : Claim.CountStartArmsASlot := by
  rintro p q c f p1 b n s o z0 r0 s0 t0 v0 h rfl rfl rfl rfl rfl rfl rfl rfl rfl
  exact ⟨fun hz => command_done q h (act := actCountStart) (guarded_broken hz),
    fun hz hr => command_done q h (act := actCountStart) (guarded_second hz hr),
    fun hz hr hs => command_done q h (act := actCountStart) (guarded_third hz hr hs),
    fun hz hr hs ht => command_done q h (act := actCountStart) (guarded_fourth hz hr hs ht),
    fun hz hr hs ht hv => command_done q h (act := actCountStart) (guarded_fifth hz hr hs ht hv),
    fun hz hr hs ht hv => command_waits q h (act := actCountStart) (guarded_kept_five hz hr hs ht hv)⟩

theorem countStopSetsTheEnd : Claim.CountStopSetsTheEnd := by
  rintro p q c f p1 m t g p2 z0 r0 h rfl ht hg hp2 rfl rfl
  refine ⟨fun hz => command_done q h (act := actCountStop) (guarded_broken hz),
    fun hz hr => command_done q h (act := actCountStop) (guarded_second hz hr), fun hz hr =>
    ⟨fun hnone => command_done q h (act := actCountStop) ((guarded_kept_two hz hr).trans ?_),
      fun hsome => command_waits q h (act := actCountStop) ((guarded_kept_two hz hr).trans ?_)⟩⟩
  all_goals
    dsimp only
    rw [← hg, ← ht, hp2]
  · exact if_pos (beq_iff_eq.mpr hnone)
  · exact if_neg (by simpa using hsome)

theorem countReadReturnsTheLatest : Claim.CountReadReturnsTheLatest := by
  rintro p q c f p1 b o l z0 r0 h rfl rfl rfl rfl rfl
  refine ⟨fun hz => command_done q h (act := actCountRead) (guarded_broken hz),
    fun hz hr => command_done q h (act := actCountRead) (guarded_second hz hr), fun hz hr =>
    ⟨fun hnone => command_done q h (act := actCountRead) ((guarded_kept_two hz hr).trans (if_pos (beq_iff_eq.mpr hnone))),
      fun p2 hdest hwrite => command_done q h (act := actCountRead) ((guarded_kept_two hz hr).trans ((if_neg ?_).trans ?_)),
      fun p2 t hdest hfail hwrite => command_done q h (act := actCountRead) ((guarded_kept_two hz hr).trans ((if_neg ?_).trans ?_))⟩⟩
  · simpa using hdest
  · rw [hwrite]
  · simpa using hdest
  · rw [hwrite]
    cases t with
    | ok => exact absurd rfl hfail
    | _ => rfl

theorem windowIsSet : Claim.WindowIsSet := by
  rintro p q c f p1 b n w z0 r0 s0 t0 v0 h rfl rfl rfl rfl rfl rfl rfl rfl
  exact ⟨fun hz => command_done q h (act := actTiWindow) (guarded_broken hz),
    fun hz hr => command_done q h (act := actTiWindow) (guarded_second hz hr),
    fun hz hr hs => command_done q h (act := actTiWindow) (guarded_third hz hr hs),
    fun hz hr hs ht => command_done q h (act := actTiWindow) (guarded_fourth hz hr hs ht),
    fun hz hr hs ht hv => command_done q h (act := actTiWindow) (guarded_fifth hz hr hs ht hv),
    fun hz hr hs ht hv => command_done q h (act := actTiWindow) (guarded_kept_five hz hr hs ht hv)⟩

theorem countStartTakesEffect : Claim.CountStartTakesEffect := by
  rintro p q n c m t b0 halive rfl rfl rfl
  refine ⟨fun hnone => inIsland_next halive ?_, fun hstart => ⟨fun hearly => inIsland_next halive ?_,
    fun hdue hmode => inIsland_next halive ?_, fun hdue hone htwo => inIsland_next halive ?_⟩⟩
  all_goals dsimp only
  · rw [hnone]
  all_goals rw [hstart]
  · exact when_neg (by simpa using hearly)
  · have hwaits : ((p.slot n).setting.mode == 1 || (p.slot n).setting.mode == 2) = true := by simpa using hmode
    refine (when_pos (decide_eq_true hdue)).trans ?_
    simp only [hwaits, if_true]
  · have hwaits : ((p.slot n).setting.mode == 1 || (p.slot n).setting.mode == 2) = false := by simp [hone, htwo]
    refine (when_pos (decide_eq_true hdue)).trans ?_
    simp only [hwaits, Bool.false_eq_true, if_false]

/-- Settles O42: the rules of the COUNT commands, and the start that takes effect. -/
theorem counterCommands : Obligations.CounterCommands :=
  ⟨countStartArmsASlot, countStopSetsTheEnd, countReadReturnsTheLatest, windowIsSet, countStartTakesEffect⟩

end Sys2Proof.Machine

/-! Counter slots: gates, the ordering stage, ends, and result records (R262 to R291). -/

namespace Sys2Proof.Machine

/-! ### Gates -/

theorem gateOpensAtItsBoundary : Claim.GateOpensAtItsBoundary := by
  rintro p seq b c d rfl
  refine ⟨fun hcont hgates => if_pos ?_, fun hopen => ?_⟩
  · simp [mayOpen, hcont, hgates]
  · have hmay : mayOpen c seq = true := by simpa [mayOpen] using hopen
    rw [openGate, if_neg (by simp [hmay])]
    refine ⟨rfl, _, rfl, rfl, rfl, rfl, rfl, fun hmode => ?_, fun hmode => ?_⟩
    · simp [hmode]
    · simp [hmode]

theorem earliestStampIsReleased : Claim.EarliestStampIsReleased := by
  rintro p q n c halive rfl
  refine ⟨fun hnone => inIsland_next halive ?_, fun s r hsome => ⟨fun hstarted htap hclose => inIsland_next halive ?_,
    fun hnot => inIsland_next halive ?_⟩⟩
  all_goals dsimp only
  · rw [hnone]
  · rw [hsome]
    exact when_pos (by simp [hstarted, htap, hclose])
  · rw [hsome]
    refine when_neg ?_
    obtain h | h | h := hnot <;> simp [h]

/-! ### The ordering stage -/

/-- A stamp enters an ordered list in order. -/
theorem insertBy_sorted {α : Type} {before : α → α → Bool} {time : α → T16} (hbefore : ∀ a b, before a b = true → time a ≤ time b)
    (hafter : ∀ a b, before a b = false → time b ≤ time a) (a : α) {l : List α} (h : l.Pairwise fun a b => time a ≤ time b) :
    (insertBy before a l).Pairwise fun a b => time a ≤ time b := by
  induction l with
  | nil => exact List.pairwise_singleton _ _
  | cons b l ih =>
    obtain ⟨hb, hl⟩ := List.pairwise_cons.mp h
    unfold insertBy
    split
    case isTrue hab =>
      refine List.pairwise_cons.mpr ⟨fun x hx => ?_, h⟩
      obtain rfl | hx := List.mem_cons.mp hx
      · exact hbefore a x hab
      · exact (hbefore a b hab).trans (hb x hx)
    case isFalse hab =>
      refine List.pairwise_cons.mpr ⟨fun x hx => ?_, ih hl⟩
      obtain rfl | hx := List.mem_cons.mp ((insertBy_perm before a l).mem_iff.mp hx)
      · exact hafter x b (Bool.eq_false_iff.mpr hab)
      · exact hb x hx

theorem stampBefore_le {c : CountSlot} {a b : Stamp} (h : stampBefore c a b = true) : a.time ≤ b.time := by
  simp only [stampBefore, Bool.or_eq_true, Bool.and_eq_true, decide_eq_true_eq] at h
  exact h.elim le_of_lt fun h => h.1.le

theorem le_of_not_stampBefore {c : CountSlot} {a b : Stamp} (h : stampBefore c a b = false) : b.time ≤ a.time := by
  simp only [stampBefore, Bool.or_eq_false_iff, decide_eq_false_iff_not] at h
  exact not_lt.mp h.1

theorem orderingStageKeepsOrder : Claim.OrderingStageKeepsOrder := fun c s l h =>
  have hperm := insertBy_perm (stampBefore c) s l
  ⟨insertBy_sorted (time := Stamp.time) (fun _ _ => stampBefore_le) (fun _ _ => le_of_not_stampBefore) s h, hperm.length_eq,
    fun _ => hperm.mem_iff.trans List.mem_cons⟩

/-! ### Closing -/

/-- The oldest gate closes now: its end stamp has come, or the released order has reached its end before the slot's own. -/
def closesNow (p : Piece) (c : CountSlot) : Bool :=
  !c.gates.isEmpty && ((c.setting.single && (c.gates.headD {}).endTaken) ||
    match timedClose c with
    | some b => (match c.ending with | some (t, _, _) => decide (b ≤ T16.ofTick t) | none => true) && orderReached p c b
    | none => false)

/-- The end of a gate in fs / 65,536. -/
def gateEnd (g : Gate) : Int :=
  match g.b1 with
  | some b => fine b
  | none => 0

/-- A slot ends once the released order has reached its end tick. -/
def endsSlot (n : Nat) (p : Piece) : Piece :=
  match (p.slot n).ending with
  | some (t, cause, loss) => when (orderReached p (p.slot n) (T16.ofTick t)) (closeAtEnd n t cause loss) p
  | none => p

theorem execGateClose_next {p t : Piece} {q : List Instr} {n : Fin 32} (halive : islandDead p 0x20 = false)
    (h : (if (p.slot n).state != .running then p
      else if closesNow p (p.slot n) then
        afterClose n ((p.slot n).gates.headD {}).seq (closeOldest n false 0
          (onSlot n (decideOpenings (gateEnd ((p.slot n).gates.headD {}))) p))
      else endsSlot n p) = t) : exec (.gateClose n) ⟨p, q⟩ = .next ⟨t, q⟩ :=
  inIsland_next halive h

theorem closesNow_iff (p : Piece) (c : CountSlot) : closesNow p c = true ↔
    c.gates ≠ [] ∧ ((c.setting.single = true ∧ (c.gates.headD {}).endTaken = true) ∨ ∃ b, timedClose c = some b ∧ orderReached p c b = true ∧
      ∀ t x y, c.ending = some (t, x, y) → b ≤ T16.ofTick t) := by
  unfold closesNow
  cases timedClose c with
  | none => simp
  | some b =>
    cases hend : c.ending with
    | none => simp
    | some e =>
      obtain ⟨t, x, y⟩ := e
      simp [and_comm]

theorem gateCloses : Claim.GateCloses := by
  rintro p q n c g cl halive rfl rfl hcl
  have hcloses : closesNow p (p.slot n) = cl := Bool.eq_iff_iff.mpr ((closesNow_iff p _).trans hcl.symm)
  refine ⟨fun hstate => execGateClose_next halive (if_pos (by simpa using hstate)), fun hrun =>
    ⟨fun upTo htrue hupTo => execGateClose_next halive ?_, fun hfalse hend => execGateClose_next halive ?_,
      fun t x y hfalse hend => execGateClose_next halive ?_⟩⟩
  all_goals
    have hruns : ¬ ((p.slot n).state != .running) = true := by simp [hrun]
  · have hend : gateEnd ((p.slot n).gates.headD {}) = upTo := by
      unfold gateEnd
      cases hb : ((p.slot n).gates.headD {}).b1 with
      | none => exact (hupTo.2 hb).symm
      | some b => exact (hupTo.1 b hb).symm
    exact (if_neg hruns).trans ((if_pos (hcloses.trans htrue)).trans (by rw [hend]))
  · refine (if_neg hruns).trans ((if_neg (by rw [hcloses, hfalse]; exact Bool.false_ne_true)).trans ?_)
    rw [endsSlot, hend]
  · refine (if_neg hruns).trans ((if_neg (by rw [hcloses, hfalse]; exact Bool.false_ne_true)).trans ?_)
    rw [endsSlot, hend]
    dsimp only
    cases orderReached p (p.slot n) (T16.ofTick t) <;> rfl

theorem earlierEndHolds : Claim.EarlierEndHolds := by
  intro c
  refine ⟨fun hs hl => ?_, fun s hs hl => ?_, fun s t x hs hl hle => ?_, fun s t x hs hl hlt => ?_, fun t x hs hl => ?_⟩
  · simp [CountSlot.ending, hs, hl]
  · simp [CountSlot.ending, hs, hl]
  · simp [CountSlot.ending, hs, hl, hle]
  · simp [CountSlot.ending, hs, hl, hlt]
  · simp [CountSlot.ending, hs, hl]

/-! ### Records -/

theorem resultIsIssuedInItsTurn : Claim.ResultIsIssuedInItsTurn := by
  intro p p0 q halive hp0
  refine ⟨fun hnone => inIsland_next halive ?_, fun r l hsome => ⟨fun hfree => inIsland_next halive ?_,
    fun t hissued hearly => inIsland_next halive ?_⟩⟩
  all_goals
    rw [← hp0]
    dsimp only
  · rw [hnone]
  · rw [hsome]
    refine when_pos ?_
    cases hissued : p0.tally.issuedAt with
    | none => rfl
    | some t => exact decide_eq_true (hfree t hissued)
  · rw [hsome, hissued]
    exact when_neg (by simpa using hearly)

theorem recordBytes_length (slot f n v a d l g : Nat) (r : CountResult) (st : Bool) : (recordBytes slot r f n v a d l g st).length = 128 := by
  unfold recordBytes labelBytes
  simp only [List.length_append, leBytes_length, zeros_length]

theorem recordHas128Bytes : Claim.RecordHas128Bytes := by
  intro slot f n v a d l g r st
  have hlen := recordBytes_length slot f n v a d l g r st
  refine ⟨hlen, ?_, fun x => ?_⟩
  · unfold recordBytes
    simp only [List.append_assoc]
    exact (u_leBytes_append _ _ _).trans (by norm_num)
  · simp [hlen]

theorem lateRecordIsCounted : Claim.LateRecordIsCounted := by
  rintro p p' n bs st rfl hn
  refine ⟨fun hdue => ?_, fun hlate => ?_⟩
  · rw [pushRecord, if_neg (not_lt.mpr hdue)]
    exact ⟨rfl, rfl, rfl⟩
  · rw [pushRecord, if_pos hlate]
    have hslot : (countLost n p).slot n = { p.slot n with lost := sat32 (p.slot n).lost 1, lostSince := sat32 (p.slot n).lostSince 1 } :=
      nth_upd_self _ _ hn
    rw [hslot]
    exact ⟨rfl, rfl, rfl, rfl⟩

theorem missingRecordsAreCounted : Claim.MissingRecordsAreCounted := by
  refine fun s c => ⟨fun hnone => ?_, fun prev hprev hlt hseq => ?_⟩
  · simp [noteSeq, hnone]
  · simp only [noteSeq, hprev]
    norm_num at hlt hseq ⊢
    omega

/-- Settles O43: gates, the ordering stage, the end of a slot, and the records. -/
theorem counter : Obligations.Counter :=
  ⟨gateOpensAtItsBoundary, earliestStampIsReleased, orderingStageKeepsOrder, gateCloses, earlierEndHolds, resultIsIssuedInItsTurn,
    recordHas128Bytes, lateRecordIsCounted, missingRecordsAreCounted⟩

end Sys2Proof.Machine

/-! GYTHEN: the kernel commands, bundles, faults, posts, fetches, ports and firmware kernels (R332 to R350, R371, R372, R486). -/

namespace Sys2Proof.Machine

/-! ### The kernel commands -/

theorem kernelLoadWritesTheImage : Claim.KernelLoadWritesTheImage := by
  rintro p q c f p1 b cs n z0 r0 s0 t0 h rfl rfl rfl rfl rfl rfl rfl
  refine ⟨fun hz => command_done q h (act := actKernelLoad) (guarded_broken hz),
    fun hz hr => command_done q h (act := actKernelLoad) (guarded_second hz hr),
    fun hz hr hs => command_done q h (act := actKernelLoad) (guarded_third hz hr hs),
    fun hz hr hs ht => command_done q h (act := actKernelLoad) (guarded_fourth hz hr hs ht), fun hz hr hs ht => ?_⟩
  refine ⟨fun t hread => command_done q h (act := actKernelLoad) ((guarded_kept_four hz hr hs ht).trans (withTable_error hread)),
    fun d hread hcode => command_done q h (act := actKernelLoad) ((guarded_kept_four hz hr hs ht).trans ((withTable_ok hread).trans
      (guarded_broken hcode))),
    fun d hread hcode hbad => command_done q h (act := actKernelLoad) ((guarded_kept_four hz hr hs ht).trans ((withTable_ok hread).trans
      (guarded_second hcode hbad))),
    fun d t hread hcode hgood hread' => command_done q h (act := actKernelLoad) ((guarded_kept_four hz hr hs ht).trans
      ((withTable_ok hread).trans ((guarded_kept_two hcode hgood).trans (withTable_error hread')))),
    fun d i hread hcode hgood hread' hcheck => command_done q h (act := actKernelLoad) ((guarded_kept_four hz hr hs ht).trans
      ((withTable_ok hread).trans ((guarded_kept_two hcode hgood).trans ((withTable_ok hread').trans (guarded_broken hcheck))))),
    fun d i hread hcode hgood hread' hcheck => command_done q h (act := actKernelLoad) ((guarded_kept_four hz hr hs ht).trans
      ((withTable_ok hread).trans ((guarded_kept_two hcode hgood).trans ((withTable_ok hread').trans (guarded_kept hcheck)))))⟩

theorem kernelStartRunsTheNamed : Claim.KernelStartRunsTheNamed := by
  rintro p q c f p1 b cs t a z0 r0 s0 t0 h rfl rfl rfl rfl rfl rfl rfl rfl
  exact ⟨fun hz => command_done q h (act := actKernelStart) (guarded_broken hz),
    fun hz hr => command_done q h (act := actKernelStart) (guarded_second hz hr),
    fun hz hr hs => command_done q h (act := actKernelStart) (guarded_third hz hr hs),
    fun hz hr hs ht => command_done q h (act := actKernelStart) (guarded_fourth hz hr hs ht),
    fun hz hr hs ht => command_done q h (act := actKernelStart) (guarded_kept_four hz hr hs ht)⟩

theorem kernelStopStopsTheNamed : Claim.KernelStopStopsTheNamed := by
  rintro p q c f p1 b cs s z0 r0 s0 h rfl rfl rfl rfl rfl rfl
  exact ⟨fun hz => command_done q h (act := actKernelStop) (guarded_broken hz),
    fun hz hr => command_done q h (act := actKernelStop) (guarded_second hz hr),
    fun hz hr hs => command_done q h (act := actKernelStop) (guarded_third hz hr hs),
    fun hz hr hs => command_done q h (act := actKernelStop) (guarded_kept_three hz hr hs)⟩

/-! ### Bundles and faults -/

theorem coreIssuesItsBundle : Claim.CoreIssuesItsBundle := by
  rintro p q k c w halive rfl rfl
  refine ⟨fun hnot => inIsland_next halive (when_neg hnot), fun hissues => ?_⟩
  have hexec : ∀ {t : Piece}, issueBundle k p = t → exec (.gythenBundle k) ⟨p, q⟩ = .next ⟨t, q⟩ :=
    fun h => inIsland_next halive ((when_pos hissues).trans h)
  refine ⟨fun herr => hexec (if_pos herr), fun hok hpc => hexec ((if_neg (by simp [hok])).trans (if_pos hpc)), fun hok hpc => ?_⟩
  have hdecodes : ¬ (ageLate (p.core k)).memErr = true ∧ ¬ (ageLate (p.core k)).codeLen ≤ (ageLate (p.core k)).pc :=
    ⟨by simp [hok], not_le.mpr hpc⟩
  refine ⟨fun cause addr hfault => hexec ((if_neg hdecodes.1).trans ((if_neg hdecodes.2).trans ?_)), fun sx sy f hdecode =>
    ⟨fun hstalls => hexec ((if_neg hdecodes.1).trans ((if_neg hdecodes.2).trans ?_)),
      fun hgoes => ⟨_, rfl, hexec ((if_neg hdecodes.1).trans ((if_neg hdecodes.2).trans ?_))⟩⟩⟩
  all_goals dsimp only
  · rw [hfault]
  · rw [hdecode]
    exact if_pos hstalls
  · rw [hdecode]
    exact if_neg (Bool.eq_false_iff.mp hgoes)

theorem onCore_eq_const (k : Nat) (f : Core → Core) (p : Piece) : onCore k f p = onCore k (fun _ => f (p.core k)) p := by
  simp only [onCore]
  rw [upd_eq_const]
  rfl

/-- Two changes that agree on the core itself. -/
theorem onCore_congr {k : Nat} {f g : Core → Core} {p : Piece} (h : f (p.core k) = g (p.core k)) : onCore k f p = onCore k g p :=
  (onCore_eq_const k f p).trans ((congrArg (fun c => onCore k (fun _ => c) p) h).trans (onCore_eq_const k g p).symm)

theorem onCore_core_self (f : Core → Core) (p : Piece) {k : Nat} (h : k < p.gythen.cores.length) :
    (onCore k f p).core k = f (p.core k) :=
  nth_upd_self p.gythen.cores f h

theorem onCore_core_ne (f : Core → Core) (p : Piece) {k j : Nat} (h : j ≠ k) : (onCore k f p).core j = p.core j :=
  nth_upd_ne p.gythen.cores f (Ne.symm h)

theorem faultStopsTheCore : Claim.FaultStopsTheCore := by
  rintro p p' k cause addr c rfl rfl hk
  exact ⟨onCore_core_self _ p hk, fun j hj => onCore_core_ne _ p hj, _, rfl, rfl, rfl, rfl⟩

/-! ### Posts, fetches and ports -/

theorem postsDrainBeforeDone : Claim.PostsDrainBeforeDone := by
  rintro p p0 q k c r halive rfl rfl
  refine ⟨fun hrun hhalted hempty => inIsland_next halive (when_pos ?_), fun hnot => inIsland_next halive (when_neg ?_),
    fun hempty => inIsland_next halive ?_, fun x v hqueue => inIsland_next halive ?_, fun ch d hqueue => inIsland_next halive ?_⟩
  · simp [hrun, hhalted, hempty]
  · obtain h | h | h := hnot <;> simp [h]
  · rw [hempty]
  · dsimp only
    rw [hqueue]
    rfl
  · dsimp only
    rw [hqueue]

theorem fetchIsIssuedAndLands : Claim.FetchIsIssuedAndLands := by
  rintro p q k c halive rfl
  refine ⟨fun hnot => inIsland_next halive (when_neg ?_), fun cause addr hrun hgoes hfault => inIsland_next halive ((when_pos ?_).trans ?_),
    fun hrun hgoes hfine hfull => inIsland_next halive ((when_pos ?_).trans ?_),
    fun hrun hgoes hfine hfree => inIsland_next halive ((when_pos ?_).trans ?_),
    fun hnone => inIsland_next halive ?_, fun f r hsome => inIsland_next halive ?_, fun hcount => if_pos (by simpa using hcount)⟩
  · obtain h | h := hnot <;> simp [h]
  · simp [hrun, hgoes]
  · rw [hfault]
  · simp [hrun, hgoes]
  · rw [hfine]
    exact if_pos hfull
  · simp [hrun, hgoes]
  · rw [hfine]
    dsimp only
    rw [issueFetch, if_neg (not_le.mpr hfree)]
    exact onCore_congr rfl
  · rw [hnone]
  · rw [hsome]

theorem portsAreReadAsStated : Claim.PortsAreReadAsStated := by
  rintro p q k c halive rfl
  refine ⟨fun hrun => inIsland_next halive (when_pos ?_), fun hnot => inIsland_next halive (when_neg ?_),
    fun hrun hgoes hfw => inIsland_next halive ((when_pos ?_).trans (if_pos hfw)),
    fun hrun hgoes huser => inIsland_next halive ((when_pos ?_).trans (if_neg (by simp [huser]))),
    fun hnot => inIsland_next halive (when_neg ?_)⟩
  · simp [hrun]
  · simpa using hnot
  · simp [hrun, hgoes]
  · simp [hrun, hgoes]
  · obtain h | h := hnot <;> simp [h]

theorem nth_map {α β : Type} [Inhabited α] [Inhabited β] {l : List α} (f : α → β) {i : Nat} (h : i < l.length) :
    nth (l.map f) i = f (nth l i) := by
  simp [nth, List.getD_eq_getElem?_getD, h]

/-- A core with a firmware kernel goes to IDLE with no image; any other stays. -/
def haltFirmware (c : Core) : Core :=
  if c.firmware then
    { c with state := .idle, firmware := false, image := none, halted := false, stamps := [], popped := 0, lastPc := c.pc }
  else c

theorem firmwareKernelsHalt : Claim.FirmwareKernelsHalt := by
  refine fun p q => ⟨fun hnone => effect_next (when_neg (by simp [hnone])), fun hsome =>
    ⟨{ p with gythen := { idleSince := none, cores := p.gythen.cores.map haltFirmware } },
      effect_next (when_pos (Option.isSome_iff_ne_none.mpr hsome)), rfl, rfl, fun k hk => ?_⟩⟩
  have hcore : nth (p.gythen.cores.map haltFirmware) k = haltFirmware (p.core k) := nth_map haltFirmware hk
  refine ⟨fun huser => hcore.trans (if_neg (by simp [huser])), fun hfw => ?_⟩
  simp only [Piece.core] at hcore hfw ⊢
  rw [hcore, haltFirmware, if_pos hfw]
  exact ⟨rfl, rfl, rfl, rfl⟩

/-- Settles O44: the kernel commands, what a core does at a bundle, and its posts, fetches and ports. -/
theorem gythenCores : Obligations.GythenCores :=
  ⟨kernelLoadWritesTheImage, kernelStartRunsTheNamed, kernelStopStopsTheNamed, coreIssuesItsBundle, faultStopsTheCore,
    postsDrainBeforeDone, fetchIsIssuedAndLands, portsAreReadAsStated, firmwareKernelsHalt⟩

end Sys2Proof.Machine

/-! Gythen instructions: flow, loops, scalar and vector operations, accumulators, addresses and late writes (R336 to R372). -/

namespace Sys2Proof.Machine

/-! ### Flow and loops -/

theorem endCheck_zero (pc : Nat) (c : Core) : endCheck pc 0 c = c := rfl

theorem flowMovesThePc : Claim.FlowMovesThePc := by
  intro pc c
  refine ⟨fun hnone => ?_, fun t => ⟨rfl, rfl, rfl, fun l hl => ?_⟩, rfl, rfl, rfl, fun e hnone => ?_, fun hnone => ?_, fun stop hnone => ?_⟩
  · simp only [follow, hnone, List.length_nil, endCheck_zero]
  · have hkept := List.mem_takeWhile_imp hl
    simpa using hkept
  · simp [follow, hnone, endCheck_zero, wrap32]
  · simp [follow, hnone, endCheck_zero, sat32]
  · simp [follow, hnone, endCheck_zero]

theorem loopEndRepeatsOrCloses : Claim.LoopEndRepeatsOrCloses := by
  intro pc d c hstop hd
  refine ⟨fun hmore => ?_, fun hlast hd0 => ?_, fun _ e hother => if_pos (by simpa using hother)⟩
  · exact (if_neg (by simp [hstop])).trans (if_pos hmore)
  · subst hd0
    exact (if_neg (by simp [hstop])).trans (if_neg (not_lt.mpr hlast))

/-! ### Scalar operations -/

/-- The flags Z, N, C and V over the sticky bits. -/
theorem bitAt_flags (F : Nat) (z n c v : Bool) :
    bitAt (F / 16 * 16 + (flag z 0 + flag n 1 + flag c 2 + flag v 3)) 0 = z ∧
    bitAt (F / 16 * 16 + (flag z 0 + flag n 1 + flag c 2 + flag v 3)) 1 = n ∧
    bitAt (F / 16 * 16 + (flag z 0 + flag n 1 + flag c 2 + flag v 3)) 2 = c ∧
    bitAt (F / 16 * 16 + (flag z 0 + flag n 1 + flag c 2 + flag v 3)) 3 = v ∧
    (F / 16 * 16 + (flag z 0 + flag n 1 + flag c 2 + flag v 3)) / 16 = F / 16 := by
  cases z <;> cases n <;> cases c <;> cases v <;> simp [flag, bitAt] <;> omega

theorem nth_put_self {α : Type} [Inhabited α] {l : List α} {i : Nat} {a : α} (h : i < l.length) : nth (put l i a) i = a := by
  simp [nth_put, h]

theorem nth_put_ne {α : Type} [Inhabited α] {l : List α} {i j : Nat} {a : α} (h : j ≠ i) : nth (put l i a) j = nth l j := by
  simp [nth_put, Ne.symm h]

/-- An operation that writes one register and sets the flags of its result. -/
theorem setFlags_writeS (e : Core) {d r : Nat} (carry v : Bool) (hd : d < e.s.length) (hr : r < 2 ^ 32) :
    nth (setFlags (flagsOf r carry v) (writeS d r e)).s d = r ∧
    (bitAt (setFlags (flagsOf r carry v) (writeS d r e)).flags 0 = true ↔ r = 0) ∧
    bitAt (setFlags (flagsOf r carry v) (writeS d r e)).flags 1 = bitAt r 31 ∧
    bitAt (setFlags (flagsOf r carry v) (writeS d r e)).flags 2 = carry ∧
    bitAt (setFlags (flagsOf r carry v) (writeS d r e)).flags 3 = v ∧
    (setFlags (flagsOf r carry v) (writeS d r e)).flags / 16 = e.flags / 16 := by
  obtain ⟨hz, hn, hc, hv, hsticky⟩ := bitAt_flags e.flags (r == 0) (bitAt r 31) carry v
  have hwritten : nth (put e.s d (r % 2 ^ 32)) d = r := by rw [nth_put_self hd, Nat.mod_eq_of_lt hr]
  refine ⟨hwritten, ?_, hn, hc, hv, hsticky⟩
  exact (Bool.eq_iff_iff.mp hz).trans beq_iff_eq

/-- ADD and SUB write the sum or difference and its flags. -/
theorem alu_addSub (c : Core) (d a b : Nat) (sub : Bool) : ∃ z : SlotEffect, alu d a b (if sub then 1 else 0) c = .ok z ∧
    z.writes = [.s d] ∧ z.uses = [.s a, .s b] ∧ ∀ e, z.act e =
      setFlags (flagsOf (addSub sub (nth c.s a) (nth c.s b)).1 (addSub sub (nth c.s a) (nth c.s b)).2.2
        (over32 (addSub sub (nth c.s a) (nth c.s b)).2.1)) (writeS d (addSub sub (nth c.s a) (nth c.s b)).1 e) := by
  obtain ⟨r, t, carry, hsum⟩ : ∃ r t carry, addSub sub (nth c.s a) (nth c.s b) = (r, t, carry) := ⟨_, _, _, rfl⟩
  rw [hsum]
  cases sub
  · simp [alu, hsum, sticky]
  · simp [alu, hsum, sticky]

theorem addSub_lt (sub : Bool) (x y : Nat) : (addSub sub x y).1 < 2 ^ 32 := by
  cases sub <;> exact Nat.mod_lt _ (Nat.two_pow_pos 32)

theorem over32_iff (t : Int) : over32 t = true ↔ satW 32 t ≠ t := by
  simp [over32]

theorem addAndSubtractSetTheFlags : Claim.AddAndSubtractSetTheFlags := by
  rintro c e d a b x y r t sub rfl rfl hx hy hd hr ht
  obtain ⟨z, hz, hwrites, huses, hact⟩ := alu_addSub c d a b sub
  have hparts : addSub sub (nth c.s a) (nth c.s b) = (r, t, if sub then decide (nth c.s b ≤ nth c.s a)
      else decide (2 ^ 32 ≤ nth c.s a + nth c.s b)) := by
    cases sub <;> simp only [addSub, hr, ht, if_true, Bool.false_eq_true, if_false]
  have hlt : r < 2 ^ 32 := by simpa only [hparts] using addSub_lt sub (nth c.s a) (nth c.s b)
  rw [hparts] at hact
  obtain ⟨hs, hzero, hn, hc, hv, hsticky⟩ := setFlags_writeS e (if sub then decide (nth c.s b ≤ nth c.s a)
      else decide (2 ^ 32 ≤ nth c.s a + nth c.s b)) (over32 t) hd hlt
  refine ⟨z, hz, hwrites, huses, ?_⟩
  rw [hact]
  refine ⟨hs, hzero, hn, (Bool.eq_iff_iff.mp hc).trans ?_, (Bool.eq_iff_iff.mp hv).trans (over32_iff t), hsticky, rfl, rfl, rfl,
    fun j hj => nth_put_ne hj⟩
  cases sub <;> simp only [if_true, Bool.false_eq_true, if_false, decide_eq_true_eq]

theorem logicShiftsAndProducts : Claim.LogicShiftsAndProducts := by
  rintro c e d a b x y fn r rfl rfl hd hfn
  have hflags : ∀ r, (setFlags (flagsOf r false false) (writeS d r e)).flags / 16 = e.flags / 16 := fun r =>
    (bitAt_flags e.flags (r == 0) (bitAt r 31) false false).2.2.2.2
  obtain ⟨rfl, rfl⟩ | ⟨rfl, rfl⟩ | ⟨rfl, rfl⟩ | ⟨rfl, rfl⟩ | ⟨rfl, rfl⟩ | ⟨rfl, rfl⟩ | ⟨rfl, rfl⟩ | ⟨rfl, rfl⟩ | ⟨rfl, rfl⟩ | ⟨rfl, rfl⟩ := hfn
  iterate 3 exact ⟨_, rfl, rfl, nth_put_self hd, fun j hj => nth_put_ne hj, rfl, rfl, rfl, hflags _⟩
  all_goals exact ⟨_, rfl, rfl, nth_put_self hd, fun j hj => nth_put_ne hj, rfl, rfl, rfl, rfl⟩

/-! ### Vector operations -/

theorem vectorWritesSaturateOrWrap : Claim.VectorWritesSaturateOrWrap := by
  intro w d ls c hd
  have hsticky : ∀ on, (sticky srSatv on { c with v := put c.v d (pack w (ls.map (satW w))) }) =
      { c with v := put c.v d (pack w (ls.map (satW w))), flags := if on then c.flags ||| 0x20 else c.flags } := fun on => by
    cases on <;> rfl
  rw [writeSat, hsticky]
  refine ⟨nth_put_self hd, nth_put_self hd, rfl, fun hin => if_neg ?_, fun x hx hout => if_pos ?_, rfl, rfl, fun j hj => nth_put_ne hj⟩
  · simpa using hin
  · simpa using ⟨x, hx, hout⟩

theorem field_zero_of_low {x m lo w : Nat} (h : field x 0 m = 0) (hle : lo + w ≤ m) : field x lo w = 0 := by
  simp only [field, pow_zero, Nat.div_one] at h ⊢
  refine Nat.mod_eq_zero_of_dvd ((Nat.dvd_div_iff_mul_dvd ((pow_dvd_pow 2 (by omega)).trans (Nat.dvd_of_mod_eq_zero h))).mpr ?_)
  rw [← pow_add]
  exact (pow_dvd_pow 2 hle).trans (Nat.dvd_of_mod_eq_zero h)

/-- The bits of a field that is zero. -/
theorem field_high_zero {x : Nat} (h : field x 20 5 = 0) : field x 20 4 = 0 ∧ bitAt x 24 = false := by
  simp only [field, bitAt, beq_eq_false_iff_ne] at h ⊢
  omega

theorem vectorOperationsActOnLanes : Claim.VectorOperationsActOnLanes := by
  rintro x w c l rfl hlow hop
  have hres : field x 0 5 = 0 := field_zero_of_low hlow (by norm_num)
  have hn : field x 10 2 = 0 := field_zero_of_low hlow (by norm_num)
  have hk : field x 5 5 = 0 := field_zero_of_low hlow (by norm_num)
  obtain ⟨hop, rfl⟩ | ⟨hop, rfl⟩ | ⟨hop, hf, rfl⟩ | ⟨hop, hf, rfl⟩ := hop
  · simp [slotX, hop, hres, hn, hk, vector2]
  · simp [slotX, hop, hres, hn, hk, vector2]
  · simp [slotX, hop, hres, hn, hk, vector2, hf]
  · simp [slotX, hop, hres, hn, hk, vector2, hf]

theorem macAccumulates : Claim.MacAccumulates := by
  rintro x w n c rfl rfl hop hlow hhigh
  have hres : field x 0 5 = 0 := field_zero_of_low hlow (by norm_num)
  have hk : field x 5 5 = 0 := field_zero_of_low hlow (by norm_num)
  obtain ⟨hd, hf⟩ := field_high_zero hhigh
  refine ⟨fun htag => ?_, fun htag => ?_⟩
  · simp [slotX, hop, hres, hk, hd, hf, htag]
  · simp [slotX, hop, hres, hk, hd, hf, htag, illegal]

/-! ### Addresses and late writes -/

/-- The address in the buffer of `len` bytes from `b`. -/
theorem circularAddress_value (a t : Int) (b : Nat) {len : Nat} (hpos : 0 < len) (htop : b + len ≤ 2 ^ 32) :
    b ≤ twos 32 (b + (a + t - b) % len) ∧ twos 32 (b + (a + t - b) % len) < b + len ∧
      (Int.ofNat (twos 32 (b + (a + t - b) % len)) - (a + t)) % Int.ofNat len = 0 := by
  have hlen : (0 : Int) < len := by exact_mod_cast hpos
  have hge := Int.emod_nonneg (a + t - b) hlen.ne'
  have hlt := Int.emod_lt_of_pos (a + t - b) hlen
  have hfits : ((b : Int) + (a + t - b) % len) % (2 ^ 32 : Nat) = b + (a + t - b) % len :=
    Int.emod_eq_of_lt (by omega) (by omega)
  have hcast : ((twos 32 (b + (a + t - b) % len) : Nat) : Int) = b + (a + t - b) % len := by
    rw [twos, hfits]
    omega
  refine ⟨by omega, by omega, ?_⟩
  rw [Int.ofNat_eq_natCast, hcast]
  have hsub : (b : Int) + (a + t - b) % len - (a + t) = (a + t - b) % len - (a + t - b) := by ring
  rw [hsub]
  simp

theorem updateAddress_circular {c : Core} {n : Nat} (t : Int) (hpos : 0 < nth c.l n) (hle : nth c.l n ≤ 0x100000) :
    ∃ e, updateAddress n t c = some e ∧
      e.a = put c.a n (twos 32 (((nth c.b n : Nat) : Int) + (((nth c.a n : Nat) : Int) + t - (nth c.b n : Nat)) % (nth c.l n : Nat))) := by
  have hsome : (nth c.l n == 0) = false := by simpa using hpos.ne'
  simp only [updateAddress, hsome, Bool.false_eq_true, if_false, if_neg (not_lt.mpr hle)]
  split
  · split
    · exact ⟨_, rfl, rfl⟩
    · exact ⟨_, rfl, rfl⟩
  · exact ⟨_, rfl, rfl⟩

theorem circularAddressStaysInside : Claim.CircularAddressStaysInside := by
  intro n t c hn
  refine ⟨fun hzero => ⟨_, if_pos (by simp [hzero]), nth_put_self hn⟩,
    fun hbig => (if_neg (by simp; omega)).trans (if_pos hbig), fun hpos hle htop => ?_⟩
  obtain ⟨e, he, hea⟩ := updateAddress_circular t hpos hle
  obtain ⟨hlow, hhigh, hturns⟩ := circularAddress_value ((nth c.a n : Nat) : Int) t (nth c.b n) hpos htop
  refine ⟨e, he, ?_⟩
  rw [hea, nth_put_self hn]
  exact ⟨hlow, hhigh, hturns⟩

theorem lateWriteIsSeenByTheSecondBundle : Claim.LateWriteIsSeenByTheSecondBundle := by
  intro n v c hlate hn
  have hfirst : ageLate (later (.o n) v c) = { c with late := [{ reg := .o n, value := v, waits := false }] } := by
    simp [ageLate, later, hlate]
  have hsecond : ageLate { c with late := [{ reg := .o n, value := v, waits := false }] } = { c with late := [], o := put c.o n v } := by
    simp [ageLate, applyLate]
  rw [hfirst, hsecond]
  exact ⟨rfl, nth_put_self hn, rfl⟩

/-- Settles O45: flow and loops, the scalar and vector operations, addresses and late writes. -/
theorem gythenInstructions : Obligations.GythenInstructions :=
  ⟨flowMovesThePc, loopEndRepeatsOrCloses, addAndSubtractSetTheFlags, logicShiftsAndProducts, vectorWritesSaturateOrWrap,
    vectorOperationsActOnLanes, macAccumulates, circularAddressStaysInside, lateWriteIsSeenByTheSecondBundle⟩

end Sys2Proof.Machine

/-! Calibration: policy, runs, start-up repeats and the steps of the full run (R231, R315 to R328, R517, R518). -/

namespace Sys2Proof.Machine

/-! ### The commands -/

theorem policyIsSetWithItsOverride : Claim.PolicyIsSetWithItsOverride := by
  rintro p q c f p1 b a o z e p2 z0 r0 h rfl rfl rfl rfl rfl rfl rfl rfl
  refine ⟨fun hz => command_done q h (act := actCalPolicy) (guarded_broken hz),
    fun hz hr => command_done q h (act := actCalPolicy) (guarded_second hz hr), fun hz hr => ?_⟩
  refine ⟨fun hnone => command_done q h (act := actCalPolicy) ((guarded_kept_two hz hr).trans (if_pos ?_)),
    fun t hovr hread => command_done q h (act := actCalPolicy) ((guarded_kept_two hz hr).trans ((if_neg ?_).trans (withTable_error hread))),
    fun d hovr hinterp hread => command_done q h (act := actCalPolicy) ((guarded_kept_two hz hr).trans ((if_neg ?_).trans
      ((withTable_ok hread).trans (if_pos hinterp)))),
    fun d hovr hslice hread hbad => command_done q h (act := actCalPolicy) ((guarded_kept_two hz hr).trans ((if_neg ?_).trans
      ((withTable_ok hread).trans ((if_neg (Bool.eq_false_iff.mp hslice)).trans (if_pos ?_))))),
    fun d hovr hslice hread hgood => command_done q h (act := actCalPolicy) ((guarded_kept_two hz hr).trans ((if_neg ?_).trans
      ((withTable_ok hread).trans ((if_neg (Bool.eq_false_iff.mp hslice)).trans (if_neg ?_)))))⟩
  · simp [hnone]
  · simp [hovr]
  · simp [hovr]
  · simp [hovr]
  · simpa using hbad
  · simp [hovr]
  · simpa using hgood

theorem calRunStartsOrChangesMode : Claim.CalRunStartsOrChangesMode := by
  rintro p q c f p1 b z0 r0 s0 h rfl rfl rfl rfl
  refine ⟨fun hz => command_done q h (act := actCalRun) (guarded_broken hz),
    fun hz hr => command_done q h (act := actCalRun) (guarded_second hz hr),
    fun hz hr hs => command_done q h (act := actCalRun) (guarded_third hz hr hs), fun hz hr hs =>
    ⟨fun p2 hfull hp2 => command_waits q h (act := actCalRun) ((guarded_kept_three hz hr hs).trans ?_),
      fun m hm => command_done q h (act := actCalRun) ((guarded_kept_three hz hr hs).trans ?_)⟩⟩
  · subst hp2
    exact if_pos (beq_iff_eq.mpr hfull)
  · obtain ⟨ha, rfl⟩ | ⟨ha, rfl⟩ | ⟨ha, rfl⟩ := hm <;> rw [ha] <;> rfl

theorem calStatusReports : Claim.CalStatusReports := by
  rintro p q c f p1 z0 h rfl
  exact ⟨fun hz => command_done q h (act := actCalStatus) (guarded_broken hz),
    fun hz => command_done q h (act := actCalStatus) (guarded_kept hz)⟩

/-! ### The full run -/

theorem dueRunStartsWhenIdle : Claim.DueRunStartsWhenIdle := by
  rintro p p2 q due rfl rfl
  refine ⟨fun hdue hrun hidle => effect_next (when_pos ?_), fun hnot => effect_next (when_neg ?_)⟩
  · simp [hrun, hidle, hdue]
  · obtain h | h | h := hnot <;> simp [h]

theorem endVisit_cal (k : Nat) (cal : Bool) (p : Piece) : (endVisit k cal p).cal = p.cal := by
  unfold endVisit
  dsimp only
  split <;> rfl

theorem faultInterp_cal (k n : Nat) (p : Piece) : (faultInterp k n p).cal = p.cal := by
  unfold faultInterp
  dsimp only
  split
  · rfl
  · exact (when_same (·.cal) _ (coverInput k n) _ rfl).trans (endVisit_cal k true _)

theorem faultSpare_cal (k : Nat) (p : Piece) : (faultSpare k p).cal = p.cal :=
  endVisit_cal k false p

theorem failSlice_cal (i s : Nat) (p : Piece) : (failSlice i s p).cal = p.cal :=
  (when_same (·.cal) _ _ _ rfl).trans (when_same (·.cal) _ _ _ rfl)

theorem loseInput_cal (n : Nat) (p : Piece) : (loseInput n p).cal = p.cal := rfl

theorem retireRow_cal (e : Element) (p : Piece) : (retireRow e p).cal = p.cal :=
  when_same (·.cal) _ _ p (by simp)

theorem retireInterp_cal (k n : Nat) (p : Piece) : (retireInterp k n p).cal = p.cal := by
  unfold retireInterp
  dsimp only
  split
  · refine (foldl_same (·.cal) _ (fun p j => when_same (·.cal) _ _ p (loseInput_cal _ p)) _ _).trans ?_
    simp
  · split
    · rfl
    · split
      · exact endVisit_cal k true _
      · exact loseInput_cal _ _

theorem retireSlice_cal (i j : Nat) (p : Piece) : (retireSlice i j p).cal = p.cal :=
  when_same (·.cal) _ _ _ (by simp)

theorem retireComp_cal (source c : Nat) (p : Piece) : (retireComp source c p).cal = p.cal :=
  when_same (·.cal) _ _ _ (by simp [loseInput_cal])

theorem loseElement_cal (e : Element) (p : Piece) : (loseElement e p).cal = p.cal := by
  unfold loseElement
  split
  · exact retireRow_cal e p
  · exact retireInterp_cal _ _ p
  · exact retireSlice_cal _ _ p
  · exact retireComp_cal _ _ p
  · rfl

theorem retireElement_cal (e : Element) (p : Piece) : (retireElement e p).cal = p.cal := by
  unfold retireElement
  split
  · rfl
  · exact (loseElement_cal _ _).trans (by simp)

theorem detectError_cal (e : Element) (p : Piece) : (detectError e p).cal = p.cal := by
  unfold detectError
  split
  · rfl
  split
  · rfl
  split
  · exact retireElement_cal e p
  split
  · rfl
  · rfl

theorem coverFailed_cal (e : Element) (p : Piece) : (coverFailed e p).cal = p.cal := by
  unfold coverFailed
  split
  · split
    · exact faultSpare_cal _ _
    · exact faultInterp_cal _ _ _
  · exact failSlice_cal _ _ _
  · rfl
  · rfl

/-- The failures of a run are handed on without a change of the calibration. -/
theorem failures_cal (es : List Element) (p : Piece) : (es.foldl (fun p e => detectError e (coverFailed e p)) p).cal = p.cal :=
  foldl_same (·.cal) _ (fun p e => (detectError_cal e _).trans (coverFailed_cal e p)) es p

theorem judgeStartup_startup {p : Piece} (h : p.cal.mode = .startup) : judgeStartup p =
    if apart (dieTemp p) p.cal.beganTemp ≤ p.cal.deltaT then onCal (fun c => { c with startupRuns := c.startupRuns + 1 }) p
    else if p.cal.startupRuns + 1 < 3 then onCal (fun c => { c with startupRuns := c.startupRuns + 1, startDue := true }) p
    else raiseAlarm 0x0900 0x16 0 (onCal (fun c => { c with startupRuns := c.startupRuns + 1, unstable := true }) p) :=
  if_neg (by simp [h])

/-- What the end of a run in STARTUP may change of the calibration. -/
theorem judgeStartup_cal (p : Piece) : ∃ runs due unstable, (judgeStartup p).cal =
    { p.cal with startupRuns := runs, startDue := due, unstable := unstable } := by
  by_cases h : p.cal.mode = .startup
  · rw [judgeStartup_startup h]
    split
    · exact ⟨_, _, _, rfl⟩
    · split
      · exact ⟨_, _, _, rfl⟩
      · refine ⟨p.cal.startupRuns + 1, p.cal.startDue, true, ?_⟩
        simp
  · rw [judgeStartup, if_pos (by simpa using h)]
    exact ⟨_, _, _, rfl⟩

theorem fullRunEnds : Claim.FullRunEnds := by
  intro p q o
  have hexec : ∀ {t : Piece}, exec (.fullCalEnd o) ⟨p, q⟩ = .next ⟨t, q⟩ ↔ execFullCalEnd o ⟨p, q⟩ = .next ⟨t, q⟩ := .rfl
  have hticks : fullTicks = 1200 * ticksPerMs := rfl
  refine ⟨fun hnot => hexec.mpr ?_, fun hrun hdue => ⟨_, hexec.mpr (effect_next (when_pos ?_)), ?_⟩⟩
  · unfold execFullCalEnd
    refine effect_next (when_neg ?_)
    rw [hticks]
    obtain h | h := hnot
    · simp [h]
    · simp [not_le.mpr h]
  · rw [hticks]
    simp [hrun, hdue]
  · obtain ⟨runs, due, unstable, hjudge⟩ := judgeStartup_cal _
    simp only [finishAllWaiting_frame, calEvent, raiseEvent]
    rw [hjudge, failures_cal]
    exact ⟨rfl, rfl, rfl, rfl, rfl, rfl, rfl, rfl, rfl⟩

theorem startupRepeatsUpToTheThird : Claim.StartupRepeatsUpToTheThird := by
  rintro p p' d rfl rfl
  refine ⟨fun hmode => if_pos (by simpa using hmode), fun hmode => ?_⟩
  rw [judgeStartup_startup hmode]
  refine ⟨?_, fun hnear => if_pos hnear, fun hfar hfew => ?_, fun hfar hmany => ?_⟩
  · split
    · rfl
    · split
      · rfl
      · simp
  · rw [if_neg (not_le.mpr hfar), if_pos (by omega)]
    exact ⟨rfl, rfl⟩
  · rw [if_neg (not_le.mpr hfar), if_neg (by omega)]
    simp

/-! ### Comparators and steps -/

/-- The first of the elements with the least key. -/
def leastBy {α : Type} (key : α → Nat) (l : List α) (best : Option α) : Option α :=
  l.foldl (fun best a => match best with
    | some b => if key a < key b then some a else some b
    | none => some a) best

theorem leastBy_from {α : Type} {key : α → Nat} {l : List α} {b : α} :
    ∃ a, leastBy key l (some b) = some a ∧ (a = b ∨ a ∈ l) ∧ key a ≤ key b ∧ ∀ d ∈ l, key a ≤ key d := by
  induction l generalizing b with
  | nil => exact ⟨b, rfl, .inl rfl, le_rfl, by simp⟩
  | cons x l ih =>
    by_cases hx : key x < key b
    · obtain ⟨a, ha, hin, hle, hall⟩ := ih (b := x)
      refine ⟨a, by simpa [leastBy, hx] using ha, .inr (by simpa using hin), hle.trans hx.le, fun d hd => ?_⟩
      obtain rfl | hd := List.mem_cons.mp hd
      · exact hle
      · exact hall d hd
    · obtain ⟨a, ha, hin, hle, hall⟩ := ih (b := b)
      refine ⟨a, by simpa [leastBy, hx] using ha, hin.imp_right (List.mem_cons_of_mem x), hle, fun d hd => ?_⟩
      obtain rfl | hd := List.mem_cons.mp hd
      · exact hle.trans (not_lt.mp hx)
      · exact hall d hd

theorem leastBy_none {α : Type} {key : α → Nat} {l : List α} (h : leastBy key l none = none) : l = [] := by
  cases l with
  | nil => rfl
  | cons x l =>
    obtain ⟨a, ha, -⟩ := leastBy_from (key := key) (l := l) (b := x)
    exact absurd (ha.symm.trans h) (Option.some_ne_none a)

theorem leastBy_some {α : Type} {key : α → Nat} {l : List α} {c : α} (h : leastBy key l none = some c) :
    c ∈ l ∧ ∀ d ∈ l, key c ≤ key d := by
  cases l with
  | nil => exact absurd h.symm (Option.some_ne_none c)
  | cons x l =>
    obtain ⟨a, ha, hin, hle, hall⟩ := leastBy_from (key := key) (l := l) (b := x)
    obtain rfl : a = c := Option.some.inj (ha.symm.trans h)
    exact ⟨List.mem_cons.mpr hin, fun d hd => (List.mem_cons.mp hd).elim (fun h => h ▸ hle) (hall d)⟩

theorem selectComp_eq (o : CalOutcome) (n ret : Nat) : selectComp o n ret = leastBy (fun c => (o.comps.getD (4 * n + c) (0, 0)).1)
    ((List.range 4).filter fun c => !bitAt ret c && decide ((o.comps.getD (4 * n + c) (0, 0)).2.natAbs ≤ 1000)) none := by
  unfold selectComp leastBy
  exact List.foldl_ext _ _ _ fun best c _ => by cases best <;> rfl

theorem comparatorIsSelected : Claim.ComparatorIsSelected := by
  rintro o n ret m fit rfl hfit
  have hmem : ∀ c, c ∈ ((List.range 4).filter fun c => !bitAt ret c && decide ((o.comps.getD (4 * n + c) (0, 0)).2.natAbs ≤ 1000)) ↔ fit c :=
    fun c => by simp [hfit]
  rw [selectComp_eq]
  refine ⟨fun c hc => ?_, fun hnone c hc => ?_⟩
  · obtain ⟨hin, hleast⟩ := leastBy_some hc
    exact ⟨(hmem c).mp hin, fun d hd => hleast d ((hmem d).mpr hd)⟩
  · exact List.ne_nil_of_mem ((hmem c).mpr hc) (leastBy_none hnone)

theorem fullStepsFollowTheirTimes : Claim.FullStepsFollowTheirTimes := by
  refine fun p ms => ⟨fun hnot => by simp [fullStep, hnot], fun hrun hms => ?_⟩
  have hstep : fullStep p = if ms < 50 then 1 else if ms < 450 then 2 else if ms < 650 then 3 else if ms < 900 then 4
      else if ms < 1100 then 5 else 6 := by
    subst hms
    exact if_neg (by simp [hrun])
  rw [hstep]
  clear hms hstep
  split_ifs <;> omega

/-- Settles O47: the commands, the full run from its start to its end, the comparators and the steps. -/
theorem calibration : Obligations.Calibration :=
  ⟨policyIsSetWithItsOverride, calRunStartsOrChangesMode, calStatusReports, dueRunStartsWhenIdle, fullRunEnds, comparatorIsSelected,
    startupRepeatsUpToTheThird, fullStepsFollowTheirTimes⟩

end Sys2Proof.Machine

/-! Streams, chains, rings, doorbells, VDIF coding and the checking units (R507 to R551). -/

namespace Sys2Proof.Machine

/-! ### The commands -/

theorem streamOpenOpensAChannel : Claim.StreamOpenOpensAChannel := by
  rintro p q c f p1 b ch fl o z0 r0 s0 h rfl rfl rfl rfl rfl rfl rfl
  exact ⟨fun hz => command_done q h (act := actStreamOpen) (guarded_broken hz),
    fun hz hr => command_done q h (act := actStreamOpen) (guarded_second hz hr),
    fun hz hr hs => command_done q h (act := actStreamOpen) (guarded_third hz hr hs),
    fun hz hr hs => command_done q h (act := actStreamOpen) (guarded_kept_three hz hr hs)⟩

/-- The last of the rules of a channel follows from those before it. -/
theorem ownedRule_kept {closed own more : Bool} (hr : (closed || (own && more)) = false) (hs : (!own) = false) : more = false := by
  cases closed <;> cases own <;> cases more <;> simp_all

theorem chainSetStartsAChain : Claim.ChainSetStartsAChain := by
  rintro p q c f p1 b ch a o m z0 r0 s0 h rfl rfl rfl rfl rfl rfl rfl rfl
  exact ⟨fun hz => command_done q h (act := actChainSet) (guarded_broken hz),
    fun hz hr => command_done q h (act := actChainSet) (guarded_second hz hr),
    fun hz hr hs => command_done q h (act := actChainSet) (guarded_third hz hr hs),
    fun hz hr hs => command_done q h (act := actChainSet) (guarded_kept_four hz hr hs (ownedRule_kept hr hs))⟩

theorem ringSetStartsOrStagesARing : Claim.RingSetStartsOrStagesARing := by
  rintro p q c f p1 b ch len a k o new same z0 r0 s0 h rfl rfl rfl rfl rfl rfl rfl rfl rfl rfl rfl
  refine ⟨fun hz => command_done q h (act := actRingSet) (guarded_broken hz),
    fun hz hr => command_done q h (act := actRingSet) (guarded_second hz hr),
    fun hz hr hs => command_done q h (act := actRingSet) (guarded_third hz hr hs), fun hz hr hs => ?_⟩
  have hmore := ownedRule_kept hr hs
  exact ⟨fun hlen => command_done q h (act := actRingSet) ((guarded_kept_four hz hr hs hmore).trans (if_pos hlen)),
    fun hlen hsame => command_done q h (act := actRingSet) ((guarded_kept_four hz hr hs hmore).trans
      ((if_neg (Bool.eq_false_iff.mp hlen)).trans (if_pos hsame))),
    fun hlen hnew => command_done q h (act := actRingSet) ((guarded_kept_four hz hr hs hmore).trans
      ((if_neg (Bool.eq_false_iff.mp hlen)).trans (if_neg (Bool.eq_false_iff.mp hnew))))⟩

theorem streamCloseClosesAChannel : Claim.StreamCloseClosesAChannel := by
  rintro p q c f p1 b ch o z0 r0 s0 h rfl rfl rfl rfl rfl rfl
  exact ⟨fun hz => command_done q h (act := actStreamClose) (guarded_broken hz),
    fun hz hr => command_done q h (act := actStreamClose) (guarded_second hz hr),
    fun hz hr hs => command_done q h (act := actStreamClose) (guarded_third hz hr hs),
    fun hz hr hs => command_done q h (act := actStreamClose) (guarded_kept_four hz hr hs rfl)⟩

theorem checkScanStartsOrReplaces : Claim.CheckScanStartsOrReplaces := by
  rintro p q c f p1 b i s x old z0 r0 s0 h rfl rfl rfl rfl rfl rfl rfl rfl
  refine ⟨fun hz => command_done q h (act := actCheckScan) (guarded_broken hz),
    fun hz hr => command_done q h (act := actCheckScan) (guarded_second hz hr),
    fun hz hr hs => command_done q h (act := actCheckScan) (guarded_third hz hr hs), fun hz hr hs =>
    ⟨fun hscans => command_waits q h (act := actCheckScan) ((guarded_kept_three hz hr hs).trans (if_pos hscans)),
      fun v hidle hempty hv => command_done q h (act := actCheckScan) ((guarded_kept_three hz hr hs).trans
        ((if_neg (Bool.eq_false_iff.mp hidle)).trans ((if_pos hempty).trans ?_))),
      fun hidle hsome => command_waits q h (act := actCheckScan) ((guarded_kept_three hz hr hs).trans
        ((if_neg (Bool.eq_false_iff.mp hidle)).trans (if_neg (Bool.eq_false_iff.mp hsome))))⟩⟩
  subst hv
  rfl

/-! ### Chains -/

/-- A descriptor that is carried out whole. -/
theorem runDescriptor_ok {ch : Nat} {b d : Bytes} {x : Answer} {e : Option Nat} {p : Piece} (hok : descriptorOk p.dmc b = true)
    (hread : sourceBytes p b x = .ok d) (hgoes : u b 16 4 = 0 ∨ (isDevice (u b 8 8) = true ∧ dmcRefuses p.dmc = false) ∨
      (isDevice (u b 8 8) = false ∧ p.hostif.linkUp = true)) :
    runDescriptor ch b x e p = onStream ch (fun c => { c with
      bytes := (c.bytes + u b 16 4) % 2 ^ 64, running := checkFrom (p.streamCh ch).alg (chainStart (p.streamCh ch) b) d, first := false
      atLink := true, linkIssued := true, extendPending := false })
      (writeBack (p.streamCh ch).desc 0 0 (checkFrom (p.streamCh ch).alg (chainStart (p.streamCh ch) b) d)
        ((p.streamCh ch).alg != 0) (moveBytes b d p)) := by
  unfold runDescriptor
  refine (if_neg (by simp [hok])).trans ?_
  rw [hread]
  refine (if_neg ?_).trans ((if_neg ?_).trans rfl)
  · obtain h | ⟨h, h'⟩ | ⟨h, h'⟩ := hgoes <;> simp [*]
  · obtain h | ⟨h, h'⟩ | ⟨h, h'⟩ := hgoes <;> simp [*]

theorem descriptorIsCarriedOut : Claim.DescriptorIsCarriedOut := by
  rintro p q ch a x e c rfl
  refine ⟨fun hnot => effect_next (when_neg ?_), fun hrun hsource hlink => ?_⟩
  · obtain h | h | h := hnot <;> simp [h]
  · have hgoes : ((p.streamCh ch).state == .running && !(p.streamCh ch).source && !(p.streamCh ch).atLink) = true := by
      simp [hrun, hsource, hlink]
    refine ⟨fun t hread => effect_next ((when_pos hgoes).trans ?_), fun b hread => ⟨fun hbad => effect_next ((when_pos hgoes).trans ?_),
      fun d v hok hsrc hcarry hv => effect_next ((when_pos hgoes).trans ?_)⟩⟩
    · rw [hread]
    · rw [hread]
      exact if_pos (by simp [hbad])
    · rw [hread]
      subst hv
      exact runDescriptor_ok hok hsrc hcarry

theorem failedTransferHaltsTheChannel : Claim.FailedTransferHaltsTheChannel := by
  rintro p ch b d x e off c rfl hok
  refine ⟨fun hread hsome hdevice hrefuses hoff => ?_, fun t hread hoff hgoes => ?_, fun k _ => rfl⟩
  · subst hoff
    unfold runDescriptor
    refine (if_neg (by simp [hok])).trans ?_
    rw [hread]
    exact if_pos (by simp [hsome, hdevice, hrefuses])
  · subst hoff
    unfold runDescriptor
    refine (if_neg (by simp [hok])).trans ?_
    rw [hread]
    have hmoves : ¬ (isDevice (u b 8 8) && dmcRefuses p.dmc && lineOffset (u b 0 8) (min e (u b 16 4)) == 0) = true := by
      obtain h | h | h := hgoes <;> simp [h]
    simp only [Option.getD_some, if_neg hmoves]

theorem checkStartsOrContinues : Claim.CheckStartsOrContinues := by
  refine fun c b => ⟨fun hcont hfirst => if_pos (by simp [hcont, hfirst]), fun hnew hplain => (if_neg ?_).trans (if_neg (by simp [hplain])),
    fun hnew hfolded => (if_neg ?_).trans ((if_pos hfolded).trans ?_)⟩
  · obtain h | h := hnew <;> simp [h]
  · obtain h | h := hnew <;> simp [h]
  · rfl

theorem linkIsFollowedOrParks : Claim.LinkIsFollowedOrParks := by
  rintro p q ch a c rfl
  refine ⟨fun hnot => effect_next (when_neg ?_), fun hstate hlink hissued => ?_⟩
  · obtain ⟨h, h'⟩ | h | h := hnot <;> simp [*]
  · have hgoes : (((p.streamCh ch).state == .running || (p.streamCh ch).state == .parked) && (p.streamCh ch).atLink &&
        (p.streamCh ch).linkIssued) = true := by
      obtain h | h := hstate <;> simp [h, hlink, hissued]
    refine ⟨fun t hread => effect_next ((when_pos hgoes).trans ?_), fun w hread hfollow => effect_next ((when_pos hgoes).trans ?_),
      fun w hread hend hpending => effect_next ((when_pos hgoes).trans ?_),
      fun w hread hend hquiet => effect_next ((when_pos hgoes).trans ?_)⟩
    · rw [hread]
    · rw [hread]
      exact if_pos (by simp [hfollow])
    · rw [hread]
      exact (if_neg (by simp [hend])).trans (if_pos hpending)
    · rw [hread]
      exact (if_neg (by simp [hend])).trans (if_neg (by simp [hquiet]))

theorem doorbellIsNeverLost : Claim.DoorbellIsNeverLost := by
  rintro p q ch c rfl
  refine ⟨fun hnot => effect_next (if_pos ?_), fun hsource hlink hissued => effect_next ((if_neg ?_).trans (if_pos hissued)),
    fun hsource hlink hissued hparked => effect_next ((if_neg ?_).trans ((if_neg (by simp [hissued])).trans (if_pos (by simp [hparked])))),
    fun hsource hlink hissued hruns => effect_next ((if_neg ?_).trans ((if_neg (by simp [hissued])).trans (if_neg (by simpa using hruns))))⟩
  · obtain h | h := hnot <;> simp [h]
  all_goals simp [hsource, hlink]

/-! ### Rings -/

theorem recordReachesItsChannel : Claim.RecordReachesItsChannel := by
  rintro p p1 q i r c b rfl rfl
  have hexec : ∀ {t}, exec (.sourceRecordArrive b) ⟨p, q⟩ = .next ⟨t, q⟩ ↔ execSourceRecordArrive ⟨p, q⟩ b = .next ⟨t, q⟩ := .rfl
  refine ⟨fun hnone => hexec.mpr ?_, fun harrives => ⟨fun hclosed => hexec.mpr ?_, fun hopen hchain => hexec.mpr ?_,
    fun hopen hsource hvdif => hexec.mpr ?_, fun hopen hsource hring => hexec.mpr ?_⟩, rfl, fun hraw => ?_, fun hraw hnone => ?_,
    fun hraw hrate => ?_⟩
  · unfold execSourceRecordArrive
    refine effect_next ?_
    rw [hnone]
  · unfold execSourceRecordArrive
    refine effect_next ?_
    rw [harrives]
    exact if_pos (beq_iff_eq.mpr hclosed)
  · unfold execSourceRecordArrive
    refine effect_next ?_
    rw [harrives]
    exact (if_neg (beq_iff_eq.not.mpr hopen)).trans (if_pos (congrArg (!·) hchain))
  · unfold execSourceRecordArrive
    refine effect_next ?_
    rw [harrives]
    refine (if_neg (beq_iff_eq.not.mpr hopen)).trans ((if_neg ?_).trans (if_pos hvdif))
    exact fun h => Bool.false_ne_true ((congrArg (!·) hsource).symm.trans h)
  · unfold execSourceRecordArrive
    refine effect_next ?_
    rw [harrives]
    refine (if_neg (beq_iff_eq.not.mpr hopen)).trans ((if_neg ?_).trans (if_neg (Bool.eq_false_iff.mp hring)))
    exact fun h => Bool.false_ne_true ((congrArg (!·) hsource).symm.trans h)
  · simp [pathIsFull, hraw]
  · simp [pathIsFull, hraw, hnone]
  · simp [pathIsFull, hraw, not_lt.mpr hrate]

theorem flushRing_blocked {k ch : Nat} {p : Piece} (h : ringBlocked p (p.streamCh ch) = true) : flushRing k ch p = p := by
  cases k with
  | zero => rfl
  | succ k => exact if_pos h

/-- With nothing staged and nothing lost there is nothing to write. -/
theorem flushRing_idle {ch : Nat} {p : Piece} (hstaging : (p.streamCh ch).staging = []) (hlost : (p.streamCh ch).lost = 0) :
    flushRing ((p.streamCh ch).staging.length + 1) ch p = p := by
  by_cases hblocked : ringBlocked p (p.streamCh ch) = true
  · exact flushRing_blocked hblocked
  · refine (if_neg hblocked).trans ?_
    rw [hstaging]
    exact if_neg (by simp [hlost])

theorem blockedRingDropsWholeEntries : Claim.BlockedRingDropsWholeEntries := by
  rintro p ch i c rfl hblocked
  have hflush : when (!p.stream.pathFull) (flushRing ((p.streamCh ch).staging.length + 1) ch) p = p := by
    cases p.stream.pathFull
    · exact flushRing_blocked hblocked
    · rfl
  unfold enterRing
  dsimp only
  rw [hflush]
  exact if_pos (by simp [hblocked])

theorem entryIsWrittenStagedOrDropped : Claim.EntryIsWrittenStagedOrDropped := by
  rintro p ch i c rfl hgoes hstaging hlost
  have hflush : when (!p.stream.pathFull) (flushRing ((p.streamCh ch).staging.length + 1) ch) p = p := by
    cases p.stream.pathFull
    · exact flushRing_idle hstaging hlost
    · rfl
  have henters : enterRing ch i p = if !p.stream.pathFull && (p.streamCh ch).staging.isEmpty && entryFits p (p.streamCh ch) i then
      writeEntry ch i p else stageEntry ch i p := by
    unfold enterRing
    dsimp only
    rw [hflush]
    exact if_neg (by simp [hgoes, hlost])
  have hstages : p.stream.pathFull = true ∨ entryFits p (p.streamCh ch) i = false → enterRing ch i p =
      if (entryBytes (p.streamCh ch) i).length ≤ 131072 then onStream ch (fun c => { c with staging := c.staging ++ [i] }) p
      else dropEntry ch p := fun hnot => by
    rw [henters, if_neg (by obtain h | h := hnot <;> simp [h])]
    simp [stageEntry, stagedBytes, hstaging]
  refine ⟨fun hfree hfits => ?_, fun hnot hroom => ?_, fun hnot hlarge => ?_⟩
  · rw [henters]
    exact if_pos (by simp [hfree, hfits, hstaging])
  · exact (hstages hnot).trans (if_pos hroom)
  · exact (hstages hnot).trans (if_neg (not_le.mpr hlarge))

/-- The header and record of a framed entry, before its padding. -/
def framed (c : StreamChannel) (i : StreamItem) : Bytes :=
  leBytes 4 c.entrySeq ++ leBytes 1 i.kind ++ [0xFF] ++ leBytes 1 i.panelType ++ leBytes 1 i.inst ++ leBytes 4 i.record.length ++
    leBytes 4 0 ++ i.record

theorem framed_length (c : StreamChannel) (i : StreamItem) : (framed c i).length = 16 + i.record.length := by
  simp only [framed, List.length_append, leBytes_length, List.length_singleton]

theorem entryBytes_framed {c : StreamChannel} {i : StreamItem} (h : i.kind ≠ 0) (h' : i.kind ≠ 256) :
    entryBytes c i = padTo 16 (framed c i) :=
  if_neg (by simp [h, h'])

theorem entryIsFramed : Claim.EntryIsFramed := by
  refine fun c i => ⟨fun hraw => if_pos (by simpa using hraw), fun h h' => ?_⟩
  have hlen := framed_length c i
  rw [entryBytes_framed h h']
  refine ⟨?_, ?_, ?_, ?_⟩
  · rw [length_padTo]
    omega
  · rw [length_padTo]
    omega
  · rw [length_padTo]
    omega
  · rw [padTo, List.take_append_of_le_length hlen.ge, List.take_of_length_le hlen.le]
    rfl

theorem ringWrapsAtItsEnd : Claim.RingWrapsAtItsEnd := fun _ _ =>
  ⟨fun hinside => if_pos hinside, fun hend => if_neg (not_lt.mpr hend)⟩

theorem consumerIsReread : Claim.ConsumerIsReread := by
  intro p q ch a p1 hp1
  have hexec : exec (.ringConsumerReread ch a) ⟨p, q⟩ = .next ⟨flushRing ((p1.streamCh ch).staging.length + 1) ch p1, q⟩ := by
    subst hp1
    show execRingConsumerReread ch a ⟨p, q⟩ = _
    unfold execRingConsumerReread
    exact effect_next rfl
  exact ⟨hexec, fun hstaging hlost => by rw [hexec, flushRing_idle hstaging hlost]⟩

/-! ### VDIF -/

theorem satW_range (w : Nat) (x : Int) : -(2 ^ (w - 1)) ≤ satW w x ∧ satW w x ≤ 2 ^ (w - 1) - 1 := by
  have hpos : (0 : Int) < 2 ^ (w - 1) := by positivity
  simp only [satW]
  omega

theorem vdifCodesSamples : Claim.VdifCodesSamples := by
  rintro seed x t rfl
  refine ⟨fun hbits ht => ?_, fun hbits => ?_, fun hbits hlow hhigh => ?_⟩
  · have hcode : vdifCode seed x = if x < -((field seed 32 16 : Nat) : Int) then 0 else if x < 0 then 1
        else if x < ((field seed 32 16 : Nat) : Int) then 2 else 3 := by
      simp only [vdifCode, vdifBits, hbits]
      rfl
    rw [hcode]
    clear hcode
    generalize ((field seed 32 16 : Nat) : Int) = t at *
    refine ⟨?_, ?_, fun hneg habove => ?_, fun hpos hbelow => ?_⟩
    · split_ifs <;> simp <;> omega
    · split_ifs <;> simp <;> omega
    · split_ifs <;> omega
    · split_ifs <;> omega
  · have hcode : vdifCode seed x = (satW 8 (rnd x (field seed 24 8)) + 128).toNat := by
      simp only [vdifCode, vdifBits, hbits]
      rfl
    obtain ⟨hlow, hhigh⟩ := satW_range 8 (rnd x (field seed 24 8))
    norm_num at hlow hhigh
    exact ⟨hcode, by rw [hcode]; omega⟩
  · simp only [vdifCode, vdifBits, hbits, twos]
    norm_num
    omega

theorem vdifTakesOneStream : Claim.VdifTakesOneStream := by
  rintro p ch i c p1 rfl rfl
  refine ⟨fun hkind => if_pos (by simpa using hkind), fun v hkind hv hother => (if_neg (by simp [hkind])).trans ?_,
    fun hkind hnone hnot => (if_neg (by simp [hkind])).trans ?_⟩
  · rw [hv]
    refine if_neg ?_
    obtain h | h | h := hother <;> simp [h]
  · rw [hnone]
    cases hrate : framesPerSecond (p.streamCh ch) i with
    | none => rfl
    | some f =>
      obtain h | h := hnot
      · exact absurd (hrate.symm.trans h) (Option.some_ne_none f)
      · exact if_neg (by simp [h])

/-! ### Checking units -/

theorem passRecordsItsValue : Claim.PassRecordsItsValue := by
  rintro p q n a x rfl
  have hexec : ∀ {t : Piece}, exec (.checkScanPassDone n a) ⟨p, q⟩ = .next ⟨t, q⟩ ↔ execCheckScanPassDone n a ⟨p, q⟩ = .next ⟨t, q⟩ := .rfl
  refine ⟨fun hnot => hexec.mpr ?_, fun s hscan hruns => ⟨fun d v hread hv => hexec.mpr ?_, fun t hread => hexec.mpr ?_⟩⟩
  all_goals
    unfold execCheckScanPassDone
    refine effect_next ?_
    dsimp only
  · cases hscan : (nth p.check.units n).scan with
    | none => rfl
    | some s => exact when_neg (hnot.resolve_left (by simp [hscan]))
  · subst hv
    rw [hscan]
    refine (when_pos hruns).trans ?_
    rw [hread]
    rfl
  · rw [hscan]
    refine (when_pos hruns).trans ?_
    rw [hread]

theorem mismatchIsCountedAndLatched : Claim.MismatchIsCountedAndLatched := by
  rintro p p1 i s v bad rfl rfl
  unfold recordScan
  cases s.compare && v != s.expected <;> rfl

theorem periodicUnitWaitsItsPeriod : Claim.PeriodicUnitWaitsItsPeriod := by
  intro p i s go hnone
  refine ⟨fun hperiodic hgo => ?_, fun hnot => ?_⟩
  · rw [afterPass, hnone]
    exact if_pos (by simp [hperiodic, hgo])
  · rw [afterPass, hnone]
    exact if_neg (by obtain h | h := hnot <;> simp [h])

theorem periodicPassStarts : Claim.PeriodicPassStarts := by
  rintro p q n x rfl
  have hexec : ∀ {t : Piece}, exec (.checkPeriodicStart n) ⟨p, q⟩ = .next ⟨t, q⟩ ↔ execCheckPeriodicStart n ⟨p, q⟩ = .next ⟨t, q⟩ := .rfl
  refine ⟨fun hnone => hexec.mpr ?_, fun s hscan hperiodic hidle hdue => hexec.mpr ?_, fun s hscan hnot => hexec.mpr ?_⟩
  all_goals
    unfold execCheckPeriodicStart
    refine effect_next ?_
    dsimp only
  · rw [hnone]
  · rw [hscan]
    exact when_pos (by simp [hperiodic, hidle, hdue])
  · rw [hscan]
    refine when_neg ?_
    obtain h | h | h := hnot <;> simp [h]

/-- Settles O48: the stream commands, chains, rings and VDIF, and the passes of the checking units. -/
theorem streamsAndChecks : Obligations.StreamsAndChecks :=
  ⟨streamOpenOpensAChannel, chainSetStartsAChain, ringSetStartsOrStagesARing, streamCloseClosesAChannel, checkScanStartsOrReplaces,
    descriptorIsCarriedOut, failedTransferHaltsTheChannel, checkStartsOrContinues, linkIsFollowedOrParks, doorbellIsNeverLost,
    recordReachesItsChannel, blockedRingDropsWholeEntries, entryIsWrittenStagedOrDropped, entryIsFramed, ringWrapsAtItsEnd,
    consumerIsReread, vdifCodesSamples, vdifTakesOneStream, passRecordsItsValue, mismatchIsCountedAndLatched, periodicUnitWaitsItsPeriod,
    periodicPassStarts⟩

end Sys2Proof.Machine

/-! Scanout: modes, training, layers, commits, latching, hot plug and frames (R514 to R516, R577 to R588). -/

namespace Sys2Proof.Machine

/-! ### The commands -/

/-- The mode that begins with EN set trains both ports. -/
theorem beginMode_enabled {m : ScanMode} (p : Piece) (h : m.en = true) : beginMode m p =
    onScan (fun s => { s with mode := m, next := none, stopDue := false, retraining := false, vblank := false, state := .training }) p := by
  simp [beginMode, h]

/-- The mode that begins without EN puts the ports off, and what waits for a mode completes. -/
theorem beginMode_disabled {m : ScanMode} (p : Piece) (h : m.en = false) : beginMode m p = finishAllWaiting .scanMode 0 0 (fun _ => [])
    (onScan (fun s => { s with mode := m, next := none, stopDue := false, retraining := false, vblank := false, state := .off }) p) := by
  simp [beginMode, h, stOk]

theorem scanModeTrainsOrWaits : Claim.ScanModeTrainsOrWaits := by
  rintro p q c f p1 b m z0 r0 s0 h rfl rfl rfl rfl rfl
  refine ⟨fun hz => command_done q h (act := actScanMode) (guarded_broken hz),
    fun hz hr => command_done q h (act := actScanMode) (guarded_second hz hr),
    fun hz hr hs => command_done q h (act := actScanMode) (guarded_third hz hr hs), fun hz hr hs =>
    ⟨fun hrun => command_waits q h (act := actScanMode) ((guarded_kept_three hz hr hs).trans (if_pos hrun)),
      fun hrun hen => command_waits q h (act := actScanMode) ((guarded_kept_three hz hr hs).trans
        ((if_neg (Bool.eq_false_iff.mp hrun)).trans ((if_pos hen).trans ?_))),
      fun hrun hen => command_done q h (act := actScanMode) ((guarded_kept_three hz hr hs).trans
        ((if_neg (Bool.eq_false_iff.mp hrun)).trans ((if_neg (Bool.eq_false_iff.mp hen)).trans ?_)))⟩⟩
  · rw [beginMode_enabled p1 hen]
    rfl
  · rw [beginMode_disabled p1 hen]
    rfl

theorem layerSettingIsHeld : Claim.LayerSettingIsHeld := by
  rintro p q c f p1 b i l z0 r0 h rfl rfl rfl rfl rfl
  exact ⟨fun hz => command_done q h (act := actScanLayer) (guarded_broken hz),
    fun hz hr => command_done q h (act := actScanLayer) (guarded_second hz hr),
    fun hz hr => command_done q h (act := actScanLayer) (guarded_kept_two hz hr)⟩

theorem commitMakesSettingsPending : Claim.CommitMakesSettingsPending := by
  rintro p q c f p1 m z0 r0 h rfl rfl rfl
  exact ⟨fun hz => command_done q h (act := actScanCommit) (guarded_broken hz),
    fun hz hr => command_done q h (act := actScanCommit) (guarded_second hz hr),
    fun hz hr => command_waits q h (act := actScanCommit) (guarded_kept_two hz hr)⟩

/-! ### Training, mode changes and hot plug -/

theorem trainingEnds : Claim.TrainingEnds := by
  rintro p q t rfl
  exact ⟨fun ht ok => effect_next (when_neg ht), fun ht => effect_next (when_pos ht), fun ht => effect_next (when_pos ht)⟩

theorem modeChangesAfterTheFrame : Claim.ModeChangesAfterTheFrame := by
  refine fun p q => ⟨fun hstate => effect_next (when_neg (by simpa using hstate)),
    fun hstate hstop => effect_next ((when_pos (beq_iff_eq.mpr hstate)).trans (if_pos hstop)),
    fun m hstate hstop hnext hen => effect_next ((when_pos (beq_iff_eq.mpr hstate)).trans ((if_neg (Bool.eq_false_iff.mp hstop)).trans ?_)),
    fun m hstate hstop hnext hen => effect_next ((when_pos (beq_iff_eq.mpr hstate)).trans ((if_neg (Bool.eq_false_iff.mp hstop)).trans ?_)),
    fun hstate hstop hnext => effect_next ((when_pos (beq_iff_eq.mpr hstate)).trans ((if_neg (Bool.eq_false_iff.mp hstop)).trans ?_))⟩
  · rw [hnext]
    exact beginMode_enabled p hen
  · rw [hnext]
    exact beginMode_disabled p hen
  · rw [hnext]

theorem beginMode_scan (m : ScanMode) (p : Piece) : (beginMode m p).scan =
    { p.scan with mode := m, next := none, stopDue := false, retraining := false, vblank := false,
                  state := if m.en then .training else .off } := by
  cases hen : m.en
  · rw [beginMode_disabled p hen]
    simp
  · rw [beginMode_enabled p hen]
    simp

theorem modeChangeKeepsLayersAndFrames : Claim.ModeChangeKeepsLayersAndFrames := by
  rintro m p p' rfl
  rw [beginMode_scan]
  exact ⟨rfl, rfl, rfl, rfl, rfl⟩

/-- Whether frames run does not depend on HPD. -/
theorem framesRun_hpd (s : Scanout) (hpd : List Bool) : framesRun { s with hpd := hpd } = framesRun s := rfl

theorem hpdLossStopsThePanel : Claim.HpdLossStopsThePanel := by
  rintro p p1 q k rfl
  have hexec : ∀ {t : Piece}, exec (.hpdLoss k) ⟨p, q⟩ = .next ⟨t, q⟩ ↔ execHpdLoss k ⟨p, q⟩ = .next ⟨t, q⟩ := .rfl
  refine ⟨fun hrun => hexec.mpr ?_, fun hrun htrain => hexec.mpr ?_, fun hrun htrain => hexec.mpr ?_⟩ <;> unfold execHpdLoss <;>
    refine effect_next ?_ <;> dsimp only [onScan] <;> rw [framesRun_hpd, hrun]
  · rfl
  · exact (if_neg Bool.false_ne_true).trans (when_pos (beq_iff_eq.mpr htrain))
  · exact (if_neg Bool.false_ne_true).trans (when_neg (by simpa using htrain))

theorem irqHpdRetrainsALostLink : Claim.IrqHpdRetrainsALostLink := by
  rintro p p1 q k rfl
  exact ⟨fun hrun => effect_next (when_pos (by simpa using hrun)), fun hrun => effect_next (when_neg (by simpa using hrun)),
    effect_next (when_neg rfl)⟩

/-! ### The latch -/

/-- The latch takes the setting of one layer that was committed before it. -/
def takeCommitted (now : Nat) (s : Scanout) (i : Nat) : Scanout :=
  match nth s.pending i with
  | some (l, t) => if t < now then { s with latched := put s.latched i (latchLayer s.mode l), pending := put s.pending i none } else s
  | none => s

theorem takeCommitted_due {now i t : Nat} {s : Scanout} {l : Layer} (h : nth s.pending i = some (l, t)) (ht : t < now) :
    takeCommitted now s i = { s with latched := put s.latched i (latchLayer s.mode l), pending := put s.pending i none } := by
  simp [takeCommitted, h, ht]

theorem takeCommitted_kept {now i : Nat} {s : Scanout} (h : ∀ l t, nth s.pending i = some (l, t) → now ≤ t) :
    takeCommitted now s i = s := by
  cases hx : nth s.pending i with
  | none => simp [takeCommitted, hx]
  | some x => simp [takeCommitted, hx, h x.1 x.2 hx]

/-- A setting is due at its layer, or nothing of the layer is. -/
theorem due_or_kept (now : Nat) (s : Scanout) (i : Nat) :
    (∃ l t, nth s.pending i = some (l, t) ∧ t < now) ∨ ∀ l t, nth s.pending i = some (l, t) → now ≤ t := by
  by_cases h : ∃ l t, nth s.pending i = some (l, t) ∧ t < now
  · exact .inl h
  · exact .inr fun l t hx => not_lt.mp fun ht => h ⟨l, t, hx, ht⟩

/-- Only the latched and the pending settings change, at the one layer. -/
theorem takeCommitted_changes (now : Nat) (s : Scanout) (i : Nat) : ∃ latched pending,
    takeCommitted now s i = { s with latched := latched, pending := pending } ∧ latched.length = s.latched.length ∧
    pending.length = s.pending.length ∧ (∀ j, j ≠ i → nth latched j = nth s.latched j) ∧ ∀ j, j ≠ i → nth pending j = nth s.pending j := by
  obtain ⟨l, t, hx, ht⟩ | hkept := due_or_kept now s i
  · exact ⟨_, _, takeCommitted_due hx ht, put_length _ _ _, put_length _ _ _, fun j hj => nth_put_ne hj, fun j hj => nth_put_ne hj⟩
  · exact ⟨_, _, takeCommitted_kept hkept, rfl, rfl, fun j _ => rfl, fun j _ => rfl⟩

/-- The latch over the first n layers. -/
def takeUpTo (now : Nat) (s : Scanout) (n : Nat) : Scanout := (List.range n).foldl (takeCommitted now) s

theorem takeUpTo_succ (now : Nat) (s : Scanout) (n : Nat) : takeUpTo now s (n + 1) = takeCommitted now (takeUpTo now s n) n := by
  simp [takeUpTo, List.range_succ]

theorem takeUpTo_changes (now : Nat) (s : Scanout) (n : Nat) : ∃ latched pending,
    takeUpTo now s n = { s with latched := latched, pending := pending } ∧ latched.length = s.latched.length ∧
    pending.length = s.pending.length ∧ (∀ j, n ≤ j → nth latched j = nth s.latched j) ∧ ∀ j, n ≤ j → nth pending j = nth s.pending j := by
  induction n with
  | zero => exact ⟨_, _, rfl, rfl, rfl, fun _ _ => rfl, fun _ _ => rfl⟩
  | succ n ih =>
    obtain ⟨l, c, heq, hl, hc, hlat, hpen⟩ := ih
    obtain ⟨l', c', heq', hl', hc', hlat', hpen'⟩ := takeCommitted_changes now (takeUpTo now s n) n
    rw [heq] at heq' hl' hc' hlat' hpen'
    refine ⟨l', c', ?_, hl'.trans hl, hc'.trans hc, fun j hj => ?_, fun j hj => ?_⟩
    · rw [takeUpTo_succ, heq, heq']
    · rw [hlat' j (by omega), hlat j (by omega)]
    · rw [hpen' j (by omega), hpen j (by omega)]

/-- A layer below n is as the latch leaves it alone. -/
theorem takeUpTo_at {now i n : Nat} {s : Scanout} (hin : i < n) (hlat : i < s.latched.length) (hpen : i < s.pending.length) :
    (∀ l t, nth s.pending i = some (l, t) → t < now →
      nth (takeUpTo now s n).latched i = latchLayer s.mode l ∧ nth (takeUpTo now s n).pending i = none) ∧
    ((∀ l t, nth s.pending i = some (l, t) → now ≤ t) →
      nth (takeUpTo now s n).latched i = nth s.latched i ∧ nth (takeUpTo now s n).pending i = nth s.pending i) := by
  induction n with
  | zero => exact absurd hin (Nat.not_lt_zero i)
  | succ n ih =>
    obtain ⟨ls, cs, heq, hl, hc, hlat', hpen'⟩ := takeUpTo_changes now s n
    rw [takeUpTo_succ]
    obtain hlt | rfl := Nat.lt_succ_iff_lt_or_eq.mp hin
    · obtain ⟨ls', cs', heq', _, _, hother, hother'⟩ := takeCommitted_changes now (takeUpTo now s n) n
      rw [heq']
      simp only [hother i hlt.ne, hother' i hlt.ne]
      exact ih hlt
    · rw [heq]
      refine ⟨fun l t hx ht => ?_, fun hkept => ?_⟩
      · rw [takeCommitted_due (l := l) (t := t) ((hpen' i le_rfl).trans hx) ht]
        exact ⟨nth_put_self (hl ▸ hlat), nth_put_self (hc ▸ hpen)⟩
      · rw [takeCommitted_kept fun l t hx => hkept l t ((hpen' i le_rfl).symm.trans hx)]
        exact ⟨hlat' i le_rfl, hpen' i le_rfl⟩

/-- A setting committed before this tick waits for the latch. -/
def commitDue (p : Piece) : Bool := p.scan.pending.any fun x =>
  match x with
  | some (_, t) => decide (t < p.now)
  | none => false

theorem commitDue_iff (p : Piece) : commitDue p = true ↔ ∃ x ∈ p.scan.pending, ∃ l t, x = some (l, t) ∧ t < p.now := by
  simp only [commitDue, List.any_eq_true]
  refine exists_congr fun x => and_congr_right fun _ => ?_
  cases x with
  | none => simp
  | some x => exact ⟨fun ht => ⟨x.1, x.2, rfl, by simpa using ht⟩, by rintro ⟨l, t, heq, ht⟩; cases heq; simpa using ht⟩

/-- The piece at the beginning of blanking: each layer is judged against the mode. -/
def blanked (p : Piece) : Piece := onScan (fun s => { s with vblank := true, latched := s.latched.map (latchLayer s.mode) }) p

/-- The piece with the settings due latched and the flip recorded. -/
def flipped (p : Piece) : Piece :=
  onScan (fun s => { takeUpTo p.now s 4 with flipMint := p.now, flipLabel := p.label, flipFrame := low32 (p.scan.frame + 1) }) (blanked p)

theorem execScanLatch_eq (p : Piece) (q : List Instr) : exec .scanLatch ⟨p, q⟩ =
    .next ⟨when (framesRun p.scan && !p.scan.vblank) (fun p => when (commitDue p) (fun _ =>
      when ((flipped p).scan.pending.all (·.isNone))
        (finishAllWaiting .scanCommit 0 0 fun _ => [low32 (p.scan.frame + 1), high32 (p.scan.frame + 1)]) (flipped p)) (blanked p)) p, q⟩ :=
  rfl

theorem flipped_eq (p : Piece) : flipped p = { blanked p with scan := { (blanked p).scan with
    flipMint := p.now, flipLabel := p.label, flipFrame := low32 (p.scan.frame + 1),
    latched := (flipped p).scan.latched, pending := (flipped p).scan.pending } } := by
  obtain ⟨latched, pending, heq, -⟩ := takeUpTo_changes p.now (blanked p).scan 4
  simp [flipped, heq, onScan]

theorem latchTakesCommittedSettings : Claim.LatchTakesCommittedSettings := by
  rintro p p1 q d rfl hd
  obtain rfl : d = commitDue p := Bool.eq_iff_iff.mpr (hd.trans (commitDue_iff p).symm)
  rw [execScanLatch_eq]
  refine ⟨fun hnot => ?_, fun hrun hblank hdue => ?_, fun hrun hblank hdue => ⟨flipped p, ?_, flipped_eq p, fun hpen hlat i hi => ?_⟩⟩
  · rw [when_neg]
    obtain h | h := hnot <;> simp [h]
  · rw [when_pos (by simp [hrun, hblank]), when_neg hdue]
    rfl
  · rw [when_pos (by simp [hrun, hblank]), when_pos hdue]
  · have hlat' : i < (blanked p).scan.latched.length := by simp [blanked, hlat, hi]
    have hold : nth (blanked p).scan.latched i = latchLayer p.scan.mode (nth p.scan.latched i) := nth_map _ (hlat ▸ hi)
    obtain ⟨hdue, hkept⟩ := takeUpTo_at (now := p.now) hi hlat' (s := (blanked p).scan) (hpen ▸ hi)
    exact ⟨hdue, fun h => ⟨((hkept h).1).trans hold, (hkept h).2⟩⟩

theorem layerBeyondThePanelIsDisabled : Claim.LayerBeyondThePanelIsDisabled := by
  refine fun m l => ⟨fun hx hy => if_pos (by simp [layerFits, hx, hy]), fun h => if_neg ?_⟩
  simp only [layerFits, Bool.and_eq_true, decide_eq_true_eq]
  omega

theorem frameIsCounted : Claim.FrameIsCounted := by
  rintro p p1 q rfl
  have hexec : ∀ {t : Piece}, exec .scanFrameStart ⟨p, q⟩ = .next ⟨t, q⟩ ↔ execScanFrameStart ⟨p, q⟩ = .next ⟨t, q⟩ := .rfl
  refine ⟨fun hrun => effect_next (when_neg hrun), fun hrun htrain => hexec.mpr ?_, fun hrun htrain => hexec.mpr ?_⟩ <;>
    unfold execScanFrameStart <;> refine effect_next ((when_pos hrun).trans ?_) <;> unfold sendFrame
  · exact when_neg (by simp [onScan, htrain])
  · exact when_pos (by simp [onScan, htrain])

/-! ### The picture -/

theorem blendLayer_transparent {p : Piece} {x y : Nat} {out : Colour} {l : Layer} (h : showsAt l x y = false ∨ dmcRefuses p.dmc = true) :
    blendLayer p x y out l = out :=
  if_pos (by obtain h | h := h <;> simp [h])

theorem blendLayer_shows {p : Piece} {x y n : Nat} {out src : Colour} {l : Layer} {a : Rat} (hn : n = pixelBytes l.format)
    (hshow : showsAt l x y = true) (hdmc : dmcRefuses p.dmc = false)
    (hpix : (src, a) = pixelColour l.format (memRead p.dmc.dram (deviceAddr l.base + (y - l.y) * l.stride + (x - l.x) * n) n)) :
    blendLayer p x y out l = (blendPart (layerAlpha l a) src.1 out.1, blendPart (layerAlpha l a) src.2.1 out.2.1,
      blendPart (layerAlpha l a) src.2.2 out.2.2) := by
  subst hn
  simp only [blendLayer, hshow, hdmc, ← hpix]
  rfl

theorem blendPart_bounds {α : Rat} (s o : Nat) (h0 : 0 ≤ α) (h1 : α ≤ 1) : (blendPart α s o : Rat) - 1 / 2 ≤ α * s + (1 - α) * o ∧
    α * s + (1 - α) * o < (blendPart α s o : Rat) + 1 / 2 := by
  have hpos : 0 ≤ α * s + (1 - α) * o := add_nonneg (mul_nonneg h0 s.cast_nonneg) (mul_nonneg (sub_nonneg.mpr h1) o.cast_nonneg)
  have hcast : (blendPart α s o : Rat) = (⌊α * s + (1 - α) * o + 1 / 2⌋ : Int) := by
    have hfloor : 0 ≤ ⌊α * s + (1 - α) * o + 1 / 2⌋ := Int.floor_nonneg.mpr (by linarith)
    exact_mod_cast Int.toNat_of_nonneg hfloor
  have hle := Int.floor_le (α * s + (1 - α) * o + 1 / 2)
  have hlt := Int.lt_floor_add_one (α * s + (1 - α) * o + 1 / 2)
  rw [hcast]
  constructor <;> linarith

/-- A part of full weight is the layer's own. -/
theorem blendPart_one (s o : Nat) : blendPart 1 s o = s := by
  obtain ⟨hlow, hhigh⟩ := blendPart_bounds s o zero_le_one le_rfl
  have h1 : (blendPart 1 s o : Rat) < s + 1 := by linarith
  have h2 : (s : Rat) < blendPart 1 s o + 1 := by linarith
  norm_cast at h1 h2
  omega

theorem layersStackAboveBlack : Claim.LayersStackAboveBlack := by
  refine ⟨fun p x y hnone => by rw [panelColour, hnone]; rfl, ?_, fun α s o h0 h1 => blendPart_bounds s o h0 h1⟩
  rintro p x y n ls l low src a α hls rfl hn hpix rfl
  have hstack : panelColour p x y = blendLayer p x y (panelColour { p with scan := { p.scan with latched := ls } } x y) l := by
    rw [panelColour, hls, List.foldl_append]
    rfl
  rw [hstack]
  refine ⟨fun hnot => blendLayer_transparent ?_, fun hen hx0 hx1 hy0 hy1 hdmc => ?_⟩
  · obtain h | h | h | h | h | h := hnot
    all_goals simp only [showsAt]
    · simp [h]
    · simp [h.not_ge]
    · simp [h.not_gt]
    · simp [h.not_ge]
    · simp [h.not_gt]
    · exact .inr h
  · have hshow : showsAt l x y = true := by simp [showsAt, hen, hx0, hx1, hy0, hy1]
    rw [blendLayer_shows hn hshow hdmc hpix]
    refine ⟨rfl, fun hopaque halpha => ?_⟩
    have hone : layerAlpha l a = 1 := by simp [layerAlpha, hopaque, halpha]
    simp only [hone, blendPart_one]

theorem tileIsCovered : Claim.TileIsCovered := by
  intro m l x y hx hy
  simp only [covers, Bool.and_eq_true, decide_eq_true_eq]
  constructor
  · rintro ⟨⟨⟨⟨⟨hen, hopaque⟩, hx0⟩, hx1⟩, hy0⟩, hy1⟩
    exact ⟨hen, hopaque, fun u v _ _ _ _ _ _ => by omega⟩
  · rintro ⟨hen, hopaque, hall⟩
    obtain ⟨hx0, -, hy0, -⟩ := hall (64 * x) (32 * y) le_rfl (by omega) hx le_rfl (by omega) hy
    obtain ⟨-, hx1, -, hy1⟩ := hall (min (64 * (x + 1)) (2 * m.hActive) - 1) (min (32 * (y + 1)) m.vActive - 1)
      (by omega) (by omega) (by omega) (by omega) (by omega) (by omega)
    exact ⟨⟨⟨⟨⟨hen, hopaque⟩, hx0⟩, by omega⟩, hy0⟩, by omega⟩

/-- Settles O49: the commands go through their checks in order, and the latch is a pass over the four layers, each of which it changes alone. -/
theorem scanout : Obligations.Scanout :=
  ⟨scanModeTrainsOrWaits, layerSettingIsHeld, commitMakesSettingsPending, trainingEnds, modeChangesAfterTheFrame,
    modeChangeKeepsLayersAndFrames, hpdLossStopsThePanel, irqHpdRetrainsALostLink, latchTakesCommittedSettings,
    layerBeyondThePanelIsDisabled, frameIsCounted, layersStackAboveBlack, tileIsCovered⟩

end Sys2Proof.Machine

/-! NET: ports, joining, leaving, links, standby, re-parenting, delay table and horizon (R512, R513, R552 to R558, R562, R570 to R573). -/

namespace Sys2Proof.Machine

/-! ### What a management message and a port's change leave -/

@[simp] theorem manage_net (i : Nat) (name : String) (xs : List Int) (p : Piece) : (manage i name xs p).net = p.net := by
  unfold manage
  cases (p.portOf i).up <;> rfl

@[simp] theorem manageUp_net (name : String) (xs : List Int) (p : Piece) : (manageUp name xs p).net = p.net := by
  unfold manageUp
  split
  · exact manage_net _ _ _ _
  · rfl

/-- A port that exists changes by what the change makes of it. -/
theorem onPort_eq_const (i : Nat) (f : NetPort → NetPort) (p : Piece) : onPort i f p = onPort i (fun _ => f (p.portOf i)) p := by
  show { p with net := { p.net with ports := upd p.net.ports i f } } = _
  rw [upd_eq_const]
  rfl

/-! ### The commands -/

theorem portTakesItsRole : Claim.PortTakesItsRole := by
  rintro p q c f p1 b i r w p2 z0 r0 h rfl rfl rfl rfl rfl rfl rfl
  exact ⟨fun hz => command_done q h (act := actNetPortSet) (guarded_broken hz),
    fun hz hr => command_done q h (act := actNetPortSet) (guarded_second hz hr),
    fun hz hr => command_done q h (act := actNetPortSet) (guarded_kept_two hz hr)⟩

theorem joinMakesARootOrAsks : Claim.JoinMakesARootOrAsks := by
  rintro p q c f p1 b n g w z0 r0 s0 h rfl rfl rfl rfl rfl rfl rfl
  exact ⟨fun hz => command_done q h (act := actNetJoin) (guarded_broken hz),
    fun hz hr => command_done q h (act := actNetJoin) (guarded_second hz hr),
    fun hz hr hs => command_done q h (act := actNetJoin) (guarded_third hz hr hs), fun hz hr hs =>
    ⟨fun hroot => command_done q h (act := actNetJoin) ((guarded_kept_three hz hr hs).trans (if_pos hroot)),
      fun hroot => command_waits q h (act := actNetJoin) ((guarded_kept_three hz hr hs).trans (if_neg (Bool.eq_false_iff.mp hroot)))⟩⟩

theorem leaveSendsNoticeAndRequest : Claim.LeaveSendsNoticeAndRequest := by
  rintro p q c f p1 z0 r0 s0 h rfl rfl rfl
  exact ⟨fun hz => command_done q h (act := actNetLeave) (guarded_broken hz),
    fun hz hr => command_done q h (act := actNetLeave) (guarded_second hz hr),
    fun hz hr hs => command_done q h (act := actNetLeave) (guarded_third hz hr hs),
    fun hz hr hs => command_waits q h (act := actNetLeave) (guarded_kept_three hz hr hs)⟩

theorem delayTableIsReplaced : Claim.DelayTableIsReplaced := by
  rintro p q c f p1 b n a z0 r0 h rfl rfl rfl rfl rfl
  refine ⟨fun hz => command_done q h (act := actDelayTable) (guarded_broken hz),
    fun hz hr => command_done q h (act := actDelayTable) (guarded_second hz hr), fun hz hr =>
    ⟨fun t hread => command_done q h (act := actDelayTable) ((guarded_kept_two hz hr).trans (withTable_error hread)), ?_, ?_⟩⟩
  · rintro d es l bad hread rfl rfl rfl hbad
    exact command_done q h (act := actDelayTable) ((guarded_kept_two hz hr).trans ((withTable_ok hread).trans (guarded_broken hbad)))
  · rintro d es l bad hread rfl rfl rfl hbad
    exact command_done q h (act := actDelayTable) ((guarded_kept_two hz hr).trans ((withTable_ok hread).trans (guarded_kept hbad)))

theorem horizonIsSetOrStored : Claim.HorizonIsSetOrStored := by
  rintro p q c f p1 h1 far g z0 r0 s0 h rfl rfl rfl rfl rfl rfl
  exact ⟨fun hz => command_done q h (act := actNetHorizon) (guarded_broken hz),
    fun hz hr => command_done q h (act := actNetHorizon) (guarded_second hz hr),
    fun hz hr hs => command_done q h (act := actNetHorizon) (guarded_third hz hr hs), fun hz hr hs =>
    ⟨fun hroot => command_done q h (act := actNetHorizon) ((guarded_kept_three hz hr hs).trans (if_pos hroot)),
      fun hroot => command_done q h (act := actNetHorizon) ((guarded_kept_three hz hr hs).trans (if_neg (Bool.eq_false_iff.mp hroot)))⟩⟩

theorem netStatusReports : Claim.NetStatusReports := by
  rintro p q c f p1 d r p2 z0 h rfl rfl rfl rfl
  refine ⟨fun hz => command_done q h (act := actNetStatus) (guarded_broken hz), fun hz => ⟨fun hd => ?_, fun p3 hd hw => ?_, fun p3 t hd ht hw => ?_⟩⟩
  · exact command_done q h (act := actNetStatus) ((guarded_kept hz).trans (if_pos hd))
  · refine command_done q h (act := actNetStatus) ((guarded_kept hz).trans ((if_neg (Bool.eq_false_iff.mp hd)).trans ?_))
    rw [hw]
  · refine command_done q h (act := actNetStatus) ((guarded_kept hz).trans ((if_neg (Bool.eq_false_iff.mp hd)).trans ?_))
    rw [hw]
    cases t with
    | ok => exact absurd rfl ht
    | _ => rfl

/-- One port in the status block. -/
def netPortBytes (o : NetPort) : Bytes :=
  leBytes 1 o.byte ++ zeros 1 ++ leBytes 2 o.peerNode ++ zeros 4 ++ leBytes 8 (twos 64 o.r) ++ leBytes 8 (twos 64 o.theta) ++
    leBytes 4 o.good ++ leBytes 4 o.bad

theorem netPortBytes_length (o : NetPort) : (netPortBytes o).length = 32 := by
  simp only [netPortBytes, List.length_append, leBytes_length, zeros_length]

/-- The words of the status block after its first. -/
def netWords (n : Net) (code : Nat) : Bytes :=
  leBytes 2 code ++ leBytes 2 n.parent ++ leBytes 2 n.rootNode ++ leBytes 4 n.horizon ++ leBytes 4 n.path ++ leBytes 4 n.nodes ++
    leBytes 1 n.epoch

/-- A short text is filled with zeros. -/
theorem pad_eq {n : Nat} {bs : Bytes} (h : bs.length ≤ n) : pad n bs = bs ++ zeros (n - bs.length) := by
  simp [pad, slice, zeros, List.take_of_length_le h]

theorem netBlock_eq (p : Piece) (code : Nat) : netBlock p code = pad 32 (leBytes 2 p.net.nodeId ++ netWords p.net code) ++
    p.net.ports.flatMap netPortBytes ++ pad 128 p.net.latest.flatten ++ zeros 32 := by
  simp only [netBlock, netWords, List.append_assoc]
  rfl

theorem netBlockHas320Bytes : Claim.NetBlockHas320Bytes := by
  intro p r hports
  have hhead : ∀ {n : Nat} {bs : Bytes}, (pad n bs).length = n := slice_length _ _ _
  have hflat : ∀ l : List NetPort, (l.flatMap netPortBytes).length = 32 * l.length := fun l => by
    simp only [List.length_flatMap, netPortBytes_length, List.map_const', List.sum_replicate, smul_eq_mul, mul_comm]
  rw [netBlock_eq]
  constructor
  · simp only [List.length_append, hhead, hflat, hports, zeros_length]
  · rw [pad_eq (by simp only [netWords, List.length_append, leBytes_length]; omega)]
    simp only [List.append_assoc]
    exact u_leBytes_append 2 p.net.nodeId _

/-! ### Roles and links -/

theorem roleChangesTheState : Claim.RoleChangesTheState := by
  rintro p i r o rfl hi
  refine ⟨fun hsame => if_pos (beq_iff_eq.mpr hsame), fun hr hrole => ?_, fun hr hrole hup hfault => ?_, fun hr hrole hup hdown => ?_⟩ <;>
    refine (if_neg (by simpa using hrole)).trans ?_
  · exact if_pos (beq_iff_eq.mpr hr)
  · refine (if_neg (by simpa using hr)).trans ((if_neg (Bool.eq_false_iff.mp hup)).trans ?_)
    rw [onPort_eq_const, onPort_eq_const (f := fun o => { o with role := r, state := .noSignal })]
    simp [hfault]
  · refine (if_neg (by simpa using hr)).trans ((if_pos hup).trans ?_)
    dsimp only
    rw [when_neg (by simpa using hdown)]

theorem linkedStateFollowsTheRole : Claim.LinkedStateFollowsTheRole := fun n =>
  ⟨rfl, fun hjoined => if_pos hjoined, fun hjoined => ⟨by simp [linkedState, hjoined], by simp [linkedState, hjoined]⟩,
    fun hjoined hhere => by simp [linkedState, hjoined, hhere], fun hjoined hgone => by simp [linkedState, hjoined, hgone]⟩

theorem portGainsItsLink : Claim.PortGainsItsLink := by
  rintro p p1 q i x o ok rfl rfl rfl
  have hexec : ∀ {t : Piece}, exec (.portLinked i x) ⟨p, q⟩ = .next ⟨t, q⟩ ↔ execPortLinked i x ⟨p, q⟩ = .next ⟨t, q⟩ := .rfl
  refine ⟨fun hok => effect_next (when_neg hok), fun hok hother => hexec.mpr ?_, fun hok hrole hdet hjoined hhere => hexec.mpr ?_⟩ <;>
    unfold execPortLinked <;> refine effect_next ((when_pos hok).trans ?_) <;> dsimp only
  · refine when_neg ?_
    show ((p.portOf i).role == .up && p.net.detached && x.joined && !x.detached) = false
    obtain h | h | h | h := hother <;> simp [h]
  · refine when_pos ?_
    show ((p.portOf i).role == .up && p.net.detached && x.joined && !x.detached) = true
    simp [hrole, hdet, hjoined, hhere]

theorem linkLossDropsTheLink : Claim.LinkLossDropsTheLink := fun _ _ _ =>
  ⟨fun hup => effect_next (when_neg hup), fun hup => effect_next (when_pos hup)⟩

/-! ### Loss of the parent -/

theorem becomeDetached_net (p : Piece) : (becomeDetached p).net.detached = true ∧ (becomeDetached p).net.sourcePresent = p.net.sourcePresent := by
  unfold becomeDetached
  split
  next h => exact ⟨h, rfl⟩
  next => simp [onNet]

/-- A joined piece that is no root gives its place to the port found. -/
theorem loseParent_of_standby {p : Piece} {k i : Nat} (hjoined : p.net.joined = true) (hroot : p.net.root = false)
    (hfound : usableStandby p k = some i) : (loseParent k p).net = { (promote k i p).net with reparentSince := some p.now } := by
  simp [loseParent, hjoined, hroot, hfound]
  rfl

theorem loseParent_alone {p : Piece} {k : Nat} (hjoined : p.net.joined = true) (hroot : p.net.root = false)
    (hnone : usableStandby p k = none) : loseParent k p = becomeDetached (loseNetSource p) := by
  simp [loseParent, hjoined, hroot, hnone]

/-- The ports after the new parent's port has taken over. -/
theorem promote_ports (k i : Nat) (p : Piece) : (promote k i p).net.ports = upd (upd p.net.ports k fun q =>
    if q.role == .up then { q with role := .standby } else q) i fun q => { q with role := .up, state := .active } := rfl

theorem standbyTakesOver : Claim.StandbyTakesOver := by
  intro p k hjoined hroot
  refine ⟨fun i hfound hi hup hki hk => ?_, fun hnone => ?_, fun i hfound => ?_⟩
  · have hnet := loseParent_of_standby hjoined hroot hfound
    have hnew : nth (promote k i p).net.ports i = { p.portOf i with role := .up, state := .active } := by
      rw [promote_ports, nth_upd, nth_upd]
      simp [hki, hi, Piece.portOf]
    have hold : nth (promote k i p).net.ports k = { p.portOf k with role := .standby } := by
      have hup' : (nth p.net.ports k).role = .up := hup
      rw [promote_ports, nth_upd, nth_upd]
      simp [hki.symm, hk, hup', Piece.portOf]
    have hparent : (promote k i p).net.parent = (nth (promote k i p).net.ports i).peerNode := rfl
    rw [Piece.portOf, Piece.portOf, hnet]
    dsimp only
    rw [hnew, hold, hparent, hnew]
    exact ⟨rfl, rfl, rfl, rfl, rfl, rfl, rfl, rfl, rfl⟩
  · rw [loseParent_alone hjoined hroot hnone]
    exact becomeDetached_net (loseNetSource p)
  · obtain ⟨hok, -, hfirst⟩ := List.find?_range_eq_some.mp hfound
    simp only [Bool.and_eq_true, bne_iff_ne] at hok
    refine ⟨hok.1, hok.2, fun j hji hjk => ?_⟩
    simpa [hjk] using hfirst j hji

/-! ### Join, leave and re-parent -/

theorem joinRequestIsAnswered : Claim.JoinRequestIsAnswered := by
  rintro p q i n d m rfl
  have hexec : ∀ {t : Piece}, exec (.joinRequestReceive i n d) ⟨p, q⟩ = .next ⟨t, q⟩ ↔
      execJoinRequestReceive i n d ⟨p, q⟩ = .next ⟨t, q⟩ := .rfl
  refine ⟨fun hnot => effect_next (when_neg ?_), fun hjoined hrole hup => ?_⟩
  · obtain h | h | h := hnot <;> simp [h]
  · have hhere : (p.net.joined && (p.portOf i).role == .down && (p.portOf i).up) = true := by simp [hjoined, hrole, hup]
    refine ⟨fun hroot => hexec.mpr ?_, fun hroot hnode => hexec.mpr ?_, fun hroot hnode hfar => hexec.mpr ?_,
      fun hroot hnode hnear => hexec.mpr ?_⟩ <;> unfold execJoinRequestReceive <;> refine effect_next ((when_pos hhere).trans ?_) <;>
      rw [hroot]
    · exact if_pos rfl
    · exact (if_neg Bool.false_ne_true).trans (if_pos hnode)
    · exact (if_neg Bool.false_ne_true).trans ((if_neg (Bool.eq_false_iff.mp hnode)).trans (if_pos hfar))
    · exact (if_neg Bool.false_ne_true).trans ((if_neg (Bool.eq_false_iff.mp hnode)).trans (if_neg (not_lt.mpr hnear)))

/-- The node of the parent, for a port that links to it. -/
theorem parentNode_eq {p : Piece} {g : Nat} (hsome : ∀ i, upPort p = some i → g = (p.portOf i).peerNode) (hnone : upPort p = none → g = 0xFFFF) :
    ((upPort p).map fun i => (p.portOf i).peerNode).getD 0xFFFF = g := by
  cases hup : upPort p with
  | none => exact (hnone hup).symm
  | some i => exact (hsome i hup).symm

theorem joinResponseCompletes : Claim.JoinResponseCompletes := by
  rintro p p1 q r g rfl ⟨hsome, hnone⟩
  have hparent := parentNode_eq hsome hnone
  refine ⟨fun hown => ⟨effect_next ((if_pos hown).trans ?_), effect_next (if_pos hown), effect_next (if_pos hown)⟩, fun hown hjoins => ?_,
    fun m l p2 hown hjoins hp2 => ?_⟩
  · subst hparent
    rfl
  · refine effect_next ((if_neg (by simp [hown])).trans ?_)
    rw [hjoins]
  · subst hp2
    refine ⟨?_, ?_, ?_⟩ <;> refine effect_next ((if_neg (by simp [hown])).trans ?_) <;> rw [hjoins] <;> rfl

/-- The horizon of a request is past. -/
theorem horizonPast_some {p : Piece} {since : Option Nat} {t : Nat} (h : since = some t) :
    horizonPast p since = decide (t + p.net.horizon * ticksPerUs ≤ p.now) := by
  rw [h]
  rfl

/-- No request is under way, or its horizon runs. -/
theorem horizonPast_not {p : Piece} {since : Option Nat}
    (h : since = none ∨ ∃ t, since = some t ∧ p.now < t + p.net.horizon * ticksPerUs) : horizonPast p since = false := by
  obtain h | ⟨t, h, ht⟩ := h
  · rw [h]
    rfl
  · rw [horizonPast_some h, decide_eq_false (not_le.mpr ht)]

theorem requestsTimeOutAfterOneHorizon : Claim.RequestsTimeOutAfterOneHorizon := by
  refine fun p q => ⟨fun t hsince ht => effect_next (when_pos ?_), fun hnot => effect_next (when_neg (horizonPast_not hnot)),
    fun t hsince ht => ⟨becomeDetached p, effect_next (when_pos ?_), (becomeDetached_net p).1, fun h => if_pos h⟩,
    fun hnot => effect_next (when_neg (horizonPast_not hnot))⟩
  · rw [horizonPast_some hsince, decide_eq_true ht]
  · rw [horizonPast_some hsince, decide_eq_true ht]

theorem leaveNoticeIsLossOfTheParent : Claim.LeaveNoticeIsLossOfTheParent := by
  refine fun p q i => ⟨fun hrole hup => effect_next (when_pos (by simp [hrole, hup])), fun hnot => effect_next (when_neg ?_)⟩
  obtain h | h := hnot <;> simp [h]

/-- The piece after a node has left: its parent confirms where it is this piece's child, and the node is forgotten. -/
def forgotten (i : Fin 4) (n : Fin 65536) (p : Piece) : Piece :=
  let direct := (p.portOf i).peerNode == n.val
  let p := markChild { node := n, port := i, path := 0 } 1 p
  let p := onNet (fun x => { x with members := x.members.filter (·.node != n.val)
                                    nodes := if x.root then x.nodes - 1 else x.nodes }) p
  when direct (manage i "leaveConfirmed" [n.val]) p

theorem leaveRequestIsConfirmed : Claim.LeaveRequestIsConfirmed := by
  rintro p p1 p2 q i n d rfl rfl rfl
  refine ⟨fun hnot => effect_next (when_neg ?_), fun hjoined hrole hnode => ⟨forgotten i n p, rfl, fun hroot => ?_, fun hroot => ?_⟩⟩
  · obtain h | h | h := hnot <;> simp [h]
  · exact effect_next ((when_pos (by simp [hjoined, hrole, hnode])).trans (when_neg (congrArg not hroot)))
  · exact effect_next ((when_pos (by simp [hjoined, hrole, hnode])).trans (when_pos (congrArg not hroot)))

theorem leaveEndsTheMembership : Claim.LeaveEndsTheMembership := by
  refine fun p q k => ⟨fun hsince => effect_next (when_neg (by simp [hsince])), fun t hsince hroot ht => effect_next (when_neg ?_),
    fun t hsince hend => effect_next (when_pos ?_), rfl, rfl, rfl, fun o ho => ?_, _, rfl⟩
  · simp only [horizonPast_not (.inr ⟨t, hsince, ht⟩), hroot]
    simp
  · rw [horizonPast_some hsince, hsince]
    simpa using hend
  · obtain ⟨o', -, rfl⟩ := List.mem_map.mp ho
    by_cases h : o'.state = .active <;> simp [h]

theorem reparentIsAlwaysConfirmed : Claim.ReparentIsAlwaysConfirmed := by
  rintro p p1 q i n d m e rfl rfl hp1
  refine ⟨fun hnot => effect_next (when_neg ?_), fun hjoined hrole hup => ?_⟩
  · obtain h | h | h := hnot <;> simp [h]
  · have hhere : (p.net.joined && (p.portOf i).role == .down && (p.portOf i).up) = true := by simp [hjoined, hrole, hup]
    have hexec : ∀ {t : Piece}, exec (.reparentRequestReceive i n d) ⟨p, q⟩ = .next ⟨t, q⟩ ↔
        execReparentRequestReceive i n d ⟨p, q⟩ = .next ⟨t, q⟩ := .rfl
    have hnodes : ∀ x : Nat, (if (!hasNode p.net n) = true then x + 1 else x) = if hasNode p.net n = true then x else x + 1 := fun x => by
      cases hasNode p.net n <;> rfl
    refine ⟨fun hroot => hexec.mpr ?_, fun hroot hfar => hexec.mpr ?_, fun hroot hfar => hexec.mpr ?_⟩ <;>
      unfold execReparentRequestReceive <;> refine effect_next ((when_pos hhere).trans ?_) <;> dsimp only [onNet]
    · exact if_pos (by simp [hroot])
    · refine (if_neg (by simp [hroot])).trans ?_
      rw [hnodes, hp1, hfar]
      rfl
    · refine (if_neg (by simp [hroot])).trans ?_
      rw [hnodes, hp1, hfar]
      rfl

theorem reparentConfirmationArrives : Claim.ReparentConfirmationArrives := by
  rintro p q e j rfl
  refine ⟨fun hown => effect_next (if_pos hown), fun hown hnone => effect_next ((if_neg (by simp [hown])).trans ?_),
    fun m l hown hsome => effect_next ((if_neg (by simp [hown])).trans ?_)⟩
  · rw [hnone]
  · rw [hsome]
    rfl

theorem moduleIsRead : Claim.ModuleIsRead := fun _ _ _ _ _ _ => rfl

/-- Settles O50: each row by the branches of its definition; the loss of the parent turns on the first port fit to take its place. -/
theorem netPortsAndJoining : Obligations.NetPortsAndJoining :=
  ⟨portTakesItsRole, joinMakesARootOrAsks, leaveSendsNoticeAndRequest, delayTableIsReplaced, horizonIsSetOrStored, netStatusReports,
    netBlockHas320Bytes, roleChangesTheState, linkedStateFollowsTheRole, portGainsItsLink, linkLossDropsTheLink, standbyTakesOver,
    joinRequestIsAnswered, joinResponseCompletes, requestsTimeOutAfterOneHorizon, leaveNoticeIsLossOfTheParent,
    leaveRequestIsConfirmed, leaveEndsTheMembership, reparentIsAlwaysConfirmed, reparentConfirmationArrives, moduleIsRead⟩

end Sys2Proof.Machine

/-! The safety commands: threshold and mask, journal, self-tests, dumps and firmware updates (R519, R521, R600 to R612). -/

namespace Sys2Proof.Machine

/-! ### Settings, journal and self-tests -/

theorem thresholdAndMaskAreSet : Claim.ThresholdAndMaskAreSet := by
  rintro p q c f p1 b t p2 z0 h rfl rfl rfl rfl
  exact ⟨fun hz => command_done q h (act := actSafetyConfigure) (guarded_broken hz),
    fun hz => command_done q h (act := actSafetyConfigure) (guarded_kept hz)⟩

theorem journalIsReadInOrder : Claim.JournalIsReadInOrder := by
  rintro p q c f p1 b first n dest pers es nx z0 r0 h rfl rfl rfl rfl rfl rfl rfl rfl rfl
  refine ⟨fun hz => command_done q h (act := actJournalRead) (guarded_broken hz),
    fun hz hr => command_done q h (act := actJournalRead) (guarded_second hz hr), fun hz hr => ⟨fun p2 hw => ?_, fun p2 t hw ht => ?_⟩⟩ <;>
    refine command_done q h (act := actJournalRead) ((guarded_kept_two hz hr).trans ?_) <;> rw [hw]
  cases t with
  | ok => exact absurd rfl ht
  | _ => rfl

theorem selftestRunTestsAnElement : Claim.SelftestRunTestsAnElement := by
  rintro p q c f p1 b e z0 r0 h rfl rfl rfl rfl
  exact ⟨fun hz => command_done q h (act := actSelftestRun) (guarded_broken hz),
    fun hz hr => command_done q h (act := actSelftestRun) (guarded_second hz hr),
    fun hz hr => command_waits q h (act := actSelftestRun) (guarded_kept_two hz hr)⟩

/-! ### Dumps -/

theorem dumpRegionIsSet : Claim.DumpRegionIsSet := by
  rintro p q c f p1 b z0 h rfl rfl
  exact ⟨fun hz => command_done q h (act := actDumpRegion) (guarded_broken hz),
    fun hz => command_done q h (act := actDumpRegion) (guarded_kept hz)⟩

theorem dumpIsReadAndReleased : Claim.DumpIsReadAndReleased := by
  rintro p q c f p1 b d dest z0 r0 h rfl rfl rfl rfl rfl
  refine ⟨fun hz => command_done q h (act := actDumpRead) (guarded_broken hz),
    fun hz hr => command_done q h (act := actDumpRead) (guarded_second hz hr), fun hz hr => ⟨fun p2 hw => ?_, fun p2 t hw ht => ?_⟩⟩
  · have hsafety : p2.safety = p1.safety := by
      rw [← (pieceWrite_frame (u f.body 0 8) (p1.safety.dump.getD {}).bytes p1).2.2.1, hw]
    refine command_done q h (act := actDumpRead) ((guarded_kept_two hz hr).trans ?_)
    rw [hw, ← hsafety]
    rfl
  · refine command_done q h (act := actDumpRead) ((guarded_kept_two hz hr).trans ?_)
    rw [hw]
    cases t with
    | ok => exact absurd rfl ht
    | _ => rfl

/-! ### Firmware updates -/

theorem updateErasesTheInactiveSlot : Claim.UpdateErasesTheInactiveSlot := by
  rintro p q c f p1 b n s z0 r0 s0 h rfl rfl rfl rfl rfl rfl
  exact ⟨fun hz => command_done q h (act := actFwBegin) (guarded_broken hz),
    fun hz hr => command_done q h (act := actFwBegin) (guarded_second hz hr),
    fun hz hr hs => command_done q h (act := actFwBegin) (guarded_third hz hr hs),
    fun hz hr hs => command_done q h (act := actFwBegin) (guarded_kept_three hz hr hs)⟩

theorem chunkIsPlacedInTheUpdate : Claim.ChunkIsPlacedInTheUpdate := by
  rintro p q c f p1 b off n a z0 r0 s0 h rfl rfl rfl rfl rfl rfl rfl
  refine ⟨fun hz => command_done q h (act := actFwChunk) (guarded_broken hz),
    fun hz hr => command_done q h (act := actFwChunk) (guarded_second hz hr),
    fun hz hr hs => command_done q h (act := actFwChunk) (guarded_third hz hr hs), fun hz hr hs =>
    ⟨fun t hread => command_done q h (act := actFwChunk) ((guarded_kept_three hz hr hs).trans (withTable_error hread)), ?_⟩⟩
  rintro d l hread rfl
  exact command_done q h (act := actFwChunk) ((guarded_kept_three hz hr hs).trans (withTable_ok hread))

theorem commitNeedsAWholeSignedImage : Claim.CommitNeedsAWholeSignedImage := by
  rintro p q c f p1 img s z0 r0 h rfl rfl rfl rfl
  refine ⟨fun hz => command_done q h (act := actFwCommit) (guarded_broken hz),
    fun hz hr => command_done q h (act := actFwCommit) (guarded_second hz hr), fun hz hr =>
    ⟨fun hwhole hsigned => command_done q h (act := actFwCommit) ((guarded_kept_two hz hr).trans (if_pos ?_)),
      fun hnot => command_done q h (act := actFwCommit) ((guarded_kept_two hz hr).trans (if_neg ?_))⟩⟩
  · simp [hwhole, hsigned]
  · obtain hpart | hunsigned := hnot
    · simp [hpart]
    · simp [hunsigned]

theorem keyHashIsWritten : Claim.KeyHashIsWritten := by
  rintro p q c f p1 b dest z0 h rfl rfl rfl
  refine ⟨fun hz => command_done q h (act := actKeyHash) (guarded_broken hz), fun hz => ⟨fun p2 hw => ?_, fun p2 t hw ht => ?_⟩⟩ <;>
    refine command_done q h (act := actKeyHash) ((guarded_kept hz).trans ?_) <;> rw [hw]
  · rfl
  cases t with
  | ok => exact absurd rfl ht
  | _ => rfl

/-- Settles O52: each row by its checks in order and the branch that is left; what is written leaves the safety state as it was. -/
theorem safetyCommands : Obligations.SafetyCommands :=
  ⟨thresholdAndMaskAreSet, journalIsReadInOrder, selftestRunTestsAnElement, dumpRegionIsSet, dumpIsReadAndReleased,
    updateErasesTheInactiveSlot, chunkIsPlacedInTheUpdate, commitNeedsAWholeSignedImage, keyHashIsWritten⟩

end Sys2Proof.Machine

/-! Safe state, island clocks, SRAM errors, steward resets, targeted tests and their verdicts (R412, R591 to R601, R622). -/

namespace Sys2Proof.Machine

/-! ### The safe state -/

theorem safeStateHoldsTheOutputsLow : Claim.SafeStateHoldsTheOutputsLow := by
  intro p hsafe
  simp [safeStateN, timeValid, freqValid, faultN, hsafe]

/-- The piece with its alarm raised, before the vectors and the dump of an entry into the safe state. -/
def safeAlarmed (code : Nat) (p : Piece) : Piece :=
  raiseAlarm code 0x14 0 (trackFreq (onSafety fun s => { s with safeState := true }) p)

theorem enterSafe_again {code : Nat} {p : Piece} (h : p.safety.safeState = true) : enterSafe code p = safeAlarmed code p := by
  unfold enterSafe
  exact when_neg (by rw [h]; rfl)

theorem enterSafe_first {code : Nat} {p : Piece} (h : p.safety.safeState = false) :
    enterSafe code p = startDump 2 code (raiseBoth 33 (safeAlarmed code p)) := by
  unfold enterSafe
  exact when_pos (by rw [h]; rfl)

/-- What the tracking of FREQ_VALID leaves: the panels but the tally. -/
theorem trackFreq_panels (f : Piece → Piece) (p : Piece) : (trackFreq f p).transport = (f p).transport ∧
    (trackFreq f p).safety = (f p).safety ∧ (trackFreq f p).clocks = (f p).clocks ∧ (trackFreq f p).dmc = (f p).dmc ∧
    (trackFreq f p).stamp = (f p).stamp ∧ (trackFreq f p).rfin = (f p).rfin := by
  obtain ⟨g, h | h⟩ := trackFreq_cases f p <;> rw [h] <;> simp

/-- The alarm of the safe state is latched, and all but alarm, journal and outputs is as it was. -/
theorem safeAlarmed_spec (code : Nat) (p : Piece) : (safeAlarmed code p).safety.safeState = true ∧ Latched code (safeAlarmed code p) ∧
    (safeAlarmed code p).safety.dump = p.safety.dump ∧ (safeAlarmed code p).safety.dumpPending = p.safety.dumpPending ∧
    (safeAlarmed code p).transport.state = p.transport.state ∧ (safeAlarmed code p).boot = p.boot ∧
    (safeAlarmed code p).clocks = p.clocks ∧ (safeAlarmed code p).ledger = p.ledger ∧ (safeAlarmed code p).dmc = p.dmc ∧
    (safeAlarmed code p).stamp = p.stamp ∧ (safeAlarmed code p).rfin = p.rfin := by
  obtain ⟨htransport, hsafety, hclocks, hdmc, hstamp, hrfin⟩ := trackFreq_panels (onSafety fun s => { s with safeState := true }) p
  refine ⟨?_, raiseAlarm_latches _ _ _ _, ?_, ?_, ?_, ?_, ?_, ?_, ?_, ?_, ?_⟩ <;>
    simp [safeAlarmed, htransport, hsafety, hclocks, hdmc, hstamp, hrfin]

/-- A dump in the making, or held, is left; a halted steward makes none. -/
theorem startDump_kept {cause code : Nat} {p : Piece} (h : p.transport.state = .halted ∨ p.safety.dump.isSome = true) :
    (startDump cause code p).safety.dumpPending = p.safety.dumpPending := by
  unfold startDump
  split
  next => rfl
  next hrun =>
    obtain h | h := h
    · exact absurd (beq_iff_eq.mpr h) hrun
    · rw [if_pos (by simp [h])]

theorem startDump_begins {cause code : Nat} {p : Piece} (hrun : p.transport.state ≠ .halted) (hdump : p.safety.dump = none)
    (hpending : p.safety.dumpPending = none) : (startDump cause code p).safety.dumpPending =
      some { cause := cause, mint := p.now, label := p.label, code := code } := by
  simp [startDump, hrun, hdump, hpending]

theorem startDump_safeState (cause code : Nat) (p : Piece) : (startDump cause code p).safety.safeState = p.safety.safeState := by
  unfold startDump
  split
  · rfl
  · split <;> rfl

/-- Entering the safe state: what is set, and what is left. -/
theorem enterSafe_spec (a : Nat) (p : Piece) : (enterSafe a p).safety.safeState = true ∧ Latched a (enterSafe a p) ∧
    (p.safety.safeState = true ∨ p.transport.state = .halted ∨ p.safety.dump.isSome = true →
      (enterSafe a p).safety.dumpPending = p.safety.dumpPending) ∧
    (p.safety.safeState = false → p.transport.state ≠ .halted → p.safety.dump = none → p.safety.dumpPending = none →
      ∃ d, (enterSafe a p).safety.dumpPending = some d ∧ d.cause = 2 ∧ d.code = a ∧ d.mint = p.now) ∧
    (enterSafe a p).boot = p.boot ∧ (enterSafe a p).clocks = p.clocks ∧ (enterSafe a p).ledger = p.ledger ∧
    (enterSafe a p).dmc = p.dmc ∧ (enterSafe a p).stamp = p.stamp ∧ (enterSafe a p).rfin = p.rfin := by
  obtain ⟨hsafe, hlatched, hdump, hpending, hstate, hboot, hclocks, hledger, hdmc, hstamp, hrfin⟩ := safeAlarmed_spec a p
  cases hwas : p.safety.safeState
  case true =>
    rw [enterSafe_again hwas]
    exact ⟨hsafe, hlatched, fun _ => hpending, fun h => absurd h (by simp), hboot, hclocks, hledger, hdmc, hstamp, hrfin⟩
  case false =>
    rw [enterSafe_first hwas]
    refine ⟨?_, hlatched.congr ?_, fun hkept => ?_, fun _ hrun hnone hidle => ?_, ?_, ?_, ?_, ?_, ?_, ?_⟩
    · rw [startDump_safeState]
      simp [hsafe]
    · simp [startDump_alarms]
    · rw [startDump_kept] <;> simp [hpending, hstate, hdump] at hkept ⊢
      exact hkept
    · refine ⟨_, startDump_begins (by simpa [hstate] using hrun) (by simpa [hdump] using hnone) (by simpa [hpending] using hidle),
        rfl, rfl, ?_⟩
      simp [Piece.now, hclocks]
    all_goals simp [*]

theorem safetyFaultsEnterTheSafeState : Claim.SafetyFaultsEnterTheSafeState := by
  rintro p q i a (⟨c, rfl, hlow, hhigh, rfl, hreleased⟩ | ⟨n, rfl, rfl⟩ | ⟨n, rfl, rfl⟩)
  · have hexec : exec (.railWindow c) ⟨p, q⟩ = .next ⟨enterSafe 0x0200 (when (c.val == sramRail) (onSafety fun s => { s with sramLost := true }) p), q⟩ :=
      effect_next ((when_pos (by simp [hlow, hhigh])).trans (when_pos (by cases c.val == sramRail <;> simpa using hreleased)))
    cases hsram : c.val == sramRail
    · rw [hsram, when_false] at hexec
      exact ⟨_, hexec, enterSafe_spec 0x0200 p⟩
    · rw [hsram, when_true] at hexec
      exact ⟨_, hexec, enterSafe_spec 0x0200 (onSafety (fun s => { s with sramLost := true }) p)⟩
  · exact ⟨_, rfl, enterSafe_spec 0x0201 p⟩
  · exact ⟨_, rfl, enterSafe_spec 0x0202 p⟩

theorem railInResetOnlyLosesTheStrongroom : Claim.RailInResetOnlyLosesTheStrongroom := by
  refine fun p q c => ⟨fun hout => effect_next (when_neg ?_), fun hlow hhigh hheld hother => effect_next ((when_pos ?_).trans ?_),
    fun hsram hheld => effect_next ((when_pos ?_).trans ?_)⟩
  · simp only [Bool.and_eq_false_iff, decide_eq_false_iff_not]
    omega
  · simp [hlow, hhigh]
  · dsimp only
    rw [when_neg (c := c.val == sramRail) (by simpa [sramRail] using hother)]
    exact when_neg hheld
  · simp [hsram]
  · dsimp only
    rw [when_pos (c := c.val == sramRail) (by simpa [sramRail] using hsram)]
    exact when_neg hheld

/-! ### Island clocks -/

theorem loseIsland_stamp {i : Nat} (p : Piece) (h : i < 16) :
    loseIsland i p = (List.range 4).foldl (fun p n => loseInput (4 * (i - 1) + n) p) p :=
  if_pos h

theorem loseIsland_converter {i : Nat} (p : Piece) (h : 16 ≤ i) (h' : i < 24) : loseIsland i p =
    streamLost (i - 16) 8 ((List.range 8).foldl (fun p n => if (p.ddc (i - 16) n).en then ddcLost (i - 16) n p else p) p) :=
  (if_neg h.not_gt).trans (if_pos h')

/-- Above the converters an island has the consequence of its number. -/
theorem loseIsland_above {i : Nat} (p : Piece) (h : 24 ≤ i) : loseIsland i p =
    if i = 0x30 then enterSafe 0x0300 p
    else if i = 0x38 then when (!p.dmc.frozen) (fun p => faultAcqs (freezeDmc 0 0 p)) p
    else if i = 0x40 then removeLink p
    else if 0x48 ≤ i then linkLoss (i - 0x48) p
    else p := by
  have h16 : ¬ i < 0x10 := by omega
  have h24 : ¬ i < 0x18 := by omega
  simp only [loseIsland, if_neg h16, if_neg h24, beq_iff_eq]

/-- The piece with a clock that stands. -/
def deadClock (i : Nat) (p : Piece) : Piece := onSafety (fun s => { s with deadIslands := s.deadIslands ++ [i] }) p

/-- A fault that lasts raises its alarm, except on the steward's island. -/
theorem execIslandClock_lasts {i : Nat} {p : Piece} (q : List Instr) (hcheck : checkedIslands.contains i = true)
    (hran : p.safety.deadIslands.contains i = false) : exec (.islandClock i) ⟨p, q⟩ =
      .next ⟨loseIsland i (when (i != 0x30) (raiseAlarm 0x0300 0x14 0) (deadClock i p)), q⟩ :=
  effect_next (when_pos (by rw [islandDead, hcheck, hran]; rfl))

theorem islandClockFaultIsLasting : Claim.IslandClockFaultIsLasting := by
  rintro p p1 p2 q i rfl rfl
  refine ⟨fun hnot => effect_next (when_neg ?_), fun hcheck hran => ?_⟩
  · obtain h | h := hnot
    · rw [h, Bool.false_and]
    · rw [islandDead, h, Bool.not_true, Bool.and_false]
  · have halarm : i ≠ 0x30 → when (i != 0x30) (raiseAlarm 0x0300 0x14 0) (deadClock i p) = raiseAlarm 0x0300 0x14 0 (deadClock i p) :=
      fun h => when_pos (by simpa using h)
    rw [execIslandClock_lasts q hcheck hran]
    refine ⟨fun h => ?_, fun h h' => ?_, fun h h' => ?_, fun h => ?_, fun h hf => ?_, fun h hf => ?_, fun h => ?_, fun h => ?_⟩
    · rw [halarm (by omega), loseIsland_stamp _ h]
      rfl
    · rw [halarm (by omega), loseIsland_converter _ h h']
      rfl
    · rw [halarm (by omega), loseIsland_above _ h, if_neg (by omega), if_neg (by omega), if_neg (by omega), if_neg (by omega)]
      rfl
    · rw [when_neg (by simp [h]), loseIsland_above _ (by omega), if_pos h]
      rfl
    · change (raiseAlarm 0x0300 0x14 0 (deadClock i p)).dmc.frozen = true at hf
      rw [halarm (by omega), loseIsland_above _ (by omega), if_neg (by omega), if_pos h, when_neg (congrArg not hf)]
      rfl
    · change (raiseAlarm 0x0300 0x14 0 (deadClock i p)).dmc.frozen = false at hf
      rw [halarm (by omega), loseIsland_above _ (by omega), if_neg (by omega), if_pos h, when_pos (congrArg not hf)]
      rfl
    · rw [halarm (by omega), loseIsland_above _ (by omega), if_neg (by omega), if_neg (by omega), if_pos h]
      rfl
    · rw [halarm (by omega), loseIsland_above _ (by omega), if_neg (by omega), if_neg (by omega), if_neg (by omega), if_pos h]
      rfl

/-! ### SRAM errors -/

theorem uncorrectableErrorReachesItsOwner : Claim.UncorrectableErrorReachesItsOwner := by
  rintro p q t i n p1 e rfl rfl
  refine ⟨fun hnone => effect_next (when_neg (by simpa using hnone)),
    fun hi ht => effect_next ((when_pos (by simpa using hi)).trans (if_neg (by simpa using ht))),
    fun hi ht hrun => effect_next ((when_pos (by simpa using hi)).trans ((if_pos (by simpa using ht)).trans (when_pos (by simpa using hrun)))),
    fun hi ht hhalt => effect_next ((when_pos (by simpa using hi)).trans ((if_pos (by simpa using ht)).trans (when_neg (by simpa using hhalt))))⟩

theorem spareRowServesARow : Claim.SpareRowServesARow := by
  refine fun p e => ⟨fun hfree hroom => when_pos ?_, fun hnot => when_neg ?_⟩
  · rw [hfree, decide_eq_true hroom]
    rfl
  · obtain h | h := hnot
    · rw [h, Bool.not_true, Bool.false_and]
    · rw [decide_eq_false h.not_gt, Bool.and_false]

theorem scrubAndMarchChangeNothing : Claim.ScrubAndMarchChangeNothing := fun _ _ => ⟨rfl, rfl⟩

/-! ### Resets of the steward -/

/-- The receivers of every channel are reset: the steward's state and restarts, boot and safety stay. -/
theorem receiversReset_keep (chs : List Nat) (p : Piece) :
    (chs.foldl (fun p ch => receiverReset ch true p) p).transport.state = p.transport.state ∧
    (chs.foldl (fun p ch => receiverReset ch true p) p).transport.restarts = p.transport.restarts ∧
    (chs.foldl (fun p ch => receiverReset ch true p) p).boot = p.boot ∧
    (chs.foldl (fun p ch => receiverReset ch true p) p).safety = p.safety := by
  induction chs generalizing p with
  | nil => exact ⟨rfl, rfl, rfl, rfl⟩
  | cons ch chs ih => simpa using ih (receiverReset ch true p)

theorem resetSteward_keep (p : Piece) : (resetSteward p).transport.state = .restarting ∧
    (resetSteward p).transport.restarts = min (p.transport.restarts + 1) (2 ^ 32 - 1) ∧
    (resetSteward p).boot = p.boot ∧ (resetSteward p).safety = p.safety := by
  unfold resetSteward
  dsimp only
  obtain ⟨hstate, hrestarts, hboot, hsafety⟩ := receiversReset_keep allChannels (releaseLocks (fun _ o => o == 0x10) (bumpEpoch .steward
    (setSteward .restarting { p with transport := { p.transport with
      restarts := sat32 p.transport.restarts 1
      channels := p.transport.channels.map fun c => { c with fetching := [] } } })))
  rw [hstate, hrestarts, hboot, hsafety]
  simp [setSteward_state, sat32]

/-- The piece after the alarm of a divergence and the steward's reset. -/
def diverged (p : Piece) : Piece :=
  resetSteward (raiseAlarm 0x0700 0x17 0 (onSafety (fun s =>
    { s with lockstepLog := p.now :: p.safety.lockstepLog.filter fun m => decide (p.now < m + 10 * ticksPerSecond) }) p))

theorem raiseAlarm_onSafety_restarts (code t i : Nat) (g : Safety → Safety) (p : Piece) :
    (raiseAlarm code t i (onSafety g p)).transport.restarts = p.transport.restarts := by
  simp

theorem diverged_spec (p : Piece) : (diverged p).transport.state = .restarting ∧
    (diverged p).transport.restarts = min (p.transport.restarts + 1) (2 ^ 32 - 1) ∧ (diverged p).boot = p.boot ∧ Latched 0x0700 (diverged p) := by
  obtain ⟨hstate, hrestarts, hboot, hsafety⟩ := resetSteward_keep (raiseAlarm 0x0700 0x17 0 (onSafety (fun s =>
    { s with lockstepLog := p.now :: p.safety.lockstepLog.filter fun m => decide (p.now < m + 10 * ticksPerSecond) }) p))
  rw [raiseAlarm_onSafety_restarts] at hrestarts
  unfold diverged
  refine ⟨hstate, hrestarts, hboot.trans (by simp), (raiseAlarm_latches 0x0700 0x17 0 _).congr (congrArg _ hsafety)⟩

theorem raiseAlarm_keeps {c : Nat} (code t i : Nat) {p : Piece} (h : Latched c p) : Latched c (raiseAlarm code t i p) := by
  simp only [raiseAlarm, alarmWith]
  refine writeJournal_keeps _ ((latchAlarm_keeps code h).congr ?_)
  cases (latchAlarm code p).2 <;> simp

theorem lockstep_fourth {p : Piece} (h : 3 ≤ (p.safety.lockstepLog.filter fun m => decide (p.now < m + 10 * ticksPerSecond)).length) :
    lockstep p = raiseAlarm 0x0701 0x17 0 (setSteward .halted (diverged p)) :=
  if_pos (by simpa using h)

theorem lockstep_earlier {p : Piece} (h : (p.safety.lockstepLog.filter fun m => decide (p.now < m + 10 * ticksPerSecond)).length < 3) :
    lockstep p = restartBringUp (startDump 3 0x0700 (diverged p)) :=
  if_neg (by simpa using h)

/-- Bring-up begins again where the piece was not ready; else it goes on. -/
theorem restartBringUp_ready {p : Piece} (h : p.boot.ready = true) : restartBringUp p = p := when_neg (by simp [h])

theorem restartBringUp_spec (p : Piece) : (restartBringUp p).transport.restarts = p.transport.restarts ∧
    (restartBringUp p).safety = p.safety ∧
    (p.boot.ready = false → (restartBringUp p).transport.state = .boot ∧ (restartBringUp p).boot.phase = .boot) := by
  cases h : p.boot.ready
  · rw [restartBringUp, when_pos (by simp [h])]
    simp [setSteward_state]
  · rw [restartBringUp_ready h]
    simp

theorem divergenceResetsTheSteward : Claim.DivergenceResetsTheSteward := by
  refine fun p q => ⟨fun hhalt => effect_next (when_neg (by simpa using hhalt)), fun hrun =>
    ⟨lockstep p, effect_next (when_pos (by simpa using hrun)), ?_⟩⟩
  obtain ⟨hstate, hrestarts, hboot, hlatched⟩ := diverged_spec p
  by_cases h : 3 ≤ (p.safety.lockstepLog.filter fun m => decide (p.now < m + 10 * ticksPerSecond)).length
  · rw [lockstep_fourth h]
    refine ⟨?_, raiseAlarm_keeps 0x0701 0x17 0 (hlatched.congr ?_), fun _ => ⟨?_, raiseAlarm_latches 0x0701 0x17 0 _⟩,
      fun hfew => absurd h hfew.not_ge, fun hfew => absurd h hfew.not_ge⟩
    · simpa using hrestarts
    · simp
    · simp [setSteward_state]
  · have hfew := not_le.mp h
    rw [lockstep_earlier hfew]
    obtain ⟨hrestarts', hsafety, hboot'⟩ := restartBringUp_spec (startDump 3 0x0700 (diverged p))
    refine ⟨hrestarts'.trans (by simpa using hrestarts), hlatched.congr ?_, fun hmany => absurd hmany h, fun _ hready => ?_, fun _ hready => ?_⟩
    · rw [hsafety, startDump_alarms]
    · rw [restartBringUp_ready (by simpa [hboot] using hready)]
      simpa using hstate
    · exact hboot' (by simpa [hboot] using hready)

theorem restartEndsTheInterrupted : Claim.RestartEndsTheInterrupted := by
  refine fun p q => ⟨fun hstate => effect_next ((when_pos (beq_iff_eq.mpr hstate)).trans ?_),
    fun hstate => effect_next (when_neg (by simpa using hstate)), fun f hf => ⟨fun hprog => ?_, fun k i r hprog => ?_⟩⟩
  · rw [setSteward, when_pos (by simp [hstate])]
    rfl
  · simp [endInterrupted, hf, hprog, stAborted]
  · simp [endInterrupted, hf, hprog, stFault]

theorem tableMismatchLatches : Claim.TableMismatchLatches := by
  refine fun p q b => ⟨fun hb hrun => effect_next (when_pos (by simp [hb, hrun])), fun hnot => effect_next (when_neg ?_)⟩
  obtain h | h := hnot <;> simp [h]

/-! ### Targeted tests and their verdicts -/

theorem targetedTestStarts : Claim.TargetedTestStarts := by
  rintro p q e w rfl
  refine ⟨fun hrun hw => effect_next (when_pos ?_), fun hnot => effect_next (when_neg ?_)⟩
  · rw [hrun, hw]
    rfl
  · obtain h | h := hnot
    · simp [h]
    · rw [h, Bool.and_false]

theorem targetedTestGivesItsVerdict : Claim.TargetedTestGivesItsVerdict := by
  rintro p p1 q b t rfl
  have hexec : ∀ {t : Piece}, exec (.targetedSelftestEnd b) ⟨p, q⟩ = .next ⟨t, q⟩ ↔ execTargetedSelftestEnd b ⟨p, q⟩ = .next ⟨t, q⟩ := .rfl
  refine ⟨fun hnone => hexec.mpr ?_, fun hsome => ⟨fun hhost hb hok => hexec.mpr ?_, fun hhost hbad => hexec.mpr ?_,
    fun hhost hb hok => hexec.mpr ?_, fun hhost hbad => hexec.mpr ?_⟩⟩ <;> unfold execTargetedSelftestEnd <;> refine effect_next ?_
  · rw [hnone]
  all_goals
    rw [hsome]
    dsimp only
    rw [hhost]
  · rw [hb, hok]
    rfl
  · rw [show (b && !t.failed) = false by obtain h | h := hbad <;> simp [h]]
    rfl
  · rw [hb, hok]
    rfl
  · rw [show (b && !t.failed) = false by obtain h | h := hbad <;> simp [h]]
    rfl

theorem errorStartsOrFailsATest : Claim.ErrorStartsOrFailsATest := by
  rintro p e r w rfl rfl
  refine ⟨fun hr => if_pos hr, fun hr hret => ?_, fun hr hret hmany => ?_, fun hr hret hfew hw => ?_, fun hr hret hfew hw => ?_⟩ <;>
    refine (if_neg (Bool.eq_false_iff.mp hr)).trans ?_
  · exact if_pos hret
  · exact (if_neg (Bool.eq_false_iff.mp hret)).trans (if_pos hmany)
  · exact (if_neg (Bool.eq_false_iff.mp hret)).trans ((if_neg (not_le.mpr hfew)).trans (if_pos hw))
  · exact (if_neg (Bool.eq_false_iff.mp hret)).trans ((if_neg (not_le.mpr hfew)).trans (if_neg (Bool.eq_false_iff.mp hw)))

theorem lastingVerdictRetires : Claim.LastingVerdictRetires := by
  rintro p p1 e rfl
  exact ⟨fun hret => if_pos hret, fun hret => if_neg (Bool.eq_false_iff.mp hret)⟩

theorem transientVerdictReturns : Claim.TransientVerdictReturns := by
  rintro p p1 e rfl
  rfl

/-- Settles O53: each row by the branches of its definition, through the lemmas that say what the entry into the safe state and the
steward's reset leave. -/
theorem diagnosticsAndVerdicts : Obligations.DiagnosticsAndVerdicts :=
  ⟨safeStateHoldsTheOutputsLow, safetyFaultsEnterTheSafeState, railInResetOnlyLosesTheStrongroom, islandClockFaultIsLasting,
    uncorrectableErrorReachesItsOwner, spareRowServesARow, scrubAndMarchChangeNothing, divergenceResetsTheSteward,
    restartEndsTheInterrupted, tableMismatchLatches, targetedTestStarts, targetedTestGivesItsVerdict, errorStartsOrFailsATest,
    lastingVerdictRetires, transientVerdictReturns⟩

end Sys2Proof.Machine

/-! The alarm bank, the journal with its incidents and persistent list, and the dump (R395, R602 to R612). -/

namespace Sys2Proof.Machine

/-! ### Alarms -/

theorem occurrenceCountsAndMovesLast : Claim.OccurrenceCountsAndMovesLast := by
  refine fun p c => ⟨List.map_congr_left fun a _ => ?_, ?_⟩
  · by_cases hc : a.code = c
    · cases hl : a.latched <;> simp [hc, hl, satAdd, min_comm]
    · simp [hc]
  · simp [latchAlarm]

theorem firstOccurrenceIsAnnounced : Claim.FirstOccurrenceIsAnnounced := by
  rintro p c n a hfind rfl
  simp only [announceAlarm, hfind]
  rfl

/-! ### The journal -/

/-- The entry that comes 64th within 1 ms begins an incident. -/
def incidentBegins (now : Nat) (recent : List Nat) : Bool := recent.length == 64 && decide (now < recent.getLastD 0 + ticksPerMs)

/-- What a journal entry outside an incident leaves. -/
theorem journalled_outside {now : Nat} {e : JournalEntry} {s s1 : Safety} {b f : Bool} {l : List JournalEntry} {r : List Nat}
    (hnone : s.incident = none) (hs1 : (s1, b, f) = journalled now e s) (hl : l = lastN 4096 (s.journal ++ [e]))
    (hr : r = (now :: s.recent).take 64) : s1.journalNext = (s.journalNext + 1) % 2 ^ 32 ∧ s1.recent = r ∧
    (incidentBegins now r = true → b = true ∧ s1.incident = some { frozen := lastN 64 l, began := now } ∧
      s1.journal = l.take (l.length - 64)) ∧
    (incidentBegins now r = false → b = false ∧ s1.incident = none ∧ s1.journal = l) := by
  unfold journalled at hs1
  simp only [hnone, ← hl, ← hr] at hs1
  change (s1, b, f) = if incidentBegins now r = true then _ else _ at hs1
  cases hbegins : incidentBegins now r
  case true =>
    rw [if_pos hbegins] at hs1
    cases hs1
    exact ⟨rfl, rfl, fun _ => ⟨rfl, rfl, rfl⟩, fun h => absurd h (by simp)⟩
  case false =>
    rw [if_neg (Bool.eq_false_iff.mp hbegins)] at hs1
    cases hs1
    exact ⟨rfl, rfl, fun h => absurd h (by simp), fun _ => ⟨rfl, rfl, rfl⟩⟩

theorem journalKeepsTheLatest : Claim.JournalKeepsTheLatest := by
  intro now e s s1 l r x b f hnone hs1 hl hr hfrozen hbegan hdrops
  obtain ⟨hnext, hrecent, hbegins, hquiet⟩ := journalled_outside hnone hs1 hl hr
  refine ⟨hnext, hrecent, fun hlen hnow => ?_, fun hnot => hquiet ?_⟩
  · obtain ⟨hb, hincident, hjournal⟩ := hbegins (by rw [incidentBegins, hlen, decide_eq_true hnow]; rfl)
    refine ⟨hb, hincident.trans ?_, hjournal⟩
    cases x
    subst hfrozen hbegan hdrops
    rfl
  · unfold incidentBegins
    obtain h | h := hnot
    · rw [beq_false_of_ne h, Bool.false_and]
    · rw [decide_eq_false h.not_gt, Bool.and_false]

theorem rollIncident_room {slots : Nat} {i : Incident} {l : List JournalEntry} {n : Nat} (h : l.length ≤ slots) :
    rollIncident slots i l n = (i, l, n) :=
  if_neg h.not_gt

theorem rollIncident_full {slots : Nat} {i : Incident} {d : JournalEntry} {l : List JournalEntry} {n : Nat} (h : slots ≤ l.length) :
    rollIncident slots i (d :: l) n = ({ i with drops := countDrop i.drops d }, l, sat32 n 1) :=
  if_pos (Nat.lt_succ_of_le h)

/-- An incident with its next entry: incident, rolling entries and the count of the dropped. -/
def rolled (e : JournalEntry) (s : Safety) (i : Incident) : Incident × List JournalEntry × Nat :=
  if i.frozen.length < 1024 then
    rollIncident (4096 - (i.frozen ++ [e]).length) { i with frozen := i.frozen ++ [e] } s.journal s.journalDropped
  else rollIncident (4096 - i.frozen.length) i (s.journal ++ [e]) s.journalDropped

/-- What a journal entry in an incident leaves. -/
theorem journalled_inside {now : Nat} {e : JournalEntry} {s s1 : Safety} {i : Incident} {b f : Bool} (hsome : s.incident = some i)
    (hs1 : (s1, b, f) = journalled now e s) : b = false ∧ s1.incident = some (rolled e s i).1 ∧ s1.journal = (rolled e s i).2.1 ∧
    s1.journalDropped = (rolled e s i).2.2 := by
  unfold journalled at hs1
  simp only [hsome, decide_eq_true_eq] at hs1
  by_cases hfew : i.frozen.length < 1024
  · rw [if_pos hfew, if_pos hfew] at hs1
    rw [rolled, if_pos hfew]
    cases hs1
    exact ⟨rfl, rfl, rfl, rfl⟩
  · rw [if_neg hfew, if_neg hfew] at hs1
    rw [rolled, if_neg hfew]
    cases hs1
    exact ⟨rfl, rfl, rfl, rfl⟩

theorem incidentFreezesAndRolls : Claim.IncidentFreezesAndRolls := by
  intro now e d s s1 i b f l hsome hs1
  obtain ⟨hb, hincident, hjournal, hdropped⟩ := journalled_inside hsome hs1
  rw [hincident, hjournal, hdropped]
  refine ⟨hb, fun hfew hroom => ?_, fun hfull hroom => ?_, fun hfull hlist hlen => ?_⟩
  · rw [rolled, if_pos hfew, rollIncident_room (by simp; omega)]
    exact ⟨rfl, rfl, rfl⟩
  · rw [rolled, if_neg (by omega), rollIncident_room (by simp; omega)]
    exact ⟨rfl, rfl, rfl⟩
  · rw [rolled, if_neg (by omega), hlist, List.cons_append, rollIncident_full (by simp; omega)]
    exact ⟨rfl, rfl, rfl⟩

theorem dropsCountUnderTheirCode : Claim.DropsCountUnderTheirCode := by
  refine fun l e => ⟨fun hmem => ?_, fun hnew hroom => ?_, fun hnew hfull hother => ?_⟩
  · have hany : (l.any fun d => d.code == e.code) = true := by simpa using hmem
    simp [countDrop, hany]
  · have hany : (l.any fun d => d.code == e.code) = false := by simpa using hnew
    simp [countDrop, hany, hroom]
  · have hany : (l.any fun d => d.code == e.code) = false := by simpa using hnew
    have hany' : (l.any fun d => d.code == 0xFFFF) = false := by simpa using hother
    simp [countDrop, hany, hany', not_lt.mpr hfull]

theorem persistentEntryIsCopied : Claim.PersistentEntryIsCopied := by
  refine fun p e => ⟨fun hpers hroom => (writeJournal_persistent _ _).trans (if_pos ⟨hpers, hroom⟩),
    fun hnot => (writeJournal_persistent _ _).trans (if_neg ?_)⟩
  rintro ⟨hpers, hroom⟩
  obtain h | h := hnot
  · simp [h] at hpers
  · exact absurd hroom h.not_gt

theorem incidentOver_iff (p : Piece) (i : Incident) : incidentOver p i = true ↔
    i.began + 100 * ticksPerMs ≤ p.now ∧ ∀ m, p.safety.recent[15]? = some m → m + 100 * ticksPerMs ≤ p.now := by
  unfold incidentOver
  cases p.safety.recent[15]? with
  | none => simp
  | some m => simp

theorem incidentEndsWithSummaries : Claim.IncidentEndsWithSummaries := by
  rintro p p1 q i quiet hquiet rfl
  obtain rfl : quiet = incidentOver p i := Bool.eq_iff_iff.mpr (hquiet.trans (incidentOver_iff p i).symm)
  have hexec : ∀ {t : Piece}, exec .journalIncidentEnd ⟨p, q⟩ = .next ⟨t, q⟩ ↔ execJournalIncidentEnd ⟨p, q⟩ = .next ⟨t, q⟩ := .rfl
  refine ⟨fun hnone => hexec.mpr ?_, fun hsome hq => hexec.mpr ?_, fun hsome hq => hexec.mpr ?_⟩ <;>
    unfold execJournalIncidentEnd <;> refine effect_next ?_
  · rw [hnone]
  · rw [hsome]
    exact when_neg hq
  · rw [hsome]
    exact when_pos hq

@[simp] theorem labelBytes_length (l : Nat) : (labelBytes l).length = 10 := by
  simp [labelBytes]

theorem journalEntryHas64Bytes : Claim.JournalEntryHas64Bytes := by
  intro e
  have hpad : (pad 32 e.detail).length = 32 := slice_length _ _ _
  refine ⟨?_, ?_, ?_, ?_⟩ <;> unfold JournalEntry.bytes
  · simp only [List.length_append, leBytes_length, labelBytes_length, zeros_length, hpad]
  all_goals simp only [List.append_assoc]
  · exact u_leBytes_append 4 _ _
  · rw [u_append_right (by simp), leBytes_length]
    exact u_leBytes_append 2 _ _
  · rw [u_append_right (by simp), leBytes_length, u_append_right (by simp), leBytes_length, u_append_right (by simp), leBytes_length]
    exact u_leBytes_append 1 _ _

/-! ### The dump -/

theorem firstFaultIsDumped : Claim.FirstFaultIsDumped := by
  refine fun p c a => ⟨fun hhalt => if_pos (beq_iff_eq.mpr hhalt), fun hrun hheld => (if_neg (by simpa using hrun)).trans (if_pos ?_),
    fun hrun hdump hpending => (if_neg (by simpa using hrun)).trans (if_neg ?_)⟩
  · obtain h | h := hheld <;> simp [h]
  · simp [hdump, hpending]

theorem dumpIsWritten : Claim.DumpIsWritten := by
  rintro p p1 q d n b rfl rfl hp1
  have hexec : ∀ {t : Piece}, exec .dumpWritten ⟨p, q⟩ = .next ⟨t, q⟩ ↔ execDumpWritten ⟨p, q⟩ = .next ⟨t, q⟩ := .rfl
  have hlen : p1.safety.regionLen = p.safety.regionLen := by simp [hp1]
  have haddr : p1.safety.regionAddr = p.safety.regionAddr := by simp [hp1]
  have hlink : p1.hostif.linkUp = p.hostif.linkUp := by simp [hp1]
  have hwritten : p.safety.dumpPending = some d → p.transport.state = .running → exec .dumpWritten ⟨p, q⟩ =
      .next ⟨when (d.cause == 1 && decide ((dumpBytes p d ((p.safety.dumpSeq + 1) % 2 ^ 32)).length ≤ p1.safety.regionLen) && p1.hostif.linkUp)
        (emit (.hostWrite p1.safety.regionAddr (dumpBytes p d ((p.safety.dumpSeq + 1) % 2 ^ 32)))) p1, q⟩ := fun hpending hrun => by
    refine hexec.mpr ?_
    unfold execDumpWritten
    refine effect_next ?_
    rw [hpending, hp1]
    exact when_pos (beq_iff_eq.mpr hrun)
  refine ⟨fun hnot => hexec.mpr ?_, fun hpending hrun => ⟨fun hnot => ?_, fun hcause hfits hup => ?_⟩⟩
  · unfold execDumpWritten
    refine effect_next ?_
    cases hpending : p.safety.dumpPending with
    | none => rfl
    | some d' => exact when_neg (by simpa [hpending] using hnot)
  · rw [hwritten hpending hrun, hlen, hlink, when_neg]
    obtain h | h | h := hnot
    · simp [h]
    · rw [decide_eq_false h.not_ge, Bool.and_false, Bool.false_and]
    · rw [h, Bool.and_false]
  · rw [hwritten hpending hrun, hlen, hlink, haddr, when_pos]
    rw [hcause, decide_eq_true hfits, hup]
    rfl

/-- A dump begins with the fields of its header. -/
theorem dumpBytes_head (p : Piece) (d : DumpPending) (n : Nat) : ∃ rest : Bytes, dumpBytes p d n = leBytes 4 0x504D5544 ++ (leBytes 2 1 ++
    (leBytes 1 d.cause ++ (leBytes 1 7 ++ (leBytes 4 n ++ (leBytes 4 (dumpBytes p d n).length ++ rest))))) := by
  have hlen : (dumpBytes p d n).length = 64 + (directory (64 + 16 * (dumpSections p d).length) (dumpSections p d) ++
      (dumpSections p d).flatMap (·.2)).length := by
    unfold dumpBytes
    simp only [List.length_append, leBytes_length, zeros_length, labelBytes_length]
  rw [hlen]
  unfold dumpBytes
  simp only [List.append_assoc]
  exact ⟨_, rfl⟩

theorem dumpHasItsHeader : Claim.DumpHasItsHeader := by
  rintro p d n b rfl
  obtain ⟨rest, hdump⟩ := dumpBytes_head p d n
  generalize hlen : (dumpBytes p d n).length = len at hdump
  rw [hdump]
  refine ⟨?_, ?_, ?_, ?_, ?_, ?_⟩ <;> simp [u_append_right]

/-- Settles O54: an alarm's entry and the journal by the branches of their functions; the records by the places of their fields. -/
theorem alarmsJournalAndDump : Obligations.AlarmsJournalAndDump :=
  ⟨occurrenceCountsAndMovesLast, firstOccurrenceIsAnnounced, journalKeepsTheLatest, incidentFreezesAndRolls, dropsCountUnderTheirCode,
    persistentEntryIsCopied, incidentEndsWithSummaries, journalEntryHas64Bytes, firstFaultIsDumped, dumpIsWritten, dumpHasItsHeader⟩

end Sys2Proof.Machine
